-- ==== Sys2Proof/Word.lean ====
section
/-! DEFINITION. The words of the model and their plainest arithmetic: a 32-bit register word (R9), a byte, and the
field accessors on them. -/

namespace Sys2Proof

/-- A register word: every register is 32 bits wide (R9). -/
abbrev Word := BitVec 32

/-- A byte of a packet or of a Corber body. -/
abbrev Byte := BitVec 8

end Sys2Proof
end

