-- ==== Sys2Proof/Machine/Packet.lean ====
section
/-! DEFINITION. What crosses Kalnum's boundary: transaction-layer packets, fabric headers and items, whey messages and
Corber packets, as the operands of the commands carry them. -/

namespace Sys2Proof

/-- A little-endian number of bytes. -/
def leNat : List Byte → Nat
  | [] => 0
  | b :: bs => b.toNat + 256 * leNat bs

/-- The `n` little-endian bytes of a number. -/
def leBytes : Nat → Nat → List Byte
  | 0, _ => []
  | n + 1, v => BitVec.ofNat 8 v :: leBytes n (v / 256)

/-- The number in bytes `i` to `i + n - 1` of a body; bytes that are not there read 0. -/
def bodyNat (b : List Byte) (i n : Nat) : Nat := leNat ((b.drop i).take n)

/-- Bits `lo` to `lo + w - 1` of a number. -/
def bits (v lo w : Nat) : Nat := v / 2 ^ lo % 2 ^ w

/-- `v` with bits `lo` to `lo + w - 1` replaced by `x`. -/
def setBits (v lo w x : Nat) : Nat := v - bits v lo w * 2 ^ lo + (x % 2 ^ w) * 2 ^ lo

/-- Round-up division. -/
def ceilDiv (a b : Nat) : Nat := (a + b - 1) / b

/-- The number a Bool stands for in a one-bit field. -/
def b2n (b : Bool) : Nat := if b then 1 else 0

/-- Request and completion types (Table 4.11, TYPE; CXL.mem channels of R124). -/
inductive TlpKind where
  | mrd | mrdLk | mwr | iord | iowr | cfgrd | cfgwr | atomicOp | dmwr | msg | cpl
  | cxlMemRd | cxlMemWr | cxlNdr | cxlDrs
  deriving DecidableEq, Repr

/-- Ordering classes (Table 3.3, ORD). -/
inductive OrdClass where
  | posted | nonPosted | completion
  deriving DecidableEq, Repr

/-- Completion statuses Kalnum passes or makes. -/
inductive CplStatus where
  | sc | ur | crs | ca
  deriving DecidableEq, Repr

/-- One transaction-layer packet, with its header fields and its payload as bytes.  `len` is the payload a write or
completion carries, or the bytes a read asks for.  A completion names the requester in `rid` and `tag` and the completer
in `cplId`.  `target` is the ID a message or configuration request is routed by. -/
structure Tlp where
  kind : TlpKind
  addr : Nat := 0
  len : Nat := 0
  rid : BitVec 16 := 0
  tag : BitVec 14 := 0
  tc : Fin 8 := 0
  at_ : Nat := 0
  ep : Bool := false
  ro : Bool := false
  ido : Bool := false
  ide : Bool := false
  pasid : Option (BitVec 20) := none
  ld : Option (Fin 16) := none
  target : BitVec 16 := 0
  idRouted : Bool := false
  msgCode : Nat := 0
  cplId : BitVec 16 := 0
  status : CplStatus := .sc
  byteCount : Nat := 0
  lowerAddr : Nat := 0
  be : BitVec 8 := 0xFF
  hdrLen : Nat := 16
  data : List Byte := []
  deriving DecidableEq, Repr

/-- The kinds that carry their payload with them. -/
def TlpKind.carriesData : TlpKind → Bool
  | .mwr | .iowr | .cfgwr | .atomicOp | .dmwr | .cxlMemWr | .cxlDrs => true
  | _ => false

/-- The ordering class of a kind (R81): CXL.mem requests and their responses travel as requests and completions. -/
def TlpKind.ord : TlpKind → OrdClass
  | .mwr | .msg => .posted
  | .cpl | .cxlNdr | .cxlDrs => .completion
  | _ => .nonPosted

/-- The kinds that ask for a completion and so take a tracker entry (R111). -/
def TlpKind.nonPosted (k : TlpKind) : Bool := k.ord == .nonPosted

/-- Kinds that address memory (R101, R258). -/
def TlpKind.isMem : TlpKind → Bool
  | .mrd | .mrdLk | .mwr | .atomicOp | .dmwr => true
  | _ => false

/-- Kinds of the CXL.mem channels (R124). -/
def TlpKind.isCxl : TlpKind → Bool
  | .cxlMemRd | .cxlMemWr | .cxlNdr | .cxlDrs => true
  | _ => false

/-- The bytes that stand in the payload of a packet: a read asks for `len` bytes and carries none. -/
def Tlp.payload (t : Tlp) : Nat :=
  match t.kind with
  | .mrd | .mrdLk | .iord | .cfgrd | .cxlMemRd | .cxlNdr => 0
  | _ => t.data.length

/-- The length a request asks for: what a completion of all of it counts. -/
def Tlp.asked (t : Tlp) : Nat := match t.kind with | .mrd | .mrdLk | .cxlMemRd => max 1 t.len | .atomicOp => t.len | _ => 4

/-- What the partner of an egress port can take now: credit for posted, non-posted and completion packets. -/
structure PartnerCredit where
  p : Bool := true
  np : Bool := true
  cpl : Bool := true
  deriving DecidableEq, Repr

/-- The partner has credit for a class. -/
def PartnerCredit.ok (c : PartnerCredit) : OrdClass → Bool
  | .posted => c.p | .nonPosted => c.np | .completion => c.cpl

/-- What ECC finds as a packet is read for an egress port (R29, R69): in a bank word, at a bank and row, before or after the
header has left; in its head record; or in a word of a bridge, 0 north to 3 west. -/
inductive ReadEcc where
  | clean
  | wordCe (bank : Fin 256)
  | wordUeBefore (bank : Fin 256) (row : Fin 8192)
  | wordUeAfter (bank : Fin 256) (row : Fin 8192)
  | headCe
  | headUe
  | bridgeCe (bridge : Fin 4)
  | bridgeUe (bridge : Fin 4)
  deriving DecidableEq, Repr

/-- How Malacel treats the field a configuration request to a synthesised function names (Table 4.9): passed through to the target, held
by Malacel, or of a capability it hides. -/
inductive CfgField where
  | passed | held | hidden
  deriving DecidableEq, Repr

/-- The unit of the host view a field belongs to. -/
inductive HostUnit where
  | vusp
  | vdsp (i : Nat)
  | fn (i : Nat)
  deriving DecidableEq, Repr

/-- Host-owned and synthesised configuration fields (R100, Tables 4.9, 4.10 and 7.9; R106, R108, R126, R204, R206). -/
inductive HostField where
  | primaryBus | secondaryBus | subordinateBus
  | memEn | ioEn | busMaster
  | memBase | memLimit | prefBase | prefLimit | ioBase | ioLimit
  | bar (n : Nat)
  | uncStatus | uncMask | uncSeverity | corStatus | corMask | headerLog | errEnables
  | dpcTrigEn | dpcCplCa | dpcStatus | dpcReason
  | acsSv | acsTb | acsRr | acsCr | acsUf | acsDt
  | poisonBlock
  | pflIntEn | pflIndex | pflLost
  | presence | presenceChanged | dllActive | dllChanged | attention | powerCtlOff | attnInd | powerInd
  | slotVector | powerLimit | powerFault | aspmControl
  | mcEnable | mcBase | mcIndexPos | mcNumGroup | mcReceive
  | hdm (n : Nat)
  | bindGen
  | secReset | linkDisable
  deriving DecidableEq, Repr

/-- Errors of a PCI Express or CXL link (classes 0x0105 and 0x0106). -/
inductive PcieErr where
  | receiver | badTlp | badDllp | replayRollover | replayTimer
  | dlProtocol | fcProtocol | fec
  deriving DecidableEq, Repr

/-- A unit with a watchdog (Table 7.11), by its number: cluster, bridge (0 north to 3 west), tracker slice, engine. -/
inductive WatchUnit where
  | crossing (cluster : Fin 36)
  | bridge (b : Fin 4)
  | lookup
  | arbiter
  | tracker (slice : Fin 16)
  | reseq
  | scheduler
  | engine (e : Fin 16)
  | malacel
  deriving DecidableEq, Repr

/-- The first byte of a header: format and type.  PRESUMED: the PCI Express Base Specification's codes for 64-bit addresses
(notes/assumptions/20). -/
def TlpKind.fmtType : TlpKind → Nat
  | .mrd => 0x20 | .mrdLk => 0x21 | .mwr => 0x60 | .iord => 0x02 | .iowr => 0x42 | .cfgrd => 0x04 | .cfgwr => 0x44
  | .atomicOp => 0x6C | .dmwr => 0x5B | .msg => 0x30 | .cpl => 0x4A
  | .cxlMemRd => 0x01 | .cxlMemWr => 0x41 | .cxlNdr => 0x03 | .cxlDrs => 0x43

/-- The first 16 bytes of a header as a number, for the Header Log and the ACU notice (R214, R266, R422). -/
def Tlp.header (t : Tlp) : Nat :=
  t.kind.fmtType * 2 ^ 24 + ceilDiv t.len 4 % 1024 + 2 ^ 32 * (t.rid.toNat * 2 ^ 16 + t.tag.toNat % 256 * 2 ^ 8 + t.be.toNat) +
    2 ^ 64 * (t.addr / 2 ^ 32 + 2 ^ 32 * (t.addr % 2 ^ 32))

/-- A packet record that can arrive: the payload is what `len` says and no more than 4,096 bytes, the Address Type has two
bits, and the header is 4 to 64 bytes long (Table 3.3). -/
def Tlp.wellFormed (t : Tlp) : Bool :=
  t.len ≤ 4096 && t.at_ < 4 && 4 ≤ t.hdrLen && t.hdrLen ≤ 64 && t.addr < 2 ^ 64 &&
  (if t.kind.carriesData then t.data.length == t.len
   else match t.kind with
     | .cpl | .msg => t.data.length == t.len || t.data.isEmpty
     | _ => t.data.isEmpty)

/-- The fabric header of Table 5.7, field by field. -/
structure FabHdr where
  ptype : Nat := 0
  ord : Nat := 0
  tc : Nat := 0
  dl : Bool := false
  pin : Bool := false
  opn : Bool := false
  redir : Bool := false
  synth : Bool := false
  hops : Nat := 0
  src : Nat := 0
  dst : Nat := 0
  vh : Nat := 0
  bindIdx : Nat := 0
  fseq : Nat := 0
  genTag : Nat := 0
  ilen : Nat := 0
  deriving DecidableEq, Repr

/-- A packet with a fabric header: the item is a TLP or a side-band message of Table 5.9 (its type and body bytes). -/
structure FabPkt where
  hdr : FabHdr := {}
  tlp : Option Tlp := none
  side : Option (Nat × List Byte) := none
  deriving DecidableEq, Repr

/-- A whey message: carry kind, code, the routed envelope and the body bytes. -/
structure Whey where
  carry : Nat := 0
  code : Nat := 0
  origin : Nat := 0
  dest : Nat := 0
  hops : Nat := 0
  body : List Byte := []
  deriving DecidableEq, Repr

/-- Where a Corber packet comes from (R301): the rings, an MCTP endpoint on a medium (0 VDM, 1 SMBus, 2 I3C), a device of
the fabric over the whey channel, or Malacel's own fabric manager. -/
inductive Requester where
  | rings
  | malacel
  | mctp (medium : Fin 3) (eid : BitVec 8)
  | whey (feid : BitVec 12)
  deriving DecidableEq, Repr

/-- A Corber request: its source, the header fields of Table 12.1, where `length` is LENGTH as the header says, and its body;
`dk96` says the packet came in the DK-96 form of R299. -/
structure CrbReq where
  src : Requester
  tag : BitVec 16 := 0
  length : Nat := 0
  feid : BitVec 12 := 0
  object : Nat := 0
  flags : BitVec 16 := 0
  seq : BitVec 32 := 0
  body : List Byte := []
  dk96 : Bool := false
  deriving DecidableEq, Repr

/-- A write failure notice (Table 7.7) or the holdoff that gathers it (R213). -/
structure Wfn where
  src : Nat
  addr : Nat
  len : Nat
  vh : Nat
  bindIdx : Nat
  dir : Bool
  reason : Nat
  failFeid : Nat
  tFail : Nat
  fseq : Nat
  genTag : Nat
  count : Nat
  deriving DecidableEq, Repr

end Sys2Proof
end

