-- ==== Sys2Proof/Syntax.lean ====
section
/-! DEFINITION. The commands: one constructor per row of the opcode table.  What a command carries is what reaches Kalnum with
it from outside: the object it is about and the values the spec lets the outside choose. -/

namespace Sys2Proof

/-- The commands of Kalnum, in the order of the opcode table. -/
inductive Instr where
  /-- A direct write to a register field that has no row of its own acts by its access code; a changed CO field outside MAINTENANCE is ignored and journalled as class 0x0606. (R12). -/
  | registerWrite (fn : Option (Fin 2048)) (off : BitVec 26) (be : BitVec 8) (data : BitVec 64)
  /-- A direct write to a table window writes the shadow bank only in MAINTENANCE while the ring requester holds the session; otherwise it is ignored and logged. (R115). -/
  | tableWindowWrite (off : BitVec 26) (be : BitVec 4) (value : BitVec 32)
  /-- A read of a statistics counter's _LO half latches its _HI half for that counter. (R317). -/
  | counterLoRead (off : BitVec 26)
  /-- A read of a high-water mark register returns it and clears it. (R315). -/
  | hwmRead (off : BitVec 26)
  /-- A write of PCL_PRBS_CTRL.INJ inverts one bit of the lane's PRBS generator output. (R59). -/
  | prbsInj (lane : Fin 288)
  /-- A write of PCL_PRBS_CTRL.CLR zeroes PCL_PRBS_ERR and OVF; an error in the same cycle counts after it. (R59). -/
  | prbsClr (lane : Fin 288) (errored : Bool)
  /-- A write of PCL_PORT_CTRL.TEST while the port is disabled puts the port in the TEST state. (R58). -/
  | portTestWrite (port : Fin 144) (on : Bool)
  /-- A write of PCL_LANE_RXADAPT_CTRL freezes adaptation, applies the override values, or resumes adaptation from the written values. (R55). -/
  | rxadaptCtrlWrite (lane : Fin 288) (value : BitVec 32)
  /-- A write of QOS_GCL_CTRL.CHANGE submits the administrative gate list, which is checked and becomes pending until its first cycle start. (R241). -/
  | qosGclChange (port : Fin 144)
  /-- A write of 1 to ACU_FV_INFO.VALID clears the first-violation capture and rearms it. (R267). -/
  | fvValidClear
  /-- A write of 1 to DBG_LOCK_FV_INFO.VALID clears the debug first-violation capture and rearms it. (R271). -/
  | dbgFvValidClear
  /-- A write to DBG_TOKEN stores a token word, and is ignored while VERIFYING is 1. (R272). -/
  | dbgTokenWrite (w : Fin 8192) (value : BitVec 32)
  /-- A write of DBG_CTRL.VERIFY starts dual-signature verification of the token in DBG_TOKEN. (R272). -/
  | dbgVerify
  /-- A write of DBG_CTRL.RELOCK ends a debug unlock, or abandons a verification in progress with RESULT 7. (R273). -/
  | dbgRelock
  /-- A write of DBG_CTRL.CLR_TOKEN zeroes DBG_TOKEN, and is ignored while VERIFYING is 1. (R276). -/
  | dbgClrToken
  /-- Token verification ends; on a pass the locked regions unlock, and on a fail the result code is set with the locks unchanged. (R272). -/
  | tokenVerifyDone
  /-- A write of PWR_TB_SET_HI steps the timebase to the value held in _LO and _HI. (R347). -/
  | pwrTbSet (hi : BitVec 32)
  /-- A doorbell write of Q_DESC_TAIL adds descriptors to a data mover queue's ring. (R281). -/
  | qDescTailWrite (fn : Fin 2048) (q : Fin 256) (tail : BitVec 16)
  /-- A write of Q_CTRL.ENABLE 1 starts a queue, or resumes it from Q_DESC_HEAD after an error. (R281). -/
  | qEnable (fn : Fin 2048) (q : Fin 256)
  /-- A write of Q_CTRL.ENABLE 0 moves the queue to STOPPING, and to DISABLED once its descriptors in execution finish. (R292). -/
  | qDisable (fn : Fin 2048) (q : Fin 256)
  /-- A write of Q_CPL_HEAD returns completion ring entries and may let a stalled fetch resume. (R281). -/
  | qCplHeadWrite (fn : Fin 2048) (q : Fin 256) (head : BitVec 16)
  /-- A write of TS_CTRL.ENABLE 1 starts write tracing with ACTIVE_BUF 0 and EPOCH 0. (R291). -/
  | tsEnable (fn : Fin 2048) (slot : Fin 8)
  /-- A write of TS_CTRL.ENABLE 0 writes back every cached line after any swap in progress, and sets the context OFF. (R292). -/
  | tsDisable (fn : Fin 2048) (slot : Fin 8)
  /-- A write of TS_CTRL.SWAP starts a swap of the trace context's buffers at instant S. (R291). -/
  | tsSwap (fn : Fin 2048) (slot : Fin 8)
  /-- A write of MGT_CRB_REQ_TAIL makes new Corber request packets on the ring available to Kalnum. (R298). -/
  | crbReqDoorbell (tail : BitVec 12) (be : BitVec 2)
  /-- A write of MGT_CRB_RPL_HEAD frees reply slots, so held replies can be written and request reading resumes. (R298). -/
  | crbRplHeadWrite (head : BitVec 12)
  /-- A write of MGT_CRB_CTRL.ENABLE reads the ring sizes and bases and starts the Corber rings. (R298). -/
  | crbRingEnable (req rpl evt : Fin 16) (on : Bool)
  /-- A write of MGT_CRB_CTRL.RESET sets the ring indices to 0; outstanding requests run on and their replies are discarded. (R314). -/
  | crbRingReset
  /-- A reassembled MCTP message carries a native Corber packet, a DK-96 form packet, a CXL FM API request or an SPDM message to Kalnum's EID. (R299). -/
  | mctpMessage (medium : Fin 3) (eid : BitVec 8) (bytes : List (BitVec 8))
  /-- A CRB_FRAG whey message adds a fragment to the reassembly of a Corber packet per ORIGIN and MSG_ID. (R300). -/
  | crbFrag (link : Fin 72) (origin : BitVec 12) (body : List (BitVec 8))
  /-- A CRB_ABORT whey message abandons a reassembly. (R300). -/
  | crbAbort (origin : BitVec 12) (msgId : BitVec 8)
  /-- A whey Corber message not complete 1.00 ms after its first fragment is discarded and counted. (R300). -/
  | crbReassemblyTimeout (origin : BitVec 12) (msgId : BitVec 8)
  /-- Firmware becomes ready after a Malacel restart, and Corber stops answering BUSY. (R219). -/
  | malacelReady
  /-- Corber returns the serial number, identity, die IDs, firmware versions and mode. (R309). -/
  | getInfo (q : CrbReq)
  /-- Corber returns MGT_MODE. (R309). -/
  | getMode (q : CrbReq)
  /-- Corber returns the request body unchanged. (R309). -/
  | echo (q : CrbReq)
  /-- Corber reads 1 to 256 register words from an offset. (R309). -/
  | readReg (q : CrbReq)
  /-- Corber checks every OFFSET, MASK and VALUE triple, and applies all of them in order only if all pass. (R311). -/
  | writeReg (q : CrbReq)
  /-- Corber replies, then causes a warm or cold device reset. (R326). -/
  | resetDevice (q : CrbReq)
  /-- Corber reads bytes of the board configuration record from flash. (R416). -/
  | getBoardRecord (q : CrbReq)
  /-- Corber writes bytes into the staging copy, and checks and programs a completed record into flash. (R416). -/
  | setBoardRecord (q : CrbReq)
  /-- Corber registers an event subscriber with a group mask and minimum severity. (R297). -/
  | subscribe (q : CrbReq)
  /-- Corber removes the requester's event subscription. (R297). -/
  | unsubscribe (q : CrbReq)
  /-- Corber returns the timebase and its VALID flag. (R346). -/
  | getTimebase (q : CrbReq)
  /-- Corber sets the Churn configuration, escape and multicast pools, residue timer and watermark, refusing any setting that would shrink the shared pool below its minimum. (R75). -/
  | setChurn (q : CrbReq)
  /-- Corber sets CHN_ROT_CTRL for spare-bank rotation. (R87). -/
  | setRotation (q : CrbReq)
  /-- Corber returns the status, events and shared holding of a live port. (R16). -/
  | getPort (q : CrbReq)
  /-- Corber sets a cluster's clocking, ceilings and bifurcation while all its ports are disabled, and leaves every port of the new shape disabled. (R21). -/
  | setCluster (q : CrbReq)
  /-- Corber returns a cluster's configuration words and status. (R309). -/
  | getCluster (q : CrbReq)
  /-- Corber enables or disables a port, opening the region's power gate first where needed. (R26). -/
  | portEnable (q : CrbReq)
  /-- Corber changes a disabled port's role and protocol, setting MAX_RATE and the KFL link index as the role requires. (R129). -/
  | setRole (q : CrbReq)
  /-- Corber requests a recalibration of a port, run at once or by borrowing half its lanes. (R63). -/
  | recalibrate (q : CrbReq)
  /-- Corber margins a port's lanes in timing or voltage up to an error limit. (R60). -/
  | margin (q : CrbReq)
  /-- Corber returns a lane's status and equaliser registers. (R309). -/
  | getLane (q : CrbReq)
  /-- Corber assigns a free KFL link index to a disabled fabric port. (R17). -/
  | setLinkIndex (q : CrbReq)
  /-- Corber sets a KFL link's configuration and timers. (R201). -/
  | setKfl (q : CrbReq)
  /-- Corber starts an orderly disable of a KFL link. (R195). -/
  | kflDisable (q : CrbReq)
  /-- Corber returns a KFL link's status, sequence, replay and credit state and peer serial number. (R309). -/
  | getKfl (q : CrbReq)
  /-- Corber sets a port's α, AUTO_RES, round trip and reserved pool. (R76). -/
  | setPortPool (q : CrbReq)
  /-- Corber opens the single shadow edit session when none is open and the shadow is ready. (R115). -/
  | sessionOpen (q : CrbReq)
  /-- Corber accepts a commit and starts validation of the whole shadow. (R116). -/
  | commit (q : CrbReq)
  /-- Corber closes the requester's session and discards its edits. (R307). -/
  | sessionAbort (q : CrbReq)
  /-- Corber waits until no packet or tracker entry looked up under an older generation remains. (R117). -/
  | quiesce (q : CrbReq)
  /-- Corber writes one entry of a named table in the shadow bank within the open session. (R310). -/
  | writeEntry (q : CrbReq)
  /-- Corber reads one entry of a named table from the active or shadow bank. (R310). -/
  | readEntry (q : CrbReq)
  /-- Corber writes a binding entry and its vDSP entry in the shadow. (R310). -/
  | bind (q : CrbReq)
  /-- Corber edits the shadow so that a binding is removed, orderly or surprise, at the next commit. (R99). -/
  | unbind (q : CrbReq)
  /-- Corber returns a SUSPENDED binding to service through its binding reset. (R418). -/
  | resumeBinding (q : CrbReq)
  /-- Corber runs the binding reset of Table 4.16 on one binding. (R119). -/
  | resetBinding (q : CrbReq)
  /-- Corber returns a binding's state and entry. (R98). -/
  | getBinding (q : CrbReq)
  /-- Corber sets a VH's minimum and maximum tracker entries. (R112). -/
  | setVhTags (q : CrbReq)
  /-- Corber moves the management VH to another host-edge port while both VHs are DOWN. (R92). -/
  | setMgmtVh (q : CrbReq)
  /-- Corber sets the fabric completion timeout, which applies at once to every OPEN entry. (R113). -/
  | setTrkTimeout (q : CrbReq)
  /-- Corber returns a VH's status, tracker use and counters. (R309). -/
  | getVh (q : CrbReq)
  /-- Corber carries one CXL FM API request and returns its response. (R299). -/
  | cxlFm (q : CrbReq)
  /-- Corber sets BND_FAB_CFG while the fabric state is OFF. (R131). -/
  | setFabric (q : CrbReq)
  /-- Corber returns the fabric status, lead information and link states. (R309). -/
  | getFabric (q : CrbReq)
  /-- Corber returns the member table on the lead. (R309). -/
  | getMembers (q : CrbReq)
  /-- Corber sets the fabric, resequencer and hold timers. (R165). -/
  | setFabTimers (q : CrbReq)
  /-- Corber returns one flow context. (R309). -/
  | getFlow (q : CrbReq)
  /-- Corber sets a policer's configuration, rates and buckets. (R230). -/
  | setPolicer (q : CrbReq)
  /-- Corber returns a policer's status and counters. (R309). -/
  | getPolicer (q : CrbReq)
  /-- Corber sets a subscriber node's configuration, TC map and shapers. (R234). -/
  | setNode (q : CrbReq)
  /-- Corber sets a service queue's configuration and shapers. (R234). -/
  | setQueue (q : CrbReq)
  /-- Corber sets a port's shaper and accounting. (R238). -/
  | setPortShaper (q : CrbReq)
  /-- Corber writes entries of a port's administrative gate list. (R241). -/
  | writeGcl (q : CrbReq)
  /-- Corber submits a port's administrative gate list with its cycle, base and gate enable. (R241). -/
  | gclChange (q : CrbReq)
  /-- Corber sets QOS_CFG. (R243). -/
  | setQos (q : CrbReq)
  /-- Corber sets ACU_CFG. (R262). -/
  | setAcu (q : CrbReq)
  /-- Corber returns the first-violation capture and the violation count. (R267). -/
  | getViolation (q : CrbReq)
  /-- Corber clears and rearms the first-violation capture. (R267). -/
  | clearViolation (q : CrbReq)
  /-- Corber returns a guard's state, last fault, telemetry, limit and counters. (R370). -/
  | getSlot (q : CrbReq)
  /-- Corber writes a guard's configuration words. (R370). -/
  | setSlot (q : CrbReq)
  /-- Corber requests power on for a slot, or an orderly power-off. (R355). -/
  | slotPower (q : CrbReq)
  /-- Corber ends a guard's lockout and clears its fault history. (R363). -/
  | clearLockout (q : CrbReq)
  /-- Corber sets a slot's power cap, changing the applied limit. (R367). -/
  | setSlotCap (q : CrbReq)
  /-- Corber sets a slot's attention and power indicators. (R367). -/
  | setIndicators (q : CrbReq)
  /-- Corber returns bytes of the RSA or SLH-DSA certificate chain. (R384). -/
  | getCert (q : CrbReq)
  /-- Corber returns bytes of the measurements. (R385). -/
  | getMeasurements (q : CrbReq)
  /-- Corber writes debug token words into DBG_TOKEN. (R387). -/
  | tokenWrite (q : CrbReq)
  /-- Corber starts token verification, and its final reply carries the result. (R272). -/
  | tokenVerify (q : CrbReq)
  /-- Corber ends a debug unlock. (R273). -/
  | relock (q : CrbReq)
  /-- Corber opens an image slot for writing and marks it WRITING. (R380). -/
  | fwBegin (q : CrbReq)
  /-- Corber queues image bytes for programming into the open slot. (R380). -/
  | fwWrite (q : CrbReq)
  /-- Corber drains the program queue, reads the image back and verifies it. (R380). -/
  | fwFinish (q : CrbReq)
  /-- Corber sets the preferred image, and raises the SVN floor when it names the running image. (R383). -/
  | fwSelect (q : CrbReq)
  /-- Corber returns the versions and validity of both images and the running image. (R309). -/
  | getFw (q : CrbReq)
  /-- Corber requests a mode transition that Table 13.2 permits. (R322). -/
  | setMode (q : CrbReq)
  /-- Corber returns rail readings and region temperatures. (R337). -/
  | getPower (q : CrbReq)
  /-- Corber sets the core voltage policy words. (R335). -/
  | setVoltPolicy (q : CrbReq)
  /-- Corber returns the DROWSE refusal counters, last refuser and last wake source. (R329). -/
  | getDrowseStats (q : CrbReq)
  /-- Corber enables or disables power gating of a region. (R26). -/
  | setGating (q : CrbReq)
  /-- Corber returns CORE_DELAY_FACTOR and every replica reading. (R31). -/
  | getCoreDelay (q : CrbReq)
  /-- Corber starts the self-test scopes in MAINTENANCE, first disabling ports where the scope requires it. (R318). -/
  | selfTest (q : CrbReq)
  /-- Corber advances the bank rotation to a named bank to test it. (R90). -/
  | testBank (q : CrbReq)
  /-- Corber arms a one-time injection of an error class on an object. (R320). -/
  | injectError (q : CrbReq)
  /-- Corber returns the watchdog status and the fatal cause. (R309). -/
  | getWatchdog (q : CrbReq)
  /-- Corber assigns a disabled data mover queue to a function and a local index. (R284). -/
  | queueAssign (q : CrbReq)
  /-- Corber releases a disabled queue from its function. (R284). -/
  | queueRelease (q : CrbReq)
  /-- Corber assigns an unused vector to a function and a local index. (R284). -/
  | vectorAssign (q : CrbReq)
  /-- Corber releases a vector that no enabled queue names. (R284). -/
  | vectorRelease (q : CrbReq)
  /-- Corber sets a function's data mover weight and rate cap. (R283). -/
  | setShare (q : CrbReq)
  /-- Corber assigns a trace context to an owner slot with a range. (R288). -/
  | traceAssign (q : CrbReq)
  /-- Corber releases a trace context that is OFF. (R288). -/
  | traceRelease (q : CrbReq)
  /-- Corber sets SVC_CFG. (R278). -/
  | setDm (q : CrbReq)
  /-- Corber returns a function's resources and queue states. (R309). -/
  | getDm (q : CrbReq)
  /-- Corber returns journal entries from a JSEQ. (R221). -/
  | readJournal (q : CrbReq)
  /-- Corber returns the FATAL entries kept in flash. (R222). -/
  | readFlashJournal (q : CrbReq)
  /-- Corber reads listed counters, each 64-bit counter whole. (R317). -/
  | readCounters (q : CrbReq)
  /-- Corber atomically zeroes listed counters and their OVF flags. (R316). -/
  | clearCounters (q : CrbReq)
  /-- Corber returns a VH's posted-failure entries without moving CONS. (R215). -/
  | readPfl (q : CrbReq)
  /-- Corber sets the error, watchdog or per-VH error configuration. (R224). -/
  | setErr (q : CrbReq)
  /-- A host configuration write to a host-owned field takes effect in both generations, with its completion within 2.00 µs. (R100). -/
  | hostCfgWrite (vh : Fin 144) (unit : HostUnit) (field : HostField) (value : BitVec 64) (rid : BitVec 16) (tag : BitVec 14)
  /-- A host configuration request to a synthesised function is answered by Malacel, or forwarded to the target for a passed-through field. (R106). -/
  | cfgProxyRequest (vh : Fin 144) (vdsp : Fin 64) (offset : BitVec 12) (write : Option (BitVec 32)) (field : CfgField) (rid : BitVec 16) (tag : BitVec 14)
  /-- A proxied configuration request with no target answer in 50.0 ms is completed with UR and counted. (R106). -/
  | cfgProxyTimeout (tag : BitVec 14)
  /-- A host write of Initiate Function Level Reset starts the binding reset of that binding. (R106). -/
  | hostFlrWrite (vh : Fin 144) (vdsp : Fin 64) (rid : BitVec 16) (tag : BitVec 14)
  /-- A host write of Power Controller Control on a vDSP powers the slot on or off, or completes an orderly unbind. (R355). -/
  | hostPowerCtrlWrite (vh : Fin 144) (vdsp : Fin 64) (off : Bool) (rid : BitVec 16) (tag : BitVec 14)
  /-- A Secondary Bus Reset or Link Disable on a vDSP resets its binding. (R119). -/
  | secondaryBusReset (vh : Fin 144) (vdsp : Fin 64) (rid : BitVec 16) (tag : BitVec 14)
  /-- A host write of the DPC software trigger contains the vDSP's binding. (R206). -/
  | dpcSwTrigger (vh : Fin 144) (vdsp : Fin 64) (rid : BitVec 16) (tag : BitVec 14)
  /-- The host clears DPC Trigger Status, and the binding reset runs to return the binding to BOUND. (R206). -/
  | dpcStatusClear (vh : Fin 144) (vdsp : Fin 64) (rid : BitVec 16) (tag : BitVec 14)
  /-- A host write of CONS in the Posted-Failure Log DVSEC moves the consumer index within the unconsumed range. (R216). -/
  | pflConsWrite (vh : Fin 144) (vdsp : Fin 64) (cons : Fin 64) (rid : BitVec 16) (tag : BitVec 14)
  /-- A request TLP from a host-edge port is routed within its VH, translated, checked, metered and stored in the Churn. (R101). -/
  | hostRequestRx (port : Fin 144) (t : Tlp)
  /-- A request TLP from a pool-edge port is classed by ID table or port binding and routed peer-to-peer or upstream. (R105). -/
  | targetRequestRx (port : Fin 144) (t : Tlp)
  /-- A completion matches its tracker entry by OUT_RID and OUT_TAG, is translated back and forwarded, or is discarded as unexpected or late. (R113). -/
  | completionRx (port : Fin 144) (t : Tlp)
  /-- An error message from a target is passed to the host or virtualised into the binding's AER, or journalled. (R205). -/
  | targetErrorMessage (port : Fin 144) (t : Tlp) (unc cor : BitVec 32) (header : BitVec 128)
  /-- A packet with a fabric header arrives on a fabric port and is forwarded by route or delivered through its flow context. (R141). -/
  | fabricPacketRx (port : Fin 144) (f : FabPkt)
  /-- A side-band item of a remote binding is acted on whole or unpacked as a privileged message. (R144). -/
  | sidebandItemRx (src : Fin 4096) (binding : Fin 4096) (signal : BitVec 8) (level : Bool) (value : BitVec 32)
  /-- A port's scheduler chooses the next eligible packet through its three levels and starts it. (R234). -/
  | egressSelect (port : Fin 144) (credit : PartnerCredit) (ecc : ReadEcc)
  /-- A destination finishes reading a packet; a multicast packet's RESIDUE bit clears and an emptied packet is freed. (R82). -/
  | egressReadDone (port : Fin 144) (pkt : Nat)
  /-- The pool arbiter grants withheld credit to a port once frees restore its dynamic limit. (R78). -/
  | creditGrant (port : Fin 144) (cls : Fin 6) (heads bytes : BitVec 16)
  /-- A non-posted request that waited for a tracker entry takes one and leaves. (R111). -/
  | trackerEntryAvailable
  /-- The head of a policer hold queue is metered again once Tp has refilled to its length, and is released green or yellow. (R228). -/
  | policerHoldRelease (policer : Fin 4096) (nonPosted : Bool)
  /-- A background sweep updates stored residue words for struck ports and frees emptied packets. (R83). -/
  | mcStrikeSweep
  /-- A multicast packet's residue timer expires; remaining destinations are discarded and journalled. (R84). -/
  | mcResidueTimeout (pkt : Nat)
  /-- A multicast packet held in ingress backing is re-charged to the multicast pool when space frees. (R86). -/
  | mcRecharge (pkt : Nat)
  /-- At each interval the spare joins service and the next bank starts draining. (R87). -/
  | bankRotationStep
  /-- A draining bank not empty after DRAIN_US starts migration of its remaining words. (R87). -/
  | bankDrainTimeout (bank : Fin 256)
  /-- Migration of a bank's words ends and the bank goes to TESTING. (R88). -/
  | bankMigrationDone (bank : Fin 256)
  /-- A bank's march test ends; it becomes SPARE, or FAILED with the failure handling of R89. (R89). -/
  | bankTestDone (bank : Fin 256) (pass : Bool)
  /-- A PCI Express or CXL port's link reaches ACTIVE at its trained rate; reserved pools are computed and dependent states follow. (R22). -/
  | linkUp (port : Fin 144) (rate : Fin 8) (width : Fin 17) (flit cxl rev : Bool) (serials : List (Nat × Nat)) (ffe : List (Nat × BitVec 32))
  /-- A pool-edge link leaves ACTIVE other than by orderly disable, and surprise-down containment runs. (R218). -/
  | poolEdgeLinkDown (port : Fin 144) (removed : Bool)
  /-- A host-edge link goes to DL_Down, receives hot reset or has its PERST asserted, and a whole-VH reset starts. (R120). -/
  | vhResetEvent (port : Fin 144) (dlDown : Bool)
  /-- Steps 2 to 5 of a whole-VH reset end and the VH becomes DOWN or ACTIVE. (R120). -/
  | vhResetDone (vh : Fin 144)
  /-- A binding reset of Table 4.16 completes and the binding returns to BOUND. (R418). -/
  | bindingResetDone (binding : Fin 4096) (noReset : Bool)
  /-- A binding reset without its target after 1.00 s leaves the binding SUSPENDED with cause 5. (R418). -/
  | bindingResetTimeout (binding : Fin 4096)
  /-- A host that has not powered off the slot 5.00 s after the attention button event makes the unbind continue as a surprise unbind. (R99). -/
  | orderlyUnbindTimeout (binding : Fin 4096)
  /-- A link retrains or recovers to ACTIVE at another rate. (R22). -/
  | rateChange (port : Fin 144) (rate : Fin 8) (cxl : Bool)
  /-- A port's width change by L0p is agreed once cut-through packets in progress are written or sent. (R73). -/
  | l0pWidthRequest (port : Fin 144) (width : Fin 17)
  /-- A link enters a lane power state permitted by its enables, unless a recalibration refuses it. (R61). -/
  | aspmL1Entry (port : Fin 144) (lpstate : Fin 5) (permitted forced : Bool)
  /-- A port leaves a lane power state, restarting the cluster PLL first where stopped. (R62). -/
  | lowPowerExit (port : Fin 144)
  /-- Loss of a cluster's reference clock is detected and its ports are held in DETECT with surprise-down handling. (R53). -/
  | refclkLoss (cluster : Fin 36)
  /-- A cluster's reference clock returns and the PLL relocks, so its ports may train. (R53). -/
  | refclkReturn (cluster : Fin 36)
  /-- A partner's lane margining command at the receiver is answered as the Base Specification defines. (R60). -/
  | marginCommandRx (port : Fin 144) (lane : Fin 16) (type : Fin 8) (payload : BitVec 8)
  /-- A Corber margining run ends and its final reply gives the steps reached. (R60). -/
  | marginDone (port : Fin 144) (steps : List (BitVec 8))
  /-- Calibration of the borrowed half ends; the port restores width and proceeds to the other half or completes. (R63). -/
  | recalHalfDone (port : Fin 144)
  /-- A decoded flit is accepted, discarded as duplicate or out of sequence, and its ACK and credit fields are processed. (R182). -/
  | kflFlitRx (ctl : Fin 72) (first : Bool) (lanes : List (Fin 8)) (levels : List (List (Fin 4))) (age : Nat) (deleted : Bool)
  /-- The transmitter builds the next flit from whey messages, credited packets or IDLE, carrying ACK and one credit counter. (R181). -/
  | kflFlitTx (ctl : Fin 72)
  /-- A lane marker set aligns and checks each lane, and may start realignment or a width change. (R171). -/
  | laneMarkerRx (ctl : Fin 72) (set : List (Fin 8 × Nat × BitVec 64))
  /-- A KTS training block from the partner advances link training, recovery or exit from low power. (R189). -/
  | ktsBlockRx (ctl : Fin 72) (lane : Fin 8) (block : BitVec 256) (laneOk : BitVec 8) (done : Bool) (req : Option (BitVec 32)) (skewPs : Nat)
  /-- A link not ACTIVE 25.0 ms after training began has failed training. (R190). -/
  | trainingTimeout (ctl : Fin 72)
  /-- 1.00 ms after a failure with TRAIN_EN set, training starts again. (R190). -/
  | trainingRetry (ctl : Fin 72)
  /-- The replay timer expires; outstanding flits are replayed, or recovery starts after REPLAY_NUM. (R184). -/
  | replayTimerExpiry (ctl : Fin 72)
  /-- A packet waiting for credit on a VC for CREDIT_TO breaks the link. (R188). -/
  | creditTimerExpiry (ctl : Fin 72) (counter : Fin 7)
  /-- Recovery not back to ACTIVE within RECOV_TO breaks the link. (R192). -/
  | recoveryTimeout (ctl : Fin 72)
  /-- A SHED_REQ whey message asks the link to narrow to the named half of its lanes. (R196). -/
  | shedReq (ctl : Fin 72) (mask token : BitVec 8)
  /-- A SHED_ACK whey message agrees, refuses or gives authority for a shedding request. (R196). -/
  | shedAck (ctl : Fin 72) (token : BitVec 8) (result : Fin 4)
  /-- A RESTORE_REQ whey message asks the link to restore its full width. (R196). -/
  | restoreReq (ctl : Fin 72) (mask token : BitVec 8)
  /-- A RESTORE_ACK whey message answers a restore request. (R196). -/
  | restoreAck (ctl : Fin 72) (token : BitVec 8) (result : Fin 4)
  /-- A shed or restore message unanswered within 10.0 µs aborts the recalibration at full width. (R196). -/
  | shedAckTimeout (ctl : Fin 72)
  /-- An LP_REQ whey message asks the link to enter standby or deep idle. (R197). -/
  | lpReq (ctl : Fin 72) (deep : Bool) (token : BitVec 8)
  /-- An LP_ACK whey message agrees or refuses, and both ends enter the state on agreement. (R197). -/
  | lpAck (ctl : Fin 72) (token : BitVec 8) (result : Fin 4)
  /-- A link idle for STBY_IDLE or DEEP_IDLE with its state enabled sends LP_REQ. (R197). -/
  | kflIdleTimer (ctl : Fin 72)
  /-- A TIME_REQ whey message is timestamped and answered with TIME_RESP. (R198). -/
  | timeReq (ctl : Fin 72) (t1 : BitVec 64)
  /-- A TIME_RESP whey message gives the offset and delay, which correct the timebase under KFL discipline. (R198). -/
  | timeResp (ctl : Fin 72) (t1 t2 t3 : BitVec 64)
  /-- Each TIME_INTERVAL a link with TIME_REQ_EN sends TIME_REQ. (R198). -/
  | timeReqInterval (ctl : Fin 72)
  /-- A LINK_DOWN whey message received breaks the link. (R193). -/
  | linkDown (ctl : Fin 72) (_reason : Fin 16)
  /-- After up to 100 µs of drain, an orderly disable sends LINK_DOWN and stops after its acknowledgement or 10.0 µs. (R195). -/
  | orderlyDrainTimeout (ctl : Fin 72)
  /-- A HELLO link message reports the neighbour's identity and lead, and may unmask the link or record a new peer. (R150). -/
  | hello (ctl : Fin 72) (serial : BitVec 64) (feid : BitVec 12) (elig : Bool) (lead : BitVec 12) (term : BitVec 16) (link : BitVec 7)
  /-- A flooded LEAD_CLAIM is recorded and forwarded; a claimant hearing a lower claim withdraws. (R134). -/
  | leadClaim (ctl : Fin 72) (origin : BitVec 12) (hops : BitVec 4) (feid : BitVec 12) (serial : BitVec 64) (term seq : BitVec 16)
  /-- A flooded HEARTBEAT from the lead is recorded, or causes a lead or member to join a lower lead. (R135). -/
  | heartbeat (ctl : Fin 72) (origin : BitVec 12) (hops : BitVec 4) (lead : BitVec 12) (term seq : BitVec 16) (members : BitVec 7)
  /-- A JOIN_REQ at the lead is admitted, refused for a full fabric or a duplicate FEID, or given a dynamic FEID. (R132). -/
  | joinReq (ctl : Fin 72) (origin dest : BitVec 12) (hops : BitVec 4) (serial : BitVec 64) (feid : BitVec 12) (elig : Bool)
  /-- A JOIN_REPLY admits the device to MEMBER or sends it to REFUSED. (R133). -/
  | joinReply (ctl : Fin 72) (origin dest : BitVec 12) (hops : BitVec 4) (serial : BitVec 64) (result : Fin 4) (feid : BitVec 12)
  /-- A TOPO_REPORT tells the lead a member's link state and peer. (R138). -/
  | topoReport (ctl : Fin 72) (origin dest : BitVec 12) (hops : BitVec 4) (link : BitVec 7) (state : Fin 4) (peer : BitVec 12)
  /-- A FLOW_GRANT lets the source send the flow's later packets sprayed. (R154). -/
  | flowGrant (ctl : Fin 72) (origin dest : BitVec 12) (hops : BitVec 4) (src dst : BitVec 12) (vh : BitVec 8) (ord : Fin 4) (seq : BitVec 16)
  /-- A FLOW_DENY frees the send entry and keeps the flow pinned. (R154). -/
  | flowDeny (ctl : Fin 72) (origin dest : BitVec 12) (hops : BitVec 4) (src dst : BitVec 12) (vh : BitVec 8) (ord : Fin 4)
  /-- A FLOW_ACK advances the acknowledged EXPECT and the source's send window. (R155). -/
  | flowAck (ctl : Fin 72) (origin dest : BitVec 12) (hops : BitVec 4) (src dst : BitVec 12) (vh : BitVec 8) (ord : Fin 4) (expected : BitVec 16)
  /-- A FLOW_CLOSE puts the flow context into CLOSING until EXPECT passes L. (R156). -/
  | flowClose (ctl : Fin 72) (origin dest : BitVec 12) (hops : BitVec 4) (src dst : BitVec 12) (vh : BitVec 8) (ord : Fin 4) (last : BitVec 16)
  /-- A write failure notice is logged at the VH end, or forwarded as WFN_FWD. (R214). -/
  | wfn (ctl : Fin 72) (dest : BitVec 12) (hops : BitVec 4) (notice : Wfn)
  /-- A forwarded write failure notice is logged at the VH end with AER and the log interrupt. (R214). -/
  | wfnFwd (ctl : Fin 72) (dest : BitVec 12) (hops : BitVec 4) (notice : Wfn)
  /-- An ACU notice is logged on the binding's vDSP and journalled at the VH end. (R422). -/
  | acuNotice (ctl : Fin 72) (origin dest : BitVec 12) (hops : BitVec 4) (vh : BitVec 8) (binding : BitVec 12) (dir : Fin 4) (write : Bool) (len : BitVec 13) (header : BitVec 128)
  /-- A claimant hearing no lower claim for SETTLE enters LEAD and starts heartbeats. (R134). -/
  | settleExpiry
  /-- Each HB interval the lead floods HEARTBEAT. (R135). -/
  | heartbeatTimer
  /-- A member hearing no heartbeat for HB_MISS intervals declares the lead lost and enters ELECT. (R135). -/
  | heartbeatLoss
  /-- A REFUSED device retries its join every 1.00 s. (R133). -/
  | refusedRetry
  /-- After FLOW_RETRY a source may again set OPEN on a pinned flow. (R154). -/
  | flowRetryExpiry (dst : Fin 4096) (vh : BitVec 8) (ord : Fin 3)
  /-- A granted flow idle for IDLE is closed with FLOW_CLOSE. (R156). -/
  | flowIdleExpiry (dst : Fin 4096) (vh : BitVec 8) (ord : Fin 3)
  /-- 1.00 µs after an unacknowledged delivery the destination sends FLOW_ACK. (R155). -/
  | flowAckDeadline (ctx : Fin 4096)
  /-- A missing FSEQ for HOLE is declared lost, EXPECT advances and held packets are delivered. (R157). -/
  | reseqHoleTimeout (ctx : Fin 4096)
  /-- A packet held longer than SKEW is counted once. (R157). -/
  | reseqSkewExpiry (ctx : Fin 4096)
  /-- A packet held for want of a live slot for UNREACH_HOLD becomes a path loss. (R149). -/
  | unreachHoldExpiry (pkt : Nat)
  /-- Pinned packets held after a route change leave once older packets are gone and PIN_SETTLE has passed. (R152). -/
  | pinHoldRelease (feid : Fin 4096)
  /-- At the end of the holdoff the held WFN with its coalesced COUNT is sent. (R213). -/
  | wfnHoldoffExpiry (src : Fin 4096) (vh : BitVec 8) (binding : Fin 4096) (reason : Fin 16)
  /-- An OPEN tracker entry older than BND_TRK_TIMEOUT gets a synthesised completion and enters QUARANTINE. (R209). -/
  | trackerTimeout (rid : BitVec 16) (tag : BitVec 14)
  /-- A tracker entry's quarantine time ends and it is freed. (R208). -/
  | quarantineEnd
  /-- An edit session with no request for 10.0 s is closed and its edits discarded. (R115). -/
  | sessionTimeout
  /-- Validation of the shadow ends; the banks swap and the generation advances, or the commit is rejected. (R116). -/
  | commitValidated (found : List (Nat × BitVec 64 × Fin 3))
  /-- The copy of the new active bank into the shadow ends and SHADOW_READY becomes 1. (R117). -/
  | shadowCopyDone
  /-- BND_GEN_OLDER reaches 0 and an outstanding quiesce completes with OK. (R117). -/
  | quiesceDone
  /-- A quiesce whose count has not reached 0 by its limit completes with BUSY. (R117). -/
  | quiesceLimit
  /-- A unit with waiting work and no progress for its limit fires its watchdog with the response of Table 7.11. (R219). -/
  | watchdogFire (u : WatchUnit)
  /-- A service queue with a completion at its head unserved for STARVE_US is served next at its port. (R237). -/
  | starveGuardExpiry (port : Fin 144) (node : Fin 4096) (cls : Fin 8)
  /-- A gate list moves to its next entry, opening and closing service classes. (R239). -/
  | gateEntryAdvance (port : Fin 144)
  /-- A pending gate list becomes operating at its first cycle start. (R241). -/
  | gclSwitch (port : Fin 144)
  /-- The data mover fetches a batch of descriptors when the ring has entries and the completion ring has room. (R281). -/
  | descFetch (fn : Fin 2048) (q : Fin 256) (batch : Fin 16) (size : Fin 8)
  /-- A descriptor's chunks end and its completion entry is written in ring order after its writes leave. (R282). -/
  | descExecDone (fn : Fin 2048) (q : Fin 256) (slot : Nat)
  /-- COAL_US after the first unsignalled entry the queue's vector is signalled. (R282). -/
  | msixCoalesceTimeout (fn : Fin 2048) (q : Fin 256)
  /-- A cached bitmap line is read, ORed and written back on age, eviction or swap. (R289). -/
  | traceLineWriteback (engine : Fin 8) (nth : Fin 64) (buf : Fin 2) (line : Nat)
  /-- The swap's flush read completes; ACTIVE_BUF toggles, EPOCH advances and SWAP_DONE is raised. (R291). -/
  | traceSwapDone (engine : Fin 8) (nth : Fin 64)
  /-- A debug port word access is checked by the debug ACU against the locked regions. (R271). -/
  | debugAccess (addr : BitVec 36) (write : Bool) (value : BitVec 32)
  /-- A PERST_N pulse of 1.00 µs or longer causes a cold reset. (R404). -/
  | perstNAssert
  /-- PERST_N is released with rails good and Kalnum moves from RESET to BOOT. (R402). -/
  | perstNRelease
  /-- VDD_AUX is applied; the AUX domain is cleared and a cold reset follows. (R326). -/
  | vddAuxApplied
  /-- VDD_AUX is lost and every output goes high-impedance. (R413). -/
  | vddAuxLost
  /-- VDD_CORE or VDD_IO stays below its limit for 1.00 µs, causing a cold reset. (R326). -/
  | railDrop (io : Bool)
  /-- The last rail becomes good, letting BOOT start once PERST_N is released. (R402). -/
  | railsGood
  /-- A sensor reaches 155 °C; THERMTRIP_N asserts and Kalnum is held in RESET. (R327). -/
  | thermalTrip
  /-- A region's temperature crosses WARN_C or THROTTLE_C, or falls back by HYST_C, changing its alarm and throttling. (R338). -/
  | regionTempSample (region : Fin 12) (temp : BitVec 9)
  /-- The boot ROM's verification of an image ends with a result code. (R376). -/
  | bootImageCheck (image : Fin 2) (readOk : Bool)
  /-- Firmware initialisation ends and Kalnum enters START_MODE or RESUME_MODE, configuration-ready. (R377). -/
  | bootFirmwareReady (bad : List (Fin 256))
  /-- Read-back verification of a written image ends and its state becomes VERIFIED or WRITTEN. (R380). -/
  | fwFinishDone (readOk : Bool)
  /-- A queued flash program of image bytes ends, freeing queue space. (R380). -/
  | flashProgramDone
  /-- A self-test ends, failures are journalled and ports re-enabled, and the final reply carries the result. (R319). -/
  | selfTestDone (failures : List (Fin 12 × Fin 8 × BitVec 16 × BitVec 32))
  /-- With AUTO_EN, every live port idle for AUTO_IDLE_MS starts automatic DROWSE entry. (R328). -/
  | drowseAutoIdle
  /-- When refuser classes clear, or ENTRY_WAIT_MS ends, DROWSE entry proceeds or is refused by the first holding class. (R328). -/
  | drowseEntryWaitEnd
  /-- An enabled wake source ends DROWSE or abandons an entry in progress. (R331). -/
  | drowseWakeSource (sources : List (Fin 11 × BitVec 12))
  /-- WAKE_TIMER_MS expires in DROWSE as wake source 6. (R331). -/
  | drowseWakeTimer
  /-- The regulator acknowledges a voltage request, which becomes the voltage in force. (R333). -/
  | avsAck (bus : Fin 2)
  /-- A voltage request unacknowledged within AVS_ACK_US is resent, or AVS_FAULT is set. (R333). -/
  | avsAckTimeout (bus : Fin 2)
  /-- The voltage policy compares access rate with demand and requests a step up or down. (R335). -/
  | vpolInterval
  /-- Every 1.00 ms Kalnum reads voltage, current and temperature from each listed regulator. (R337). -/
  | pmbusPoll (readings : List (Nat × Nat × Nat × Nat))
  /-- VDD_IO below 1.71 V or PWR_WARN_N asserted fences non-volatile writes. (R339). -/
  | sagStart
  /-- Supply good for CLEAR_MS ends the sag and held commits are retried. (R340). -/
  | sagClearExpiry
  /-- A 1PPS input edge is timestamped and disciplines the timebase. (R348). -/
  | ppsEdge
  /-- 2.00 s without a PPS edge clears PPS_LOCK. (R348). -/
  | ppsLost
  /-- Every 1.00 µs the largest replica reading is published in CORE_DELAY_FACTOR. (R31). -/
  | coreDelayUpdate (q0 q1 q2 q3 north east south west : BitVec 16)
  /-- A value channel crosses its held value, then moves NEXT to HOLD on acknowledgement. (R343). -/
  | valueTransfer (domain : Fin 40) (channel : Fin 64) (written : List (BitVec 32))
  /-- An event channel crosses its pending count and OVF flag. (R344). -/
  | eventTransfer (domain : Fin 40) (channel : Fin 64) (before during : Nat)
  /-- A queue channel crosses one entry per round trip. (R342). -/
  | queueTransfer (domain : Fin 40) (channel : Fin 64) (arrivals : List (BitVec 32))
  /-- A side leaving reset resynchronises the channel's pointers by handshake. (R345). -/
  | xdResync (domain : Fin 40) (sourceReset : Bool)
  /-- A change of PRSNT_L_N or PRSNT_S_N starts debounce, or removes a slot with its faulting and surprise-down handling. (R353). -/
  | presenceChange (g : Fin 24) (prsntL prsntS : Bool)
  /-- A slot seated for DEBOUNCE_MS is confirmed and moves to READY_OFF. (R353). -/
  | debounceExpiry (g : Fin 24)
  /-- FAULT_IN_N drives PRE_EN and GATE_EN low by hard logic within 100 ns and latches the fault. (R359). -/
  | faultInAssert (g : Fin 24)
  /-- A good sense frame updates telemetry and the thermal model and is checked for faults, proofing and retry conditions. (R360). -/
  | senseFrameRx (g : Fin 24) (frame : BitVec 64)
  /-- Proofing not passed within PROOF_MS records fault 0x0704. (R356). -/
  | proofingTimeout (g : Fin 24)
  /-- RAMP_MS after entry the guard enters ON or records fault 0x0705. (R357). -/
  | rampEnd (g : Fin 24)
  /-- PERST_MS after entering ON, PERST_OUT_N is released and the port may train. (R358). -/
  | perstMsExpiry (g : Fin 24)
  /-- The retry timer expires and the guard leaves RETRY if its conditions hold. (R361). -/
  | retryTimerExpiry (g : Fin 24)
  /-- 1.00 ms after an orderly power-off asserts PERST_OUT_N, GATE_EN and PRE_EN go low. (R355). -/
  | poweroffGateDelay (g : Fin 24)
  /-- An orderly power-off ends with OK after 1.00 s if VOUT has not fallen. (R355). -/
  | poweroffTimeout (g : Fin 24)
  /-- A power request for a slot not confirmed 10.0 s later lapses with BUSY, DETAIL 7. (R355). -/
  | slotRequestLapse (g : Fin 24)
  /-- Every 10.0 ms the device end of a remote port binding sends SLOT_POWER while the slot is ON. (R368). -/
  | slotPowerReportTimer (g : Fin 24)
  /-- An SPDM GET_VERSION is answered with version 1.3. (R385). -/
  | spdmGetVersion (medium : Fin 3) (eid version p1 p2 : BitVec 8) (rest : List (BitVec 8))
  /-- An SPDM GET_CAPABILITIES is answered with certificate, challenge and signed measurement capabilities. (R385). -/
  | spdmGetCapabilities (medium : Fin 3) (eid version p1 p2 : BitVec 8) (rest : List (BitVec 8))
  /-- An SPDM NEGOTIATE_ALGORITHMS is answered with RSASSA-PSS 3072 and SHA-384. (R385). -/
  | spdmNegotiateAlgorithms (medium : Fin 3) (eid version p1 p2 : BitVec 8) (rest : List (BitVec 8))
  /-- An SPDM GET_DIGESTS is answered for certificate slot 0. (R385). -/
  | spdmGetDigests (medium : Fin 3) (eid version p1 p2 : BitVec 8) (rest : List (BitVec 8))
  /-- An SPDM GET_CERTIFICATE returns the RSA chain of slot 0. (R385). -/
  | spdmGetCertificate (medium : Fin 3) (eid version p1 p2 : BitVec 8) (rest : List (BitVec 8))
  /-- An SPDM CHALLENGE is answered signed with the RSA identity key. (R385). -/
  | spdmChallenge (medium : Fin 3) (eid version p1 p2 : BitVec 8) (rest : List (BitVec 8))
  /-- An SPDM GET_MEASUREMENTS returns the measurement blocks, deferring with ResponseNotReady when block 0xF0 is asked for. (R386). -/
  | spdmGetMeasurements (medium : Fin 3) (eid version p1 p2 : BitVec 8) (rest : List (BitVec 8))
  /-- An SPDM RESPOND_IF_READY delivers the counter-signed measurement response once ready. (R386). -/
  | spdmRespondIfReady (medium : Fin 3) (eid version p1 p2 : BitVec 8) (rest : List (BitVec 8))
  /-- TRST_N held low resets the test access port. (R412). -/
  | tapReset
  /-- The BYPASS instruction selects the one-bit bypass register. (R412). -/
  | tapBypass (tdi : List Bool)
  /-- The IDCODE instruction shifts out 0x1028_87AB. (R412). -/
  | tapIdcode
  /-- The SAMPLE/PRELOAD instruction captures and preloads the boundary register. (R412). -/
  | tapSamplePreload (pins preload : List Bool)
  /-- The EXTEST instruction drives pins from the boundary register while PERST_N is asserted, otherwise acting as BYPASS. (R412). -/
  | tapExtest (pins update : List Bool)
  /-- The CLAMP instruction holds pins from the boundary register while PERST_N is asserted. (R412). -/
  | tapClamp (tdi : List Bool)
  /-- The HIGHZ instruction places outputs at high impedance while PERST_N is asserted. (R412). -/
  | tapHighz (tdi : List Bool)
  /-- The IEEE 1149.6 EXTEST_PULSE instruction tests the AC-coupled lane balls while PERST_N is asserted. (R412). -/
  | tapExtestPulse (pins update : List Bool)
  /-- The IEEE 1149.6 EXTEST_TRAIN instruction tests the AC-coupled lane balls while PERST_N is asserted. (R412). -/
  | tapExtestTrain (pins update : List Bool)
  /-- An active lane of a KFL link loses CDR lock, and the link enters recovery. (R192). -/
  | cdrLockLoss (lane : Fin 288)
  /-- FAULT_IN_N deasserts, and a guard in RETRY whose other conditions already hold leaves for PROOFING, READY_OFF or EMPTY. (R361). -/
  | faultInDeassert (g : Fin 24)
  /-- The PRBS checker compares a received 64-bit word, counting bit errors, setting LOCK on alignment, or clearing it with LOCK_LOST after 16 errored words. (R59). -/
  | prbsCheckerWord (lane : Fin 288) (errors : Fin 65) (aligned : Bool)
  /-- A PCI Express or CXL port's link layer detects a Receiver, Bad TLP, Bad DLLP, replay or protocol error, counts it and reports class 0x0105 or 0x0106 with retrain where required. (R203). -/
  | pcieLinkError (port : Fin 144) (err : PcieErr)
  /-- A PCI Express or CXL link enters Recovery, aborting any recalibration in progress with its cause. (R64). -/
  | pcieRecoveryEntry (port : Fin 144)
  /-- Kalnum releases PERST_OUT_N of an unguarded pool-edge port when it is enabled and REFCLK_OK has held for 100 µs, or after the 1.00 ms assertion of a port binding reset. (R405). -/
  | perstOutNRelease (port : Fin 144)
  /-- A rail falls below its good threshold during BOOT without meeting a Table 13.3 event, and Kalnum returns to RESET to wait under R402. (R413). -/
  | railLeavesGood (rail : Fin 4)
  /-- With SCRUB_EN set, the Churn reads bank and head-store words in the background, correcting, counting and retiring banks on the errors found. (R69). -/
  | backgroundScrub (found : ReadEcc) (pkt : Nat)
  deriving DecidableEq, Repr

end Sys2Proof
end

