-- ==== Sys2Proof/Decode.lean ====
section
/-! DEFINITION. The command that a word spells: the opcode table gives no row bits, so no word spells one. -/

namespace Sys2Proof

/-- No row of spec/opcode_table.json has fields: no word spells a command. -/
def decodeTableWord (_nbits _w : Nat) : Option Instr := none

end Sys2Proof
end

