-- ==== Sys2Proof/Config.lean ====
section
/-! DEFINITION. What the spec leaves open: values nothing in Lean can evaluate, so that a statement about them holds
whatever they are; and the cryptographic functions of the standards that Table 0.8 names, which the model does not
compute. -/

namespace Sys2Proof.Config

/-- The n-th free value of a run: a choice the spec leaves to the hardware (notes/assumptions/3). -/
opaque freeValue : Nat → Nat

/-- SHA-384 of a string of bytes (FIPS 180-4), as 48 bytes. -/
opaque sha384 : List Byte → List Byte

/-- RSASSA-PSS 3072 verification (FIPS 186-5): public key, message, signature. -/
opaque rsaVerify : List Byte → List Byte → List Byte → Bool

/-- SLH-DSA-SHA2-192s verification (FIPS 205): public key, message, signature. -/
opaque slhVerify : List Byte → List Byte → List Byte → Bool

/-- Signature of a message with the device's RSA identity key. -/
opaque rsaSign : List Byte → List Byte

/-- Signature of a message with the device's SLH-DSA identity key. -/
opaque slhSign : List Byte → List Byte

/-- The certificate chain of an algorithm (0 RSA, 1 SLH-DSA). -/
opaque certChain : Nat → List Byte

/-- The DETAIL of an ACCEPTED reply, the time Kalnum expects the operation to take (Table 12.3), for an opcode. -/
opaque expectedTime : Nat → Nat

/-- A transaction-layer packet in the Flit Mode TLP format of the PCI Express Base Specification 7.0, or a CXL.mem message
(R142): the bytes of an item.  That format is no part of the spec (notes/assumptions/11). -/
opaque tlpBytes : Tlp → List Byte

/-- The packet the bytes of an item of a PTYPE stand for, by the same format. -/
opaque tlpOfBytes : Nat → List Byte → Option Tlp

/-- The response payload of a CXL FM API request other than Bind vPPB and Unbind vPPB: its format is CXL 3.1's (R299). -/
opaque fmPayload : List Byte → List Byte

/-- The device serial number, fused at manufacture. -/
opaque serial : BitVec 64

/-- The fused hashes of Treind's two public keys, 48 bytes each (R371). -/
opaque keyHashRsa : List Byte
opaque keyHashSlh : List Byte

/-- SHA-384 of the boot ROM (Table 15.8, block 1). -/
opaque romHash : List Byte

/-- What a word of Malacel's memories holds until it is written, by debug address (Table 10.4). -/
opaque sramWord : Nat → Word

/-- The five die IDs (R32). -/
opaque dieId : Fin 5 → BitVec 32

end Sys2Proof.Config
end

