-- ==== Sys2Proof/Machine/Regs.lean ====
section
/-! DEFINITION. The registers of Kalnum, as the register tables of the spec lay them out (Tables 0.13, 2.10, 3.11, 4.17,
5.16, 6.14, 7.15, 8.5, 10.7, 10.8, 11.7, 11.8, 12.9, 13.8, 14.8 and 15.11): `R.<NAME>` is a register with its BAR0 offset,
instances, reset domain, reset value and fields, and `F.<REGISTER>.<FIELD>` is one field of it.  The tables whose entries
are double-banked, the logs and the MSI-X tables are not here: `State` holds them as lists of entries. -/

namespace Sys2Proof.Machine

/-- Access codes of Table 0.11; the bits no field names are RSV. -/
inductive Access where
  | ro | rw | w1c | rws | wo | co
  deriving DecidableEq, Repr

/-- Reset domains of Table 0.12. -/
inductive Domain where
  | aux | cold | warm | vh
  deriving DecidableEq, Repr

/-- Counter classes of Table 12.10 that a register can have.  `sat` names the OVF register and bit of the counter. -/
inductive CounterClass where
  | plain
  | sat (ovf : Option (Nat × Nat))
  | statLo
  | statHi
  | refusal
  | hwm
  deriving DecidableEq, Repr

/-- One field of a register: lowest bit, width and access code. -/
structure FieldDesc where
  lo : Nat
  width : Nat
  acc : Access
  deriving DecidableEq, Repr

/-- One register of a register table.  Instance `i` stands at `base + (i / n2) * s1 + (i % n2) * s2`. -/
structure RegDesc where
  base : Nat
  s1 : Nat
  n1 : Nat
  s2 : Nat
  n2 : Nat
  dom : Domain
  kind : CounterClass
  rst : Nat → Nat
  fields : List FieldDesc

/-- A named field of a register. -/
structure Fld where
  reg : RegDesc
  lo : Nat
  width : Nat

/-- The offset of instance `i` of a register. -/
def RegDesc.addr (r : RegDesc) (i : Nat) : Nat := r.base + (i / r.n2) * r.s1 + (i % r.n2) * r.s2

/-- The number of instances of a register. -/
def RegDesc.count (r : RegDesc) : Nat := r.n1 * r.n2

/-- The reset value of instance `i` of a register. -/
def RegDesc.resetWord (r : RegDesc) (i : Nat) : BitVec 32 := BitVec.ofNat 32 (r.rst i)

/-- The instance of `r` that stands at offset `a`, if one does. -/
def RegDesc.indexAt (r : RegDesc) (a : Nat) : Option Nat :=
  if a < r.base then none else
  let d := a - r.base
  let i1 := if r.s1 = 0 then 0 else d / r.s1
  let e := d - i1 * r.s1
  let i2 := if r.s2 = 0 then 0 else e / r.s2
  if i1 < r.n1 && i2 < r.n2 && e = i2 * r.s2 then some (i1 * r.n2 + i2) else none

/-! ## Registers of 02_lane_clusters.md -/

/-- `PCL_CLUSTER_ID`, COLD. -/
def R.PCL_CLUSTER_ID : RegDesc := ⟨0x400000, 0x0, 1, 0x10000, 36, .cold, .plain, fun c => c + 64 * (c / 9) + 256 * (if c % 9 < 5 then 0 else 1),
  [⟨0, 6, .ro⟩, ⟨6, 2, .ro⟩, ⟨8, 1, .ro⟩]⟩
def F.PCL_CLUSTER_ID.CLUSTER : Fld := ⟨R.PCL_CLUSTER_ID, 0, 6⟩
def F.PCL_CLUSTER_ID.DIE : Fld := ⟨R.PCL_CLUSTER_ID, 6, 2⟩
def F.PCL_CLUSTER_ID.REGION : Fld := ⟨R.PCL_CLUSTER_ID, 8, 1⟩

/-- `PCL_CLUSTER_CFG`, COLD. -/
def R.PCL_CLUSTER_CFG : RegDesc := ⟨0x400004, 0x0, 1, 0x10000, 36, .cold, .plain, fun _ => 0x38,
  [⟨0, 2, .co⟩, ⟨2, 1, .co⟩, ⟨3, 3, .co⟩, ⟨6, 2, .co⟩, ⟨8, 1, .ro⟩, ⟨9, 1, .ro⟩]⟩
def F.PCL_CLUSTER_CFG.CLK_MODE : Fld := ⟨R.PCL_CLUSTER_CFG, 0, 2⟩
def F.PCL_CLUSTER_CFG.REFCLK_SEL : Fld := ⟨R.PCL_CLUSTER_CFG, 2, 1⟩
def F.PCL_CLUSTER_CFG.CEIL_PCIE : Fld := ⟨R.PCL_CLUSTER_CFG, 3, 3⟩
def F.PCL_CLUSTER_CFG.CEIL_KFL : Fld := ⟨R.PCL_CLUSTER_CFG, 6, 2⟩
def F.PCL_CLUSTER_CFG.PAIR_LOWER : Fld := ⟨R.PCL_CLUSTER_CFG, 8, 1⟩
def F.PCL_CLUSTER_CFG.PAIR_UPPER : Fld := ⟨R.PCL_CLUSTER_CFG, 9, 1⟩

/-- `PCL_CLUSTER_STATUS`, WARM. -/
def R.PCL_CLUSTER_STATUS : RegDesc := ⟨0x400008, 0x0, 1, 0x10000, 36, .warm, .plain, fun _ => 0x8,
  [⟨0, 1, .ro⟩, ⟨1, 1, .ro⟩, ⟨2, 1, .ro⟩, ⟨3, 1, .ro⟩, ⟨4, 4, .ro⟩, ⟨8, 1, .ro⟩]⟩
def F.PCL_CLUSTER_STATUS.PLL_LOCK : Fld := ⟨R.PCL_CLUSTER_STATUS, 0, 1⟩
def F.PCL_CLUSTER_STATUS.REFCLK_OK : Fld := ⟨R.PCL_CLUSTER_STATUS, 1, 1⟩
def F.PCL_CLUSTER_STATUS.REGION_GATED : Fld := ⟨R.PCL_CLUSTER_STATUS, 2, 1⟩
def F.PCL_CLUSTER_STATUS.CLK_STOPPED : Fld := ⟨R.PCL_CLUSTER_STATUS, 3, 1⟩
def F.PCL_CLUSTER_STATUS.LIVE_PORTS : Fld := ⟨R.PCL_CLUSTER_STATUS, 4, 4⟩
def F.PCL_CLUSTER_STATUS.RECAL_BUSY : Fld := ⟨R.PCL_CLUSTER_STATUS, 8, 1⟩

/-- `PCL_SLOT_CFG`, COLD. -/
def R.PCL_SLOT_CFG : RegDesc := ⟨0x400010, 0x10000, 36, 0x4, 4, .cold, .plain, fun p => if p = 0 then 0x384 else if p % 4 = 0 then 0x38C else 0,
  [⟨0, 3, .co⟩, ⟨3, 2, .co⟩, ⟨5, 2, .co⟩, ⟨7, 4, .co⟩, ⟨11, 7, .co⟩]⟩
def F.PCL_SLOT_CFG.WIDTH : Fld := ⟨R.PCL_SLOT_CFG, 0, 3⟩
def F.PCL_SLOT_CFG.ROLE : Fld := ⟨R.PCL_SLOT_CFG, 3, 2⟩
def F.PCL_SLOT_CFG.PROTO : Fld := ⟨R.PCL_SLOT_CFG, 5, 2⟩
def F.PCL_SLOT_CFG.MAX_RATE : Fld := ⟨R.PCL_SLOT_CFG, 7, 4⟩
def F.PCL_SLOT_CFG.KFL_LINK : Fld := ⟨R.PCL_SLOT_CFG, 11, 7⟩

/-- `PCL_PORT_STATUS`, WARM. -/
def R.PCL_PORT_STATUS : RegDesc := ⟨0x400040, 0x10000, 36, 0x10, 4, .warm, .plain, fun _ => 0,
  [⟨0, 4, .ro⟩, ⟨4, 5, .ro⟩, ⟨9, 4, .ro⟩, ⟨13, 1, .ro⟩, ⟨14, 1, .ro⟩, ⟨15, 3, .ro⟩, ⟨18, 1, .ro⟩, ⟨19, 1, .ro⟩, ⟨20, 1, .ro⟩]⟩
def F.PCL_PORT_STATUS.STATE : Fld := ⟨R.PCL_PORT_STATUS, 0, 4⟩
def F.PCL_PORT_STATUS.WIDTH_NOW : Fld := ⟨R.PCL_PORT_STATUS, 4, 5⟩
def F.PCL_PORT_STATUS.RATE_NOW : Fld := ⟨R.PCL_PORT_STATUS, 9, 4⟩
def F.PCL_PORT_STATUS.FLIT : Fld := ⟨R.PCL_PORT_STATUS, 13, 1⟩
def F.PCL_PORT_STATUS.CXL_ACTIVE : Fld := ⟨R.PCL_PORT_STATUS, 14, 1⟩
def F.PCL_PORT_STATUS.LPSTATE : Fld := ⟨R.PCL_PORT_STATUS, 15, 3⟩
def F.PCL_PORT_STATUS.NARROWED : Fld := ⟨R.PCL_PORT_STATUS, 18, 1⟩
def F.PCL_PORT_STATUS.RECAL_BORROW : Fld := ⟨R.PCL_PORT_STATUS, 19, 1⟩
def F.PCL_PORT_STATUS.REVERSED : Fld := ⟨R.PCL_PORT_STATUS, 20, 1⟩

/-- `PCL_PORT_CTRL`, COLD. -/
def R.PCL_PORT_CTRL : RegDesc := ⟨0x400044, 0x10000, 36, 0x10, 4, .cold, .plain, fun p => if p % 4 = 0 then 0x3F else 0x3E,
  [⟨0, 1, .co⟩, ⟨1, 1, .rw⟩, ⟨2, 1, .rw⟩, ⟨3, 1, .rw⟩, ⟨4, 1, .rw⟩, ⟨5, 1, .rw⟩, ⟨6, 1, .rw⟩, ⟨7, 1, .rw⟩]⟩
def F.PCL_PORT_CTRL.ENABLE : Fld := ⟨R.PCL_PORT_CTRL, 0, 1⟩
def F.PCL_PORT_CTRL.L0S_EN : Fld := ⟨R.PCL_PORT_CTRL, 1, 1⟩
def F.PCL_PORT_CTRL.L1_EN : Fld := ⟨R.PCL_PORT_CTRL, 2, 1⟩
def F.PCL_PORT_CTRL.L1SS_EN : Fld := ⟨R.PCL_PORT_CTRL, 3, 1⟩
def F.PCL_PORT_CTRL.L0P_EN : Fld := ⟨R.PCL_PORT_CTRL, 4, 1⟩
def F.PCL_PORT_CTRL.KFL_STBY_EN : Fld := ⟨R.PCL_PORT_CTRL, 5, 1⟩
def F.PCL_PORT_CTRL.KFL_DEEP_EN : Fld := ⟨R.PCL_PORT_CTRL, 6, 1⟩
def F.PCL_PORT_CTRL.TEST : Fld := ⟨R.PCL_PORT_CTRL, 7, 1⟩

/-- `PCL_PORT_EVT`, WARM. -/
def R.PCL_PORT_EVT : RegDesc := ⟨0x400048, 0x10000, 36, 0x10, 4, .warm, .plain, fun _ => 0,
  [⟨0, 1, .w1c⟩, ⟨1, 1, .w1c⟩, ⟨2, 1, .w1c⟩, ⟨3, 1, .w1c⟩, ⟨4, 1, .w1c⟩, ⟨5, 1, .w1c⟩, ⟨6, 1, .w1c⟩, ⟨7, 1, .w1c⟩, ⟨8, 1, .w1c⟩, ⟨9, 1, .w1c⟩]⟩
def F.PCL_PORT_EVT.LINK_UP : Fld := ⟨R.PCL_PORT_EVT, 0, 1⟩
def F.PCL_PORT_EVT.LINK_DOWN : Fld := ⟨R.PCL_PORT_EVT, 1, 1⟩
def F.PCL_PORT_EVT.RATE_CHANGE : Fld := ⟨R.PCL_PORT_EVT, 2, 1⟩
def F.PCL_PORT_EVT.WIDTH_CHANGE : Fld := ⟨R.PCL_PORT_EVT, 3, 1⟩
def F.PCL_PORT_EVT.CXL_RATE_LOW : Fld := ⟨R.PCL_PORT_EVT, 4, 1⟩
def F.PCL_PORT_EVT.SKEW_FAIL : Fld := ⟨R.PCL_PORT_EVT, 5, 1⟩
def F.PCL_PORT_EVT.EQ_FAIL : Fld := ⟨R.PCL_PORT_EVT, 6, 1⟩
def F.PCL_PORT_EVT.RECAL_DONE : Fld := ⟨R.PCL_PORT_EVT, 7, 1⟩
def F.PCL_PORT_EVT.RECAL_ABORT : Fld := ⟨R.PCL_PORT_EVT, 8, 1⟩
def F.PCL_PORT_EVT.REFCLK_LOSS : Fld := ⟨R.PCL_PORT_EVT, 9, 1⟩

/-- `PCL_LANE_STATUS`, WARM. -/
def R.PCL_LANE_STATUS : RegDesc := ⟨0x400100, 0x10000, 36, 0x80, 8, .warm, .plain, fun _ => 0,
  [⟨0, 1, .ro⟩, ⟨1, 1, .ro⟩, ⟨2, 1, .ro⟩, ⟨3, 1, .ro⟩, ⟨4, 2, .ro⟩, ⟨6, 1, .ro⟩, ⟨7, 1, .ro⟩, ⟨8, 7, .ro⟩]⟩
def F.PCL_LANE_STATUS.SIGNAL_DET : Fld := ⟨R.PCL_LANE_STATUS, 0, 1⟩
def F.PCL_LANE_STATUS.CDR_LOCK : Fld := ⟨R.PCL_LANE_STATUS, 1, 1⟩
def F.PCL_LANE_STATUS.ADAPT_CONVERGED : Fld := ⟨R.PCL_LANE_STATUS, 2, 1⟩
def F.PCL_LANE_STATUS.POLARITY_INV : Fld := ⟨R.PCL_LANE_STATUS, 3, 1⟩
def F.PCL_LANE_STATUS.SLOT : Fld := ⟨R.PCL_LANE_STATUS, 4, 2⟩
def F.PCL_LANE_STATUS.OWNED : Fld := ⟨R.PCL_LANE_STATUS, 6, 1⟩
def F.PCL_LANE_STATUS.PARKED : Fld := ⟨R.PCL_LANE_STATUS, 7, 1⟩
def F.PCL_LANE_STATUS.EYE : Fld := ⟨R.PCL_LANE_STATUS, 8, 7⟩

/-- `PCL_LANE_TXEQ`, WARM. -/
def R.PCL_LANE_TXEQ : RegDesc := ⟨0x400104, 0x10000, 36, 0x80, 8, .warm, .plain, fun _ => 0x1F8000,
  [⟨0, 4, .ro⟩, ⟨4, 5, .ro⟩, ⟨9, 6, .ro⟩, ⟨15, 6, .ro⟩, ⟨21, 6, .ro⟩, ⟨27, 5, .ro⟩]⟩
def F.PCL_LANE_TXEQ.CM3 : Fld := ⟨R.PCL_LANE_TXEQ, 0, 4⟩
def F.PCL_LANE_TXEQ.CM2 : Fld := ⟨R.PCL_LANE_TXEQ, 4, 5⟩
def F.PCL_LANE_TXEQ.CM1 : Fld := ⟨R.PCL_LANE_TXEQ, 9, 6⟩
def F.PCL_LANE_TXEQ.C0 : Fld := ⟨R.PCL_LANE_TXEQ, 15, 6⟩
def F.PCL_LANE_TXEQ.CP1 : Fld := ⟨R.PCL_LANE_TXEQ, 21, 6⟩
def F.PCL_LANE_TXEQ.CP2 : Fld := ⟨R.PCL_LANE_TXEQ, 27, 5⟩

/-- `PCL_LANE_RXADAPT_CTRL`, WARM. -/
def R.PCL_LANE_RXADAPT_CTRL : RegDesc := ⟨0x400108, 0x10000, 36, 0x80, 8, .warm, .plain, fun _ => 0x307,
  [⟨0, 1, .rw⟩, ⟨1, 1, .rw⟩, ⟨2, 1, .rw⟩, ⟨3, 1, .rw⟩, ⟨4, 1, .rw⟩, ⟨8, 4, .rw⟩]⟩
def F.PCL_LANE_RXADAPT_CTRL.CTLE_ADAPT_EN : Fld := ⟨R.PCL_LANE_RXADAPT_CTRL, 0, 1⟩
def F.PCL_LANE_RXADAPT_CTRL.DFE_ADAPT_EN : Fld := ⟨R.PCL_LANE_RXADAPT_CTRL, 1, 1⟩
def F.PCL_LANE_RXADAPT_CTRL.FLOAT_ADAPT_EN : Fld := ⟨R.PCL_LANE_RXADAPT_CTRL, 2, 1⟩
def F.PCL_LANE_RXADAPT_CTRL.FREEZE : Fld := ⟨R.PCL_LANE_RXADAPT_CTRL, 3, 1⟩
def F.PCL_LANE_RXADAPT_CTRL.OVERRIDE : Fld := ⟨R.PCL_LANE_RXADAPT_CTRL, 4, 1⟩
def F.PCL_LANE_RXADAPT_CTRL.LOOP_GAIN : Fld := ⟨R.PCL_LANE_RXADAPT_CTRL, 8, 4⟩

/-- `PCL_LANE_CTLE`, WARM. -/
def R.PCL_LANE_CTLE : RegDesc := ⟨0x40010C, 0x10000, 36, 0x80, 8, .warm, .plain, fun _ => 0,
  [⟨0, 5, .rw⟩, ⟨8, 6, .rw⟩]⟩
def F.PCL_LANE_CTLE.PEAK : Fld := ⟨R.PCL_LANE_CTLE, 0, 5⟩
def F.PCL_LANE_CTLE.VGA : Fld := ⟨R.PCL_LANE_CTLE, 8, 6⟩

/-- `PCL_LANE_DFE_A`, WARM. -/
def R.PCL_LANE_DFE_A : RegDesc := ⟨0x400110, 0x10000, 36, 0x80, 8, .warm, .plain, fun _ => 0,
  [⟨0, 8, .rw⟩, ⟨8, 8, .rw⟩, ⟨16, 8, .rw⟩, ⟨24, 8, .rw⟩]⟩
def F.PCL_LANE_DFE_A.TAP_0 : Fld := ⟨R.PCL_LANE_DFE_A, 0, 8⟩
def F.PCL_LANE_DFE_A.TAP_1 : Fld := ⟨R.PCL_LANE_DFE_A, 8, 8⟩
def F.PCL_LANE_DFE_A.TAP_2 : Fld := ⟨R.PCL_LANE_DFE_A, 16, 8⟩
def F.PCL_LANE_DFE_A.TAP_3 : Fld := ⟨R.PCL_LANE_DFE_A, 24, 8⟩

/-- `PCL_LANE_DFE_B`, WARM. -/
def R.PCL_LANE_DFE_B : RegDesc := ⟨0x400114, 0x10000, 36, 0x80, 8, .warm, .plain, fun _ => 0,
  [⟨0, 8, .rw⟩, ⟨8, 8, .rw⟩, ⟨16, 8, .rw⟩, ⟨24, 8, .rw⟩]⟩
def F.PCL_LANE_DFE_B.TAP_0 : Fld := ⟨R.PCL_LANE_DFE_B, 0, 8⟩
def F.PCL_LANE_DFE_B.TAP_1 : Fld := ⟨R.PCL_LANE_DFE_B, 8, 8⟩
def F.PCL_LANE_DFE_B.TAP_2 : Fld := ⟨R.PCL_LANE_DFE_B, 16, 8⟩
def F.PCL_LANE_DFE_B.TAP_3 : Fld := ⟨R.PCL_LANE_DFE_B, 24, 8⟩

/-- `PCL_LANE_DFE_C`, WARM. -/
def R.PCL_LANE_DFE_C : RegDesc := ⟨0x400118, 0x10000, 36, 0x80, 8, .warm, .plain, fun _ => 0,
  [⟨0, 8, .rw⟩, ⟨8, 8, .rw⟩, ⟨16, 8, .rw⟩, ⟨24, 8, .rw⟩]⟩
def F.PCL_LANE_DFE_C.TAP_0 : Fld := ⟨R.PCL_LANE_DFE_C, 0, 8⟩
def F.PCL_LANE_DFE_C.TAP_1 : Fld := ⟨R.PCL_LANE_DFE_C, 8, 8⟩
def F.PCL_LANE_DFE_C.TAP_2 : Fld := ⟨R.PCL_LANE_DFE_C, 16, 8⟩
def F.PCL_LANE_DFE_C.TAP_3 : Fld := ⟨R.PCL_LANE_DFE_C, 24, 8⟩

/-- `PCL_LANE_FLOAT_POS`, WARM. -/
def R.PCL_LANE_FLOAT_POS : RegDesc := ⟨0x40011C, 0x10000, 36, 0x80, 8, .warm, .plain, fun _ => 0,
  [⟨0, 6, .rw⟩, ⟨8, 6, .rw⟩, ⟨16, 6, .rw⟩, ⟨24, 6, .rw⟩]⟩
def F.PCL_LANE_FLOAT_POS.F0 : Fld := ⟨R.PCL_LANE_FLOAT_POS, 0, 6⟩
def F.PCL_LANE_FLOAT_POS.F1 : Fld := ⟨R.PCL_LANE_FLOAT_POS, 8, 6⟩
def F.PCL_LANE_FLOAT_POS.F2 : Fld := ⟨R.PCL_LANE_FLOAT_POS, 16, 6⟩
def F.PCL_LANE_FLOAT_POS.F3 : Fld := ⟨R.PCL_LANE_FLOAT_POS, 24, 6⟩

/-- `PCL_LANE_FLOAT_VAL`, WARM. -/
def R.PCL_LANE_FLOAT_VAL : RegDesc := ⟨0x400120, 0x10000, 36, 0x80, 8, .warm, .plain, fun _ => 0,
  [⟨0, 8, .rw⟩, ⟨8, 8, .rw⟩, ⟨16, 8, .rw⟩, ⟨24, 8, .rw⟩]⟩
def F.PCL_LANE_FLOAT_VAL.F0 : Fld := ⟨R.PCL_LANE_FLOAT_VAL, 0, 8⟩
def F.PCL_LANE_FLOAT_VAL.F1 : Fld := ⟨R.PCL_LANE_FLOAT_VAL, 8, 8⟩
def F.PCL_LANE_FLOAT_VAL.F2 : Fld := ⟨R.PCL_LANE_FLOAT_VAL, 16, 8⟩
def F.PCL_LANE_FLOAT_VAL.F3 : Fld := ⟨R.PCL_LANE_FLOAT_VAL, 24, 8⟩

/-- `PCL_PRBS_CTRL`, WARM. -/
def R.PCL_PRBS_CTRL : RegDesc := ⟨0x400124, 0x10000, 36, 0x80, 8, .warm, .plain, fun _ => 0,
  [⟨0, 3, .rw⟩, ⟨3, 1, .rw⟩, ⟨4, 1, .rw⟩, ⟨5, 1, .wo⟩, ⟨6, 1, .wo⟩]⟩
def F.PCL_PRBS_CTRL.PATTERN : Fld := ⟨R.PCL_PRBS_CTRL, 0, 3⟩
def F.PCL_PRBS_CTRL.GEN_EN : Fld := ⟨R.PCL_PRBS_CTRL, 3, 1⟩
def F.PCL_PRBS_CTRL.CHK_EN : Fld := ⟨R.PCL_PRBS_CTRL, 4, 1⟩
def F.PCL_PRBS_CTRL.INJ : Fld := ⟨R.PCL_PRBS_CTRL, 5, 1⟩
def F.PCL_PRBS_CTRL.CLR : Fld := ⟨R.PCL_PRBS_CTRL, 6, 1⟩

/-- `PCL_PRBS_ERR`, WARM. -/
def R.PCL_PRBS_ERR : RegDesc := ⟨0x400128, 0x10000, 36, 0x80, 8, .warm, .sat none, fun _ => 0,
  [⟨0, 32, .ro⟩]⟩
def F.PCL_PRBS_ERR.ERR_COUNT : Fld := ⟨R.PCL_PRBS_ERR, 0, 32⟩

/-- `PCL_PRBS_STATUS`, WARM. -/
def R.PCL_PRBS_STATUS : RegDesc := ⟨0x40012C, 0x10000, 36, 0x80, 8, .warm, .plain, fun _ => 0,
  [⟨0, 1, .ro⟩, ⟨1, 1, .ro⟩, ⟨2, 1, .w1c⟩]⟩
def F.PCL_PRBS_STATUS.LOCK : Fld := ⟨R.PCL_PRBS_STATUS, 0, 1⟩
def F.PCL_PRBS_STATUS.OVF : Fld := ⟨R.PCL_PRBS_STATUS, 1, 1⟩
def F.PCL_PRBS_STATUS.LOCK_LOST : Fld := ⟨R.PCL_PRBS_STATUS, 2, 1⟩

/-- `PCL_RECAL_STATUS`, WARM. -/
def R.PCL_RECAL_STATUS : RegDesc := ⟨0x400600, 0x0, 1, 0x10000, 36, .warm, .plain, fun _ => 0,
  [⟨0, 2, .ro⟩, ⟨2, 2, .ro⟩, ⟨4, 1, .ro⟩, ⟨8, 4, .ro⟩, ⟨16, 16, .ro⟩]⟩
def F.PCL_RECAL_STATUS.STATE : Fld := ⟨R.PCL_RECAL_STATUS, 0, 2⟩
def F.PCL_RECAL_STATUS.SLOT : Fld := ⟨R.PCL_RECAL_STATUS, 2, 2⟩
def F.PCL_RECAL_STATUS.HALF : Fld := ⟨R.PCL_RECAL_STATUS, 4, 1⟩
def F.PCL_RECAL_STATUS.ABORT_CAUSE : Fld := ⟨R.PCL_RECAL_STATUS, 8, 4⟩
def F.PCL_RECAL_STATUS.RECAL_COUNT : Fld := ⟨R.PCL_RECAL_STATUS, 16, 16⟩

/-- `PCL_PORT_RECOVERY_CNT`, WARM. -/
def R.PCL_PORT_RECOVERY_CNT : RegDesc := ⟨0x400800, 0x10000, 36, 0x20, 4, .warm, .sat none, fun _ => 0,
  [⟨0, 32, .ro⟩]⟩
def F.PCL_PORT_RECOVERY_CNT.V : Fld := ⟨R.PCL_PORT_RECOVERY_CNT, 0, 32⟩

/-- `PCL_PORT_FEC_UNCORR_CNT`, WARM. -/
def R.PCL_PORT_FEC_UNCORR_CNT : RegDesc := ⟨0x400804, 0x10000, 36, 0x20, 4, .warm, .sat none, fun _ => 0,
  [⟨0, 32, .ro⟩]⟩
def F.PCL_PORT_FEC_UNCORR_CNT.V : Fld := ⟨R.PCL_PORT_FEC_UNCORR_CNT, 0, 32⟩

/-- `PCL_PORT_FEC_CORR_LO`, WARM. -/
def R.PCL_PORT_FEC_CORR_LO : RegDesc := ⟨0x400808, 0x10000, 36, 0x20, 4, .warm, .statLo, fun _ => 0,
  [⟨0, 32, .ro⟩]⟩
def F.PCL_PORT_FEC_CORR_LO.V : Fld := ⟨R.PCL_PORT_FEC_CORR_LO, 0, 32⟩

/-- `PCL_PORT_FEC_CORR_HI`, WARM. -/
def R.PCL_PORT_FEC_CORR_HI : RegDesc := ⟨0x40080C, 0x10000, 36, 0x20, 4, .warm, .statHi, fun _ => 0,
  [⟨0, 32, .ro⟩]⟩
def F.PCL_PORT_FEC_CORR_HI.V : Fld := ⟨R.PCL_PORT_FEC_CORR_HI, 0, 32⟩

/-! ## Registers of 03_churn.md -/

/-- `CHN_CFG`, COLD. -/
def R.CHN_CFG : RegDesc := ⟨0x1000000, 0x0, 1, 0x0, 1, .cold, .plain, fun _ => 0x2,
  [⟨0, 1, .co⟩, ⟨1, 1, .co⟩]⟩
def F.CHN_CFG.FORCE_SF : Fld := ⟨R.CHN_CFG, 0, 1⟩
def F.CHN_CFG.SCRUB_EN : Fld := ⟨R.CHN_CFG, 1, 1⟩

/-- `CHN_STATUS`, WARM. -/
def R.CHN_STATUS : RegDesc := ⟨0x1000004, 0x0, 1, 0x0, 1, .warm, .plain, fun _ => 0,
  [⟨0, 1, .ro⟩, ⟨1, 1, .ro⟩, ⟨2, 1, .ro⟩, ⟨3, 1, .ro⟩, ⟨4, 4, .ro⟩]⟩
def F.CHN_STATUS.INIT_DONE : Fld := ⟨R.CHN_STATUS, 0, 1⟩
def F.CHN_STATUS.POOL_LOW : Fld := ⟨R.CHN_STATUS, 1, 1⟩
def F.CHN_STATUS.MC_SHORT : Fld := ⟨R.CHN_STATUS, 2, 1⟩
def F.CHN_STATUS.ROT_ACTIVE : Fld := ⟨R.CHN_STATUS, 3, 1⟩
def F.CHN_STATUS.FAILED_BANKS : Fld := ⟨R.CHN_STATUS, 4, 4⟩

/-- `CHN_EVT`, WARM. -/
def R.CHN_EVT : RegDesc := ⟨0x1000008, 0x0, 1, 0x0, 1, .warm, .plain, fun _ => 0,
  [⟨0, 1, .w1c⟩, ⟨1, 1, .w1c⟩, ⟨2, 1, .w1c⟩, ⟨3, 1, .w1c⟩, ⟨4, 1, .w1c⟩, ⟨5, 1, .w1c⟩, ⟨6, 1, .w1c⟩, ⟨7, 1, .w1c⟩, ⟨8, 1, .w1c⟩, ⟨9, 1, .w1c⟩, ⟨10, 1, .w1c⟩, ⟨11, 1, .w1c⟩]⟩
def F.CHN_EVT.POOL_LOW : Fld := ⟨R.CHN_EVT, 0, 1⟩
def F.CHN_EVT.MC_SHORT : Fld := ⟨R.CHN_EVT, 1, 1⟩
def F.CHN_EVT.MC_STRIKE : Fld := ⟨R.CHN_EVT, 2, 1⟩
def F.CHN_EVT.MC_TIMEOUT : Fld := ⟨R.CHN_EVT, 3, 1⟩
def F.CHN_EVT.ECC_CE : Fld := ⟨R.CHN_EVT, 4, 1⟩
def F.CHN_EVT.ECC_UE : Fld := ⟨R.CHN_EVT, 5, 1⟩
def F.CHN_EVT.HEAD_UE : Fld := ⟨R.CHN_EVT, 6, 1⟩
def F.CHN_EVT.BANK_FAIL : Fld := ⟨R.CHN_EVT, 7, 1⟩
def F.CHN_EVT.ROT_CYCLE : Fld := ⟨R.CHN_EVT, 8, 1⟩
def F.CHN_EVT.DRAIN_LATE : Fld := ⟨R.CHN_EVT, 9, 1⟩
def F.CHN_EVT.NULLIFY : Fld := ⟨R.CHN_EVT, 10, 1⟩
def F.CHN_EVT.RES_CUT : Fld := ⟨R.CHN_EVT, 11, 1⟩

/-- `CHN_EVT_EN`, COLD. -/
def R.CHN_EVT_EN : RegDesc := ⟨0x100000C, 0x0, 1, 0x0, 1, .cold, .plain, fun _ => 0x4E8,
  [⟨0, 1, .rw⟩, ⟨1, 1, .rw⟩, ⟨2, 1, .rw⟩, ⟨3, 1, .rw⟩, ⟨4, 1, .rw⟩, ⟨5, 1, .rw⟩, ⟨6, 1, .rw⟩, ⟨7, 1, .rw⟩, ⟨8, 1, .rw⟩, ⟨9, 1, .rw⟩, ⟨10, 1, .rw⟩, ⟨11, 1, .rw⟩]⟩
def F.CHN_EVT_EN.POOL_LOW : Fld := ⟨R.CHN_EVT_EN, 0, 1⟩
def F.CHN_EVT_EN.MC_SHORT : Fld := ⟨R.CHN_EVT_EN, 1, 1⟩
def F.CHN_EVT_EN.MC_STRIKE : Fld := ⟨R.CHN_EVT_EN, 2, 1⟩
def F.CHN_EVT_EN.MC_TIMEOUT : Fld := ⟨R.CHN_EVT_EN, 3, 1⟩
def F.CHN_EVT_EN.ECC_CE : Fld := ⟨R.CHN_EVT_EN, 4, 1⟩
def F.CHN_EVT_EN.ECC_UE : Fld := ⟨R.CHN_EVT_EN, 5, 1⟩
def F.CHN_EVT_EN.HEAD_UE : Fld := ⟨R.CHN_EVT_EN, 6, 1⟩
def F.CHN_EVT_EN.BANK_FAIL : Fld := ⟨R.CHN_EVT_EN, 7, 1⟩
def F.CHN_EVT_EN.ROT_CYCLE : Fld := ⟨R.CHN_EVT_EN, 8, 1⟩
def F.CHN_EVT_EN.DRAIN_LATE : Fld := ⟨R.CHN_EVT_EN, 9, 1⟩
def F.CHN_EVT_EN.NULLIFY : Fld := ⟨R.CHN_EVT_EN, 10, 1⟩
def F.CHN_EVT_EN.RES_CUT : Fld := ⟨R.CHN_EVT_EN, 11, 1⟩

/-- `CHN_POOL_FREE`, WARM. -/
def R.CHN_POOL_FREE : RegDesc := ⟨0x1000010, 0x0, 1, 0x0, 1, .warm, .plain, fun _ => 0,
  [⟨0, 19, .ro⟩]⟩
def F.CHN_POOL_FREE.FREE_CURDS : Fld := ⟨R.CHN_POOL_FREE, 0, 19⟩

/-- `CHN_HEAD_FREE`, WARM. -/
def R.CHN_HEAD_FREE : RegDesc := ⟨0x1000014, 0x0, 1, 0x0, 1, .warm, .plain, fun _ => 0,
  [⟨0, 18, .ro⟩]⟩
def F.CHN_HEAD_FREE.FREE : Fld := ⟨R.CHN_HEAD_FREE, 0, 18⟩

/-- `CHN_SHARED_SIZE`, WARM. -/
def R.CHN_SHARED_SIZE : RegDesc := ⟨0x1000018, 0x0, 1, 0x0, 1, .warm, .plain, fun _ => 0,
  [⟨0, 19, .ro⟩]⟩
def F.CHN_SHARED_SIZE.SIZE : Fld := ⟨R.CHN_SHARED_SIZE, 0, 19⟩

/-- `CHN_SHARED_HEADS`, WARM. -/
def R.CHN_SHARED_HEADS : RegDesc := ⟨0x100001C, 0x0, 1, 0x0, 1, .warm, .plain, fun _ => 0,
  [⟨0, 18, .ro⟩]⟩
def F.CHN_SHARED_HEADS.HEADS : Fld := ⟨R.CHN_SHARED_HEADS, 0, 18⟩

/-- `CHN_POOL_WM`, COLD. -/
def R.CHN_POOL_WM : RegDesc := ⟨0x1000020, 0x0, 1, 0x0, 1, .cold, .plain, fun _ => 0x10000,
  [⟨0, 19, .co⟩]⟩
def F.CHN_POOL_WM.WM : Fld := ⟨R.CHN_POOL_WM, 0, 19⟩

/-- `CHN_ESC_CFG`, COLD. -/
def R.CHN_ESC_CFG : RegDesc := ⟨0x1000024, 0x0, 1, 0x0, 1, .cold, .plain, fun _ => 0x20002000,
  [⟨0, 16, .co⟩, ⟨16, 16, .co⟩]⟩
def F.CHN_ESC_CFG.ESC_CURDS : Fld := ⟨R.CHN_ESC_CFG, 0, 16⟩
def F.CHN_ESC_CFG.ESC_HEADS : Fld := ⟨R.CHN_ESC_CFG, 16, 16⟩

/-- `CHN_ESC_FREE`, WARM. -/
def R.CHN_ESC_FREE : RegDesc := ⟨0x1000028, 0x0, 1, 0x0, 1, .warm, .plain, fun _ => 0,
  [⟨0, 16, .ro⟩, ⟨16, 16, .ro⟩]⟩
def F.CHN_ESC_FREE.CURDS : Fld := ⟨R.CHN_ESC_FREE, 0, 16⟩
def F.CHN_ESC_FREE.HEADS : Fld := ⟨R.CHN_ESC_FREE, 16, 16⟩

/-- `CHN_MC_CFG`, COLD. -/
def R.CHN_MC_CFG : RegDesc := ⟨0x1000030, 0x0, 1, 0x0, 1, .cold, .plain, fun _ => 0x808,
  [⟨0, 6, .co⟩, ⟨8, 6, .co⟩]⟩
def F.CHN_MC_CFG.POOL_UNITS : Fld := ⟨R.CHN_MC_CFG, 0, 6⟩
def F.CHN_MC_CFG.HEAD_UNITS : Fld := ⟨R.CHN_MC_CFG, 8, 6⟩

/-- `CHN_MC_TIMER`, COLD. -/
def R.CHN_MC_TIMER : RegDesc := ⟨0x1000034, 0x0, 1, 0x0, 1, .cold, .plain, fun _ => 0,
  [⟨0, 17, .co⟩]⟩
def F.CHN_MC_TIMER.TIMER_US : Fld := ⟨R.CHN_MC_TIMER, 0, 17⟩

/-- `CHN_MC_FREE`, WARM. -/
def R.CHN_MC_FREE : RegDesc := ⟨0x1000038, 0x0, 1, 0x0, 1, .warm, .plain, fun _ => 0,
  [⟨0, 18, .ro⟩]⟩
def F.CHN_MC_FREE.FREE : Fld := ⟨R.CHN_MC_FREE, 0, 18⟩

/-- `CHN_MC_HEADS_FREE`, WARM. -/
def R.CHN_MC_HEADS_FREE : RegDesc := ⟨0x100003C, 0x0, 1, 0x0, 1, .warm, .plain, fun _ => 0,
  [⟨0, 16, .ro⟩]⟩
def F.CHN_MC_HEADS_FREE.FREE : Fld := ⟨R.CHN_MC_HEADS_FREE, 0, 16⟩

/-- `CHN_MC_STRIKE_CNT`, WARM. -/
def R.CHN_MC_STRIKE_CNT : RegDesc := ⟨0x1000040, 0x0, 1, 0x0, 1, .warm, .sat (some (0x10000FC, 0)), fun _ => 0,
  [⟨0, 32, .ro⟩]⟩
def F.CHN_MC_STRIKE_CNT.V : Fld := ⟨R.CHN_MC_STRIKE_CNT, 0, 32⟩

/-- `CHN_MC_TIMEOUT_CNT`, WARM. -/
def R.CHN_MC_TIMEOUT_CNT : RegDesc := ⟨0x1000044, 0x0, 1, 0x0, 1, .warm, .sat (some (0x10000FC, 1)), fun _ => 0,
  [⟨0, 32, .ro⟩]⟩
def F.CHN_MC_TIMEOUT_CNT.V : Fld := ⟨R.CHN_MC_TIMEOUT_CNT, 0, 32⟩

/-- `CHN_MC_STALL_CNT`, WARM. -/
def R.CHN_MC_STALL_CNT : RegDesc := ⟨0x1000048, 0x0, 1, 0x0, 1, .warm, .sat (some (0x10000FC, 2)), fun _ => 0,
  [⟨0, 32, .ro⟩]⟩
def F.CHN_MC_STALL_CNT.V : Fld := ⟨R.CHN_MC_STALL_CNT, 0, 32⟩

/-- `CHN_ROT_CTRL`, COLD. -/
def R.CHN_ROT_CTRL : RegDesc := ⟨0x1000050, 0x0, 1, 0x0, 1, .cold, .plain, fun _ => 0x4064029,
  [⟨0, 1, .co⟩, ⟨1, 1, .co⟩, ⟨2, 10, .co⟩, ⟨12, 8, .co⟩, ⟨20, 8, .co⟩]⟩
def F.CHN_ROT_CTRL.ENABLE : Fld := ⟨R.CHN_ROT_CTRL, 0, 1⟩
def F.CHN_ROT_CTRL.ROT_AFTER_FAIL : Fld := ⟨R.CHN_ROT_CTRL, 1, 1⟩
def F.CHN_ROT_CTRL.INTERVAL_MS : Fld := ⟨R.CHN_ROT_CTRL, 2, 10⟩
def F.CHN_ROT_CTRL.DRAIN_US : Fld := ⟨R.CHN_ROT_CTRL, 12, 8⟩
def F.CHN_ROT_CTRL.CE_LIMIT : Fld := ⟨R.CHN_ROT_CTRL, 20, 8⟩

/-- `CHN_ROT_STATUS`, WARM. -/
def R.CHN_ROT_STATUS : RegDesc := ⟨0x1000054, 0x0, 1, 0x0, 1, .warm, .plain, fun _ => 0,
  [⟨0, 8, .ro⟩, ⟨8, 8, .ro⟩, ⟨16, 3, .ro⟩, ⟨19, 1, .ro⟩, ⟨20, 4, .ro⟩]⟩
def F.CHN_ROT_STATUS.SPARE_BANK : Fld := ⟨R.CHN_ROT_STATUS, 0, 8⟩
def F.CHN_ROT_STATUS.STEP_BANK : Fld := ⟨R.CHN_ROT_STATUS, 8, 8⟩
def F.CHN_ROT_STATUS.STEP_STATE : Fld := ⟨R.CHN_ROT_STATUS, 16, 3⟩
def F.CHN_ROT_STATUS.SPARE_VALID : Fld := ⟨R.CHN_ROT_STATUS, 19, 1⟩
def F.CHN_ROT_STATUS.FAILED_BANKS : Fld := ⟨R.CHN_ROT_STATUS, 20, 4⟩

/-- `CHN_ROT_CYCLE_CNT`, WARM. -/
def R.CHN_ROT_CYCLE_CNT : RegDesc := ⟨0x1000058, 0x0, 1, 0x0, 1, .warm, .sat (some (0x10000FC, 3)), fun _ => 0,
  [⟨0, 32, .ro⟩]⟩
def F.CHN_ROT_CYCLE_CNT.V : Fld := ⟨R.CHN_ROT_CYCLE_CNT, 0, 32⟩

/-- `CHN_ECC_CE_CNT`, WARM. -/
def R.CHN_ECC_CE_CNT : RegDesc := ⟨0x1000060, 0x0, 1, 0x0, 1, .warm, .sat (some (0x10000FC, 4)), fun _ => 0,
  [⟨0, 32, .ro⟩]⟩
def F.CHN_ECC_CE_CNT.V : Fld := ⟨R.CHN_ECC_CE_CNT, 0, 32⟩

/-- `CHN_ECC_UE_CNT`, WARM. -/
def R.CHN_ECC_UE_CNT : RegDesc := ⟨0x1000064, 0x0, 1, 0x0, 1, .warm, .sat (some (0x10000FC, 5)), fun _ => 0,
  [⟨0, 32, .ro⟩]⟩
def F.CHN_ECC_UE_CNT.V : Fld := ⟨R.CHN_ECC_UE_CNT, 0, 32⟩

/-- `CHN_ECC_FIRST_UE`, WARM. -/
def R.CHN_ECC_FIRST_UE : RegDesc := ⟨0x1000068, 0x0, 1, 0x0, 1, .warm, .plain, fun _ => 0,
  [⟨0, 8, .ro⟩, ⟨8, 13, .ro⟩, ⟨31, 1, .ro⟩]⟩
def F.CHN_ECC_FIRST_UE.BANK : Fld := ⟨R.CHN_ECC_FIRST_UE, 0, 8⟩
def F.CHN_ECC_FIRST_UE.ROW : Fld := ⟨R.CHN_ECC_FIRST_UE, 8, 13⟩
def F.CHN_ECC_FIRST_UE.VALID : Fld := ⟨R.CHN_ECC_FIRST_UE, 31, 1⟩

/-- `CHN_HEAD_CE_CNT`, WARM. -/
def R.CHN_HEAD_CE_CNT : RegDesc := ⟨0x1000070, 0x0, 1, 0x0, 1, .warm, .sat (some (0x10000FC, 6)), fun _ => 0,
  [⟨0, 32, .ro⟩]⟩
def F.CHN_HEAD_CE_CNT.V : Fld := ⟨R.CHN_HEAD_CE_CNT, 0, 32⟩

/-- `CHN_HEAD_UE_CNT`, WARM. -/
def R.CHN_HEAD_UE_CNT : RegDesc := ⟨0x1000074, 0x0, 1, 0x0, 1, .warm, .sat (some (0x10000FC, 7)), fun _ => 0,
  [⟨0, 32, .ro⟩]⟩
def F.CHN_HEAD_UE_CNT.V : Fld := ⟨R.CHN_HEAD_UE_CNT, 0, 32⟩

/-- `CHN_NULLIFY_CNT`, WARM. -/
def R.CHN_NULLIFY_CNT : RegDesc := ⟨0x1000078, 0x0, 1, 0x0, 1, .warm, .sat (some (0x10000FC, 8)), fun _ => 0,
  [⟨0, 32, .ro⟩]⟩
def F.CHN_NULLIFY_CNT.V : Fld := ⟨R.CHN_NULLIFY_CNT, 0, 32⟩

/-- `CHN_MIG_WORDS_LO`, WARM. -/
def R.CHN_MIG_WORDS_LO : RegDesc := ⟨0x1000080, 0x0, 1, 0x0, 1, .warm, .statLo, fun _ => 0,
  [⟨0, 32, .ro⟩]⟩
def F.CHN_MIG_WORDS_LO.V : Fld := ⟨R.CHN_MIG_WORDS_LO, 0, 32⟩

/-- `CHN_MIG_WORDS_HI`, WARM. -/
def R.CHN_MIG_WORDS_HI : RegDesc := ⟨0x1000084, 0x0, 1, 0x0, 1, .warm, .statHi, fun _ => 0,
  [⟨0, 32, .ro⟩]⟩
def F.CHN_MIG_WORDS_HI.V : Fld := ⟨R.CHN_MIG_WORDS_HI, 0, 32⟩

/-- `CHN_SF_PKTS_LO`, WARM. -/
def R.CHN_SF_PKTS_LO : RegDesc := ⟨0x1000088, 0x0, 1, 0x0, 1, .warm, .statLo, fun _ => 0,
  [⟨0, 32, .ro⟩]⟩
def F.CHN_SF_PKTS_LO.V : Fld := ⟨R.CHN_SF_PKTS_LO, 0, 32⟩

/-- `CHN_SF_PKTS_HI`, WARM. -/
def R.CHN_SF_PKTS_HI : RegDesc := ⟨0x100008C, 0x0, 1, 0x0, 1, .warm, .statHi, fun _ => 0,
  [⟨0, 32, .ro⟩]⟩
def F.CHN_SF_PKTS_HI.V : Fld := ⟨R.CHN_SF_PKTS_HI, 0, 32⟩

/-- `CHN_CNT_OVF`, WARM. -/
def R.CHN_CNT_OVF : RegDesc := ⟨0x10000FC, 0x0, 1, 0x0, 1, .warm, .plain, fun _ => 0,
  [⟨0, 32, .w1c⟩]⟩
def F.CHN_CNT_OVF.V : Fld := ⟨R.CHN_CNT_OVF, 0, 32⟩

/-- `CHN_BANK_STATE`, WARM. -/
def R.CHN_BANK_STATE : RegDesc := ⟨0x1001000, 0x0, 1, 0x4, 256, .warm, .plain, fun _ => 0,
  [⟨0, 3, .ro⟩, ⟨3, 1, .ro⟩, ⟨4, 1, .ro⟩, ⟨5, 14, .ro⟩]⟩
def F.CHN_BANK_STATE.STATE : Fld := ⟨R.CHN_BANK_STATE, 0, 3⟩
def F.CHN_BANK_STATE.UE_SEEN : Fld := ⟨R.CHN_BANK_STATE, 3, 1⟩
def F.CHN_BANK_STATE.CE_LIMIT_HIT : Fld := ⟨R.CHN_BANK_STATE, 4, 1⟩
def F.CHN_BANK_STATE.WORDS_LIVE : Fld := ⟨R.CHN_BANK_STATE, 5, 14⟩

/-- `CHN_BANK_CE_CNT`, WARM. -/
def R.CHN_BANK_CE_CNT : RegDesc := ⟨0x1001400, 0x0, 1, 0x4, 256, .warm, .sat (some (0x10000FC, 9)), fun _ => 0,
  [⟨0, 32, .ro⟩]⟩
def F.CHN_BANK_CE_CNT.V : Fld := ⟨R.CHN_BANK_CE_CNT, 0, 32⟩

/-- `CHN_PORT_CFG`, COLD. -/
def R.CHN_PORT_CFG : RegDesc := ⟨0x1002000, 0x0, 1, 0x20, 144, .cold, .plain, fun _ => 0x320A,
  [⟨0, 3, .co⟩, ⟨3, 1, .co⟩, ⟨4, 14, .co⟩]⟩
def F.CHN_PORT_CFG.ALPHA : Fld := ⟨R.CHN_PORT_CFG, 0, 3⟩
def F.CHN_PORT_CFG.AUTO_RES : Fld := ⟨R.CHN_PORT_CFG, 3, 1⟩
def F.CHN_PORT_CFG.RT_NS : Fld := ⟨R.CHN_PORT_CFG, 4, 14⟩

/-- `CHN_PORT_RES`, WARM. -/
def R.CHN_PORT_RES : RegDesc := ⟨0x1002004, 0x0, 1, 0x20, 144, .warm, .plain, fun _ => 0,
  [⟨0, 16, .co⟩, ⟨16, 16, .co⟩]⟩
def F.CHN_PORT_RES.RES_CURDS : Fld := ⟨R.CHN_PORT_RES, 0, 16⟩
def F.CHN_PORT_RES.RES_HEADS : Fld := ⟨R.CHN_PORT_RES, 16, 16⟩

/-- `CHN_PORT_HELD`, WARM. -/
def R.CHN_PORT_HELD : RegDesc := ⟨0x1002008, 0x0, 1, 0x20, 144, .warm, .plain, fun _ => 0,
  [⟨0, 19, .ro⟩]⟩
def F.CHN_PORT_HELD.SHARED_CURDS : Fld := ⟨R.CHN_PORT_HELD, 0, 19⟩

/-- `CHN_PORT_HELD_H`, WARM. -/
def R.CHN_PORT_HELD_H : RegDesc := ⟨0x100200C, 0x0, 1, 0x20, 144, .warm, .plain, fun _ => 0,
  [⟨0, 18, .ro⟩]⟩
def F.CHN_PORT_HELD_H.HEADS : Fld := ⟨R.CHN_PORT_HELD_H, 0, 18⟩

/-- `CHN_PORT_STALL_CNT`, WARM. -/
def R.CHN_PORT_STALL_CNT : RegDesc := ⟨0x1002010, 0x0, 1, 0x20, 144, .warm, .sat (some (0x10000FC, 10)), fun _ => 0,
  [⟨0, 32, .ro⟩]⟩
def F.CHN_PORT_STALL_CNT.V : Fld := ⟨R.CHN_PORT_STALL_CNT, 0, 32⟩

/-- `CHN_PORT_SF_CNT`, WARM. -/
def R.CHN_PORT_SF_CNT : RegDesc := ⟨0x1002014, 0x0, 1, 0x20, 144, .warm, .sat (some (0x10000FC, 10)), fun _ => 0,
  [⟨0, 32, .ro⟩]⟩
def F.CHN_PORT_SF_CNT.V : Fld := ⟨R.CHN_PORT_SF_CNT, 0, 32⟩

/-! ## Registers of 04_composition.md -/

/-- `BND_GEN_CTRL`, WARM. -/
def R.BND_GEN_CTRL : RegDesc := ⟨0x1400010, 0x0, 1, 0x0, 1, .warm, .plain, fun _ => 0,
  [⟨0, 1, .rw⟩]⟩
def F.BND_GEN_CTRL.VIEW_SHADOW : Fld := ⟨R.BND_GEN_CTRL, 0, 1⟩

/-- `BND_GEN_STATUS`, WARM. -/
def R.BND_GEN_STATUS : RegDesc := ⟨0x1400014, 0x0, 1, 0x0, 1, .warm, .plain, fun _ => 0x80000,
  [⟨0, 16, .ro⟩, ⟨16, 1, .ro⟩, ⟨17, 1, .ro⟩, ⟨18, 1, .ro⟩, ⟨19, 1, .ro⟩, ⟨20, 2, .ro⟩]⟩
def F.BND_GEN_STATUS.ACTIVE_GEN : Fld := ⟨R.BND_GEN_STATUS, 0, 16⟩
def F.BND_GEN_STATUS.SHADOW_READY : Fld := ⟨R.BND_GEN_STATUS, 16, 1⟩
def F.BND_GEN_STATUS.SESSION_OPEN : Fld := ⟨R.BND_GEN_STATUS, 17, 1⟩
def F.BND_GEN_STATUS.SHADOW_DIRTY : Fld := ⟨R.BND_GEN_STATUS, 18, 1⟩
def F.BND_GEN_STATUS.QUIESCED : Fld := ⟨R.BND_GEN_STATUS, 19, 1⟩
def F.BND_GEN_STATUS.LAST_COMMIT : Fld := ⟨R.BND_GEN_STATUS, 20, 2⟩

/-- `BND_GEN_OLDER`, WARM. -/
def R.BND_GEN_OLDER : RegDesc := ⟨0x1400018, 0x0, 1, 0x0, 1, .warm, .plain, fun _ => 0,
  [⟨0, 19, .ro⟩]⟩
def F.BND_GEN_OLDER.OLDER : Fld := ⟨R.BND_GEN_OLDER, 0, 19⟩

/-- `BND_GEN_REJECT`, WARM. -/
def R.BND_GEN_REJECT : RegDesc := ⟨0x140001C, 0x0, 1, 0x0, 1, .warm, .plain, fun _ => 0,
  [⟨0, 3, .ro⟩, ⟨4, 16, .ro⟩, ⟨20, 4, .ro⟩]⟩
def F.BND_GEN_REJECT.TABLE : Fld := ⟨R.BND_GEN_REJECT, 0, 3⟩
def F.BND_GEN_REJECT.INDEX : Fld := ⟨R.BND_GEN_REJECT, 4, 16⟩
def F.BND_GEN_REJECT.REASON : Fld := ⟨R.BND_GEN_REJECT, 20, 4⟩

/-- `BND_EVT`, WARM. -/
def R.BND_EVT : RegDesc := ⟨0x1400020, 0x0, 1, 0x0, 1, .warm, .plain, fun _ => 0,
  [⟨0, 1, .w1c⟩, ⟨1, 1, .w1c⟩, ⟨2, 1, .w1c⟩, ⟨3, 1, .w1c⟩, ⟨4, 1, .w1c⟩, ⟨5, 1, .w1c⟩, ⟨6, 1, .w1c⟩, ⟨7, 1, .w1c⟩, ⟨8, 1, .w1c⟩, ⟨9, 1, .w1c⟩]⟩
def F.BND_EVT.COMMIT_DONE : Fld := ⟨R.BND_EVT, 0, 1⟩
def F.BND_EVT.COMMIT_REJECT : Fld := ⟨R.BND_EVT, 1, 1⟩
def F.BND_EVT.SESSION_TIMEOUT : Fld := ⟨R.BND_EVT, 2, 1⟩
def F.BND_EVT.QUIESCED : Fld := ⟨R.BND_EVT, 3, 1⟩
def F.BND_EVT.TRK_FULL : Fld := ⟨R.BND_EVT, 4, 1⟩
def F.BND_EVT.VH_RESET : Fld := ⟨R.BND_EVT, 5, 1⟩
def F.BND_EVT.IDE_REFUSED : Fld := ⟨R.BND_EVT, 6, 1⟩
def F.BND_EVT.PROXY_TIMEOUT : Fld := ⟨R.BND_EVT, 7, 1⟩
def F.BND_EVT.BIND_SUSPEND : Fld := ⟨R.BND_EVT, 8, 1⟩
def F.BND_EVT.NO_RESET : Fld := ⟨R.BND_EVT, 9, 1⟩

/-- `BND_EVT_EN`, COLD. -/
def R.BND_EVT_EN : RegDesc := ⟨0x1400024, 0x0, 1, 0x0, 1, .cold, .plain, fun _ => 0x3D6,
  [⟨0, 1, .rw⟩, ⟨1, 1, .rw⟩, ⟨2, 1, .rw⟩, ⟨3, 1, .rw⟩, ⟨4, 1, .rw⟩, ⟨5, 1, .rw⟩, ⟨6, 1, .rw⟩, ⟨7, 1, .rw⟩, ⟨8, 1, .rw⟩, ⟨9, 1, .rw⟩]⟩
def F.BND_EVT_EN.COMMIT_DONE : Fld := ⟨R.BND_EVT_EN, 0, 1⟩
def F.BND_EVT_EN.COMMIT_REJECT : Fld := ⟨R.BND_EVT_EN, 1, 1⟩
def F.BND_EVT_EN.SESSION_TIMEOUT : Fld := ⟨R.BND_EVT_EN, 2, 1⟩
def F.BND_EVT_EN.QUIESCED : Fld := ⟨R.BND_EVT_EN, 3, 1⟩
def F.BND_EVT_EN.TRK_FULL : Fld := ⟨R.BND_EVT_EN, 4, 1⟩
def F.BND_EVT_EN.VH_RESET : Fld := ⟨R.BND_EVT_EN, 5, 1⟩
def F.BND_EVT_EN.IDE_REFUSED : Fld := ⟨R.BND_EVT_EN, 6, 1⟩
def F.BND_EVT_EN.PROXY_TIMEOUT : Fld := ⟨R.BND_EVT_EN, 7, 1⟩
def F.BND_EVT_EN.BIND_SUSPEND : Fld := ⟨R.BND_EVT_EN, 8, 1⟩
def F.BND_EVT_EN.NO_RESET : Fld := ⟨R.BND_EVT_EN, 9, 1⟩

/-- `BND_TRK_TIMEOUT`, COLD. -/
def R.BND_TRK_TIMEOUT : RegDesc := ⟨0x1400030, 0x0, 1, 0x0, 1, .cold, .plain, fun _ => 0x3E8,
  [⟨0, 22, .co⟩]⟩
def F.BND_TRK_TIMEOUT.TIMEOUT_US : Fld := ⟨R.BND_TRK_TIMEOUT, 0, 22⟩

/-- `BND_TRK_USED`, WARM. -/
def R.BND_TRK_USED : RegDesc := ⟨0x1400034, 0x0, 1, 0x0, 1, .warm, .plain, fun _ => 0,
  [⟨0, 18, .ro⟩]⟩
def F.BND_TRK_USED.USED : Fld := ⟨R.BND_TRK_USED, 0, 18⟩

/-- `BND_TRK_HWM`, WARM. -/
def R.BND_TRK_HWM : RegDesc := ⟨0x1400038, 0x0, 1, 0x0, 1, .warm, .hwm, fun _ => 0,
  [⟨0, 18, .ro⟩]⟩
def F.BND_TRK_HWM.HWM : Fld := ⟨R.BND_TRK_HWM, 0, 18⟩

/-- `BND_TRK_STALL_CNT`, WARM. -/
def R.BND_TRK_STALL_CNT : RegDesc := ⟨0x1400040, 0x0, 1, 0x0, 1, .warm, .sat (some (0x14000FC, 0)), fun _ => 0,
  [⟨0, 32, .ro⟩]⟩
def F.BND_TRK_STALL_CNT.V : Fld := ⟨R.BND_TRK_STALL_CNT, 0, 32⟩

/-- `BND_IDE_REFUSED_CNT`, WARM. -/
def R.BND_IDE_REFUSED_CNT : RegDesc := ⟨0x1400044, 0x0, 1, 0x0, 1, .warm, .sat (some (0x14000FC, 1)), fun _ => 0,
  [⟨0, 32, .ro⟩]⟩
def F.BND_IDE_REFUSED_CNT.V : Fld := ⟨R.BND_IDE_REFUSED_CNT, 0, 32⟩

/-- `BND_UNCLAIMED_CNT`, WARM. -/
def R.BND_UNCLAIMED_CNT : RegDesc := ⟨0x1400048, 0x0, 1, 0x0, 1, .warm, .sat (some (0x14000FC, 2)), fun _ => 0,
  [⟨0, 32, .ro⟩]⟩
def F.BND_UNCLAIMED_CNT.V : Fld := ⟨R.BND_UNCLAIMED_CNT, 0, 32⟩

/-- `BND_CFG_PROXY_TO_CNT`, WARM. -/
def R.BND_CFG_PROXY_TO_CNT : RegDesc := ⟨0x140004C, 0x0, 1, 0x0, 1, .warm, .sat (some (0x14000FC, 3)), fun _ => 0,
  [⟨0, 32, .ro⟩]⟩
def F.BND_CFG_PROXY_TO_CNT.V : Fld := ⟨R.BND_CFG_PROXY_TO_CNT, 0, 32⟩

/-- `BND_WIN_SHADOWED_CNT`, WARM. -/
def R.BND_WIN_SHADOWED_CNT : RegDesc := ⟨0x1400050, 0x0, 1, 0x0, 1, .warm, .sat (some (0x14000FC, 4)), fun _ => 0,
  [⟨0, 32, .ro⟩]⟩
def F.BND_WIN_SHADOWED_CNT.V : Fld := ⟨R.BND_WIN_SHADOWED_CNT, 0, 32⟩

/-- `BND_CNT_OVF`, WARM. -/
def R.BND_CNT_OVF : RegDesc := ⟨0x14000FC, 0x0, 1, 0x0, 1, .warm, .plain, fun _ => 0,
  [⟨0, 32, .w1c⟩]⟩
def F.BND_CNT_OVF.V : Fld := ⟨R.BND_CNT_OVF, 0, 32⟩

/-- `BND_VH_STATUS`, WARM. -/
def R.BND_VH_STATUS : RegDesc := ⟨0x1401000, 0x0, 1, 0x20, 144, .warm, .plain, fun v => if v = 0 then 4 else 0,
  [⟨0, 2, .ro⟩, ⟨2, 1, .ro⟩, ⟨3, 7, .ro⟩, ⟨10, 7, .ro⟩]⟩
def F.BND_VH_STATUS.STATE : Fld := ⟨R.BND_VH_STATUS, 0, 2⟩
def F.BND_VH_STATUS.MGMT : Fld := ⟨R.BND_VH_STATUS, 2, 1⟩
def F.BND_VH_STATUS.VDSPS : Fld := ⟨R.BND_VH_STATUS, 3, 7⟩
def F.BND_VH_STATUS.BOUND : Fld := ⟨R.BND_VH_STATUS, 10, 7⟩

/-- `BND_VH_TAGS`, COLD. -/
def R.BND_VH_TAGS : RegDesc := ⟨0x1401004, 0x0, 1, 0x20, 144, .cold, .plain, fun _ => 0x80000100,
  [⟨0, 16, .co⟩, ⟨16, 16, .co⟩]⟩
def F.BND_VH_TAGS.MIN : Fld := ⟨R.BND_VH_TAGS, 0, 16⟩
def F.BND_VH_TAGS.MAX : Fld := ⟨R.BND_VH_TAGS, 16, 16⟩

/-- `BND_VH_TRK_USED`, WARM. -/
def R.BND_VH_TRK_USED : RegDesc := ⟨0x1401008, 0x0, 1, 0x20, 144, .warm, .plain, fun _ => 0,
  [⟨0, 18, .ro⟩]⟩
def F.BND_VH_TRK_USED.USED : Fld := ⟨R.BND_VH_TRK_USED, 0, 18⟩

/-- `BND_VH_BLOCKED_CNT`, WARM. -/
def R.BND_VH_BLOCKED_CNT : RegDesc := ⟨0x140100C, 0x0, 1, 0x20, 144, .warm, .sat (some (0x14000FC, 5)), fun _ => 0,
  [⟨0, 32, .ro⟩]⟩
def F.BND_VH_BLOCKED_CNT.V : Fld := ⟨R.BND_VH_BLOCKED_CNT, 0, 32⟩

/-- `BND_VH_RESET_CNT`, WARM. -/
def R.BND_VH_RESET_CNT : RegDesc := ⟨0x1401010, 0x0, 1, 0x20, 144, .warm, .sat (some (0x14000FC, 5)), fun _ => 0,
  [⟨0, 32, .ro⟩]⟩
def F.BND_VH_RESET_CNT.V : Fld := ⟨R.BND_VH_RESET_CNT, 0, 32⟩

/-- `BND_BIND_STATE`, WARM. -/
def R.BND_BIND_STATE : RegDesc := ⟨0x1450000, 0x0, 1, 0x4, 4096, .warm, .plain, fun _ => 0,
  [⟨0, 3, .ro⟩, ⟨3, 3, .ro⟩, ⟨6, 1, .ro⟩, ⟨16, 16, .ro⟩]⟩
def F.BND_BIND_STATE.STATE : Fld := ⟨R.BND_BIND_STATE, 0, 3⟩
def F.BND_BIND_STATE.SUSPEND_CAUSE : Fld := ⟨R.BND_BIND_STATE, 3, 3⟩
def F.BND_BIND_STATE.CFG_READY : Fld := ⟨R.BND_BIND_STATE, 6, 1⟩
def F.BND_BIND_STATE.TRK_USED : Fld := ⟨R.BND_BIND_STATE, 16, 16⟩

/-! ## Registers of 05_fabric.md -/

/-- `BND_FAB_CFG`, COLD. -/
def R.BND_FAB_CFG : RegDesc := ⟨0x1700000, 0x0, 1, 0x0, 1, .cold, .plain, fun _ => 0x20000,
  [⟨0, 12, .co⟩, ⟨12, 1, .co⟩, ⟨13, 1, .co⟩, ⟨14, 4, .co⟩, ⟨18, 1, .co⟩]⟩
def F.BND_FAB_CFG.FEID : Fld := ⟨R.BND_FAB_CFG, 0, 12⟩
def F.BND_FAB_CFG.LEAD_ELIG : Fld := ⟨R.BND_FAB_CFG, 12, 1⟩
def F.BND_FAB_CFG.ADMIT_SELF : Fld := ⟨R.BND_FAB_CFG, 13, 1⟩
def F.BND_FAB_CFG.HOP_LIMIT : Fld := ⟨R.BND_FAB_CFG, 14, 4⟩
def F.BND_FAB_CFG.PIN_ALL : Fld := ⟨R.BND_FAB_CFG, 18, 1⟩

/-- `BND_FAB_STATUS`, WARM. -/
def R.BND_FAB_STATUS : RegDesc := ⟨0x1700004, 0x0, 1, 0x0, 1, .warm, .plain, fun _ => 0,
  [⟨0, 3, .ro⟩, ⟨3, 1, .ro⟩, ⟨4, 12, .ro⟩, ⟨16, 12, .ro⟩, ⟨28, 1, .ro⟩, ⟨29, 1, .ro⟩]⟩
def F.BND_FAB_STATUS.STATE : Fld := ⟨R.BND_FAB_STATUS, 0, 3⟩
def F.BND_FAB_STATUS.FEID_VALID : Fld := ⟨R.BND_FAB_STATUS, 3, 1⟩
def F.BND_FAB_STATUS.FEID_NOW : Fld := ⟨R.BND_FAB_STATUS, 4, 12⟩
def F.BND_FAB_STATUS.LEAD_FEID : Fld := ⟨R.BND_FAB_STATUS, 16, 12⟩
def F.BND_FAB_STATUS.LEAD_KNOWN : Fld := ⟨R.BND_FAB_STATUS, 28, 1⟩
def F.BND_FAB_STATUS.ADMITTED : Fld := ⟨R.BND_FAB_STATUS, 29, 1⟩

/-- `BND_FAB_LEAD_INFO`, WARM. -/
def R.BND_FAB_LEAD_INFO : RegDesc := ⟨0x1700008, 0x0, 1, 0x0, 1, .warm, .plain, fun _ => 0,
  [⟨0, 16, .ro⟩, ⟨16, 7, .ro⟩]⟩
def F.BND_FAB_LEAD_INFO.TERM : Fld := ⟨R.BND_FAB_LEAD_INFO, 0, 16⟩
def F.BND_FAB_LEAD_INFO.MEMBERS : Fld := ⟨R.BND_FAB_LEAD_INFO, 16, 7⟩

/-- `BND_FAB_EVT`, WARM. -/
def R.BND_FAB_EVT : RegDesc := ⟨0x1700010, 0x0, 1, 0x0, 1, .warm, .plain, fun _ => 0,
  [⟨0, 1, .w1c⟩, ⟨1, 1, .w1c⟩, ⟨2, 1, .w1c⟩, ⟨3, 1, .w1c⟩, ⟨4, 1, .w1c⟩, ⟨5, 1, .w1c⟩, ⟨6, 1, .w1c⟩, ⟨7, 1, .w1c⟩, ⟨8, 1, .w1c⟩, ⟨9, 1, .w1c⟩, ⟨10, 1, .w1c⟩, ⟨11, 1, .w1c⟩, ⟨12, 1, .w1c⟩, ⟨13, 1, .w1c⟩, ⟨14, 1, .w1c⟩, ⟨15, 1, .w1c⟩]⟩
def F.BND_FAB_EVT.LEAD_CHANGE : Fld := ⟨R.BND_FAB_EVT, 0, 1⟩
def F.BND_FAB_EVT.JOIN_REFUSED : Fld := ⟨R.BND_FAB_EVT, 1, 1⟩
def F.BND_FAB_EVT.SELF_REFUSED : Fld := ⟨R.BND_FAB_EVT, 2, 1⟩
def F.BND_FAB_EVT.FEID_DUP : Fld := ⟨R.BND_FAB_EVT, 3, 1⟩
def F.BND_FAB_EVT.HB_LOST : Fld := ⟨R.BND_FAB_EVT, 4, 1⟩
def F.BND_FAB_EVT.HOP_MASKED : Fld := ⟨R.BND_FAB_EVT, 5, 1⟩
def F.BND_FAB_EVT.UNREACH : Fld := ⟨R.BND_FAB_EVT, 6, 1⟩
def F.BND_FAB_EVT.HOP_LIMIT : Fld := ⟨R.BND_FAB_EVT, 7, 1⟩
def F.BND_FAB_EVT.DATELINE_BLOCK : Fld := ⟨R.BND_FAB_EVT, 8, 1⟩
def F.BND_FAB_EVT.FLOW_PINNED : Fld := ⟨R.BND_FAB_EVT, 9, 1⟩
def F.BND_FAB_EVT.RESEQ_HOLE : Fld := ⟨R.BND_FAB_EVT, 10, 1⟩
def F.BND_FAB_EVT.RESEQ_LATE : Fld := ⟨R.BND_FAB_EVT, 11, 1⟩
def F.BND_FAB_EVT.SKEW_EXC : Fld := ⟨R.BND_FAB_EVT, 12, 1⟩
def F.BND_FAB_EVT.PIN_HOLD : Fld := ⟨R.BND_FAB_EVT, 13, 1⟩
def F.BND_FAB_EVT.PIN_DROP : Fld := ⟨R.BND_FAB_EVT, 14, 1⟩
def F.BND_FAB_EVT.PEER_AUTHORITY : Fld := ⟨R.BND_FAB_EVT, 15, 1⟩

/-- `BND_FAB_EVT_EN`, COLD. -/
def R.BND_FAB_EVT_EN : RegDesc := ⟨0x1700014, 0x0, 1, 0x0, 1, .cold, .plain, fun _ => 0xEDFF,
  [⟨0, 1, .rw⟩, ⟨1, 1, .rw⟩, ⟨2, 1, .rw⟩, ⟨3, 1, .rw⟩, ⟨4, 1, .rw⟩, ⟨5, 1, .rw⟩, ⟨6, 1, .rw⟩, ⟨7, 1, .rw⟩, ⟨8, 1, .rw⟩, ⟨9, 1, .rw⟩, ⟨10, 1, .rw⟩, ⟨11, 1, .rw⟩, ⟨12, 1, .rw⟩, ⟨13, 1, .rw⟩, ⟨14, 1, .rw⟩, ⟨15, 1, .rw⟩]⟩
def F.BND_FAB_EVT_EN.LEAD_CHANGE : Fld := ⟨R.BND_FAB_EVT_EN, 0, 1⟩
def F.BND_FAB_EVT_EN.JOIN_REFUSED : Fld := ⟨R.BND_FAB_EVT_EN, 1, 1⟩
def F.BND_FAB_EVT_EN.SELF_REFUSED : Fld := ⟨R.BND_FAB_EVT_EN, 2, 1⟩
def F.BND_FAB_EVT_EN.FEID_DUP : Fld := ⟨R.BND_FAB_EVT_EN, 3, 1⟩
def F.BND_FAB_EVT_EN.HB_LOST : Fld := ⟨R.BND_FAB_EVT_EN, 4, 1⟩
def F.BND_FAB_EVT_EN.HOP_MASKED : Fld := ⟨R.BND_FAB_EVT_EN, 5, 1⟩
def F.BND_FAB_EVT_EN.UNREACH : Fld := ⟨R.BND_FAB_EVT_EN, 6, 1⟩
def F.BND_FAB_EVT_EN.HOP_LIMIT : Fld := ⟨R.BND_FAB_EVT_EN, 7, 1⟩
def F.BND_FAB_EVT_EN.DATELINE_BLOCK : Fld := ⟨R.BND_FAB_EVT_EN, 8, 1⟩
def F.BND_FAB_EVT_EN.FLOW_PINNED : Fld := ⟨R.BND_FAB_EVT_EN, 9, 1⟩
def F.BND_FAB_EVT_EN.RESEQ_HOLE : Fld := ⟨R.BND_FAB_EVT_EN, 10, 1⟩
def F.BND_FAB_EVT_EN.RESEQ_LATE : Fld := ⟨R.BND_FAB_EVT_EN, 11, 1⟩
def F.BND_FAB_EVT_EN.SKEW_EXC : Fld := ⟨R.BND_FAB_EVT_EN, 12, 1⟩
def F.BND_FAB_EVT_EN.PIN_HOLD : Fld := ⟨R.BND_FAB_EVT_EN, 13, 1⟩
def F.BND_FAB_EVT_EN.PIN_DROP : Fld := ⟨R.BND_FAB_EVT_EN, 14, 1⟩
def F.BND_FAB_EVT_EN.PEER_AUTHORITY : Fld := ⟨R.BND_FAB_EVT_EN, 15, 1⟩

/-- `BND_FAB_TIMERS`, COLD. -/
def R.BND_FAB_TIMERS : RegDesc := ⟨0x1700018, 0x0, 1, 0x0, 1, .cold, .plain, fun _ => 0x50C0A,
  [⟨0, 10, .co⟩, ⟨10, 4, .co⟩, ⟨14, 10, .co⟩]⟩
def F.BND_FAB_TIMERS.HB : Fld := ⟨R.BND_FAB_TIMERS, 0, 10⟩
def F.BND_FAB_TIMERS.HB_MISS : Fld := ⟨R.BND_FAB_TIMERS, 10, 4⟩
def F.BND_FAB_TIMERS.SETTLE : Fld := ⟨R.BND_FAB_TIMERS, 14, 10⟩

/-- `BND_FAB_RESEQ_CFG`, COLD. -/
def R.BND_FAB_RESEQ_CFG : RegDesc := ⟨0x170001C, 0x0, 1, 0x0, 1, .cold, .plain, fun _ => 0x5032032,
  [⟨0, 12, .co⟩, ⟨12, 10, .co⟩, ⟨22, 8, .co⟩]⟩
def F.BND_FAB_RESEQ_CFG.SKEW : Fld := ⟨R.BND_FAB_RESEQ_CFG, 0, 12⟩
def F.BND_FAB_RESEQ_CFG.HOLE : Fld := ⟨R.BND_FAB_RESEQ_CFG, 12, 10⟩
def F.BND_FAB_RESEQ_CFG.IDLE : Fld := ⟨R.BND_FAB_RESEQ_CFG, 22, 8⟩

/-- `BND_FAB_HOLD_CFG`, COLD. -/
def R.BND_FAB_HOLD_CFG : RegDesc := ⟨0x1700020, 0x0, 1, 0x0, 1, .cold, .plain, fun _ => 0xA19064,
  [⟨0, 10, .co⟩, ⟨10, 10, .co⟩, ⟨20, 6, .co⟩]⟩
def F.BND_FAB_HOLD_CFG.UNREACH_HOLD : Fld := ⟨R.BND_FAB_HOLD_CFG, 0, 10⟩
def F.BND_FAB_HOLD_CFG.PIN_SETTLE : Fld := ⟨R.BND_FAB_HOLD_CFG, 10, 10⟩
def F.BND_FAB_HOLD_CFG.FLOW_RETRY : Fld := ⟨R.BND_FAB_HOLD_CFG, 20, 6⟩

/-- `BND_FAB_LINK_LIVE0`, WARM. -/
def R.BND_FAB_LINK_LIVE0 : RegDesc := ⟨0x1700030, 0x0, 1, 0x0, 1, .warm, .plain, fun _ => 0,
  [⟨0, 32, .ro⟩]⟩
def F.BND_FAB_LINK_LIVE0.LIVE : Fld := ⟨R.BND_FAB_LINK_LIVE0, 0, 32⟩

/-- `BND_FAB_LINK_LIVE1`, WARM. -/
def R.BND_FAB_LINK_LIVE1 : RegDesc := ⟨0x1700034, 0x0, 1, 0x0, 1, .warm, .plain, fun _ => 0,
  [⟨0, 32, .ro⟩]⟩
def F.BND_FAB_LINK_LIVE1.LIVE : Fld := ⟨R.BND_FAB_LINK_LIVE1, 0, 32⟩

/-- `BND_FAB_LINK_LIVE2`, WARM. -/
def R.BND_FAB_LINK_LIVE2 : RegDesc := ⟨0x1700038, 0x0, 1, 0x0, 1, .warm, .plain, fun _ => 0,
  [⟨0, 8, .ro⟩]⟩
def F.BND_FAB_LINK_LIVE2.LIVE : Fld := ⟨R.BND_FAB_LINK_LIVE2, 0, 8⟩

/-- `BND_FAB_FLOWS_USED`, WARM. -/
def R.BND_FAB_FLOWS_USED : RegDesc := ⟨0x1700040, 0x0, 1, 0x0, 1, .warm, .plain, fun _ => 0,
  [⟨0, 13, .ro⟩]⟩
def F.BND_FAB_FLOWS_USED.USED : Fld := ⟨R.BND_FAB_FLOWS_USED, 0, 13⟩

/-- `BND_FAB_FLOWS_HWM`, WARM. -/
def R.BND_FAB_FLOWS_HWM : RegDesc := ⟨0x1700044, 0x0, 1, 0x0, 1, .warm, .hwm, fun _ => 0,
  [⟨0, 13, .ro⟩]⟩
def F.BND_FAB_FLOWS_HWM.HWM : Fld := ⟨R.BND_FAB_FLOWS_HWM, 0, 13⟩

/-- `BND_FAB_SENDS_USED`, WARM. -/
def R.BND_FAB_SENDS_USED : RegDesc := ⟨0x1700048, 0x0, 1, 0x0, 1, .warm, .plain, fun _ => 0,
  [⟨0, 13, .ro⟩]⟩
def F.BND_FAB_SENDS_USED.USED : Fld := ⟨R.BND_FAB_SENDS_USED, 0, 13⟩

/-- `BND_FAB_FLOW_PINNED_CNT`, WARM. -/
def R.BND_FAB_FLOW_PINNED_CNT : RegDesc := ⟨0x1700050, 0x0, 1, 0x0, 1, .warm, .sat (some (0x17000FC, 0)), fun _ => 0,
  [⟨0, 32, .ro⟩]⟩
def F.BND_FAB_FLOW_PINNED_CNT.V : Fld := ⟨R.BND_FAB_FLOW_PINNED_CNT, 0, 32⟩

/-- `BND_FAB_FLOW_DENY_CNT`, WARM. -/
def R.BND_FAB_FLOW_DENY_CNT : RegDesc := ⟨0x1700054, 0x0, 1, 0x0, 1, .warm, .sat (some (0x17000FC, 1)), fun _ => 0,
  [⟨0, 32, .ro⟩]⟩
def F.BND_FAB_FLOW_DENY_CNT.V : Fld := ⟨R.BND_FAB_FLOW_DENY_CNT, 0, 32⟩

/-- `BND_FAB_RESEQ_HOLE_CNT`, WARM. -/
def R.BND_FAB_RESEQ_HOLE_CNT : RegDesc := ⟨0x1700058, 0x0, 1, 0x0, 1, .warm, .sat (some (0x17000FC, 2)), fun _ => 0,
  [⟨0, 32, .ro⟩]⟩
def F.BND_FAB_RESEQ_HOLE_CNT.V : Fld := ⟨R.BND_FAB_RESEQ_HOLE_CNT, 0, 32⟩

/-- `BND_FAB_RESEQ_LATE_CNT`, WARM. -/
def R.BND_FAB_RESEQ_LATE_CNT : RegDesc := ⟨0x170005C, 0x0, 1, 0x0, 1, .warm, .sat (some (0x17000FC, 3)), fun _ => 0,
  [⟨0, 32, .ro⟩]⟩
def F.BND_FAB_RESEQ_LATE_CNT.V : Fld := ⟨R.BND_FAB_RESEQ_LATE_CNT, 0, 32⟩

/-- `BND_FAB_RESEQ_DUP_CNT`, WARM. -/
def R.BND_FAB_RESEQ_DUP_CNT : RegDesc := ⟨0x1700060, 0x0, 1, 0x0, 1, .warm, .sat (some (0x17000FC, 4)), fun _ => 0,
  [⟨0, 32, .ro⟩]⟩
def F.BND_FAB_RESEQ_DUP_CNT.V : Fld := ⟨R.BND_FAB_RESEQ_DUP_CNT, 0, 32⟩

/-- `BND_FAB_SKEW_EXC_CNT`, WARM. -/
def R.BND_FAB_SKEW_EXC_CNT : RegDesc := ⟨0x1700064, 0x0, 1, 0x0, 1, .warm, .sat (some (0x17000FC, 5)), fun _ => 0,
  [⟨0, 32, .ro⟩]⟩
def F.BND_FAB_SKEW_EXC_CNT.V : Fld := ⟨R.BND_FAB_SKEW_EXC_CNT, 0, 32⟩

/-- `BND_FAB_HOP_LIMIT_CNT`, WARM. -/
def R.BND_FAB_HOP_LIMIT_CNT : RegDesc := ⟨0x1700068, 0x0, 1, 0x0, 1, .warm, .sat (some (0x17000FC, 6)), fun _ => 0,
  [⟨0, 32, .ro⟩]⟩
def F.BND_FAB_HOP_LIMIT_CNT.V : Fld := ⟨R.BND_FAB_HOP_LIMIT_CNT, 0, 32⟩

/-- `BND_FAB_DATELINE_BLOCK_CNT`, WARM. -/
def R.BND_FAB_DATELINE_BLOCK_CNT : RegDesc := ⟨0x170006C, 0x0, 1, 0x0, 1, .warm, .sat (some (0x17000FC, 7)), fun _ => 0,
  [⟨0, 32, .ro⟩]⟩
def F.BND_FAB_DATELINE_BLOCK_CNT.V : Fld := ⟨R.BND_FAB_DATELINE_BLOCK_CNT, 0, 32⟩

/-- `BND_FAB_UNREACH_CNT`, WARM. -/
def R.BND_FAB_UNREACH_CNT : RegDesc := ⟨0x1700070, 0x0, 1, 0x0, 1, .warm, .sat (some (0x17000FC, 8)), fun _ => 0,
  [⟨0, 32, .ro⟩]⟩
def F.BND_FAB_UNREACH_CNT.V : Fld := ⟨R.BND_FAB_UNREACH_CNT, 0, 32⟩

/-- `BND_FAB_PIN_DROP_CNT`, WARM. -/
def R.BND_FAB_PIN_DROP_CNT : RegDesc := ⟨0x1700074, 0x0, 1, 0x0, 1, .warm, .sat (some (0x17000FC, 9)), fun _ => 0,
  [⟨0, 32, .ro⟩]⟩
def F.BND_FAB_PIN_DROP_CNT.V : Fld := ⟨R.BND_FAB_PIN_DROP_CNT, 0, 32⟩

/-- `BND_FAB_MASK_CNT`, WARM. -/
def R.BND_FAB_MASK_CNT : RegDesc := ⟨0x1700078, 0x0, 1, 0x0, 1, .warm, .sat (some (0x17000FC, 10)), fun _ => 0,
  [⟨0, 32, .ro⟩]⟩
def F.BND_FAB_MASK_CNT.V : Fld := ⟨R.BND_FAB_MASK_CNT, 0, 32⟩

/-- `BND_FAB_PIN_HOLD_CNT`, WARM. -/
def R.BND_FAB_PIN_HOLD_CNT : RegDesc := ⟨0x170007C, 0x0, 1, 0x0, 1, .warm, .sat (some (0x17000FC, 11)), fun _ => 0,
  [⟨0, 32, .ro⟩]⟩
def F.BND_FAB_PIN_HOLD_CNT.V : Fld := ⟨R.BND_FAB_PIN_HOLD_CNT, 0, 32⟩

/-- `BND_FAB_REDIR_CNT`, WARM. -/
def R.BND_FAB_REDIR_CNT : RegDesc := ⟨0x1700080, 0x0, 1, 0x0, 1, .warm, .sat (some (0x17000FC, 12)), fun _ => 0,
  [⟨0, 32, .ro⟩]⟩
def F.BND_FAB_REDIR_CNT.V : Fld := ⟨R.BND_FAB_REDIR_CNT, 0, 32⟩

/-- `BND_FAB_PEER_AUTH_CNT`, WARM. -/
def R.BND_FAB_PEER_AUTH_CNT : RegDesc := ⟨0x1700084, 0x0, 1, 0x0, 1, .warm, .sat (some (0x17000FC, 13)), fun _ => 0,
  [⟨0, 32, .ro⟩]⟩
def F.BND_FAB_PEER_AUTH_CNT.V : Fld := ⟨R.BND_FAB_PEER_AUTH_CNT, 0, 32⟩

/-- `BND_FAB_PRIV_REJ_CNT`, WARM. -/
def R.BND_FAB_PRIV_REJ_CNT : RegDesc := ⟨0x1700088, 0x0, 1, 0x0, 1, .warm, .sat (some (0x17000FC, 14)), fun _ => 0,
  [⟨0, 32, .ro⟩]⟩
def F.BND_FAB_PRIV_REJ_CNT.V : Fld := ⟨R.BND_FAB_PRIV_REJ_CNT, 0, 32⟩

/-- `BND_FAB_WHEY_UNROUTE_CNT`, WARM. -/
def R.BND_FAB_WHEY_UNROUTE_CNT : RegDesc := ⟨0x170008C, 0x0, 1, 0x0, 1, .warm, .sat (some (0x17000FC, 15)), fun _ => 0,
  [⟨0, 32, .ro⟩]⟩
def F.BND_FAB_WHEY_UNROUTE_CNT.V : Fld := ⟨R.BND_FAB_WHEY_UNROUTE_CNT, 0, 32⟩

/-- `BND_FAB_CNT_OVF`, WARM. -/
def R.BND_FAB_CNT_OVF : RegDesc := ⟨0x17000FC, 0x0, 1, 0x0, 1, .warm, .plain, fun _ => 0,
  [⟨0, 32, .w1c⟩]⟩
def F.BND_FAB_CNT_OVF.V : Fld := ⟨R.BND_FAB_CNT_OVF, 0, 32⟩

/-- `BND_FAB_MEMBER`, WARM. -/
def R.BND_FAB_MEMBER : RegDesc := ⟨0x1700100, 0x0, 1, 0x4, 64, .warm, .plain, fun _ => 0,
  [⟨0, 12, .ro⟩, ⟨12, 1, .ro⟩, ⟨13, 1, .ro⟩, ⟨14, 1, .ro⟩, ⟨15, 7, .ro⟩]⟩
def F.BND_FAB_MEMBER.FEID : Fld := ⟨R.BND_FAB_MEMBER, 0, 12⟩
def F.BND_FAB_MEMBER.VALID : Fld := ⟨R.BND_FAB_MEMBER, 12, 1⟩
def F.BND_FAB_MEMBER.ELIG : Fld := ⟨R.BND_FAB_MEMBER, 13, 1⟩
def F.BND_FAB_MEMBER.DYNAMIC : Fld := ⟨R.BND_FAB_MEMBER, 14, 1⟩
def F.BND_FAB_MEMBER.LINKS_UP : Fld := ⟨R.BND_FAB_MEMBER, 15, 7⟩

/-! ## Registers of 06_fabric_link.md -/

/-- `KFL_LINK_CFG`, COLD. -/
def R.KFL_LINK_CFG : RegDesc := ⟨0x800000, 0x0, 1, 0x4000, 72, .cold, .plain, fun _ => 0x4130805,
  [⟨0, 1, .co⟩, ⟨2, 1, .co⟩, ⟨4, 12, .co⟩, ⟨16, 2, .co⟩, ⟨20, 1, .co⟩, ⟨21, 1, .co⟩, ⟨22, 6, .co⟩]⟩
def F.KFL_LINK_CFG.TRAIN_EN : Fld := ⟨R.KFL_LINK_CFG, 0, 1⟩
def F.KFL_LINK_CFG.DEGRADE_EN : Fld := ⟨R.KFL_LINK_CFG, 2, 1⟩
def F.KFL_LINK_CFG.COMP_INTERVAL : Fld := ⟨R.KFL_LINK_CFG, 4, 12⟩
def F.KFL_LINK_CFG.WHEY_MAX : Fld := ⟨R.KFL_LINK_CFG, 16, 2⟩
def F.KFL_LINK_CFG.TIME_EN : Fld := ⟨R.KFL_LINK_CFG, 20, 1⟩
def F.KFL_LINK_CFG.TIME_REQ_EN : Fld := ⟨R.KFL_LINK_CFG, 21, 1⟩
def F.KFL_LINK_CFG.FEC_UE_LIMIT : Fld := ⟨R.KFL_LINK_CFG, 22, 6⟩

/-- `KFL_LINK_STATUS`, WARM. -/
def R.KFL_LINK_STATUS : RegDesc := ⟨0x800004, 0x0, 1, 0x4000, 72, .warm, .plain, fun _ => 0,
  [⟨0, 4, .ro⟩, ⟨4, 2, .ro⟩, ⟨6, 1, .ro⟩, ⟨7, 1, .ro⟩, ⟨8, 8, .ro⟩, ⟨16, 4, .ro⟩, ⟨20, 1, .ro⟩]⟩
def F.KFL_LINK_STATUS.LSTATE : Fld := ⟨R.KFL_LINK_STATUS, 0, 4⟩
def F.KFL_LINK_STATUS.WIDTH_NOW : Fld := ⟨R.KFL_LINK_STATUS, 4, 2⟩
def F.KFL_LINK_STATUS.RATE_224 : Fld := ⟨R.KFL_LINK_STATUS, 6, 1⟩
def F.KFL_LINK_STATUS.DEGRADED : Fld := ⟨R.KFL_LINK_STATUS, 7, 1⟩
def F.KFL_LINK_STATUS.LANES_ACTIVE : Fld := ⟨R.KFL_LINK_STATUS, 8, 8⟩
def F.KFL_LINK_STATUS.CAUSE : Fld := ⟨R.KFL_LINK_STATUS, 16, 4⟩
def F.KFL_LINK_STATUS.PEER_VALID : Fld := ⟨R.KFL_LINK_STATUS, 20, 1⟩

/-- `KFL_LINK_EVT`, WARM. -/
def R.KFL_LINK_EVT : RegDesc := ⟨0x800008, 0x0, 1, 0x4000, 72, .warm, .plain, fun _ => 0,
  [⟨0, 1, .w1c⟩, ⟨1, 1, .w1c⟩, ⟨2, 1, .w1c⟩, ⟨3, 1, .w1c⟩, ⟨4, 1, .w1c⟩, ⟨5, 1, .w1c⟩, ⟨6, 1, .w1c⟩, ⟨7, 1, .w1c⟩, ⟨8, 1, .w1c⟩, ⟨9, 1, .w1c⟩, ⟨10, 1, .w1c⟩, ⟨11, 1, .w1c⟩, ⟨12, 1, .w1c⟩, ⟨13, 1, .w1c⟩]⟩
def F.KFL_LINK_EVT.UP : Fld := ⟨R.KFL_LINK_EVT, 0, 1⟩
def F.KFL_LINK_EVT.BROKEN : Fld := ⟨R.KFL_LINK_EVT, 1, 1⟩
def F.KFL_LINK_EVT.RECOVERY : Fld := ⟨R.KFL_LINK_EVT, 2, 1⟩
def F.KFL_LINK_EVT.REPLAY : Fld := ⟨R.KFL_LINK_EVT, 3, 1⟩
def F.KFL_LINK_EVT.CREDIT_TO : Fld := ⟨R.KFL_LINK_EVT, 4, 1⟩
def F.KFL_LINK_EVT.DEGRADED : Fld := ⟨R.KFL_LINK_EVT, 5, 1⟩
def F.KFL_LINK_EVT.SHED : Fld := ⟨R.KFL_LINK_EVT, 6, 1⟩
def F.KFL_LINK_EVT.RESTORE : Fld := ⟨R.KFL_LINK_EVT, 7, 1⟩
def F.KFL_LINK_EVT.LP_ENTER : Fld := ⟨R.KFL_LINK_EVT, 8, 1⟩
def F.KFL_LINK_EVT.LP_EXIT : Fld := ⟨R.KFL_LINK_EVT, 9, 1⟩
def F.KFL_LINK_EVT.PROTO_ERR : Fld := ⟨R.KFL_LINK_EVT, 10, 1⟩
def F.KFL_LINK_EVT.MARKER_REALIGN : Fld := ⟨R.KFL_LINK_EVT, 11, 1⟩
def F.KFL_LINK_EVT.WHEY_UNKNOWN : Fld := ⟨R.KFL_LINK_EVT, 12, 1⟩
def F.KFL_LINK_EVT.TIME_SYNC : Fld := ⟨R.KFL_LINK_EVT, 13, 1⟩

/-- `KFL_LINK_EVT_EN`, COLD. -/
def R.KFL_LINK_EVT_EN : RegDesc := ⟨0x80000C, 0x0, 1, 0x4000, 72, .cold, .plain, fun _ => 0x437,
  [⟨0, 1, .rw⟩, ⟨1, 1, .rw⟩, ⟨2, 1, .rw⟩, ⟨3, 1, .rw⟩, ⟨4, 1, .rw⟩, ⟨5, 1, .rw⟩, ⟨6, 1, .rw⟩, ⟨7, 1, .rw⟩, ⟨8, 1, .rw⟩, ⟨9, 1, .rw⟩, ⟨10, 1, .rw⟩, ⟨11, 1, .rw⟩, ⟨12, 1, .rw⟩, ⟨13, 1, .rw⟩]⟩
def F.KFL_LINK_EVT_EN.UP : Fld := ⟨R.KFL_LINK_EVT_EN, 0, 1⟩
def F.KFL_LINK_EVT_EN.BROKEN : Fld := ⟨R.KFL_LINK_EVT_EN, 1, 1⟩
def F.KFL_LINK_EVT_EN.RECOVERY : Fld := ⟨R.KFL_LINK_EVT_EN, 2, 1⟩
def F.KFL_LINK_EVT_EN.REPLAY : Fld := ⟨R.KFL_LINK_EVT_EN, 3, 1⟩
def F.KFL_LINK_EVT_EN.CREDIT_TO : Fld := ⟨R.KFL_LINK_EVT_EN, 4, 1⟩
def F.KFL_LINK_EVT_EN.DEGRADED : Fld := ⟨R.KFL_LINK_EVT_EN, 5, 1⟩
def F.KFL_LINK_EVT_EN.SHED : Fld := ⟨R.KFL_LINK_EVT_EN, 6, 1⟩
def F.KFL_LINK_EVT_EN.RESTORE : Fld := ⟨R.KFL_LINK_EVT_EN, 7, 1⟩
def F.KFL_LINK_EVT_EN.LP_ENTER : Fld := ⟨R.KFL_LINK_EVT_EN, 8, 1⟩
def F.KFL_LINK_EVT_EN.LP_EXIT : Fld := ⟨R.KFL_LINK_EVT_EN, 9, 1⟩
def F.KFL_LINK_EVT_EN.PROTO_ERR : Fld := ⟨R.KFL_LINK_EVT_EN, 10, 1⟩
def F.KFL_LINK_EVT_EN.MARKER_REALIGN : Fld := ⟨R.KFL_LINK_EVT_EN, 11, 1⟩
def F.KFL_LINK_EVT_EN.WHEY_UNKNOWN : Fld := ⟨R.KFL_LINK_EVT_EN, 12, 1⟩
def F.KFL_LINK_EVT_EN.TIME_SYNC : Fld := ⟨R.KFL_LINK_EVT_EN, 13, 1⟩

/-- `KFL_TIMER_A`, COLD. -/
def R.KFL_TIMER_A : RegDesc := ⟨0x800010, 0x0, 1, 0x4000, 72, .cold, .plain, fun _ => 0xC8808,
  [⟨0, 9, .co⟩, ⟨9, 4, .co⟩, ⟨13, 10, .co⟩]⟩
def F.KFL_TIMER_A.REPLAY_TO : Fld := ⟨R.KFL_TIMER_A, 0, 9⟩
def F.KFL_TIMER_A.REPLAY_NUM : Fld := ⟨R.KFL_TIMER_A, 9, 4⟩
def F.KFL_TIMER_A.RECOV_TO : Fld := ⟨R.KFL_TIMER_A, 13, 10⟩

/-- `KFL_TIMER_B`, COLD. -/
def R.KFL_TIMER_B : RegDesc := ⟨0x800014, 0x0, 1, 0x4000, 72, .cold, .plain, fun _ => 0x32,
  [⟨0, 14, .co⟩]⟩
def F.KFL_TIMER_B.CREDIT_TO : Fld := ⟨R.KFL_TIMER_B, 0, 14⟩

/-- `KFL_TIMER_C`, COLD. -/
def R.KFL_TIMER_C : RegDesc := ⟨0x800018, 0x0, 1, 0x4000, 72, .cold, .plain, fun _ => 0xA0140A,
  [⟨0, 10, .co⟩, ⟨10, 10, .co⟩, ⟨20, 8, .co⟩]⟩
def F.KFL_TIMER_C.STBY_IDLE : Fld := ⟨R.KFL_TIMER_C, 0, 10⟩
def F.KFL_TIMER_C.DEEP_IDLE : Fld := ⟨R.KFL_TIMER_C, 10, 10⟩
def F.KFL_TIMER_C.TIME_INTERVAL : Fld := ⟨R.KFL_TIMER_C, 20, 8⟩

/-- `KFL_SEQ_TX`, WARM. -/
def R.KFL_SEQ_TX : RegDesc := ⟨0x800020, 0x0, 1, 0x4000, 72, .warm, .plain, fun _ => 0xFFF000,
  [⟨0, 12, .ro⟩, ⟨12, 12, .ro⟩]⟩
def F.KFL_SEQ_TX.NEXT_TX : Fld := ⟨R.KFL_SEQ_TX, 0, 12⟩
def F.KFL_SEQ_TX.ACK_LAST : Fld := ⟨R.KFL_SEQ_TX, 12, 12⟩

/-- `KFL_SEQ_RX`, WARM. -/
def R.KFL_SEQ_RX : RegDesc := ⟨0x800024, 0x0, 1, 0x4000, 72, .warm, .plain, fun _ => 0,
  [⟨0, 12, .ro⟩]⟩
def F.KFL_SEQ_RX.EXPECT_RX : Fld := ⟨R.KFL_SEQ_RX, 0, 12⟩

/-- `KFL_REPLAY_STATUS`, WARM. -/
def R.KFL_REPLAY_STATUS : RegDesc := ⟨0x800028, 0x0, 1, 0x4000, 72, .warm, .plain, fun _ => 0,
  [⟨0, 12, .ro⟩, ⟨12, 4, .ro⟩, ⟨16, 1, .ro⟩]⟩
def F.KFL_REPLAY_STATUS.OUTSTANDING : Fld := ⟨R.KFL_REPLAY_STATUS, 0, 12⟩
def F.KFL_REPLAY_STATUS.CONSEC : Fld := ⟨R.KFL_REPLAY_STATUS, 12, 4⟩
def F.KFL_REPLAY_STATUS.REPLAYING : Fld := ⟨R.KFL_REPLAY_STATUS, 16, 1⟩

/-- `KFL_LANE_MAP`, WARM. -/
def R.KFL_LANE_MAP : RegDesc := ⟨0x80002C, 0x0, 1, 0x4000, 72, .warm, .plain, fun _ => 0,
  [⟨0, 24, .ro⟩]⟩
def F.KFL_LANE_MAP.MAP : Fld := ⟨R.KFL_LANE_MAP, 0, 24⟩

/-- `KFL_PEER_SERIAL_LO`, WARM. -/
def R.KFL_PEER_SERIAL_LO : RegDesc := ⟨0x800030, 0x0, 1, 0x4000, 72, .warm, .plain, fun _ => 0,
  [⟨0, 32, .ro⟩]⟩
def F.KFL_PEER_SERIAL_LO.V : Fld := ⟨R.KFL_PEER_SERIAL_LO, 0, 32⟩

/-- `KFL_PEER_SERIAL_HI`, WARM. -/
def R.KFL_PEER_SERIAL_HI : RegDesc := ⟨0x800034, 0x0, 1, 0x4000, 72, .warm, .plain, fun _ => 0,
  [⟨0, 32, .ro⟩]⟩
def F.KFL_PEER_SERIAL_HI.V : Fld := ⟨R.KFL_PEER_SERIAL_HI, 0, 32⟩

/-- `KFL_TIME_OFFSET`, WARM. -/
def R.KFL_TIME_OFFSET : RegDesc := ⟨0x800038, 0x0, 1, 0x4000, 72, .warm, .plain, fun _ => 0,
  [⟨0, 32, .ro⟩]⟩
def F.KFL_TIME_OFFSET.OFFSET : Fld := ⟨R.KFL_TIME_OFFSET, 0, 32⟩

/-- `KFL_TIME_DELAY`, WARM. -/
def R.KFL_TIME_DELAY : RegDesc := ⟨0x80003C, 0x0, 1, 0x4000, 72, .warm, .plain, fun _ => 0,
  [⟨0, 16, .ro⟩]⟩
def F.KFL_TIME_DELAY.DELAY : Fld := ⟨R.KFL_TIME_DELAY, 0, 16⟩

/-- `KFL_CRED_TX`, WARM. -/
def R.KFL_CRED_TX : RegDesc := ⟨0x800040, 0x4000, 72, 0x4, 7, .warm, .plain, fun _ => 0,
  [⟨0, 12, .ro⟩, ⟨12, 12, .ro⟩, ⟨24, 1, .ro⟩]⟩
def F.KFL_CRED_TX.LIMIT : Fld := ⟨R.KFL_CRED_TX, 0, 12⟩
def F.KFL_CRED_TX.USED : Fld := ⟨R.KFL_CRED_TX, 12, 12⟩
def F.KFL_CRED_TX.WAITING : Fld := ⟨R.KFL_CRED_TX, 24, 1⟩

/-- `KFL_CRED_RX`, WARM. -/
def R.KFL_CRED_RX : RegDesc := ⟨0x800060, 0x4000, 72, 0x4, 7, .warm, .plain, fun _ => 0,
  [⟨0, 12, .ro⟩, ⟨12, 12, .ro⟩]⟩
def F.KFL_CRED_RX.GRANTED : Fld := ⟨R.KFL_CRED_RX, 0, 12⟩
def F.KFL_CRED_RX.CONSUMED : Fld := ⟨R.KFL_CRED_RX, 12, 12⟩

/-- `KFL_CRC_ERR_CNT`, WARM. -/
def R.KFL_CRC_ERR_CNT : RegDesc := ⟨0x800100, 0x0, 1, 0x4000, 72, .warm, .sat (some (0x8001FC, 0)), fun _ => 0,
  [⟨0, 32, .ro⟩]⟩
def F.KFL_CRC_ERR_CNT.V : Fld := ⟨R.KFL_CRC_ERR_CNT, 0, 32⟩

/-- `KFL_FEC_UE_CNT`, WARM. -/
def R.KFL_FEC_UE_CNT : RegDesc := ⟨0x800104, 0x0, 1, 0x4000, 72, .warm, .sat (some (0x8001FC, 1)), fun _ => 0,
  [⟨0, 32, .ro⟩]⟩
def F.KFL_FEC_UE_CNT.V : Fld := ⟨R.KFL_FEC_UE_CNT, 0, 32⟩

/-- `KFL_DUP_CNT`, WARM. -/
def R.KFL_DUP_CNT : RegDesc := ⟨0x800108, 0x0, 1, 0x4000, 72, .warm, .sat (some (0x8001FC, 2)), fun _ => 0,
  [⟨0, 32, .ro⟩]⟩
def F.KFL_DUP_CNT.V : Fld := ⟨R.KFL_DUP_CNT, 0, 32⟩

/-- `KFL_OOS_CNT`, WARM. -/
def R.KFL_OOS_CNT : RegDesc := ⟨0x80010C, 0x0, 1, 0x4000, 72, .warm, .sat (some (0x8001FC, 3)), fun _ => 0,
  [⟨0, 32, .ro⟩]⟩
def F.KFL_OOS_CNT.V : Fld := ⟨R.KFL_OOS_CNT, 0, 32⟩

/-- `KFL_REPLAY_CNT`, WARM. -/
def R.KFL_REPLAY_CNT : RegDesc := ⟨0x800110, 0x0, 1, 0x4000, 72, .warm, .sat (some (0x8001FC, 4)), fun _ => 0,
  [⟨0, 32, .ro⟩]⟩
def F.KFL_REPLAY_CNT.V : Fld := ⟨R.KFL_REPLAY_CNT, 0, 32⟩

/-- `KFL_RECOV_CNT`, WARM. -/
def R.KFL_RECOV_CNT : RegDesc := ⟨0x800114, 0x0, 1, 0x4000, 72, .warm, .sat (some (0x8001FC, 5)), fun _ => 0,
  [⟨0, 32, .ro⟩]⟩
def F.KFL_RECOV_CNT.V : Fld := ⟨R.KFL_RECOV_CNT, 0, 32⟩

/-- `KFL_MARKER_ERR_CNT`, WARM. -/
def R.KFL_MARKER_ERR_CNT : RegDesc := ⟨0x800118, 0x0, 1, 0x4000, 72, .warm, .sat (some (0x8001FC, 6)), fun _ => 0,
  [⟨0, 32, .ro⟩]⟩
def F.KFL_MARKER_ERR_CNT.V : Fld := ⟨R.KFL_MARKER_ERR_CNT, 0, 32⟩

/-- `KFL_PROTO_ERR_CNT`, WARM. -/
def R.KFL_PROTO_ERR_CNT : RegDesc := ⟨0x80011C, 0x0, 1, 0x4000, 72, .warm, .sat (some (0x8001FC, 7)), fun _ => 0,
  [⟨0, 32, .ro⟩]⟩
def F.KFL_PROTO_ERR_CNT.V : Fld := ⟨R.KFL_PROTO_ERR_CNT, 0, 32⟩

/-- `KFL_WHEY_UNK_CNT`, WARM. -/
def R.KFL_WHEY_UNK_CNT : RegDesc := ⟨0x800120, 0x0, 1, 0x4000, 72, .warm, .sat (some (0x8001FC, 8)), fun _ => 0,
  [⟨0, 32, .ro⟩]⟩
def F.KFL_WHEY_UNK_CNT.V : Fld := ⟨R.KFL_WHEY_UNK_CNT, 0, 32⟩

/-- `KFL_ABORT_TX_CNT`, WARM. -/
def R.KFL_ABORT_TX_CNT : RegDesc := ⟨0x800124, 0x0, 1, 0x4000, 72, .warm, .sat (some (0x8001FC, 9)), fun _ => 0,
  [⟨0, 32, .ro⟩]⟩
def F.KFL_ABORT_TX_CNT.V : Fld := ⟨R.KFL_ABORT_TX_CNT, 0, 32⟩

/-- `KFL_ABORT_RX_CNT`, WARM. -/
def R.KFL_ABORT_RX_CNT : RegDesc := ⟨0x800128, 0x0, 1, 0x4000, 72, .warm, .sat (some (0x8001FC, 10)), fun _ => 0,
  [⟨0, 32, .ro⟩]⟩
def F.KFL_ABORT_RX_CNT.V : Fld := ⟨R.KFL_ABORT_RX_CNT, 0, 32⟩

/-- `KFL_BROKEN_CNT`, WARM. -/
def R.KFL_BROKEN_CNT : RegDesc := ⟨0x80012C, 0x0, 1, 0x4000, 72, .warm, .sat (some (0x8001FC, 11)), fun _ => 0,
  [⟨0, 32, .ro⟩]⟩
def F.KFL_BROKEN_CNT.V : Fld := ⟨R.KFL_BROKEN_CNT, 0, 32⟩

/-- `KFL_CREDIT_TO_CNT`, WARM. -/
def R.KFL_CREDIT_TO_CNT : RegDesc := ⟨0x800130, 0x0, 1, 0x4000, 72, .warm, .sat (some (0x8001FC, 12)), fun _ => 0,
  [⟨0, 32, .ro⟩]⟩
def F.KFL_CREDIT_TO_CNT.V : Fld := ⟨R.KFL_CREDIT_TO_CNT, 0, 32⟩

/-- `KFL_CNT_OVF`, WARM. -/
def R.KFL_CNT_OVF : RegDesc := ⟨0x8001FC, 0x0, 1, 0x4000, 72, .warm, .plain, fun _ => 0,
  [⟨0, 32, .w1c⟩]⟩
def F.KFL_CNT_OVF.V : Fld := ⟨R.KFL_CNT_OVF, 0, 32⟩

/-- `KFL_TX_FLITS_LO`, WARM. -/
def R.KFL_TX_FLITS_LO : RegDesc := ⟨0x800200, 0x0, 1, 0x4000, 72, .warm, .statLo, fun _ => 0,
  [⟨0, 32, .ro⟩]⟩
def F.KFL_TX_FLITS_LO.V : Fld := ⟨R.KFL_TX_FLITS_LO, 0, 32⟩

/-- `KFL_TX_FLITS_HI`, WARM. -/
def R.KFL_TX_FLITS_HI : RegDesc := ⟨0x800204, 0x0, 1, 0x4000, 72, .warm, .statHi, fun _ => 0,
  [⟨0, 32, .ro⟩]⟩
def F.KFL_TX_FLITS_HI.V : Fld := ⟨R.KFL_TX_FLITS_HI, 0, 32⟩

/-- `KFL_RX_FLITS_LO`, WARM. -/
def R.KFL_RX_FLITS_LO : RegDesc := ⟨0x800208, 0x0, 1, 0x4000, 72, .warm, .statLo, fun _ => 0,
  [⟨0, 32, .ro⟩]⟩
def F.KFL_RX_FLITS_LO.V : Fld := ⟨R.KFL_RX_FLITS_LO, 0, 32⟩

/-- `KFL_RX_FLITS_HI`, WARM. -/
def R.KFL_RX_FLITS_HI : RegDesc := ⟨0x80020C, 0x0, 1, 0x4000, 72, .warm, .statHi, fun _ => 0,
  [⟨0, 32, .ro⟩]⟩
def F.KFL_RX_FLITS_HI.V : Fld := ⟨R.KFL_RX_FLITS_HI, 0, 32⟩

/-- `KFL_FEC_CORR_SYM_LO`, WARM. -/
def R.KFL_FEC_CORR_SYM_LO : RegDesc := ⟨0x800210, 0x0, 1, 0x4000, 72, .warm, .statLo, fun _ => 0,
  [⟨0, 32, .ro⟩]⟩
def F.KFL_FEC_CORR_SYM_LO.V : Fld := ⟨R.KFL_FEC_CORR_SYM_LO, 0, 32⟩

/-- `KFL_FEC_CORR_SYM_HI`, WARM. -/
def R.KFL_FEC_CORR_SYM_HI : RegDesc := ⟨0x800214, 0x0, 1, 0x4000, 72, .warm, .statHi, fun _ => 0,
  [⟨0, 32, .ro⟩]⟩
def F.KFL_FEC_CORR_SYM_HI.V : Fld := ⟨R.KFL_FEC_CORR_SYM_HI, 0, 32⟩

/-- `KFL_IDLE_DEL_LO`, WARM. -/
def R.KFL_IDLE_DEL_LO : RegDesc := ⟨0x800218, 0x0, 1, 0x4000, 72, .warm, .statLo, fun _ => 0,
  [⟨0, 32, .ro⟩]⟩
def F.KFL_IDLE_DEL_LO.V : Fld := ⟨R.KFL_IDLE_DEL_LO, 0, 32⟩

/-- `KFL_IDLE_DEL_HI`, WARM. -/
def R.KFL_IDLE_DEL_HI : RegDesc := ⟨0x80021C, 0x0, 1, 0x4000, 72, .warm, .statHi, fun _ => 0,
  [⟨0, 32, .ro⟩]⟩
def F.KFL_IDLE_DEL_HI.V : Fld := ⟨R.KFL_IDLE_DEL_HI, 0, 32⟩

/-! ## Registers of 07_containment.md -/

/-- `ERR_CFG`, COLD. -/
def R.ERR_CFG : RegDesc := ⟨0x2800000, 0x0, 1, 0x0, 1, .cold, .plain, fun _ => 0x15016,
  [⟨0, 2, .co⟩, ⟨2, 1, .co⟩, ⟨4, 8, .co⟩, ⟨12, 1, .co⟩, ⟨13, 8, .co⟩]⟩
def F.ERR_CFG.EVT_MIN_SEV : Fld := ⟨R.ERR_CFG, 0, 2⟩
def F.ERR_CFG.COALESCE_EN : Fld := ⟨R.ERR_CFG, 2, 1⟩
def F.ERR_CFG.COALESCE_MS : Fld := ⟨R.ERR_CFG, 4, 8⟩
def F.ERR_CFG.FLASH_FATAL : Fld := ⟨R.ERR_CFG, 12, 1⟩
def F.ERR_CFG.WFN_HOLDOFF_US : Fld := ⟨R.ERR_CFG, 13, 8⟩

/-- `ERR_STATUS`, WARM. -/
def R.ERR_STATUS : RegDesc := ⟨0x2800004, 0x0, 1, 0x0, 1, .warm, .plain, fun _ => 0,
  [⟨0, 1, .ro⟩, ⟨1, 1, .ro⟩, ⟨2, 1, .ro⟩, ⟨3, 1, .ro⟩]⟩
def F.ERR_STATUS.FENCE : Fld := ⟨R.ERR_STATUS, 0, 1⟩
def F.ERR_STATUS.JRNL_WRAPPED : Fld := ⟨R.ERR_STATUS, 1, 1⟩
def F.ERR_STATUS.FLASH_PENDING : Fld := ⟨R.ERR_STATUS, 2, 1⟩
def F.ERR_STATUS.PFL_PENDING : Fld := ⟨R.ERR_STATUS, 3, 1⟩

/-- `ERR_EVT`, WARM. -/
def R.ERR_EVT : RegDesc := ⟨0x2800008, 0x0, 1, 0x0, 1, .warm, .plain, fun _ => 0,
  [⟨0, 1, .w1c⟩, ⟨1, 1, .w1c⟩, ⟨2, 1, .w1c⟩, ⟨3, 1, .w1c⟩, ⟨4, 1, .w1c⟩, ⟨5, 1, .w1c⟩, ⟨6, 1, .w1c⟩, ⟨7, 1, .w1c⟩, ⟨8, 1, .w1c⟩, ⟨9, 1, .w1c⟩, ⟨10, 1, .w1c⟩]⟩
def F.ERR_EVT.FATAL : Fld := ⟨R.ERR_EVT, 0, 1⟩
def F.ERR_EVT.WDOG : Fld := ⟨R.ERR_EVT, 1, 1⟩
def F.ERR_EVT.PFL : Fld := ⟨R.ERR_EVT, 2, 1⟩
def F.ERR_EVT.PFL_LOST : Fld := ⟨R.ERR_EVT, 3, 1⟩
def F.ERR_EVT.TRK_TIMEOUT : Fld := ⟨R.ERR_EVT, 4, 1⟩
def F.ERR_EVT.DPC : Fld := ⟨R.ERR_EVT, 5, 1⟩
def F.ERR_EVT.SURPRISE_DOWN : Fld := ⟨R.ERR_EVT, 6, 1⟩
def F.ERR_EVT.WFN_UNDELIV : Fld := ⟨R.ERR_EVT, 7, 1⟩
def F.ERR_EVT.UNEXP_CPL : Fld := ⟨R.ERR_EVT, 8, 1⟩
def F.ERR_EVT.JRNL_OVERWRITE : Fld := ⟨R.ERR_EVT, 9, 1⟩
def F.ERR_EVT.FLASH_FENCED : Fld := ⟨R.ERR_EVT, 10, 1⟩

/-- `ERR_EVT_EN`, COLD. -/
def R.ERR_EVT_EN : RegDesc := ⟨0x280000C, 0x0, 1, 0x0, 1, .cold, .plain, fun _ => 0x4EF,
  [⟨0, 1, .rw⟩, ⟨1, 1, .rw⟩, ⟨2, 1, .rw⟩, ⟨3, 1, .rw⟩, ⟨4, 1, .rw⟩, ⟨5, 1, .rw⟩, ⟨6, 1, .rw⟩, ⟨7, 1, .rw⟩, ⟨8, 1, .rw⟩, ⟨9, 1, .rw⟩, ⟨10, 1, .rw⟩]⟩
def F.ERR_EVT_EN.FATAL : Fld := ⟨R.ERR_EVT_EN, 0, 1⟩
def F.ERR_EVT_EN.WDOG : Fld := ⟨R.ERR_EVT_EN, 1, 1⟩
def F.ERR_EVT_EN.PFL : Fld := ⟨R.ERR_EVT_EN, 2, 1⟩
def F.ERR_EVT_EN.PFL_LOST : Fld := ⟨R.ERR_EVT_EN, 3, 1⟩
def F.ERR_EVT_EN.TRK_TIMEOUT : Fld := ⟨R.ERR_EVT_EN, 4, 1⟩
def F.ERR_EVT_EN.DPC : Fld := ⟨R.ERR_EVT_EN, 5, 1⟩
def F.ERR_EVT_EN.SURPRISE_DOWN : Fld := ⟨R.ERR_EVT_EN, 6, 1⟩
def F.ERR_EVT_EN.WFN_UNDELIV : Fld := ⟨R.ERR_EVT_EN, 7, 1⟩
def F.ERR_EVT_EN.UNEXP_CPL : Fld := ⟨R.ERR_EVT_EN, 8, 1⟩
def F.ERR_EVT_EN.JRNL_OVERWRITE : Fld := ⟨R.ERR_EVT_EN, 9, 1⟩
def F.ERR_EVT_EN.FLASH_FENCED : Fld := ⟨R.ERR_EVT_EN, 10, 1⟩

/-- `ERR_FATAL_CAUSE`, COLD. -/
def R.ERR_FATAL_CAUSE : RegDesc := ⟨0x2800010, 0x0, 1, 0x0, 1, .cold, .plain, fun _ => 0,
  [⟨0, 16, .ro⟩, ⟨16, 4, .ro⟩, ⟨20, 8, .ro⟩, ⟨31, 1, .ro⟩]⟩
def F.ERR_FATAL_CAUSE.CLASS : Fld := ⟨R.ERR_FATAL_CAUSE, 0, 16⟩
def F.ERR_FATAL_CAUSE.KIND : Fld := ⟨R.ERR_FATAL_CAUSE, 16, 4⟩
def F.ERR_FATAL_CAUSE.INDEX : Fld := ⟨R.ERR_FATAL_CAUSE, 20, 8⟩
def F.ERR_FATAL_CAUSE.VALID : Fld := ⟨R.ERR_FATAL_CAUSE, 31, 1⟩

/-- `ERR_FATAL_TIME_LO`, COLD. -/
def R.ERR_FATAL_TIME_LO : RegDesc := ⟨0x2800014, 0x0, 1, 0x0, 1, .cold, .plain, fun _ => 0,
  [⟨0, 32, .ro⟩]⟩
def F.ERR_FATAL_TIME_LO.V : Fld := ⟨R.ERR_FATAL_TIME_LO, 0, 32⟩

/-- `ERR_FATAL_TIME_HI`, COLD. -/
def R.ERR_FATAL_TIME_HI : RegDesc := ⟨0x2800018, 0x0, 1, 0x0, 1, .cold, .plain, fun _ => 0,
  [⟨0, 32, .ro⟩]⟩
def F.ERR_FATAL_TIME_HI.V : Fld := ⟨R.ERR_FATAL_TIME_HI, 0, 32⟩

/-- `ERR_WDOG_CFG`, COLD. -/
def R.ERR_WDOG_CFG : RegDesc := ⟨0x2800020, 0x0, 1, 0x0, 1, .cold, .plain, fun _ => 0xA010A02,
  [⟨0, 8, .co⟩, ⟨8, 8, .co⟩, ⟨16, 8, .co⟩, ⟨24, 8, .co⟩]⟩
def F.ERR_WDOG_CFG.XING_US : Fld := ⟨R.ERR_WDOG_CFG, 0, 8⟩
def F.ERR_WDOG_CFG.CORE_US : Fld := ⟨R.ERR_WDOG_CFG, 8, 8⟩
def F.ERR_WDOG_CFG.DM_100US : Fld := ⟨R.ERR_WDOG_CFG, 16, 8⟩
def F.ERR_WDOG_CFG.MAL_10MS : Fld := ⟨R.ERR_WDOG_CFG, 24, 8⟩

/-- `ERR_WDOG_STATUS`, WARM. -/
def R.ERR_WDOG_STATUS : RegDesc := ⟨0x2800024, 0x0, 1, 0x0, 1, .warm, .plain, fun _ => 0,
  [⟨0, 4, .ro⟩, ⟨4, 8, .ro⟩, ⟨12, 2, .ro⟩]⟩
def F.ERR_WDOG_STATUS.LAST_KIND : Fld := ⟨R.ERR_WDOG_STATUS, 0, 4⟩
def F.ERR_WDOG_STATUS.LAST_INDEX : Fld := ⟨R.ERR_WDOG_STATUS, 4, 8⟩
def F.ERR_WDOG_STATUS.MAL_RECENT : Fld := ⟨R.ERR_WDOG_STATUS, 12, 2⟩

/-- `ERR_JRNL_STATUS`, COLD. -/
def R.ERR_JRNL_STATUS : RegDesc := ⟨0x2800030, 0x0, 1, 0x0, 1, .cold, .plain, fun _ => 0,
  [⟨0, 12, .ro⟩, ⟨12, 1, .ro⟩]⟩
def F.ERR_JRNL_STATUS.NEXT : Fld := ⟨R.ERR_JRNL_STATUS, 0, 12⟩
def F.ERR_JRNL_STATUS.WRAPPED : Fld := ⟨R.ERR_JRNL_STATUS, 12, 1⟩

/-- `ERR_JRNL_SEQ`, COLD. -/
def R.ERR_JRNL_SEQ : RegDesc := ⟨0x2800034, 0x0, 1, 0x0, 1, .cold, .plain, fun _ => 0,
  [⟨0, 32, .ro⟩]⟩
def F.ERR_JRNL_SEQ.JSEQ : Fld := ⟨R.ERR_JRNL_SEQ, 0, 32⟩

/-- `ERR_TRK_TIMEOUT_CNT`, WARM. -/
def R.ERR_TRK_TIMEOUT_CNT : RegDesc := ⟨0x2800040, 0x0, 1, 0x0, 1, .warm, .sat (some (0x28000FC, 0)), fun _ => 0,
  [⟨0, 32, .ro⟩]⟩
def F.ERR_TRK_TIMEOUT_CNT.V : Fld := ⟨R.ERR_TRK_TIMEOUT_CNT, 0, 32⟩

/-- `ERR_CPL_SYNTH_CNT`, WARM. -/
def R.ERR_CPL_SYNTH_CNT : RegDesc := ⟨0x2800044, 0x0, 1, 0x0, 1, .warm, .sat (some (0x28000FC, 1)), fun _ => 0,
  [⟨0, 32, .ro⟩]⟩
def F.ERR_CPL_SYNTH_CNT.V : Fld := ⟨R.ERR_CPL_SYNTH_CNT, 0, 32⟩

/-- `ERR_LATE_CPL_CNT`, WARM. -/
def R.ERR_LATE_CPL_CNT : RegDesc := ⟨0x2800048, 0x0, 1, 0x0, 1, .warm, .sat (some (0x28000FC, 2)), fun _ => 0,
  [⟨0, 32, .ro⟩]⟩
def F.ERR_LATE_CPL_CNT.V : Fld := ⟨R.ERR_LATE_CPL_CNT, 0, 32⟩

/-- `ERR_UNEXP_CPL_CNT`, WARM. -/
def R.ERR_UNEXP_CPL_CNT : RegDesc := ⟨0x280004C, 0x0, 1, 0x0, 1, .warm, .sat (some (0x28000FC, 3)), fun _ => 0,
  [⟨0, 32, .ro⟩]⟩
def F.ERR_UNEXP_CPL_CNT.V : Fld := ⟨R.ERR_UNEXP_CPL_CNT, 0, 32⟩

/-- `ERR_UNEXP_ITEM_CNT`, WARM. -/
def R.ERR_UNEXP_ITEM_CNT : RegDesc := ⟨0x2800050, 0x0, 1, 0x0, 1, .warm, .sat (some (0x28000FC, 4)), fun _ => 0,
  [⟨0, 32, .ro⟩]⟩
def F.ERR_UNEXP_ITEM_CNT.V : Fld := ⟨R.ERR_UNEXP_ITEM_CNT, 0, 32⟩

/-- `ERR_WFN_TX_CNT`, WARM. -/
def R.ERR_WFN_TX_CNT : RegDesc := ⟨0x2800054, 0x0, 1, 0x0, 1, .warm, .sat (some (0x28000FC, 5)), fun _ => 0,
  [⟨0, 32, .ro⟩]⟩
def F.ERR_WFN_TX_CNT.V : Fld := ⟨R.ERR_WFN_TX_CNT, 0, 32⟩

/-- `ERR_WFN_RX_CNT`, WARM. -/
def R.ERR_WFN_RX_CNT : RegDesc := ⟨0x2800058, 0x0, 1, 0x0, 1, .warm, .sat (some (0x28000FC, 6)), fun _ => 0,
  [⟨0, 32, .ro⟩]⟩
def F.ERR_WFN_RX_CNT.V : Fld := ⟨R.ERR_WFN_RX_CNT, 0, 32⟩

/-- `ERR_WFN_UNDELIV_CNT`, WARM. -/
def R.ERR_WFN_UNDELIV_CNT : RegDesc := ⟨0x280005C, 0x0, 1, 0x0, 1, .warm, .sat (some (0x28000FC, 7)), fun _ => 0,
  [⟨0, 32, .ro⟩]⟩
def F.ERR_WFN_UNDELIV_CNT.V : Fld := ⟨R.ERR_WFN_UNDELIV_CNT, 0, 32⟩

/-- `ERR_POISON_FWD_CNT`, WARM. -/
def R.ERR_POISON_FWD_CNT : RegDesc := ⟨0x2800060, 0x0, 1, 0x0, 1, .warm, .sat (some (0x28000FC, 8)), fun _ => 0,
  [⟨0, 32, .ro⟩]⟩
def F.ERR_POISON_FWD_CNT.V : Fld := ⟨R.ERR_POISON_FWD_CNT, 0, 32⟩

/-- `ERR_SURPRISE_DOWN_CNT`, WARM. -/
def R.ERR_SURPRISE_DOWN_CNT : RegDesc := ⟨0x2800064, 0x0, 1, 0x0, 1, .warm, .sat (some (0x28000FC, 9)), fun _ => 0,
  [⟨0, 32, .ro⟩]⟩
def F.ERR_SURPRISE_DOWN_CNT.V : Fld := ⟨R.ERR_SURPRISE_DOWN_CNT, 0, 32⟩

/-- `ERR_DPC_CNT`, WARM. -/
def R.ERR_DPC_CNT : RegDesc := ⟨0x2800068, 0x0, 1, 0x0, 1, .warm, .sat (some (0x28000FC, 10)), fun _ => 0,
  [⟨0, 32, .ro⟩]⟩
def F.ERR_DPC_CNT.V : Fld := ⟨R.ERR_DPC_CNT, 0, 32⟩

/-- `ERR_WDOG_CNT`, WARM. -/
def R.ERR_WDOG_CNT : RegDesc := ⟨0x280006C, 0x0, 1, 0x0, 1, .warm, .sat (some (0x28000FC, 11)), fun _ => 0,
  [⟨0, 32, .ro⟩]⟩
def F.ERR_WDOG_CNT.V : Fld := ⟨R.ERR_WDOG_CNT, 0, 32⟩

/-- `ERR_JRNL_COALESCE_CNT`, COLD. -/
def R.ERR_JRNL_COALESCE_CNT : RegDesc := ⟨0x2800070, 0x0, 1, 0x0, 1, .cold, .sat (some (0x28000FC, 12)), fun _ => 0,
  [⟨0, 32, .ro⟩]⟩
def F.ERR_JRNL_COALESCE_CNT.V : Fld := ⟨R.ERR_JRNL_COALESCE_CNT, 0, 32⟩

/-- `ERR_JRNL_OVERWRITE_CNT`, COLD. -/
def R.ERR_JRNL_OVERWRITE_CNT : RegDesc := ⟨0x2800074, 0x0, 1, 0x0, 1, .cold, .sat (some (0x28000FC, 13)), fun _ => 0,
  [⟨0, 32, .ro⟩]⟩
def F.ERR_JRNL_OVERWRITE_CNT.V : Fld := ⟨R.ERR_JRNL_OVERWRITE_CNT, 0, 32⟩

/-- `ERR_FLASH_FENCED_CNT`, COLD. -/
def R.ERR_FLASH_FENCED_CNT : RegDesc := ⟨0x2800078, 0x0, 1, 0x0, 1, .cold, .sat (some (0x28000FC, 14)), fun _ => 0,
  [⟨0, 32, .ro⟩]⟩
def F.ERR_FLASH_FENCED_CNT.V : Fld := ⟨R.ERR_FLASH_FENCED_CNT, 0, 32⟩

/-- `ERR_CNT_OVF`, WARM. -/
def R.ERR_CNT_OVF : RegDesc := ⟨0x28000FC, 0x0, 1, 0x0, 1, .warm, .plain, fun _ => 0,
  [⟨0, 32, .w1c⟩]⟩
def F.ERR_CNT_OVF.V : Fld := ⟨R.ERR_CNT_OVF, 0, 32⟩

/-- `ERR_VH_CFG`, COLD. -/
def R.ERR_VH_CFG : RegDesc := ⟨0x2801000, 0x0, 1, 0x10, 144, .cold, .plain, fun _ => 0x2,
  [⟨0, 1, .co⟩, ⟨1, 1, .co⟩]⟩
def F.ERR_VH_CFG.CPL_SYNTH : Fld := ⟨R.ERR_VH_CFG, 0, 1⟩
def F.ERR_VH_CFG.PFL_INT_EN : Fld := ⟨R.ERR_VH_CFG, 1, 1⟩

/-- `ERR_PFL_IDX`, WARM. -/
def R.ERR_PFL_IDX : RegDesc := ⟨0x2801004, 0x0, 1, 0x10, 144, .warm, .plain, fun _ => 0,
  [⟨0, 6, .ro⟩, ⟨8, 6, .ro⟩, ⟨14, 1, .ro⟩]⟩
def F.ERR_PFL_IDX.PROD : Fld := ⟨R.ERR_PFL_IDX, 0, 6⟩
def F.ERR_PFL_IDX.CONS : Fld := ⟨R.ERR_PFL_IDX, 8, 6⟩
def F.ERR_PFL_IDX.LOST : Fld := ⟨R.ERR_PFL_IDX, 14, 1⟩

/-- `ERR_PFL_LOST_CNT`, WARM. -/
def R.ERR_PFL_LOST_CNT : RegDesc := ⟨0x2801008, 0x0, 1, 0x10, 144, .warm, .sat (some (0x28000FC, 15)), fun _ => 0,
  [⟨0, 32, .ro⟩]⟩
def F.ERR_PFL_LOST_CNT.V : Fld := ⟨R.ERR_PFL_LOST_CNT, 0, 32⟩

/-! ## Registers of 08_traffic_control.md -/

/-- `QOS_CFG`, COLD. -/
def R.QOS_CFG : RegDesc := ⟨0x1800000, 0x0, 1, 0x0, 1, .cold, .plain, fun _ => 0x2,
  [⟨0, 1, .co⟩, ⟨1, 1, .co⟩]⟩
def F.QOS_CFG.DK96_TOKENS : Fld := ⟨R.QOS_CFG, 0, 1⟩
def F.QOS_CFG.YELLOW_DEMOTE : Fld := ⟨R.QOS_CFG, 1, 1⟩

/-- `QOS_STATUS`, WARM. -/
def R.QOS_STATUS : RegDesc := ⟨0x1800004, 0x0, 1, 0x0, 1, .warm, .plain, fun _ => 0,
  [⟨0, 1, .ro⟩, ⟨1, 13, .ro⟩, ⟨14, 1, .ro⟩]⟩
def F.QOS_STATUS.ANY_HOLDING : Fld := ⟨R.QOS_STATUS, 0, 1⟩
def F.QOS_STATUS.FULL_POLICERS : Fld := ⟨R.QOS_STATUS, 1, 13⟩
def F.QOS_STATUS.GCL_PENDING : Fld := ⟨R.QOS_STATUS, 14, 1⟩

/-- `QOS_EVT`, WARM. -/
def R.QOS_EVT : RegDesc := ⟨0x1800008, 0x0, 1, 0x0, 1, .warm, .plain, fun _ => 0,
  [⟨0, 1, .w1c⟩, ⟨1, 1, .w1c⟩, ⟨2, 1, .w1c⟩, ⟨3, 1, .w1c⟩, ⟨4, 1, .w1c⟩, ⟨5, 1, .w1c⟩]⟩
def F.QOS_EVT.HOLD_FULL : Fld := ⟨R.QOS_EVT, 0, 1⟩
def F.QOS_EVT.GATE_OVERRUN : Fld := ⟨R.QOS_EVT, 1, 1⟩
def F.QOS_EVT.STARVE : Fld := ⟨R.QOS_EVT, 2, 1⟩
def F.QOS_EVT.GCL_SWITCH : Fld := ⟨R.QOS_EVT, 3, 1⟩
def F.QOS_EVT.GCL_STEP : Fld := ⟨R.QOS_EVT, 4, 1⟩
def F.QOS_EVT.RESET_DISCARD : Fld := ⟨R.QOS_EVT, 5, 1⟩

/-- `QOS_EVT_EN`, COLD. -/
def R.QOS_EVT_EN : RegDesc := ⟨0x180000C, 0x0, 1, 0x0, 1, .cold, .plain, fun _ => 0x17,
  [⟨0, 1, .rw⟩, ⟨1, 1, .rw⟩, ⟨2, 1, .rw⟩, ⟨3, 1, .rw⟩, ⟨4, 1, .rw⟩, ⟨5, 1, .rw⟩]⟩
def F.QOS_EVT_EN.HOLD_FULL : Fld := ⟨R.QOS_EVT_EN, 0, 1⟩
def F.QOS_EVT_EN.GATE_OVERRUN : Fld := ⟨R.QOS_EVT_EN, 1, 1⟩
def F.QOS_EVT_EN.STARVE : Fld := ⟨R.QOS_EVT_EN, 2, 1⟩
def F.QOS_EVT_EN.GCL_SWITCH : Fld := ⟨R.QOS_EVT_EN, 3, 1⟩
def F.QOS_EVT_EN.GCL_STEP : Fld := ⟨R.QOS_EVT_EN, 4, 1⟩
def F.QOS_EVT_EN.RESET_DISCARD : Fld := ⟨R.QOS_EVT_EN, 5, 1⟩

/-- `QOS_STARVE_CNT`, WARM. -/
def R.QOS_STARVE_CNT : RegDesc := ⟨0x1800040, 0x0, 1, 0x0, 1, .warm, .sat (some (0x18000FC, 0)), fun _ => 0,
  [⟨0, 32, .ro⟩]⟩
def F.QOS_STARVE_CNT.V : Fld := ⟨R.QOS_STARVE_CNT, 0, 32⟩

/-- `QOS_GATE_OVERRUN_TOTAL`, WARM. -/
def R.QOS_GATE_OVERRUN_TOTAL : RegDesc := ⟨0x1800044, 0x0, 1, 0x0, 1, .warm, .sat (some (0x18000FC, 1)), fun _ => 0,
  [⟨0, 32, .ro⟩]⟩
def F.QOS_GATE_OVERRUN_TOTAL.V : Fld := ⟨R.QOS_GATE_OVERRUN_TOTAL, 0, 32⟩

/-- `QOS_HOLD_FULL_CNT`, WARM. -/
def R.QOS_HOLD_FULL_CNT : RegDesc := ⟨0x1800048, 0x0, 1, 0x0, 1, .warm, .sat (some (0x18000FC, 2)), fun _ => 0,
  [⟨0, 32, .ro⟩]⟩
def F.QOS_HOLD_FULL_CNT.V : Fld := ⟨R.QOS_HOLD_FULL_CNT, 0, 32⟩

/-- `QOS_MOVE_WAIT_CNT`, WARM. -/
def R.QOS_MOVE_WAIT_CNT : RegDesc := ⟨0x180004C, 0x0, 1, 0x0, 1, .warm, .sat (some (0x18000FC, 3)), fun _ => 0,
  [⟨0, 32, .ro⟩]⟩
def F.QOS_MOVE_WAIT_CNT.V : Fld := ⟨R.QOS_MOVE_WAIT_CNT, 0, 32⟩

/-- `QOS_GCL_ERR_CNT`, WARM. -/
def R.QOS_GCL_ERR_CNT : RegDesc := ⟨0x1800050, 0x0, 1, 0x0, 1, .warm, .sat (some (0x18000FC, 4)), fun _ => 0,
  [⟨0, 32, .ro⟩]⟩
def F.QOS_GCL_ERR_CNT.V : Fld := ⟨R.QOS_GCL_ERR_CNT, 0, 32⟩

/-- `QOS_RESET_DISCARD_CNT`, WARM. -/
def R.QOS_RESET_DISCARD_CNT : RegDesc := ⟨0x1800054, 0x0, 1, 0x0, 1, .warm, .sat (some (0x18000FC, 5)), fun _ => 0,
  [⟨0, 32, .ro⟩]⟩
def F.QOS_RESET_DISCARD_CNT.V : Fld := ⟨R.QOS_RESET_DISCARD_CNT, 0, 32⟩

/-- `QOS_CNT_OVF`, WARM. -/
def R.QOS_CNT_OVF : RegDesc := ⟨0x18000FC, 0x0, 1, 0x0, 1, .warm, .plain, fun _ => 0,
  [⟨0, 32, .w1c⟩]⟩
def F.QOS_CNT_OVF.V : Fld := ⟨R.QOS_CNT_OVF, 0, 32⟩

/-- `QOS_PORT_CFG`, COLD. -/
def R.QOS_PORT_CFG : RegDesc := ⟨0x1810000, 0x0, 1, 0x40, 144, .cold, .plain, fun _ => 0x5832,
  [⟨0, 8, .co⟩, ⟨8, 6, .co⟩, ⟨14, 1, .co⟩]⟩
def F.QOS_PORT_CFG.STARVE_US : Fld := ⟨R.QOS_PORT_CFG, 0, 8⟩
def F.QOS_PORT_CFG.OVH : Fld := ⟨R.QOS_PORT_CFG, 8, 6⟩
def F.QOS_PORT_CFG.ACCT : Fld := ⟨R.QOS_PORT_CFG, 14, 1⟩

/-- `QOS_PORT_RATE`, COLD. -/
def R.QOS_PORT_RATE : RegDesc := ⟨0x1810004, 0x0, 1, 0x40, 144, .cold, .plain, fun _ => 0,
  [⟨0, 21, .co⟩]⟩
def F.QOS_PORT_RATE.RATE : Fld := ⟨R.QOS_PORT_RATE, 0, 21⟩

/-- `QOS_PORT_BURST`, COLD. -/
def R.QOS_PORT_BURST : RegDesc := ⟨0x1810008, 0x0, 1, 0x40, 144, .cold, .plain, fun _ => 0x80010000,
  [⟨0, 24, .co⟩, ⟨31, 1, .co⟩]⟩
def F.QOS_PORT_BURST.SIZE : Fld := ⟨R.QOS_PORT_BURST, 0, 24⟩
def F.QOS_PORT_BURST.TOK_INIT : Fld := ⟨R.QOS_PORT_BURST, 31, 1⟩

/-- `QOS_GCL_CTRL`, COLD. -/
def R.QOS_GCL_CTRL : RegDesc := ⟨0x181000C, 0x0, 1, 0x40, 144, .cold, .plain, fun _ => 0,
  [⟨0, 1, .co⟩, ⟨1, 1, .wo⟩, ⟨2, 8, .co⟩]⟩
def F.QOS_GCL_CTRL.GATE_EN : Fld := ⟨R.QOS_GCL_CTRL, 0, 1⟩
def F.QOS_GCL_CTRL.CHANGE : Fld := ⟨R.QOS_GCL_CTRL, 1, 1⟩
def F.QOS_GCL_CTRL.ADMIN_LAST : Fld := ⟨R.QOS_GCL_CTRL, 2, 8⟩

/-- `QOS_GCL_STATUS`, WARM. -/
def R.QOS_GCL_STATUS : RegDesc := ⟨0x1810010, 0x0, 1, 0x40, 144, .warm, .plain, fun _ => 0x3FC0000,
  [⟨0, 1, .ro⟩, ⟨1, 1, .ro⟩, ⟨2, 8, .ro⟩, ⟨10, 8, .ro⟩, ⟨18, 8, .ro⟩]⟩
def F.QOS_GCL_STATUS.OPER_VALID : Fld := ⟨R.QOS_GCL_STATUS, 0, 1⟩
def F.QOS_GCL_STATUS.CHANGE_PENDING : Fld := ⟨R.QOS_GCL_STATUS, 1, 1⟩
def F.QOS_GCL_STATUS.OPER_LAST : Fld := ⟨R.QOS_GCL_STATUS, 2, 8⟩
def F.QOS_GCL_STATUS.CUR_ENTRY : Fld := ⟨R.QOS_GCL_STATUS, 10, 8⟩
def F.QOS_GCL_STATUS.CUR_GATES : Fld := ⟨R.QOS_GCL_STATUS, 18, 8⟩

/-- `QOS_GCL_CYCLE`, COLD. -/
def R.QOS_GCL_CYCLE : RegDesc := ⟨0x1810014, 0x0, 1, 0x40, 144, .cold, .plain, fun _ => 0xF4240,
  [⟨0, 30, .co⟩]⟩
def F.QOS_GCL_CYCLE.CYCLE_NS : Fld := ⟨R.QOS_GCL_CYCLE, 0, 30⟩

/-- `QOS_GCL_BASE_LO`, COLD. -/
def R.QOS_GCL_BASE_LO : RegDesc := ⟨0x1810018, 0x0, 1, 0x40, 144, .cold, .plain, fun _ => 0,
  [⟨0, 32, .co⟩]⟩
def F.QOS_GCL_BASE_LO.V : Fld := ⟨R.QOS_GCL_BASE_LO, 0, 32⟩

/-- `QOS_GCL_BASE_HI`, COLD. -/
def R.QOS_GCL_BASE_HI : RegDesc := ⟨0x181001C, 0x0, 1, 0x40, 144, .cold, .plain, fun _ => 0,
  [⟨0, 32, .co⟩]⟩
def F.QOS_GCL_BASE_HI.V : Fld := ⟨R.QOS_GCL_BASE_HI, 0, 32⟩

/-- `QOS_GATE_OVERRUN_CNT`, WARM. -/
def R.QOS_GATE_OVERRUN_CNT : RegDesc := ⟨0x1810020, 0x0, 1, 0x40, 144, .warm, .sat (some (0x18000FC, 8)), fun _ => 0,
  [⟨0, 32, .ro⟩]⟩
def F.QOS_GATE_OVERRUN_CNT.V : Fld := ⟨R.QOS_GATE_OVERRUN_CNT, 0, 32⟩

/-- `QOS_PORT_SENT_LO`, WARM. -/
def R.QOS_PORT_SENT_LO : RegDesc := ⟨0x1810024, 0x0, 1, 0x40, 144, .warm, .statLo, fun _ => 0,
  [⟨0, 32, .ro⟩]⟩
def F.QOS_PORT_SENT_LO.V : Fld := ⟨R.QOS_PORT_SENT_LO, 0, 32⟩

/-- `QOS_PORT_SENT_HI`, WARM. -/
def R.QOS_PORT_SENT_HI : RegDesc := ⟨0x1810028, 0x0, 1, 0x40, 144, .warm, .statHi, fun _ => 0,
  [⟨0, 32, .ro⟩]⟩
def F.QOS_PORT_SENT_HI.V : Fld := ⟨R.QOS_PORT_SENT_HI, 0, 32⟩

/-- `QOS_POL_CFG`, COLD. -/
def R.QOS_POL_CFG : RegDesc := ⟨0x1900000, 0x0, 1, 0x40, 4096, .cold, .plain, fun _ => 0x100002,
  [⟨0, 1, .co⟩, ⟨1, 1, .co⟩, ⟨2, 1, .co⟩, ⟨3, 1, .co⟩, ⟨4, 6, .co⟩, ⟨10, 16, .co⟩]⟩
def F.QOS_POL_CFG.ENABLE : Fld := ⟨R.QOS_POL_CFG, 0, 1⟩
def F.QOS_POL_CFG.DIR_DOWN : Fld := ⟨R.QOS_POL_CFG, 1, 1⟩
def F.QOS_POL_CFG.DIR_UP : Fld := ⟨R.QOS_POL_CFG, 2, 1⟩
def F.QOS_POL_CFG.ACCT : Fld := ⟨R.QOS_POL_CFG, 3, 1⟩
def F.QOS_POL_CFG.OVH : Fld := ⟨R.QOS_POL_CFG, 4, 6⟩
def F.QOS_POL_CFG.HOLD_MAX : Fld := ⟨R.QOS_POL_CFG, 10, 16⟩

/-- `QOS_POL_CIR`, COLD. -/
def R.QOS_POL_CIR : RegDesc := ⟨0x1900004, 0x0, 1, 0x40, 4096, .cold, .plain, fun _ => 0,
  [⟨0, 21, .co⟩]⟩
def F.QOS_POL_CIR.RATE : Fld := ⟨R.QOS_POL_CIR, 0, 21⟩

/-- `QOS_POL_PIR`, COLD. -/
def R.QOS_POL_PIR : RegDesc := ⟨0x1900008, 0x0, 1, 0x40, 4096, .cold, .plain, fun _ => 2048000,
  [⟨0, 21, .co⟩]⟩
def F.QOS_POL_PIR.RATE : Fld := ⟨R.QOS_POL_PIR, 0, 21⟩

/-- `QOS_POL_CBS`, COLD. -/
def R.QOS_POL_CBS : RegDesc := ⟨0x190000C, 0x0, 1, 0x40, 4096, .cold, .plain, fun _ => 0x80010000,
  [⟨0, 24, .co⟩, ⟨31, 1, .co⟩]⟩
def F.QOS_POL_CBS.SIZE : Fld := ⟨R.QOS_POL_CBS, 0, 24⟩
def F.QOS_POL_CBS.TOK_INIT : Fld := ⟨R.QOS_POL_CBS, 31, 1⟩

/-- `QOS_POL_PBS`, COLD. -/
def R.QOS_POL_PBS : RegDesc := ⟨0x1900010, 0x0, 1, 0x40, 4096, .cold, .plain, fun _ => 0x80010000,
  [⟨0, 24, .co⟩, ⟨31, 1, .co⟩]⟩
def F.QOS_POL_PBS.SIZE : Fld := ⟨R.QOS_POL_PBS, 0, 24⟩
def F.QOS_POL_PBS.TOK_INIT : Fld := ⟨R.QOS_POL_PBS, 31, 1⟩

/-- `QOS_POL_STATUS`, WARM. -/
def R.QOS_POL_STATUS : RegDesc := ⟨0x1900014, 0x0, 1, 0x40, 4096, .warm, .plain, fun _ => 0,
  [⟨0, 18, .ro⟩, ⟨18, 1, .ro⟩, ⟨19, 1, .ro⟩, ⟨20, 1, .ro⟩]⟩
def F.QOS_POL_STATUS.HELD : Fld := ⟨R.QOS_POL_STATUS, 0, 18⟩
def F.QOS_POL_STATUS.FULL : Fld := ⟨R.QOS_POL_STATUS, 18, 1⟩
def F.QOS_POL_STATUS.HOLDING_P : Fld := ⟨R.QOS_POL_STATUS, 19, 1⟩
def F.QOS_POL_STATUS.HOLDING_NP : Fld := ⟨R.QOS_POL_STATUS, 20, 1⟩

/-- `QOS_POL_RED_CNT`, WARM. -/
def R.QOS_POL_RED_CNT : RegDesc := ⟨0x1900018, 0x0, 1, 0x40, 4096, .warm, .sat (some (0x18000FC, 8)), fun _ => 0,
  [⟨0, 32, .ro⟩]⟩
def F.QOS_POL_RED_CNT.V : Fld := ⟨R.QOS_POL_RED_CNT, 0, 32⟩

/-- `QOS_POL_HOLD_FULL_CNT`, WARM. -/
def R.QOS_POL_HOLD_FULL_CNT : RegDesc := ⟨0x190001C, 0x0, 1, 0x40, 4096, .warm, .sat (some (0x18000FC, 8)), fun _ => 0,
  [⟨0, 32, .ro⟩]⟩
def F.QOS_POL_HOLD_FULL_CNT.V : Fld := ⟨R.QOS_POL_HOLD_FULL_CNT, 0, 32⟩

/-- `QOS_POL_GREEN_LO`, WARM. -/
def R.QOS_POL_GREEN_LO : RegDesc := ⟨0x1900020, 0x0, 1, 0x40, 4096, .warm, .statLo, fun _ => 0,
  [⟨0, 32, .ro⟩]⟩
def F.QOS_POL_GREEN_LO.V : Fld := ⟨R.QOS_POL_GREEN_LO, 0, 32⟩

/-- `QOS_POL_GREEN_HI`, WARM. -/
def R.QOS_POL_GREEN_HI : RegDesc := ⟨0x1900024, 0x0, 1, 0x40, 4096, .warm, .statHi, fun _ => 0,
  [⟨0, 32, .ro⟩]⟩
def F.QOS_POL_GREEN_HI.V : Fld := ⟨R.QOS_POL_GREEN_HI, 0, 32⟩

/-- `QOS_POL_YELLOW_LO`, WARM. -/
def R.QOS_POL_YELLOW_LO : RegDesc := ⟨0x1900028, 0x0, 1, 0x40, 4096, .warm, .statLo, fun _ => 0,
  [⟨0, 32, .ro⟩]⟩
def F.QOS_POL_YELLOW_LO.V : Fld := ⟨R.QOS_POL_YELLOW_LO, 0, 32⟩

/-- `QOS_POL_YELLOW_HI`, WARM. -/
def R.QOS_POL_YELLOW_HI : RegDesc := ⟨0x190002C, 0x0, 1, 0x40, 4096, .warm, .statHi, fun _ => 0,
  [⟨0, 32, .ro⟩]⟩
def F.QOS_POL_YELLOW_HI.V : Fld := ⟨R.QOS_POL_YELLOW_HI, 0, 32⟩

/-- `QOS_NODE_CFG`, COLD. -/
def R.QOS_NODE_CFG : RegDesc := ⟨0x1A00004, 0x0, 1, 0x40, 4096, .cold, .plain, fun n => if n < 144 then 0x109 else 0x108,
  [⟨0, 1, .co⟩, ⟨1, 3, .co⟩, ⟨4, 10, .co⟩, ⟨14, 1, .co⟩, ⟨15, 6, .co⟩]⟩
def F.QOS_NODE_CFG.ENABLE : Fld := ⟨R.QOS_NODE_CFG, 0, 1⟩
def F.QOS_NODE_CFG.PRIO : Fld := ⟨R.QOS_NODE_CFG, 1, 3⟩
def F.QOS_NODE_CFG.WEIGHT : Fld := ⟨R.QOS_NODE_CFG, 4, 10⟩
def F.QOS_NODE_CFG.ACCT : Fld := ⟨R.QOS_NODE_CFG, 14, 1⟩
def F.QOS_NODE_CFG.OVH : Fld := ⟨R.QOS_NODE_CFG, 15, 6⟩

/-- `QOS_NODE_TCMAP`, COLD. -/
def R.QOS_NODE_TCMAP : RegDesc := ⟨0x1A00008, 0x0, 1, 0x40, 4096, .cold, .plain, fun _ => 0xFAC688,
  [⟨0, 3, .co⟩, ⟨3, 3, .co⟩, ⟨6, 3, .co⟩, ⟨9, 3, .co⟩, ⟨12, 3, .co⟩, ⟨15, 3, .co⟩, ⟨18, 3, .co⟩, ⟨21, 3, .co⟩]⟩
def F.QOS_NODE_TCMAP.CLASS_0 : Fld := ⟨R.QOS_NODE_TCMAP, 0, 3⟩
def F.QOS_NODE_TCMAP.CLASS_1 : Fld := ⟨R.QOS_NODE_TCMAP, 3, 3⟩
def F.QOS_NODE_TCMAP.CLASS_2 : Fld := ⟨R.QOS_NODE_TCMAP, 6, 3⟩
def F.QOS_NODE_TCMAP.CLASS_3 : Fld := ⟨R.QOS_NODE_TCMAP, 9, 3⟩
def F.QOS_NODE_TCMAP.CLASS_4 : Fld := ⟨R.QOS_NODE_TCMAP, 12, 3⟩
def F.QOS_NODE_TCMAP.CLASS_5 : Fld := ⟨R.QOS_NODE_TCMAP, 15, 3⟩
def F.QOS_NODE_TCMAP.CLASS_6 : Fld := ⟨R.QOS_NODE_TCMAP, 18, 3⟩
def F.QOS_NODE_TCMAP.CLASS_7 : Fld := ⟨R.QOS_NODE_TCMAP, 21, 3⟩

/-- `QOS_NODE_RATE`, COLD. -/
def R.QOS_NODE_RATE : RegDesc := ⟨0x1A0000C, 0x0, 1, 0x40, 4096, .cold, .plain, fun _ => 0,
  [⟨0, 21, .co⟩]⟩
def F.QOS_NODE_RATE.RATE : Fld := ⟨R.QOS_NODE_RATE, 0, 21⟩

/-- `QOS_NODE_BURST`, COLD. -/
def R.QOS_NODE_BURST : RegDesc := ⟨0x1A00010, 0x0, 1, 0x40, 4096, .cold, .plain, fun _ => 0x80010000,
  [⟨0, 24, .co⟩, ⟨31, 1, .co⟩]⟩
def F.QOS_NODE_BURST.SIZE : Fld := ⟨R.QOS_NODE_BURST, 0, 24⟩
def F.QOS_NODE_BURST.TOK_INIT : Fld := ⟨R.QOS_NODE_BURST, 31, 1⟩

/-- `QOS_NODE_CS_RATE`, COLD. -/
def R.QOS_NODE_CS_RATE : RegDesc := ⟨0x1A00014, 0x0, 1, 0x40, 4096, .cold, .plain, fun _ => 0,
  [⟨0, 21, .co⟩]⟩
def F.QOS_NODE_CS_RATE.RATE : Fld := ⟨R.QOS_NODE_CS_RATE, 0, 21⟩

/-- `QOS_NODE_CS_HI`, COLD. -/
def R.QOS_NODE_CS_HI : RegDesc := ⟨0x1A00018, 0x0, 1, 0x40, 4096, .cold, .plain, fun _ => 0,
  [⟨0, 24, .co⟩]⟩
def F.QOS_NODE_CS_HI.HI : Fld := ⟨R.QOS_NODE_CS_HI, 0, 24⟩

/-- `QOS_NODE_STATUS`, WARM. -/
def R.QOS_NODE_STATUS : RegDesc := ⟨0x1A0001C, 0x0, 1, 0x40, 4096, .warm, .plain, fun _ => 0,
  [⟨0, 1, .ro⟩, ⟨1, 1, .ro⟩, ⟨2, 1, .ro⟩, ⟨3, 1, .ro⟩, ⟨4, 1, .ro⟩, ⟨5, 1, .ro⟩]⟩
def F.QOS_NODE_STATUS.BACKLOG : Fld := ⟨R.QOS_NODE_STATUS, 0, 1⟩
def F.QOS_NODE_STATUS.ELIGIBLE : Fld := ⟨R.QOS_NODE_STATUS, 1, 1⟩
def F.QOS_NODE_STATUS.SHAPED : Fld := ⟨R.QOS_NODE_STATUS, 2, 1⟩
def F.QOS_NODE_STATUS.CS_NEG : Fld := ⟨R.QOS_NODE_STATUS, 3, 1⟩
def F.QOS_NODE_STATUS.GATE_SHUT : Fld := ⟨R.QOS_NODE_STATUS, 4, 1⟩
def F.QOS_NODE_STATUS.DRAIN_OLD : Fld := ⟨R.QOS_NODE_STATUS, 5, 1⟩

/-- `QOS_NODE_SENT_LO`, WARM. -/
def R.QOS_NODE_SENT_LO : RegDesc := ⟨0x1A00020, 0x0, 1, 0x40, 4096, .warm, .statLo, fun _ => 0,
  [⟨0, 32, .ro⟩]⟩
def F.QOS_NODE_SENT_LO.V : Fld := ⟨R.QOS_NODE_SENT_LO, 0, 32⟩

/-- `QOS_NODE_SENT_HI`, WARM. -/
def R.QOS_NODE_SENT_HI : RegDesc := ⟨0x1A00024, 0x0, 1, 0x40, 4096, .warm, .statHi, fun _ => 0,
  [⟨0, 32, .ro⟩]⟩
def F.QOS_NODE_SENT_HI.V : Fld := ⟨R.QOS_NODE_SENT_HI, 0, 32⟩

/-- `QOS_SQ_CFG`, COLD. -/
def R.QOS_SQ_CFG : RegDesc := ⟨0x1B00000, 0x100, 4096, 0x20, 8, .cold, .plain, fun _ => 0x101,
  [⟨0, 1, .co⟩, ⟨1, 3, .co⟩, ⟨4, 10, .co⟩, ⟨14, 1, .co⟩, ⟨15, 6, .co⟩]⟩
def F.QOS_SQ_CFG.ENABLE : Fld := ⟨R.QOS_SQ_CFG, 0, 1⟩
def F.QOS_SQ_CFG.PRIO : Fld := ⟨R.QOS_SQ_CFG, 1, 3⟩
def F.QOS_SQ_CFG.WEIGHT : Fld := ⟨R.QOS_SQ_CFG, 4, 10⟩
def F.QOS_SQ_CFG.ACCT : Fld := ⟨R.QOS_SQ_CFG, 14, 1⟩
def F.QOS_SQ_CFG.OVH : Fld := ⟨R.QOS_SQ_CFG, 15, 6⟩

/-- `QOS_SQ_RATE`, COLD. -/
def R.QOS_SQ_RATE : RegDesc := ⟨0x1B00004, 0x100, 4096, 0x20, 8, .cold, .plain, fun _ => 0,
  [⟨0, 21, .co⟩]⟩
def F.QOS_SQ_RATE.RATE : Fld := ⟨R.QOS_SQ_RATE, 0, 21⟩

/-- `QOS_SQ_BURST`, COLD. -/
def R.QOS_SQ_BURST : RegDesc := ⟨0x1B00008, 0x100, 4096, 0x20, 8, .cold, .plain, fun _ => 0x80010000,
  [⟨0, 24, .co⟩, ⟨31, 1, .co⟩]⟩
def F.QOS_SQ_BURST.SIZE : Fld := ⟨R.QOS_SQ_BURST, 0, 24⟩
def F.QOS_SQ_BURST.TOK_INIT : Fld := ⟨R.QOS_SQ_BURST, 31, 1⟩

/-- `QOS_SQ_CS_RATE`, COLD. -/
def R.QOS_SQ_CS_RATE : RegDesc := ⟨0x1B0000C, 0x100, 4096, 0x20, 8, .cold, .plain, fun _ => 0,
  [⟨0, 21, .co⟩]⟩
def F.QOS_SQ_CS_RATE.RATE : Fld := ⟨R.QOS_SQ_CS_RATE, 0, 21⟩

/-- `QOS_SQ_CS_HI`, COLD. -/
def R.QOS_SQ_CS_HI : RegDesc := ⟨0x1B00010, 0x100, 4096, 0x20, 8, .cold, .plain, fun _ => 0,
  [⟨0, 24, .co⟩]⟩
def F.QOS_SQ_CS_HI.HI : Fld := ⟨R.QOS_SQ_CS_HI, 0, 24⟩

/-- `QOS_SQ_STATUS`, WARM. -/
def R.QOS_SQ_STATUS : RegDesc := ⟨0x1B00014, 0x100, 4096, 0x20, 8, .warm, .plain, fun _ => 0,
  [⟨0, 1, .ro⟩, ⟨1, 1, .ro⟩, ⟨2, 1, .ro⟩, ⟨3, 1, .ro⟩, ⟨4, 1, .ro⟩, ⟨5, 1, .ro⟩]⟩
def F.QOS_SQ_STATUS.BACKLOG : Fld := ⟨R.QOS_SQ_STATUS, 0, 1⟩
def F.QOS_SQ_STATUS.ELIGIBLE : Fld := ⟨R.QOS_SQ_STATUS, 1, 1⟩
def F.QOS_SQ_STATUS.SHAPED : Fld := ⟨R.QOS_SQ_STATUS, 2, 1⟩
def F.QOS_SQ_STATUS.CS_NEG : Fld := ⟨R.QOS_SQ_STATUS, 3, 1⟩
def F.QOS_SQ_STATUS.GATE_SHUT : Fld := ⟨R.QOS_SQ_STATUS, 4, 1⟩
def F.QOS_SQ_STATUS.DRAIN_OLD : Fld := ⟨R.QOS_SQ_STATUS, 5, 1⟩

/-- `QOS_SQ_SENT_LO`, WARM. -/
def R.QOS_SQ_SENT_LO : RegDesc := ⟨0x1B00018, 0x100, 4096, 0x20, 8, .warm, .statLo, fun _ => 0,
  [⟨0, 32, .ro⟩]⟩
def F.QOS_SQ_SENT_LO.V : Fld := ⟨R.QOS_SQ_SENT_LO, 0, 32⟩

/-- `QOS_SQ_SENT_HI`, WARM. -/
def R.QOS_SQ_SENT_HI : RegDesc := ⟨0x1B0001C, 0x100, 4096, 0x20, 8, .warm, .statHi, fun _ => 0,
  [⟨0, 32, .ro⟩]⟩
def F.QOS_SQ_SENT_HI.V : Fld := ⟨R.QOS_SQ_SENT_HI, 0, 32⟩

/-! ## Registers of 10_access_checks.md -/

/-- `ACU_CFG`, COLD. -/
def R.ACU_CFG : RegDesc := ⟨0x1C00000, 0x0, 1, 0x0, 1, .cold, .plain, fun _ => 0x1,
  [⟨0, 1, .co⟩]⟩
def F.ACU_CFG.ENABLE : Fld := ⟨R.ACU_CFG, 0, 1⟩

/-- `ACU_STATUS`, WARM. -/
def R.ACU_STATUS : RegDesc := ⟨0x1C00004, 0x0, 1, 0x0, 1, .warm, .plain, fun _ => 0,
  [⟨0, 14, .ro⟩, ⟨14, 1, .ro⟩]⟩
def F.ACU_STATUS.RULES_ACTIVE : Fld := ⟨R.ACU_STATUS, 0, 14⟩
def F.ACU_STATUS.FV_VALID : Fld := ⟨R.ACU_STATUS, 14, 1⟩

/-- `ACU_EVT`, WARM. -/
def R.ACU_EVT : RegDesc := ⟨0x1C00008, 0x0, 1, 0x0, 1, .warm, .plain, fun _ => 0,
  [⟨0, 1, .w1c⟩, ⟨1, 1, .w1c⟩, ⟨2, 1, .w1c⟩]⟩
def F.ACU_EVT.VIOLATION : Fld := ⟨R.ACU_EVT, 0, 1⟩
def F.ACU_EVT.FIRST_CAPTURED : Fld := ⟨R.ACU_EVT, 1, 1⟩
def F.ACU_EVT.SPLIT : Fld := ⟨R.ACU_EVT, 2, 1⟩

/-- `ACU_EVT_EN`, COLD. -/
def R.ACU_EVT_EN : RegDesc := ⟨0x1C0000C, 0x0, 1, 0x0, 1, .cold, .plain, fun _ => 0x2,
  [⟨0, 1, .rw⟩, ⟨1, 1, .rw⟩, ⟨2, 1, .rw⟩]⟩
def F.ACU_EVT_EN.VIOLATION : Fld := ⟨R.ACU_EVT_EN, 0, 1⟩
def F.ACU_EVT_EN.FIRST_CAPTURED : Fld := ⟨R.ACU_EVT_EN, 1, 1⟩
def F.ACU_EVT_EN.SPLIT : Fld := ⟨R.ACU_EVT_EN, 2, 1⟩

/-- `ACU_FV_INFO`, WARM. -/
def R.ACU_FV_INFO : RegDesc := ⟨0x1C00010, 0x0, 1, 0x0, 1, .warm, .plain, fun _ => 0,
  [⟨0, 1, .w1c⟩, ⟨1, 2, .ro⟩, ⟨3, 1, .ro⟩, ⟨4, 13, .ro⟩, ⟨17, 12, .ro⟩]⟩
def F.ACU_FV_INFO.VALID : Fld := ⟨R.ACU_FV_INFO, 0, 1⟩
def F.ACU_FV_INFO.DIR : Fld := ⟨R.ACU_FV_INFO, 1, 2⟩
def F.ACU_FV_INFO.WRITE : Fld := ⟨R.ACU_FV_INFO, 3, 1⟩
def F.ACU_FV_INFO.LEN : Fld := ⟨R.ACU_FV_INFO, 4, 13⟩
def F.ACU_FV_INFO.BINDING : Fld := ⟨R.ACU_FV_INFO, 17, 12⟩

/-- `ACU_FV_ADDR_LO`, WARM. -/
def R.ACU_FV_ADDR_LO : RegDesc := ⟨0x1C00014, 0x0, 1, 0x0, 1, .warm, .plain, fun _ => 0,
  [⟨0, 32, .ro⟩]⟩
def F.ACU_FV_ADDR_LO.V : Fld := ⟨R.ACU_FV_ADDR_LO, 0, 32⟩

/-- `ACU_FV_ADDR_HI`, WARM. -/
def R.ACU_FV_ADDR_HI : RegDesc := ⟨0x1C00018, 0x0, 1, 0x0, 1, .warm, .plain, fun _ => 0,
  [⟨0, 32, .ro⟩]⟩
def F.ACU_FV_ADDR_HI.V : Fld := ⟨R.ACU_FV_ADDR_HI, 0, 32⟩

/-- `ACU_FV_RULE`, WARM. -/
def R.ACU_FV_RULE : RegDesc := ⟨0x1C0001C, 0x0, 1, 0x0, 1, .warm, .plain, fun _ => 0,
  [⟨0, 13, .ro⟩, ⟨13, 8, .ro⟩, ⟨21, 1, .ro⟩]⟩
def F.ACU_FV_RULE.RULE : Fld := ⟨R.ACU_FV_RULE, 0, 13⟩
def F.ACU_FV_RULE.VH : Fld := ⟨R.ACU_FV_RULE, 13, 8⟩
def F.ACU_FV_RULE.CXL : Fld := ⟨R.ACU_FV_RULE, 21, 1⟩

/-- `ACU_FV_TIME_LO`, WARM. -/
def R.ACU_FV_TIME_LO : RegDesc := ⟨0x1C00020, 0x0, 1, 0x0, 1, .warm, .plain, fun _ => 0,
  [⟨0, 32, .ro⟩]⟩
def F.ACU_FV_TIME_LO.V : Fld := ⟨R.ACU_FV_TIME_LO, 0, 32⟩

/-- `ACU_FV_TIME_HI`, WARM. -/
def R.ACU_FV_TIME_HI : RegDesc := ⟨0x1C00024, 0x0, 1, 0x0, 1, .warm, .plain, fun _ => 0,
  [⟨0, 32, .ro⟩]⟩
def F.ACU_FV_TIME_HI.V : Fld := ⟨R.ACU_FV_TIME_HI, 0, 32⟩

/-- `ACU_VIOL_CNT`, WARM. -/
def R.ACU_VIOL_CNT : RegDesc := ⟨0x1C00040, 0x0, 1, 0x0, 1, .warm, .sat (some (0x1C000FC, 0)), fun _ => 0,
  [⟨0, 32, .ro⟩]⟩
def F.ACU_VIOL_CNT.V : Fld := ⟨R.ACU_VIOL_CNT, 0, 32⟩

/-- `ACU_SPLIT_CNT`, WARM. -/
def R.ACU_SPLIT_CNT : RegDesc := ⟨0x1C00044, 0x0, 1, 0x0, 1, .warm, .sat (some (0x1C000FC, 1)), fun _ => 0,
  [⟨0, 32, .ro⟩]⟩
def F.ACU_SPLIT_CNT.V : Fld := ⟨R.ACU_SPLIT_CNT, 0, 32⟩

/-- `ACU_TAIL_CNT`, WARM. -/
def R.ACU_TAIL_CNT : RegDesc := ⟨0x1C00048, 0x0, 1, 0x0, 1, .warm, .sat (some (0x1C000FC, 2)), fun _ => 0,
  [⟨0, 32, .ro⟩]⟩
def F.ACU_TAIL_CNT.V : Fld := ⟨R.ACU_TAIL_CNT, 0, 32⟩

/-- `ACU_CNT_OVF`, WARM. -/
def R.ACU_CNT_OVF : RegDesc := ⟨0x1C000FC, 0x0, 1, 0x0, 1, .warm, .plain, fun _ => 0,
  [⟨0, 32, .w1c⟩]⟩
def F.ACU_CNT_OVF.V : Fld := ⟨R.ACU_CNT_OVF, 0, 32⟩

/-- `DBG_CTRL`, WARM. -/
def R.DBG_CTRL : RegDesc := ⟨0x3000000, 0x0, 1, 0x0, 1, .warm, .plain, fun _ => 0,
  [⟨0, 1, .wo⟩, ⟨1, 1, .wo⟩, ⟨2, 1, .wo⟩]⟩
def F.DBG_CTRL.VERIFY : Fld := ⟨R.DBG_CTRL, 0, 1⟩
def F.DBG_CTRL.RELOCK : Fld := ⟨R.DBG_CTRL, 1, 1⟩
def F.DBG_CTRL.CLR_TOKEN : Fld := ⟨R.DBG_CTRL, 2, 1⟩

/-- `DBG_STATUS`, WARM. -/
def R.DBG_STATUS : RegDesc := ⟨0x3000004, 0x0, 1, 0x0, 1, .warm, .plain, fun _ => 0,
  [⟨0, 1, .ro⟩, ⟨1, 1, .ro⟩, ⟨2, 3, .ro⟩, ⟨5, 1, .ro⟩, ⟨6, 1, .ro⟩]⟩
def F.DBG_STATUS.UNLOCKED : Fld := ⟨R.DBG_STATUS, 0, 1⟩
def F.DBG_STATUS.VERIFYING : Fld := ⟨R.DBG_STATUS, 1, 1⟩
def F.DBG_STATUS.RESULT : Fld := ⟨R.DBG_STATUS, 2, 3⟩
def F.DBG_STATUS.BND_LOCKED : Fld := ⟨R.DBG_STATUS, 5, 1⟩
def F.DBG_STATUS.LAST_LOCKED : Fld := ⟨R.DBG_STATUS, 6, 1⟩

/-- `DBG_EVT`, WARM. -/
def R.DBG_EVT : RegDesc := ⟨0x3000008, 0x0, 1, 0x0, 1, .warm, .plain, fun _ => 0,
  [⟨0, 1, .w1c⟩, ⟨1, 1, .w1c⟩, ⟨2, 1, .w1c⟩, ⟨3, 1, .w1c⟩]⟩
def F.DBG_EVT.LOCK_HIT : Fld := ⟨R.DBG_EVT, 0, 1⟩
def F.DBG_EVT.UNLOCKED : Fld := ⟨R.DBG_EVT, 1, 1⟩
def F.DBG_EVT.TOKEN_REJECTED : Fld := ⟨R.DBG_EVT, 2, 1⟩
def F.DBG_EVT.RELOCKED : Fld := ⟨R.DBG_EVT, 3, 1⟩

/-- `DBG_EVT_EN`, COLD. -/
def R.DBG_EVT_EN : RegDesc := ⟨0x300000C, 0x0, 1, 0x0, 1, .cold, .plain, fun _ => 0xF,
  [⟨0, 1, .rw⟩, ⟨1, 1, .rw⟩, ⟨2, 1, .rw⟩, ⟨3, 1, .rw⟩]⟩
def F.DBG_EVT_EN.LOCK_HIT : Fld := ⟨R.DBG_EVT_EN, 0, 1⟩
def F.DBG_EVT_EN.UNLOCKED : Fld := ⟨R.DBG_EVT_EN, 1, 1⟩
def F.DBG_EVT_EN.TOKEN_REJECTED : Fld := ⟨R.DBG_EVT_EN, 2, 1⟩
def F.DBG_EVT_EN.RELOCKED : Fld := ⟨R.DBG_EVT_EN, 3, 1⟩

/-- `DBG_LOCK_FV_INFO`, COLD. -/
def R.DBG_LOCK_FV_INFO : RegDesc := ⟨0x3000010, 0x0, 1, 0x0, 1, .cold, .plain, fun _ => 0,
  [⟨0, 1, .w1c⟩, ⟨1, 1, .ro⟩, ⟨2, 2, .ro⟩, ⟨4, 1, .ro⟩]⟩
def F.DBG_LOCK_FV_INFO.VALID : Fld := ⟨R.DBG_LOCK_FV_INFO, 0, 1⟩
def F.DBG_LOCK_FV_INFO.WRITE : Fld := ⟨R.DBG_LOCK_FV_INFO, 1, 1⟩
def F.DBG_LOCK_FV_INFO.REGION : Fld := ⟨R.DBG_LOCK_FV_INFO, 2, 2⟩
def F.DBG_LOCK_FV_INFO.UNLOCKED_AT : Fld := ⟨R.DBG_LOCK_FV_INFO, 4, 1⟩

/-- `DBG_LOCK_FV_ADDR_LO`, COLD. -/
def R.DBG_LOCK_FV_ADDR_LO : RegDesc := ⟨0x3000014, 0x0, 1, 0x0, 1, .cold, .plain, fun _ => 0,
  [⟨0, 32, .ro⟩]⟩
def F.DBG_LOCK_FV_ADDR_LO.V : Fld := ⟨R.DBG_LOCK_FV_ADDR_LO, 0, 32⟩

/-- `DBG_LOCK_FV_ADDR_HI`, COLD. -/
def R.DBG_LOCK_FV_ADDR_HI : RegDesc := ⟨0x3000018, 0x0, 1, 0x0, 1, .cold, .plain, fun _ => 0,
  [⟨0, 32, .ro⟩]⟩
def F.DBG_LOCK_FV_ADDR_HI.V : Fld := ⟨R.DBG_LOCK_FV_ADDR_HI, 0, 32⟩

/-- `DBG_LOCK_FV_TIME_LO`, COLD. -/
def R.DBG_LOCK_FV_TIME_LO : RegDesc := ⟨0x300001C, 0x0, 1, 0x0, 1, .cold, .plain, fun _ => 0,
  [⟨0, 32, .ro⟩]⟩
def F.DBG_LOCK_FV_TIME_LO.V : Fld := ⟨R.DBG_LOCK_FV_TIME_LO, 0, 32⟩

/-- `DBG_LOCK_FV_TIME_HI`, COLD. -/
def R.DBG_LOCK_FV_TIME_HI : RegDesc := ⟨0x3000020, 0x0, 1, 0x0, 1, .cold, .plain, fun _ => 0,
  [⟨0, 32, .ro⟩]⟩
def F.DBG_LOCK_FV_TIME_HI.V : Fld := ⟨R.DBG_LOCK_FV_TIME_HI, 0, 32⟩

/-- `DBG_LOCK_VIOL_CNT`, COLD. -/
def R.DBG_LOCK_VIOL_CNT : RegDesc := ⟨0x3000040, 0x0, 1, 0x0, 1, .cold, .sat (some (0x30000FC, 0)), fun _ => 0,
  [⟨0, 32, .ro⟩]⟩
def F.DBG_LOCK_VIOL_CNT.V : Fld := ⟨R.DBG_LOCK_VIOL_CNT, 0, 32⟩

/-- `DBG_CNT_OVF`, COLD. -/
def R.DBG_CNT_OVF : RegDesc := ⟨0x30000FC, 0x0, 1, 0x0, 1, .cold, .plain, fun _ => 0,
  [⟨0, 32, .w1c⟩]⟩
def F.DBG_CNT_OVF.V : Fld := ⟨R.DBG_CNT_OVF, 0, 32⟩

/-! ## Registers of 11_service_engine.md -/

/-- `Q_DESC_BASE_LO`, VH. -/
def R.Q_DESC_BASE_LO : RegDesc := ⟨0x10000000, 0x10000, 2048, 0x40, 256, .vh, .plain, fun _ => 0,
  [⟨6, 26, .rw⟩]⟩
def F.Q_DESC_BASE_LO.ADDR : Fld := ⟨R.Q_DESC_BASE_LO, 6, 26⟩

/-- `Q_DESC_BASE_HI`, VH. -/
def R.Q_DESC_BASE_HI : RegDesc := ⟨0x10000004, 0x10000, 2048, 0x40, 256, .vh, .plain, fun _ => 0,
  [⟨0, 32, .rw⟩]⟩
def F.Q_DESC_BASE_HI.ADDR : Fld := ⟨R.Q_DESC_BASE_HI, 0, 32⟩

/-- `Q_CPL_BASE_LO`, VH. -/
def R.Q_CPL_BASE_LO : RegDesc := ⟨0x10000008, 0x10000, 2048, 0x40, 256, .vh, .plain, fun _ => 0,
  [⟨4, 28, .rw⟩]⟩
def F.Q_CPL_BASE_LO.ADDR : Fld := ⟨R.Q_CPL_BASE_LO, 4, 28⟩

/-- `Q_CPL_BASE_HI`, VH. -/
def R.Q_CPL_BASE_HI : RegDesc := ⟨0x1000000C, 0x10000, 2048, 0x40, 256, .vh, .plain, fun _ => 0,
  [⟨0, 32, .rw⟩]⟩
def F.Q_CPL_BASE_HI.ADDR : Fld := ⟨R.Q_CPL_BASE_HI, 0, 32⟩

/-- `Q_CFG`, VH. -/
def R.Q_CFG : RegDesc := ⟨0x10000010, 0x10000, 2048, 0x40, 256, .vh, .plain, fun _ => 0xC6,
  [⟨0, 5, .rw⟩, ⟨5, 5, .rw⟩, ⟨10, 8, .rw⟩, ⟨18, 1, .rw⟩, ⟨19, 1, .rw⟩]⟩
def F.Q_CFG.DESC_LOG2 : Fld := ⟨R.Q_CFG, 0, 5⟩
def F.Q_CFG.CPL_LOG2 : Fld := ⟨R.Q_CFG, 5, 5⟩
def F.Q_CFG.VECTOR : Fld := ⟨R.Q_CFG, 10, 8⟩
def F.Q_CFG.INT_EN : Fld := ⟨R.Q_CFG, 18, 1⟩
def F.Q_CFG.PASID_EN : Fld := ⟨R.Q_CFG, 19, 1⟩

/-- `Q_PASID`, VH. -/
def R.Q_PASID : RegDesc := ⟨0x10000014, 0x10000, 2048, 0x40, 256, .vh, .plain, fun _ => 0,
  [⟨0, 20, .rw⟩]⟩
def F.Q_PASID.PASID : Fld := ⟨R.Q_PASID, 0, 20⟩

/-- `Q_CTRL`, VH. -/
def R.Q_CTRL : RegDesc := ⟨0x10000018, 0x10000, 2048, 0x40, 256, .vh, .plain, fun _ => 0,
  [⟨0, 1, .rw⟩]⟩
def F.Q_CTRL.ENABLE : Fld := ⟨R.Q_CTRL, 0, 1⟩

/-- `Q_INT`, VH. -/
def R.Q_INT : RegDesc := ⟨0x1000001C, 0x10000, 2048, 0x40, 256, .vh, .plain, fun _ => 0,
  [⟨0, 8, .rw⟩, ⟨8, 8, .rw⟩]⟩
def F.Q_INT.COAL_CNT : Fld := ⟨R.Q_INT, 0, 8⟩
def F.Q_INT.COAL_US : Fld := ⟨R.Q_INT, 8, 8⟩

/-- `Q_DESC_TAIL`, VH. -/
def R.Q_DESC_TAIL : RegDesc := ⟨0x10000020, 0x10000, 2048, 0x40, 256, .vh, .plain, fun _ => 0,
  [⟨0, 16, .rw⟩]⟩
def F.Q_DESC_TAIL.TAIL : Fld := ⟨R.Q_DESC_TAIL, 0, 16⟩

/-- `Q_DESC_HEAD`, VH. -/
def R.Q_DESC_HEAD : RegDesc := ⟨0x10000024, 0x10000, 2048, 0x40, 256, .vh, .plain, fun _ => 0,
  [⟨0, 16, .ro⟩]⟩
def F.Q_DESC_HEAD.HEAD : Fld := ⟨R.Q_DESC_HEAD, 0, 16⟩

/-- `Q_CPL_HEAD`, VH. -/
def R.Q_CPL_HEAD : RegDesc := ⟨0x10000028, 0x10000, 2048, 0x40, 256, .vh, .plain, fun _ => 0,
  [⟨0, 16, .rw⟩]⟩
def F.Q_CPL_HEAD.HEAD : Fld := ⟨R.Q_CPL_HEAD, 0, 16⟩

/-- `Q_CPL_TAIL`, VH. -/
def R.Q_CPL_TAIL : RegDesc := ⟨0x1000002C, 0x10000, 2048, 0x40, 256, .vh, .plain, fun _ => 0,
  [⟨0, 16, .ro⟩]⟩
def F.Q_CPL_TAIL.TAIL : Fld := ⟨R.Q_CPL_TAIL, 0, 16⟩

/-- `Q_STATUS`, VH. -/
def R.Q_STATUS : RegDesc := ⟨0x10000030, 0x10000, 2048, 0x40, 256, .vh, .plain, fun _ => 0,
  [⟨0, 2, .ro⟩, ⟨8, 8, .ro⟩, ⟨16, 16, .ro⟩]⟩
def F.Q_STATUS.STATE : Fld := ⟨R.Q_STATUS, 0, 2⟩
def F.Q_STATUS.ERR_CODE : Fld := ⟨R.Q_STATUS, 8, 8⟩
def F.Q_STATUS.INFLIGHT : Fld := ⟨R.Q_STATUS, 16, 16⟩

/-- `FN_INFO`, VH. -/
def R.FN_INFO : RegDesc := ⟨0x10004000, 0x0, 1, 0x10000, 2048, .vh, .plain, fun _ => 0,
  [⟨0, 9, .ro⟩, ⟨16, 9, .ro⟩]⟩
def F.FN_INFO.QUEUES : Fld := ⟨R.FN_INFO, 0, 9⟩
def F.FN_INFO.VECTORS : Fld := ⟨R.FN_INFO, 16, 9⟩

/-- `FN_EVT`, VH. -/
def R.FN_EVT : RegDesc := ⟨0x10004004, 0x0, 1, 0x10000, 2048, .vh, .plain, fun _ => 0,
  [⟨0, 1, .w1c⟩, ⟨1, 1, .w1c⟩, ⟨2, 1, .w1c⟩]⟩
def F.FN_EVT.RES_CHANGE : Fld := ⟨R.FN_EVT, 0, 1⟩
def F.FN_EVT.QUEUE_ERROR : Fld := ⟨R.FN_EVT, 1, 1⟩
def F.FN_EVT.TRC_SWAP_DONE : Fld := ⟨R.FN_EVT, 2, 1⟩

/-- `FN_EVT_CFG`, VH. -/
def R.FN_EVT_CFG : RegDesc := ⟨0x10004008, 0x0, 1, 0x10000, 2048, .vh, .plain, fun _ => 0,
  [⟨0, 8, .rw⟩, ⟨8, 1, .rw⟩]⟩
def F.FN_EVT_CFG.VECTOR : Fld := ⟨R.FN_EVT_CFG, 0, 8⟩
def F.FN_EVT_CFG.INT_EN : Fld := ⟨R.FN_EVT_CFG, 8, 1⟩

/-- `TS_BUF0_LO`, VH. -/
def R.TS_BUF0_LO : RegDesc := ⟨0x1000C000, 0x10000, 2048, 0x40, 8, .vh, .plain, fun _ => 0,
  [⟨6, 26, .rw⟩]⟩
def F.TS_BUF0_LO.ADDR : Fld := ⟨R.TS_BUF0_LO, 6, 26⟩

/-- `TS_BUF0_HI`, VH. -/
def R.TS_BUF0_HI : RegDesc := ⟨0x1000C004, 0x10000, 2048, 0x40, 8, .vh, .plain, fun _ => 0,
  [⟨0, 32, .rw⟩]⟩
def F.TS_BUF0_HI.ADDR : Fld := ⟨R.TS_BUF0_HI, 0, 32⟩

/-- `TS_BUF1_LO`, VH. -/
def R.TS_BUF1_LO : RegDesc := ⟨0x1000C008, 0x10000, 2048, 0x40, 8, .vh, .plain, fun _ => 0,
  [⟨6, 26, .rw⟩]⟩
def F.TS_BUF1_LO.ADDR : Fld := ⟨R.TS_BUF1_LO, 6, 26⟩

/-- `TS_BUF1_HI`, VH. -/
def R.TS_BUF1_HI : RegDesc := ⟨0x1000C00C, 0x10000, 2048, 0x40, 8, .vh, .plain, fun _ => 0,
  [⟨0, 32, .rw⟩]⟩
def F.TS_BUF1_HI.ADDR : Fld := ⟨R.TS_BUF1_HI, 0, 32⟩

/-- `TS_CTRL`, VH. -/
def R.TS_CTRL : RegDesc := ⟨0x1000C010, 0x10000, 2048, 0x40, 8, .vh, .plain, fun _ => 0,
  [⟨0, 1, .rw⟩, ⟨1, 1, .wo⟩]⟩
def F.TS_CTRL.ENABLE : Fld := ⟨R.TS_CTRL, 0, 1⟩
def F.TS_CTRL.SWAP : Fld := ⟨R.TS_CTRL, 1, 1⟩

/-- `TS_STATUS`, VH. -/
def R.TS_STATUS : RegDesc := ⟨0x1000C014, 0x10000, 2048, 0x40, 8, .vh, .plain, fun _ => 0,
  [⟨0, 2, .ro⟩, ⟨2, 1, .ro⟩, ⟨3, 1, .ro⟩, ⟨4, 1, .ro⟩, ⟨5, 1, .ro⟩, ⟨15, 1, .ro⟩, ⟨16, 16, .ro⟩]⟩
def F.TS_STATUS.STATE : Fld := ⟨R.TS_STATUS, 0, 2⟩
def F.TS_STATUS.ACTIVE_BUF : Fld := ⟨R.TS_STATUS, 2, 1⟩
def F.TS_STATUS.OUT_OF_RANGE : Fld := ⟨R.TS_STATUS, 3, 1⟩
def F.TS_STATUS.PREV_OOR : Fld := ⟨R.TS_STATUS, 4, 1⟩
def F.TS_STATUS.TRANSLATED_SEEN : Fld := ⟨R.TS_STATUS, 5, 1⟩
def F.TS_STATUS.SLOT_VALID : Fld := ⟨R.TS_STATUS, 15, 1⟩
def F.TS_STATUS.EPOCH : Fld := ⟨R.TS_STATUS, 16, 16⟩

/-- `SVC_CFG`, COLD. -/
def R.SVC_CFG : RegDesc := ⟨0x2000000, 0x0, 1, 0x0, 1, .cold, .plain, fun _ => 0xA2012,
  [⟨0, 3, .co⟩, ⟨3, 3, .co⟩, ⟨8, 8, .co⟩, ⟨16, 8, .co⟩]⟩
def F.SVC_CFG.MPS : Fld := ⟨R.SVC_CFG, 0, 3⟩
def F.SVC_CFG.MRRS : Fld := ⟨R.SVC_CFG, 3, 3⟩
def F.SVC_CFG.QUEUE_EXEC_MAX : Fld := ⟨R.SVC_CFG, 8, 8⟩
def F.SVC_CFG.TRC_AGE_US : Fld := ⟨R.SVC_CFG, 16, 8⟩

/-- `SVC_STATUS`, WARM. -/
def R.SVC_STATUS : RegDesc := ⟨0x2000004, 0x0, 1, 0x0, 1, .warm, .plain, fun _ => 0,
  [⟨0, 17, .ro⟩, ⟨17, 1, .ro⟩]⟩
def F.SVC_STATUS.IN_FLIGHT : Fld := ⟨R.SVC_STATUS, 0, 17⟩
def F.SVC_STATUS.ANY_ERROR : Fld := ⟨R.SVC_STATUS, 17, 1⟩

/-- `SVC_EVT`, WARM. -/
def R.SVC_EVT : RegDesc := ⟨0x2000008, 0x0, 1, 0x0, 1, .warm, .plain, fun _ => 0,
  [⟨0, 1, .w1c⟩, ⟨1, 1, .w1c⟩, ⟨2, 1, .w1c⟩]⟩
def F.SVC_EVT.ENG_RESET : Fld := ⟨R.SVC_EVT, 0, 1⟩
def F.SVC_EVT.TRC_FAULT : Fld := ⟨R.SVC_EVT, 1, 1⟩
def F.SVC_EVT.TRC_OOR : Fld := ⟨R.SVC_EVT, 2, 1⟩

/-- `SVC_EVT_EN`, COLD. -/
def R.SVC_EVT_EN : RegDesc := ⟨0x200000C, 0x0, 1, 0x0, 1, .cold, .plain, fun _ => 0x3,
  [⟨0, 1, .rw⟩, ⟨1, 1, .rw⟩, ⟨2, 1, .rw⟩]⟩
def F.SVC_EVT_EN.ENG_RESET : Fld := ⟨R.SVC_EVT_EN, 0, 1⟩
def F.SVC_EVT_EN.TRC_FAULT : Fld := ⟨R.SVC_EVT_EN, 1, 1⟩
def F.SVC_EVT_EN.TRC_OOR : Fld := ⟨R.SVC_EVT_EN, 2, 1⟩

/-- `SVC_FREE`, WARM. -/
def R.SVC_FREE : RegDesc := ⟨0x2000010, 0x0, 1, 0x0, 1, .warm, .plain, fun _ => 0x40004000,
  [⟨0, 15, .ro⟩, ⟨16, 15, .ro⟩]⟩
def F.SVC_FREE.QUEUES : Fld := ⟨R.SVC_FREE, 0, 15⟩
def F.SVC_FREE.VECTORS : Fld := ⟨R.SVC_FREE, 16, 15⟩

/-- `SVC_CRC_MISMATCH_CNT`, WARM. -/
def R.SVC_CRC_MISMATCH_CNT : RegDesc := ⟨0x2000040, 0x0, 1, 0x0, 1, .warm, .sat (some (0x20000FC, 0)), fun _ => 0,
  [⟨0, 32, .ro⟩]⟩
def F.SVC_CRC_MISMATCH_CNT.V : Fld := ⟨R.SVC_CRC_MISMATCH_CNT, 0, 32⟩

/-- `SVC_DESC_ERR_CNT`, WARM. -/
def R.SVC_DESC_ERR_CNT : RegDesc := ⟨0x2000044, 0x0, 1, 0x0, 1, .warm, .sat (some (0x20000FC, 1)), fun _ => 0,
  [⟨0, 32, .ro⟩]⟩
def F.SVC_DESC_ERR_CNT.V : Fld := ⟨R.SVC_DESC_ERR_CNT, 0, 32⟩

/-- `SVC_ABORT_CNT`, WARM. -/
def R.SVC_ABORT_CNT : RegDesc := ⟨0x2000048, 0x0, 1, 0x0, 1, .warm, .sat (some (0x20000FC, 2)), fun _ => 0,
  [⟨0, 32, .ro⟩]⟩
def F.SVC_ABORT_CNT.V : Fld := ⟨R.SVC_ABORT_CNT, 0, 32⟩

/-- `SVC_FETCH_FAIL_CNT`, WARM. -/
def R.SVC_FETCH_FAIL_CNT : RegDesc := ⟨0x200004C, 0x0, 1, 0x0, 1, .warm, .sat (some (0x20000FC, 3)), fun _ => 0,
  [⟨0, 32, .ro⟩]⟩
def F.SVC_FETCH_FAIL_CNT.V : Fld := ⟨R.SVC_FETCH_FAIL_CNT, 0, 32⟩

/-- `SVC_ENG_RESET_CNT`, WARM. -/
def R.SVC_ENG_RESET_CNT : RegDesc := ⟨0x2000050, 0x0, 1, 0x0, 1, .warm, .sat (some (0x20000FC, 4)), fun _ => 0,
  [⟨0, 32, .ro⟩]⟩
def F.SVC_ENG_RESET_CNT.V : Fld := ⟨R.SVC_ENG_RESET_CNT, 0, 32⟩

/-- `SVC_TRC_STALL_CNT`, WARM. -/
def R.SVC_TRC_STALL_CNT : RegDesc := ⟨0x2000054, 0x0, 1, 0x0, 1, .warm, .sat (some (0x20000FC, 5)), fun _ => 0,
  [⟨0, 32, .ro⟩]⟩
def F.SVC_TRC_STALL_CNT.V : Fld := ⟨R.SVC_TRC_STALL_CNT, 0, 32⟩

/-- `SVC_TRC_OOR_CNT`, WARM. -/
def R.SVC_TRC_OOR_CNT : RegDesc := ⟨0x2000058, 0x0, 1, 0x0, 1, .warm, .sat (some (0x20000FC, 6)), fun _ => 0,
  [⟨0, 32, .ro⟩]⟩
def F.SVC_TRC_OOR_CNT.V : Fld := ⟨R.SVC_TRC_OOR_CNT, 0, 32⟩

/-- `SVC_CNT_OVF`, WARM. -/
def R.SVC_CNT_OVF : RegDesc := ⟨0x20000FC, 0x0, 1, 0x0, 1, .warm, .plain, fun _ => 0,
  [⟨0, 32, .w1c⟩]⟩
def F.SVC_CNT_OVF.V : Fld := ⟨R.SVC_CNT_OVF, 0, 32⟩

/-- `SVC_DESC_DONE_LO`, WARM. -/
def R.SVC_DESC_DONE_LO : RegDesc := ⟨0x2000100, 0x0, 1, 0x0, 1, .warm, .statLo, fun _ => 0,
  [⟨0, 32, .ro⟩]⟩
def F.SVC_DESC_DONE_LO.V : Fld := ⟨R.SVC_DESC_DONE_LO, 0, 32⟩

/-- `SVC_DESC_DONE_HI`, WARM. -/
def R.SVC_DESC_DONE_HI : RegDesc := ⟨0x2000104, 0x0, 1, 0x0, 1, .warm, .statHi, fun _ => 0,
  [⟨0, 32, .ro⟩]⟩
def F.SVC_DESC_DONE_HI.V : Fld := ⟨R.SVC_DESC_DONE_HI, 0, 32⟩

/-- `SVC_BYTES_LO`, WARM. -/
def R.SVC_BYTES_LO : RegDesc := ⟨0x2000108, 0x0, 1, 0x0, 1, .warm, .statLo, fun _ => 0,
  [⟨0, 32, .ro⟩]⟩
def F.SVC_BYTES_LO.V : Fld := ⟨R.SVC_BYTES_LO, 0, 32⟩

/-- `SVC_BYTES_HI`, WARM. -/
def R.SVC_BYTES_HI : RegDesc := ⟨0x200010C, 0x0, 1, 0x0, 1, .warm, .statHi, fun _ => 0,
  [⟨0, 32, .ro⟩]⟩
def F.SVC_BYTES_HI.V : Fld := ⟨R.SVC_BYTES_HI, 0, 32⟩

/-- `SVC_ENG_STATUS`, WARM. -/
def R.SVC_ENG_STATUS : RegDesc := ⟨0x2000200, 0x0, 1, 0x4, 16, .warm, .plain, fun _ => 0,
  [⟨0, 1, .ro⟩, ⟨1, 1, .ro⟩, ⟨2, 11, .ro⟩]⟩
def F.SVC_ENG_STATUS.BUSY : Fld := ⟨R.SVC_ENG_STATUS, 0, 1⟩
def F.SVC_ENG_STATUS.RESETTING : Fld := ⟨R.SVC_ENG_STATUS, 1, 1⟩
def F.SVC_ENG_STATUS.FN : Fld := ⟨R.SVC_ENG_STATUS, 2, 11⟩

/-- `SVC_FN_CFG`, COLD. -/
def R.SVC_FN_CFG : RegDesc := ⟨0x2010000, 0x0, 1, 0x10, 2048, .cold, .plain, fun _ => 0x10,
  [⟨0, 10, .co⟩, ⟨11, 10, .co⟩]⟩
def F.SVC_FN_CFG.WEIGHT : Fld := ⟨R.SVC_FN_CFG, 0, 10⟩
def F.SVC_FN_CFG.RATE : Fld := ⟨R.SVC_FN_CFG, 11, 10⟩

/-- `SVC_FN_RES`, WARM. -/
def R.SVC_FN_RES : RegDesc := ⟨0x2010004, 0x0, 1, 0x10, 2048, .warm, .plain, fun _ => 0,
  [⟨0, 9, .ro⟩, ⟨16, 9, .ro⟩]⟩
def F.SVC_FN_RES.QUEUES : Fld := ⟨R.SVC_FN_RES, 0, 9⟩
def F.SVC_FN_RES.VECTORS : Fld := ⟨R.SVC_FN_RES, 16, 9⟩

/-- `SVC_QMAP`, COLD. -/
def R.SVC_QMAP : RegDesc := ⟨0x2040000, 0x0, 1, 0x4, 16384, .cold, .plain, fun _ => 0,
  [⟨0, 11, .co⟩, ⟨11, 8, .co⟩, ⟨19, 1, .co⟩, ⟨20, 1, .ro⟩]⟩
def F.SVC_QMAP.FN : Fld := ⟨R.SVC_QMAP, 0, 11⟩
def F.SVC_QMAP.LOCAL : Fld := ⟨R.SVC_QMAP, 11, 8⟩
def F.SVC_QMAP.ASSIGNED : Fld := ⟨R.SVC_QMAP, 19, 1⟩
def F.SVC_QMAP.BUSY : Fld := ⟨R.SVC_QMAP, 20, 1⟩

/-- `SVC_VMAP`, COLD. -/
def R.SVC_VMAP : RegDesc := ⟨0x2050000, 0x0, 1, 0x4, 16384, .cold, .plain, fun _ => 0,
  [⟨0, 11, .co⟩, ⟨11, 8, .co⟩, ⟨19, 1, .co⟩, ⟨20, 1, .ro⟩]⟩
def F.SVC_VMAP.FN : Fld := ⟨R.SVC_VMAP, 0, 11⟩
def F.SVC_VMAP.LOCAL : Fld := ⟨R.SVC_VMAP, 11, 8⟩
def F.SVC_VMAP.ASSIGNED : Fld := ⟨R.SVC_VMAP, 19, 1⟩
def F.SVC_VMAP.IN_USE : Fld := ⟨R.SVC_VMAP, 20, 1⟩

/-- `SVC_TRC_CFG`, COLD. -/
def R.SVC_TRC_CFG : RegDesc := ⟨0x2080000, 0x0, 1, 0x40, 512, .cold, .plain, fun _ => 0,
  [⟨0, 11, .co⟩, ⟨11, 3, .co⟩, ⟨14, 1, .co⟩]⟩
def F.SVC_TRC_CFG.OWNER : Fld := ⟨R.SVC_TRC_CFG, 0, 11⟩
def F.SVC_TRC_CFG.SLOT : Fld := ⟨R.SVC_TRC_CFG, 11, 3⟩
def F.SVC_TRC_CFG.ASSIGNED : Fld := ⟨R.SVC_TRC_CFG, 14, 1⟩

/-- `SVC_TRC_RANGE_LO`, COLD. -/
def R.SVC_TRC_RANGE_LO : RegDesc := ⟨0x2080004, 0x0, 1, 0x40, 512, .cold, .plain, fun _ => 0,
  [⟨21, 11, .co⟩]⟩
def F.SVC_TRC_RANGE_LO.BASE : Fld := ⟨R.SVC_TRC_RANGE_LO, 21, 11⟩

/-- `SVC_TRC_RANGE_HI`, COLD. -/
def R.SVC_TRC_RANGE_HI : RegDesc := ⟨0x2080008, 0x0, 1, 0x40, 512, .cold, .plain, fun _ => 0,
  [⟨0, 32, .co⟩]⟩
def F.SVC_TRC_RANGE_HI.BASE : Fld := ⟨R.SVC_TRC_RANGE_HI, 0, 32⟩

/-- `SVC_TRC_LINES`, COLD. -/
def R.SVC_TRC_LINES : RegDesc := ⟨0x208000C, 0x0, 1, 0x40, 512, .cold, .plain, fun _ => 0,
  [⟨0, 24, .co⟩]⟩
def F.SVC_TRC_LINES.LINES : Fld := ⟨R.SVC_TRC_LINES, 0, 24⟩

/-- `SVC_TRC_STATUS`, WARM. -/
def R.SVC_TRC_STATUS : RegDesc := ⟨0x2080010, 0x0, 1, 0x40, 512, .warm, .plain, fun _ => 0,
  [⟨0, 2, .ro⟩, ⟨2, 1, .ro⟩, ⟨3, 1, .ro⟩, ⟨4, 1, .ro⟩, ⟨5, 1, .ro⟩, ⟨15, 1, .ro⟩, ⟨16, 16, .ro⟩]⟩
def F.SVC_TRC_STATUS.STATE : Fld := ⟨R.SVC_TRC_STATUS, 0, 2⟩
def F.SVC_TRC_STATUS.ACTIVE_BUF : Fld := ⟨R.SVC_TRC_STATUS, 2, 1⟩
def F.SVC_TRC_STATUS.OUT_OF_RANGE : Fld := ⟨R.SVC_TRC_STATUS, 3, 1⟩
def F.SVC_TRC_STATUS.PREV_OOR : Fld := ⟨R.SVC_TRC_STATUS, 4, 1⟩
def F.SVC_TRC_STATUS.TRANSLATED_SEEN : Fld := ⟨R.SVC_TRC_STATUS, 5, 1⟩
def F.SVC_TRC_STATUS.SLOT_VALID : Fld := ⟨R.SVC_TRC_STATUS, 15, 1⟩
def F.SVC_TRC_STATUS.EPOCH : Fld := ⟨R.SVC_TRC_STATUS, 16, 16⟩

/-- `SVC_TRC_WRITES_LO`, WARM. -/
def R.SVC_TRC_WRITES_LO : RegDesc := ⟨0x2080018, 0x0, 1, 0x40, 512, .warm, .statLo, fun _ => 0,
  [⟨0, 32, .ro⟩]⟩
def F.SVC_TRC_WRITES_LO.V : Fld := ⟨R.SVC_TRC_WRITES_LO, 0, 32⟩

/-- `SVC_TRC_WRITES_HI`, WARM. -/
def R.SVC_TRC_WRITES_HI : RegDesc := ⟨0x208001C, 0x0, 1, 0x40, 512, .warm, .statHi, fun _ => 0,
  [⟨0, 32, .ro⟩]⟩
def F.SVC_TRC_WRITES_HI.V : Fld := ⟨R.SVC_TRC_WRITES_HI, 0, 32⟩

/-! ## Registers of 12_corber.md -/

/-- `MGT_IDENT`, COLD. -/
def R.MGT_IDENT : RegDesc := ⟨0x0, 0x0, 1, 0x0, 1, .cold, .plain, fun _ => 0x288A1,
  [⟨0, 8, .ro⟩, ⟨8, 16, .ro⟩]⟩
def F.MGT_IDENT.REVISION : Fld := ⟨R.MGT_IDENT, 0, 8⟩
def F.MGT_IDENT.PART : Fld := ⟨R.MGT_IDENT, 8, 16⟩

/-- `MGT_SERIAL_LO`, COLD. -/
def R.MGT_SERIAL_LO : RegDesc := ⟨0x4, 0x0, 1, 0x0, 1, .cold, .plain, fun _ => 0,
  [⟨0, 32, .ro⟩]⟩
def F.MGT_SERIAL_LO.V : Fld := ⟨R.MGT_SERIAL_LO, 0, 32⟩

/-- `MGT_SERIAL_HI`, COLD. -/
def R.MGT_SERIAL_HI : RegDesc := ⟨0x8, 0x0, 1, 0x0, 1, .cold, .plain, fun _ => 0,
  [⟨0, 32, .ro⟩]⟩
def F.MGT_SERIAL_HI.V : Fld := ⟨R.MGT_SERIAL_HI, 0, 32⟩

/-- `MGT_MODE`, WARM. -/
def R.MGT_MODE : RegDesc := ⟨0xC, 0x0, 1, 0x0, 1, .warm, .plain, fun _ => 0,
  [⟨0, 3, .ro⟩, ⟨3, 1, .ro⟩]⟩
def F.MGT_MODE.MODE : Fld := ⟨R.MGT_MODE, 0, 3⟩
def F.MGT_MODE.TRANSITION : Fld := ⟨R.MGT_MODE, 3, 1⟩

/-- `MGT_CRB_CTRL`, VH. -/
def R.MGT_CRB_CTRL : RegDesc := ⟨0x100, 0x0, 1, 0x0, 1, .vh, .plain, fun _ => 0x1110,
  [⟨0, 1, .rw⟩, ⟨1, 1, .wo⟩, ⟨2, 4, .rw⟩, ⟨6, 4, .rw⟩, ⟨10, 4, .rw⟩]⟩
def F.MGT_CRB_CTRL.ENABLE : Fld := ⟨R.MGT_CRB_CTRL, 0, 1⟩
def F.MGT_CRB_CTRL.RESET : Fld := ⟨R.MGT_CRB_CTRL, 1, 1⟩
def F.MGT_CRB_CTRL.REQ_LOG2 : Fld := ⟨R.MGT_CRB_CTRL, 2, 4⟩
def F.MGT_CRB_CTRL.RPL_LOG2 : Fld := ⟨R.MGT_CRB_CTRL, 6, 4⟩
def F.MGT_CRB_CTRL.EVT_LOG2 : Fld := ⟨R.MGT_CRB_CTRL, 10, 4⟩

/-- `MGT_CRB_STATUS`, VH. -/
def R.MGT_CRB_STATUS : RegDesc := ⟨0x104, 0x0, 1, 0x0, 1, .vh, .plain, fun _ => 0,
  [⟨0, 2, .ro⟩, ⟨2, 2, .ro⟩, ⟨4, 1, .ro⟩, ⟨5, 1, .ro⟩]⟩
def F.MGT_CRB_STATUS.STATE : Fld := ⟨R.MGT_CRB_STATUS, 0, 2⟩
def F.MGT_CRB_STATUS.ERR : Fld := ⟨R.MGT_CRB_STATUS, 2, 2⟩
def F.MGT_CRB_STATUS.RPL_STALL : Fld := ⟨R.MGT_CRB_STATUS, 4, 1⟩
def F.MGT_CRB_STATUS.FW_READY : Fld := ⟨R.MGT_CRB_STATUS, 5, 1⟩

/-- `MGT_CRB_REQ_BASE_LO`, VH. -/
def R.MGT_CRB_REQ_BASE_LO : RegDesc := ⟨0x108, 0x0, 1, 0x0, 1, .vh, .plain, fun _ => 0,
  [⟨8, 24, .rw⟩]⟩
def F.MGT_CRB_REQ_BASE_LO.ADDR : Fld := ⟨R.MGT_CRB_REQ_BASE_LO, 8, 24⟩

/-- `MGT_CRB_REQ_BASE_HI`, VH. -/
def R.MGT_CRB_REQ_BASE_HI : RegDesc := ⟨0x10C, 0x0, 1, 0x0, 1, .vh, .plain, fun _ => 0,
  [⟨0, 32, .rw⟩]⟩
def F.MGT_CRB_REQ_BASE_HI.ADDR : Fld := ⟨R.MGT_CRB_REQ_BASE_HI, 0, 32⟩

/-- `MGT_CRB_RPL_BASE_LO`, VH. -/
def R.MGT_CRB_RPL_BASE_LO : RegDesc := ⟨0x110, 0x0, 1, 0x0, 1, .vh, .plain, fun _ => 0,
  [⟨8, 24, .rw⟩]⟩
def F.MGT_CRB_RPL_BASE_LO.ADDR : Fld := ⟨R.MGT_CRB_RPL_BASE_LO, 8, 24⟩

/-- `MGT_CRB_RPL_BASE_HI`, VH. -/
def R.MGT_CRB_RPL_BASE_HI : RegDesc := ⟨0x114, 0x0, 1, 0x0, 1, .vh, .plain, fun _ => 0,
  [⟨0, 32, .rw⟩]⟩
def F.MGT_CRB_RPL_BASE_HI.ADDR : Fld := ⟨R.MGT_CRB_RPL_BASE_HI, 0, 32⟩

/-- `MGT_CRB_EVT_BASE_LO`, VH. -/
def R.MGT_CRB_EVT_BASE_LO : RegDesc := ⟨0x118, 0x0, 1, 0x0, 1, .vh, .plain, fun _ => 0,
  [⟨8, 24, .rw⟩]⟩
def F.MGT_CRB_EVT_BASE_LO.ADDR : Fld := ⟨R.MGT_CRB_EVT_BASE_LO, 8, 24⟩

/-- `MGT_CRB_EVT_BASE_HI`, VH. -/
def R.MGT_CRB_EVT_BASE_HI : RegDesc := ⟨0x11C, 0x0, 1, 0x0, 1, .vh, .plain, fun _ => 0,
  [⟨0, 32, .rw⟩]⟩
def F.MGT_CRB_EVT_BASE_HI.ADDR : Fld := ⟨R.MGT_CRB_EVT_BASE_HI, 0, 32⟩

/-- `MGT_CRB_REQ_TAIL`, VH. -/
def R.MGT_CRB_REQ_TAIL : RegDesc := ⟨0x120, 0x0, 1, 0x0, 1, .vh, .plain, fun _ => 0,
  [⟨0, 12, .rw⟩]⟩
def F.MGT_CRB_REQ_TAIL.IDX : Fld := ⟨R.MGT_CRB_REQ_TAIL, 0, 12⟩

/-- `MGT_CRB_REQ_HEAD`, VH. -/
def R.MGT_CRB_REQ_HEAD : RegDesc := ⟨0x124, 0x0, 1, 0x0, 1, .vh, .plain, fun _ => 0,
  [⟨0, 12, .ro⟩]⟩
def F.MGT_CRB_REQ_HEAD.IDX : Fld := ⟨R.MGT_CRB_REQ_HEAD, 0, 12⟩

/-- `MGT_CRB_RPL_HEAD`, VH. -/
def R.MGT_CRB_RPL_HEAD : RegDesc := ⟨0x128, 0x0, 1, 0x0, 1, .vh, .plain, fun _ => 0,
  [⟨0, 12, .rw⟩]⟩
def F.MGT_CRB_RPL_HEAD.IDX : Fld := ⟨R.MGT_CRB_RPL_HEAD, 0, 12⟩

/-- `MGT_CRB_RPL_TAIL`, VH. -/
def R.MGT_CRB_RPL_TAIL : RegDesc := ⟨0x12C, 0x0, 1, 0x0, 1, .vh, .plain, fun _ => 0,
  [⟨0, 12, .ro⟩]⟩
def F.MGT_CRB_RPL_TAIL.IDX : Fld := ⟨R.MGT_CRB_RPL_TAIL, 0, 12⟩

/-- `MGT_CRB_EVT_HEAD`, VH. -/
def R.MGT_CRB_EVT_HEAD : RegDesc := ⟨0x130, 0x0, 1, 0x0, 1, .vh, .plain, fun _ => 0,
  [⟨0, 12, .rw⟩]⟩
def F.MGT_CRB_EVT_HEAD.IDX : Fld := ⟨R.MGT_CRB_EVT_HEAD, 0, 12⟩

/-- `MGT_CRB_EVT_TAIL`, VH. -/
def R.MGT_CRB_EVT_TAIL : RegDesc := ⟨0x134, 0x0, 1, 0x0, 1, .vh, .plain, fun _ => 0,
  [⟨0, 12, .ro⟩]⟩
def F.MGT_CRB_EVT_TAIL.IDX : Fld := ⟨R.MGT_CRB_EVT_TAIL, 0, 12⟩

/-- `MGT_CRB_VEC`, VH. -/
def R.MGT_CRB_VEC : RegDesc := ⟨0x138, 0x0, 1, 0x0, 1, .vh, .plain, fun _ => 0,
  [⟨0, 8, .rw⟩, ⟨8, 8, .rw⟩, ⟨16, 1, .rw⟩, ⟨17, 1, .rw⟩]⟩
def F.MGT_CRB_VEC.RPL_VECTOR : Fld := ⟨R.MGT_CRB_VEC, 0, 8⟩
def F.MGT_CRB_VEC.EVT_VECTOR : Fld := ⟨R.MGT_CRB_VEC, 8, 8⟩
def F.MGT_CRB_VEC.RPL_INT_EN : Fld := ⟨R.MGT_CRB_VEC, 16, 1⟩
def F.MGT_CRB_VEC.EVT_INT_EN : Fld := ⟨R.MGT_CRB_VEC, 17, 1⟩

/-- `MGT_CRB_PERM`, COLD. -/
def R.MGT_CRB_PERM : RegDesc := ⟨0x140, 0x0, 1, 0x4, 4, .cold, .plain, fun _ => 0xFFF,
  [⟨0, 12, .co⟩]⟩
def F.MGT_CRB_PERM.GROUPS : Fld := ⟨R.MGT_CRB_PERM, 0, 12⟩

/-- `MGT_MCTP_CFG`, COLD. -/
def R.MGT_MCTP_CFG : RegDesc := ⟨0x150, 0x0, 1, 0x0, 1, .cold, .plain, fun _ => 0x1D800,
  [⟨0, 8, .co⟩, ⟨8, 7, .co⟩, ⟨15, 1, .co⟩, ⟨16, 1, .co⟩]⟩
def F.MGT_MCTP_CFG.EID : Fld := ⟨R.MGT_MCTP_CFG, 0, 8⟩
def F.MGT_MCTP_CFG.SMBUS_ADDR : Fld := ⟨R.MGT_MCTP_CFG, 8, 7⟩
def F.MGT_MCTP_CFG.I3C_EN : Fld := ⟨R.MGT_MCTP_CFG, 15, 1⟩
def F.MGT_MCTP_CFG.VDM_EN : Fld := ⟨R.MGT_MCTP_CFG, 16, 1⟩

/-- `MGT_CRB_EVT_LOST_CNT`, WARM. -/
def R.MGT_CRB_EVT_LOST_CNT : RegDesc := ⟨0x160, 0x0, 1, 0x0, 1, .warm, .sat (some (0x1FC, 0)), fun _ => 0,
  [⟨0, 32, .ro⟩]⟩
def F.MGT_CRB_EVT_LOST_CNT.V : Fld := ⟨R.MGT_CRB_EVT_LOST_CNT, 0, 32⟩

/-- `MGT_CRB_DUP_CNT`, WARM. -/
def R.MGT_CRB_DUP_CNT : RegDesc := ⟨0x164, 0x0, 1, 0x0, 1, .warm, .sat (some (0x1FC, 1)), fun _ => 0,
  [⟨0, 32, .ro⟩]⟩
def F.MGT_CRB_DUP_CNT.V : Fld := ⟨R.MGT_CRB_DUP_CNT, 0, 32⟩

/-- `MGT_CRB_BUSY_CNT`, WARM. -/
def R.MGT_CRB_BUSY_CNT : RegDesc := ⟨0x168, 0x0, 1, 0x0, 1, .warm, .sat (some (0x1FC, 2)), fun _ => 0,
  [⟨0, 32, .ro⟩]⟩
def F.MGT_CRB_BUSY_CNT.V : Fld := ⟨R.MGT_CRB_BUSY_CNT, 0, 32⟩

/-- `MGT_CRB_FRAG_ERR_CNT`, WARM. -/
def R.MGT_CRB_FRAG_ERR_CNT : RegDesc := ⟨0x16C, 0x0, 1, 0x0, 1, .warm, .sat (some (0x1FC, 3)), fun _ => 0,
  [⟨0, 32, .ro⟩]⟩
def F.MGT_CRB_FRAG_ERR_CNT.V : Fld := ⟨R.MGT_CRB_FRAG_ERR_CNT, 0, 32⟩

/-- `MGT_CNT_OVF`, WARM. -/
def R.MGT_CNT_OVF : RegDesc := ⟨0x1FC, 0x0, 1, 0x0, 1, .warm, .plain, fun _ => 0,
  [⟨0, 32, .w1c⟩]⟩
def F.MGT_CNT_OVF.V : Fld := ⟨R.MGT_CNT_OVF, 0, 32⟩

/-! ## Registers of 13_modes_power_crossings.md -/

/-- `PWR_MODE_CFG`, COLD. -/
def R.PWR_MODE_CFG : RegDesc := ⟨0x100000, 0x0, 1, 0x0, 1, .cold, .plain, fun _ => 0x12,
  [⟨0, 3, .co⟩, ⟨3, 3, .ro⟩]⟩
def F.PWR_MODE_CFG.START_MODE : Fld := ⟨R.PWR_MODE_CFG, 0, 3⟩
def F.PWR_MODE_CFG.RESUME_MODE : Fld := ⟨R.PWR_MODE_CFG, 3, 3⟩

/-- `PWR_STATUS`, WARM. -/
def R.PWR_STATUS : RegDesc := ⟨0x100004, 0x0, 1, 0x0, 1, .warm, .plain, fun _ => 0,
  [⟨0, 1, .ro⟩, ⟨1, 1, .ro⟩, ⟨2, 1, .ro⟩, ⟨3, 1, .ro⟩, ⟨4, 1, .ro⟩, ⟨5, 1, .ro⟩, ⟨6, 3, .ro⟩]⟩
def F.PWR_STATUS.SAG : Fld := ⟨R.PWR_STATUS, 0, 1⟩
def F.PWR_STATUS.NV_FENCED : Fld := ⟨R.PWR_STATUS, 1, 1⟩
def F.PWR_STATUS.AVS_PENDING : Fld := ⟨R.PWR_STATUS, 2, 1⟩
def F.PWR_STATUS.PACING : Fld := ⟨R.PWR_STATUS, 3, 1⟩
def F.PWR_STATUS.THROTTLING : Fld := ⟨R.PWR_STATUS, 4, 1⟩
def F.PWR_STATUS.AVS_FAULT : Fld := ⟨R.PWR_STATUS, 5, 1⟩
def F.PWR_STATUS.ENTERED_FROM : Fld := ⟨R.PWR_STATUS, 6, 3⟩

/-- `PWR_EVT`, WARM. -/
def R.PWR_EVT : RegDesc := ⟨0x100008, 0x0, 1, 0x0, 1, .warm, .plain, fun _ => 0,
  [⟨0, 1, .w1c⟩, ⟨1, 1, .w1c⟩, ⟨2, 1, .w1c⟩, ⟨3, 1, .w1c⟩, ⟨4, 1, .w1c⟩, ⟨5, 1, .w1c⟩, ⟨6, 1, .w1c⟩, ⟨7, 1, .w1c⟩, ⟨8, 1, .w1c⟩, ⟨9, 1, .w1c⟩, ⟨10, 1, .w1c⟩, ⟨11, 1, .w1c⟩, ⟨12, 1, .w1c⟩]⟩
def F.PWR_EVT.MODE_CHANGE : Fld := ⟨R.PWR_EVT, 0, 1⟩
def F.PWR_EVT.DROWSE_REFUSED : Fld := ⟨R.PWR_EVT, 1, 1⟩
def F.PWR_EVT.WAKE : Fld := ⟨R.PWR_EVT, 2, 1⟩
def F.PWR_EVT.SAG_START : Fld := ⟨R.PWR_EVT, 3, 1⟩
def F.PWR_EVT.SAG_END : Fld := ⟨R.PWR_EVT, 4, 1⟩
def F.PWR_EVT.AVS_FAULT : Fld := ⟨R.PWR_EVT, 5, 1⟩
def F.PWR_EVT.PACING : Fld := ⟨R.PWR_EVT, 6, 1⟩
def F.PWR_EVT.THERM_WARN : Fld := ⟨R.PWR_EVT, 7, 1⟩
def F.PWR_EVT.THERM_THROTTLE : Fld := ⟨R.PWR_EVT, 8, 1⟩
def F.PWR_EVT.TB_STEP : Fld := ⟨R.PWR_EVT, 9, 1⟩
def F.PWR_EVT.PPS_LOST : Fld := ⟨R.PWR_EVT, 10, 1⟩
def F.PWR_EVT.XING_OVF : Fld := ⟨R.PWR_EVT, 11, 1⟩
def F.PWR_EVT.VOLT_CHANGE : Fld := ⟨R.PWR_EVT, 12, 1⟩

/-- `PWR_EVT_EN`, COLD. -/
def R.PWR_EVT_EN : RegDesc := ⟨0x10000C, 0x0, 1, 0x0, 1, .cold, .plain, fun _ => 0xDEB,
  [⟨0, 1, .rw⟩, ⟨1, 1, .rw⟩, ⟨2, 1, .rw⟩, ⟨3, 1, .rw⟩, ⟨4, 1, .rw⟩, ⟨5, 1, .rw⟩, ⟨6, 1, .rw⟩, ⟨7, 1, .rw⟩, ⟨8, 1, .rw⟩, ⟨9, 1, .rw⟩, ⟨10, 1, .rw⟩, ⟨11, 1, .rw⟩, ⟨12, 1, .rw⟩]⟩
def F.PWR_EVT_EN.MODE_CHANGE : Fld := ⟨R.PWR_EVT_EN, 0, 1⟩
def F.PWR_EVT_EN.DROWSE_REFUSED : Fld := ⟨R.PWR_EVT_EN, 1, 1⟩
def F.PWR_EVT_EN.WAKE : Fld := ⟨R.PWR_EVT_EN, 2, 1⟩
def F.PWR_EVT_EN.SAG_START : Fld := ⟨R.PWR_EVT_EN, 3, 1⟩
def F.PWR_EVT_EN.SAG_END : Fld := ⟨R.PWR_EVT_EN, 4, 1⟩
def F.PWR_EVT_EN.AVS_FAULT : Fld := ⟨R.PWR_EVT_EN, 5, 1⟩
def F.PWR_EVT_EN.PACING : Fld := ⟨R.PWR_EVT_EN, 6, 1⟩
def F.PWR_EVT_EN.THERM_WARN : Fld := ⟨R.PWR_EVT_EN, 7, 1⟩
def F.PWR_EVT_EN.THERM_THROTTLE : Fld := ⟨R.PWR_EVT_EN, 8, 1⟩
def F.PWR_EVT_EN.TB_STEP : Fld := ⟨R.PWR_EVT_EN, 9, 1⟩
def F.PWR_EVT_EN.PPS_LOST : Fld := ⟨R.PWR_EVT_EN, 10, 1⟩
def F.PWR_EVT_EN.XING_OVF : Fld := ⟨R.PWR_EVT_EN, 11, 1⟩
def F.PWR_EVT_EN.VOLT_CHANGE : Fld := ⟨R.PWR_EVT_EN, 12, 1⟩

/-- `PWR_CORE_DELAY`, WARM. -/
def R.PWR_CORE_DELAY : RegDesc := ⟨0x100010, 0x0, 1, 0x0, 1, .warm, .plain, fun _ => 0,
  [⟨0, 16, .ro⟩, ⟨16, 3, .ro⟩, ⟨19, 1, .ro⟩]⟩
def F.PWR_CORE_DELAY.CORE_DELAY_FACTOR : Fld := ⟨R.PWR_CORE_DELAY, 0, 16⟩
def F.PWR_CORE_DELAY.SOURCE : Fld := ⟨R.PWR_CORE_DELAY, 16, 3⟩
def F.PWR_CORE_DELAY.VALID : Fld := ⟨R.PWR_CORE_DELAY, 19, 1⟩

/-- `PWR_DEMAND`, WARM. -/
def R.PWR_DEMAND : RegDesc := ⟨0x100014, 0x0, 1, 0x0, 1, .warm, .plain, fun _ => 0,
  [⟨0, 16, .ro⟩, ⟨16, 16, .ro⟩]⟩
def F.PWR_DEMAND.D : Fld := ⟨R.PWR_DEMAND, 0, 16⟩
def F.PWR_DEMAND.A : Fld := ⟨R.PWR_DEMAND, 16, 16⟩

/-- `PWR_VPOL_CFG`, COLD. -/
def R.PWR_VPOL_CFG : RegDesc := ⟨0x100020, 0x0, 1, 0x0, 1, .cold, .plain, fun _ => 0x184D4AD0,
  [⟨0, 10, .co⟩, ⟨10, 10, .co⟩, ⟨20, 4, .co⟩, ⟨24, 4, .co⟩, ⟨28, 1, .co⟩]⟩
def F.PWR_VPOL_CFG.VMIN_MV : Fld := ⟨R.PWR_VPOL_CFG, 0, 10⟩
def F.PWR_VPOL_CFG.VMAX_MV : Fld := ⟨R.PWR_VPOL_CFG, 10, 10⟩
def F.PWR_VPOL_CFG.GUARD_PCT : Fld := ⟨R.PWR_VPOL_CFG, 20, 4⟩
def F.PWR_VPOL_CFG.DOWN_HOLD : Fld := ⟨R.PWR_VPOL_CFG, 24, 4⟩
def F.PWR_VPOL_CFG.ENABLE : Fld := ⟨R.PWR_VPOL_CFG, 28, 1⟩

/-- `PWR_VPOL_TIME`, COLD. -/
def R.PWR_VPOL_TIME : RegDesc := ⟨0x100024, 0x0, 1, 0x0, 1, .cold, .plain, fun _ => 0x321464,
  [⟨0, 10, .co⟩, ⟨10, 4, .co⟩, ⟨14, 10, .co⟩]⟩
def F.PWR_VPOL_TIME.INTERVAL_US : Fld := ⟨R.PWR_VPOL_TIME, 0, 10⟩
def F.PWR_VPOL_TIME.STEP_MV : Fld := ⟨R.PWR_VPOL_TIME, 10, 4⟩
def F.PWR_VPOL_TIME.AVS_ACK_US : Fld := ⟨R.PWR_VPOL_TIME, 14, 10⟩

/-- `PWR_VCORE`, WARM. -/
def R.PWR_VCORE : RegDesc := ⟨0x100030, 0x0, 1, 0x0, 1, .warm, .plain, fun _ => 0,
  [⟨0, 10, .ro⟩, ⟨10, 10, .ro⟩, ⟨20, 1, .ro⟩]⟩
def F.PWR_VCORE.REQ_MV : Fld := ⟨R.PWR_VCORE, 0, 10⟩
def F.PWR_VCORE.ACK_MV : Fld := ⟨R.PWR_VCORE, 10, 10⟩
def F.PWR_VCORE.PENDING : Fld := ⟨R.PWR_VCORE, 20, 1⟩

/-- `PWR_VSDS`, WARM. -/
def R.PWR_VSDS : RegDesc := ⟨0x100034, 0x0, 1, 0x0, 1, .warm, .plain, fun _ => 0,
  [⟨0, 10, .ro⟩, ⟨10, 10, .ro⟩, ⟨20, 1, .ro⟩]⟩
def F.PWR_VSDS.REQ_MV : Fld := ⟨R.PWR_VSDS, 0, 10⟩
def F.PWR_VSDS.ACK_MV : Fld := ⟨R.PWR_VSDS, 10, 10⟩
def F.PWR_VSDS.PENDING : Fld := ⟨R.PWR_VSDS, 20, 1⟩

/-- `PWR_SAG_CFG`, COLD. -/
def R.PWR_SAG_CFG : RegDesc := ⟨0x100040, 0x0, 1, 0x0, 1, .cold, .plain, fun _ => 0xA,
  [⟨0, 8, .co⟩]⟩
def F.PWR_SAG_CFG.CLEAR_MS : Fld := ⟨R.PWR_SAG_CFG, 0, 8⟩

/-- `PWR_SAG_CNT`, WARM. -/
def R.PWR_SAG_CNT : RegDesc := ⟨0x100044, 0x0, 1, 0x0, 1, .warm, .sat (some (0x1000FC, 0)), fun _ => 0,
  [⟨0, 32, .ro⟩]⟩
def F.PWR_SAG_CNT.V : Fld := ⟨R.PWR_SAG_CNT, 0, 32⟩

/-- `PWR_THERM_REG`, WARM. -/
def R.PWR_THERM_REG : RegDesc := ⟨0x100050, 0x0, 1, 0x4, 12, .warm, .plain, fun _ => 0,
  [⟨0, 9, .ro⟩, ⟨9, 1, .ro⟩, ⟨10, 1, .ro⟩]⟩
def F.PWR_THERM_REG.TEMP : Fld := ⟨R.PWR_THERM_REG, 0, 9⟩
def F.PWR_THERM_REG.WARN : Fld := ⟨R.PWR_THERM_REG, 9, 1⟩
def F.PWR_THERM_REG.THROTTLED : Fld := ⟨R.PWR_THERM_REG, 10, 1⟩

/-- `PWR_THERM_CFG`, COLD. -/
def R.PWR_THERM_CFG : RegDesc := ⟨0x100080, 0x0, 1, 0x0, 1, .cold, .plain, fun _ => 0x332988C,
  [⟨0, 8, .co⟩, ⟨8, 8, .co⟩, ⟨16, 7, .co⟩, ⟨24, 4, .co⟩]⟩
def F.PWR_THERM_CFG.WARN_C : Fld := ⟨R.PWR_THERM_CFG, 0, 8⟩
def F.PWR_THERM_CFG.THROTTLE_C : Fld := ⟨R.PWR_THERM_CFG, 8, 8⟩
def F.PWR_THERM_CFG.THROTTLE_PCT : Fld := ⟨R.PWR_THERM_CFG, 16, 7⟩
def F.PWR_THERM_CFG.HYST_C : Fld := ⟨R.PWR_THERM_CFG, 24, 4⟩

/-- `PWR_DROWSE_CFG`, COLD. -/
def R.PWR_DROWSE_CFG : RegDesc := ⟨0x100090, 0x0, 1, 0x0, 1, .cold, .plain, fun _ => 0x28000014,
  [⟨0, 1, .co⟩, ⟨1, 8, .co⟩, ⟨9, 16, .co⟩, ⟨25, 7, .co⟩]⟩
def F.PWR_DROWSE_CFG.AUTO_EN : Fld := ⟨R.PWR_DROWSE_CFG, 0, 1⟩
def F.PWR_DROWSE_CFG.AUTO_IDLE_MS : Fld := ⟨R.PWR_DROWSE_CFG, 1, 8⟩
def F.PWR_DROWSE_CFG.WAKE_TIMER_MS : Fld := ⟨R.PWR_DROWSE_CFG, 9, 16⟩
def F.PWR_DROWSE_CFG.ENTRY_WAIT_MS : Fld := ⟨R.PWR_DROWSE_CFG, 25, 7⟩

/-- `PWR_WAKE_EN`, COLD. -/
def R.PWR_WAKE_EN : RegDesc := ⟨0x100094, 0x0, 1, 0x0, 1, .cold, .plain, fun _ => 0x7FE,
  [⟨1, 10, .co⟩]⟩
def F.PWR_WAKE_EN.EN : Fld := ⟨R.PWR_WAKE_EN, 1, 10⟩

/-- `PWR_WAKE_SRC`, WARM. -/
def R.PWR_WAKE_SRC : RegDesc := ⟨0x100098, 0x0, 1, 0x0, 1, .warm, .plain, fun _ => 0,
  [⟨0, 4, .ro⟩, ⟨4, 12, .ro⟩, ⟨16, 1, .ro⟩, ⟨17, 1, .ro⟩]⟩
def F.PWR_WAKE_SRC.SOURCE : Fld := ⟨R.PWR_WAKE_SRC, 0, 4⟩
def F.PWR_WAKE_SRC.ID : Fld := ⟨R.PWR_WAKE_SRC, 4, 12⟩
def F.PWR_WAKE_SRC.VALID : Fld := ⟨R.PWR_WAKE_SRC, 16, 1⟩
def F.PWR_WAKE_SRC.FALLBACK : Fld := ⟨R.PWR_WAKE_SRC, 17, 1⟩

/-- `PWR_AUX_WAKE`, AUX. -/
def R.PWR_AUX_WAKE : RegDesc := ⟨0x10009C, 0x0, 1, 0x0, 1, .aux, .plain, fun _ => 0,
  [⟨0, 4, .ro⟩, ⟨4, 12, .ro⟩, ⟨16, 1, .ro⟩, ⟨17, 1, .ro⟩]⟩
def F.PWR_AUX_WAKE.SOURCE : Fld := ⟨R.PWR_AUX_WAKE, 0, 4⟩
def F.PWR_AUX_WAKE.ID : Fld := ⟨R.PWR_AUX_WAKE, 4, 12⟩
def F.PWR_AUX_WAKE.VALID : Fld := ⟨R.PWR_AUX_WAKE, 16, 1⟩
def F.PWR_AUX_WAKE.FALLBACK : Fld := ⟨R.PWR_AUX_WAKE, 17, 1⟩

/-- `PWR_AUX_STATUS`, AUX. -/
def R.PWR_AUX_STATUS : RegDesc := ⟨0x1000A0, 0x0, 1, 0x0, 1, .aux, .plain, fun _ => 0,
  [⟨0, 3, .ro⟩, ⟨3, 1, .w1c⟩]⟩
def F.PWR_AUX_STATUS.LAST_RESET : Fld := ⟨R.PWR_AUX_STATUS, 0, 3⟩
def F.PWR_AUX_STATUS.THERMTRIP_SEEN : Fld := ⟨R.PWR_AUX_STATUS, 3, 1⟩

/-- `PWR_DROWSE_LAST_REFUSER`, WARM. -/
def R.PWR_DROWSE_LAST_REFUSER : RegDesc := ⟨0x1000B0, 0x0, 1, 0x0, 1, .warm, .plain, fun _ => 0,
  [⟨0, 4, .ro⟩, ⟨4, 12, .ro⟩, ⟨16, 1, .ro⟩]⟩
def F.PWR_DROWSE_LAST_REFUSER.CLASS : Fld := ⟨R.PWR_DROWSE_LAST_REFUSER, 0, 4⟩
def F.PWR_DROWSE_LAST_REFUSER.ID : Fld := ⟨R.PWR_DROWSE_LAST_REFUSER, 4, 12⟩
def F.PWR_DROWSE_LAST_REFUSER.VALID : Fld := ⟨R.PWR_DROWSE_LAST_REFUSER, 16, 1⟩

/-- `PWR_DROWSE_REFUSE_CNT`, WARM. -/
def R.PWR_DROWSE_REFUSE_CNT : RegDesc := ⟨0x1000B4, 0x0, 1, 0x4, 6, .warm, .refusal, fun _ => 0,
  [⟨0, 16, .ro⟩, ⟨16, 16, .ro⟩]⟩
def F.PWR_DROWSE_REFUSE_CNT.ODD : Fld := ⟨R.PWR_DROWSE_REFUSE_CNT, 0, 16⟩
def F.PWR_DROWSE_REFUSE_CNT.EVEN : Fld := ⟨R.PWR_DROWSE_REFUSE_CNT, 16, 16⟩

/-- `PWR_DROWSE_ENTRY_CNT`, WARM. -/
def R.PWR_DROWSE_ENTRY_CNT : RegDesc := ⟨0x1000D0, 0x0, 1, 0x0, 1, .warm, .sat (some (0x1000FC, 1)), fun _ => 0,
  [⟨0, 32, .ro⟩]⟩
def F.PWR_DROWSE_ENTRY_CNT.V : Fld := ⟨R.PWR_DROWSE_ENTRY_CNT, 0, 32⟩

/-- `PWR_CNT_OVF`, WARM. -/
def R.PWR_CNT_OVF : RegDesc := ⟨0x1000FC, 0x0, 1, 0x0, 1, .warm, .plain, fun _ => 0,
  [⟨0, 32, .w1c⟩]⟩
def F.PWR_CNT_OVF.V : Fld := ⟨R.PWR_CNT_OVF, 0, 32⟩

/-- `PWR_TB_CFG`, COLD. -/
def R.PWR_TB_CFG : RegDesc := ⟨0x100100, 0x0, 1, 0x0, 1, .cold, .plain, fun _ => 0x647,
  [⟨0, 2, .co⟩, ⟨2, 1, .co⟩, ⟨4, 8, .co⟩]⟩
def F.PWR_TB_CFG.SRC : Fld := ⟨R.PWR_TB_CFG, 0, 2⟩
def F.PWR_TB_CFG.PPS_OUT_EN : Fld := ⟨R.PWR_TB_CFG, 2, 1⟩
def F.PWR_TB_CFG.SLEW_PPM : Fld := ⟨R.PWR_TB_CFG, 4, 8⟩

/-- `PWR_TB_STATUS`, COLD. -/
def R.PWR_TB_STATUS : RegDesc := ⟨0x100104, 0x0, 1, 0x0, 1, .cold, .plain, fun _ => 0x3F8,
  [⟨0, 1, .ro⟩, ⟨1, 1, .ro⟩, ⟨2, 1, .ro⟩, ⟨3, 7, .ro⟩]⟩
def F.PWR_TB_STATUS.VALID : Fld := ⟨R.PWR_TB_STATUS, 0, 1⟩
def F.PWR_TB_STATUS.PPS_LOCK : Fld := ⟨R.PWR_TB_STATUS, 1, 1⟩
def F.PWR_TB_STATUS.KFL_LOCK : Fld := ⟨R.PWR_TB_STATUS, 2, 1⟩
def F.PWR_TB_STATUS.TIME_LINK : Fld := ⟨R.PWR_TB_STATUS, 3, 7⟩

/-- `PWR_TB_LO`, COLD. -/
def R.PWR_TB_LO : RegDesc := ⟨0x100108, 0x0, 1, 0x0, 1, .cold, .plain, fun _ => 0,
  [⟨0, 32, .ro⟩]⟩
def F.PWR_TB_LO.V : Fld := ⟨R.PWR_TB_LO, 0, 32⟩

/-- `PWR_TB_HI`, COLD. -/
def R.PWR_TB_HI : RegDesc := ⟨0x10010C, 0x0, 1, 0x0, 1, .cold, .plain, fun _ => 0,
  [⟨0, 32, .ro⟩]⟩
def F.PWR_TB_HI.V : Fld := ⟨R.PWR_TB_HI, 0, 32⟩

/-- `PWR_TB_SET_LO`, COLD. -/
def R.PWR_TB_SET_LO : RegDesc := ⟨0x100110, 0x0, 1, 0x0, 1, .cold, .plain, fun _ => 0,
  [⟨0, 32, .rw⟩]⟩
def F.PWR_TB_SET_LO.V : Fld := ⟨R.PWR_TB_SET_LO, 0, 32⟩

/-- `PWR_TB_SET_HI`, COLD. -/
def R.PWR_TB_SET_HI : RegDesc := ⟨0x100114, 0x0, 1, 0x0, 1, .cold, .plain, fun _ => 0,
  [⟨0, 32, .rw⟩]⟩
def F.PWR_TB_SET_HI.V : Fld := ⟨R.PWR_TB_SET_HI, 0, 32⟩

/-- `PWR_TB_OFFSET`, COLD. -/
def R.PWR_TB_OFFSET : RegDesc := ⟨0x100118, 0x0, 1, 0x0, 1, .cold, .plain, fun _ => 0,
  [⟨0, 32, .ro⟩]⟩
def F.PWR_TB_OFFSET.OFFSET : Fld := ⟨R.PWR_TB_OFFSET, 0, 32⟩

/-- `PWR_TB_STEP_CNT`, COLD. -/
def R.PWR_TB_STEP_CNT : RegDesc := ⟨0x10011C, 0x0, 1, 0x0, 1, .cold, .sat (some (0x1000FC, 2)), fun _ => 0,
  [⟨0, 32, .ro⟩]⟩
def F.PWR_TB_STEP_CNT.V : Fld := ⟨R.PWR_TB_STEP_CNT, 0, 32⟩

/-- `PWR_XD_STATUS`, WARM. -/
def R.PWR_XD_STATUS : RegDesc := ⟨0x100200, 0x0, 1, 0x10, 40, .warm, .plain, fun _ => 0,
  [⟨0, 1, .ro⟩, ⟨1, 1, .ro⟩, ⟨2, 1, .ro⟩, ⟨3, 1, .ro⟩]⟩
def F.PWR_XD_STATUS.CLOCKED : Fld := ⟨R.PWR_XD_STATUS, 0, 1⟩
def F.PWR_XD_STATUS.IN_RESET : Fld := ⟨R.PWR_XD_STATUS, 1, 1⟩
def F.PWR_XD_STATUS.RESYNC : Fld := ⟨R.PWR_XD_STATUS, 2, 1⟩
def F.PWR_XD_STATUS.TB_VALID : Fld := ⟨R.PWR_XD_STATUS, 3, 1⟩

/-- `PWR_XD_SUPERSEDED`, WARM. -/
def R.PWR_XD_SUPERSEDED : RegDesc := ⟨0x100204, 0x0, 1, 0x10, 40, .warm, .refusal, fun _ => 0,
  [⟨0, 16, .ro⟩]⟩
def F.PWR_XD_SUPERSEDED.COUNT : Fld := ⟨R.PWR_XD_SUPERSEDED, 0, 16⟩

/-- `PWR_XD_EVT`, WARM. -/
def R.PWR_XD_EVT : RegDesc := ⟨0x100208, 0x0, 1, 0x10, 40, .warm, .plain, fun _ => 0,
  [⟨0, 16, .ro⟩, ⟨16, 1, .w1c⟩]⟩
def F.PWR_XD_EVT.PEND : Fld := ⟨R.PWR_XD_EVT, 0, 16⟩
def F.PWR_XD_EVT.OVF : Fld := ⟨R.PWR_XD_EVT, 16, 1⟩

/-- `PWR_XD_RESYNC_CNT`, WARM. -/
def R.PWR_XD_RESYNC_CNT : RegDesc := ⟨0x10020C, 0x0, 1, 0x10, 40, .warm, .sat (some (0x1000FC, 3)), fun _ => 0,
  [⟨0, 32, .ro⟩]⟩
def F.PWR_XD_RESYNC_CNT.V : Fld := ⟨R.PWR_XD_RESYNC_CNT, 0, 32⟩

/-! ## Registers of 14_slot_power_guards.md -/

/-- `SPG_STATUS`, WARM. -/
def R.SPG_STATUS : RegDesc := ⟨0x2400000, 0x0, 1, 0x0, 1, .warm, .plain, fun _ => 0,
  [⟨0, 24, .ro⟩]⟩
def F.SPG_STATUS.ON : Fld := ⟨R.SPG_STATUS, 0, 24⟩

/-- `SPG_EVT_EN`, COLD. -/
def R.SPG_EVT_EN : RegDesc := ⟨0x240000C, 0x0, 1, 0x0, 1, .cold, .plain, fun _ => 0x39F,
  [⟨0, 1, .rw⟩, ⟨1, 1, .rw⟩, ⟨2, 1, .rw⟩, ⟨3, 1, .rw⟩, ⟨4, 1, .rw⟩, ⟨5, 1, .rw⟩, ⟨6, 1, .rw⟩, ⟨7, 1, .rw⟩, ⟨8, 1, .rw⟩, ⟨9, 1, .rw⟩]⟩
def F.SPG_EVT_EN.FAULT : Fld := ⟨R.SPG_EVT_EN, 0, 1⟩
def F.SPG_EVT_EN.LOCKOUT : Fld := ⟨R.SPG_EVT_EN, 1, 1⟩
def F.SPG_EVT_EN.REMOVED : Fld := ⟨R.SPG_EVT_EN, 2, 1⟩
def F.SPG_EVT_EN.CONFIRMED : Fld := ⟨R.SPG_EVT_EN, 3, 1⟩
def F.SPG_EVT_EN.RESEAT : Fld := ⟨R.SPG_EVT_EN, 4, 1⟩
def F.SPG_EVT_EN.POWER_ON : Fld := ⟨R.SPG_EVT_EN, 5, 1⟩
def F.SPG_EVT_EN.POWER_OFF : Fld := ⟨R.SPG_EVT_EN, 6, 1⟩
def F.SPG_EVT_EN.OVERLOAD : Fld := ⟨R.SPG_EVT_EN, 7, 1⟩
def F.SPG_EVT_EN.THERMAL : Fld := ⟨R.SPG_EVT_EN, 8, 1⟩
def F.SPG_EVT_EN.SENSE_LOST : Fld := ⟨R.SPG_EVT_EN, 9, 1⟩

/-- `SPG_CNT_OVF`, WARM. -/
def R.SPG_CNT_OVF : RegDesc := ⟨0x24000FC, 0x0, 1, 0x0, 1, .warm, .plain, fun _ => 0,
  [⟨0, 32, .w1c⟩]⟩
def F.SPG_CNT_OVF.V : Fld := ⟨R.SPG_CNT_OVF, 0, 32⟩

/-- `SPG_SLOT_CFG`, COLD. -/
def R.SPG_SLOT_CFG : RegDesc := ⟨0x2401000, 0x0, 1, 0x40, 24, .cold, .plain, fun _ => 0x600,
  [⟨0, 1, .co⟩, ⟨1, 8, .co⟩, ⟨9, 1, .co⟩, ⟨10, 1, .co⟩, ⟨11, 1, .co⟩]⟩
def F.SPG_SLOT_CFG.ENABLE : Fld := ⟨R.SPG_SLOT_CFG, 0, 1⟩
def F.SPG_SLOT_CFG.PORT : Fld := ⟨R.SPG_SLOT_CFG, 1, 8⟩
def F.SPG_SLOT_CFG.AUTO_ON : Fld := ⟨R.SPG_SLOT_CFG, 9, 1⟩
def F.SPG_SLOT_CFG.HOST_PWR : Fld := ⟨R.SPG_SLOT_CFG, 10, 1⟩
def F.SPG_SLOT_CFG.TEMP_MODE : Fld := ⟨R.SPG_SLOT_CFG, 11, 1⟩

/-- `SPG_SLOT_ELEC`, COLD. -/
def R.SPG_SLOT_ELEC : RegDesc := ⟨0x2401004, 0x0, 1, 0x40, 24, .cold, .plain, fun _ => 0x1F402EE0,
  [⟨0, 16, .co⟩, ⟨16, 16, .co⟩]⟩
def F.SPG_SLOT_ELEC.VIN_MV : Fld := ⟨R.SPG_SLOT_ELEC, 0, 16⟩
def F.SPG_SLOT_ELEC.OC_10MA : Fld := ⟨R.SPG_SLOT_ELEC, 16, 16⟩

/-- `SPG_SLOT_TIME`, COLD. -/
def R.SPG_SLOT_TIME : RegDesc := ⟨0x2401008, 0x0, 1, 0x40, 24, .cold, .plain, fun _ => 0x8532032,
  [⟨0, 10, .co⟩, ⟨10, 8, .co⟩, ⟨18, 6, .co⟩, ⟨24, 8, .co⟩]⟩
def F.SPG_SLOT_TIME.DEBOUNCE_MS : Fld := ⟨R.SPG_SLOT_TIME, 0, 10⟩
def F.SPG_SLOT_TIME.PROOF_MS : Fld := ⟨R.SPG_SLOT_TIME, 10, 8⟩
def F.SPG_SLOT_TIME.RAMP_MS : Fld := ⟨R.SPG_SLOT_TIME, 18, 6⟩
def F.SPG_SLOT_TIME.OC_US : Fld := ⟨R.SPG_SLOT_TIME, 24, 8⟩

/-- `SPG_SLOT_RETRY`, COLD. -/
def R.SPG_SLOT_RETRY : RegDesc := ⟨0x240100C, 0x0, 1, 0x40, 24, .cold, .plain, fun _ => 0xC6403E8,
  [⟨0, 16, .co⟩, ⟨16, 8, .co⟩, ⟨24, 8, .co⟩]⟩
def F.SPG_SLOT_RETRY.RETRY_MS : Fld := ⟨R.SPG_SLOT_RETRY, 0, 16⟩
def F.SPG_SLOT_RETRY.PERST_MS : Fld := ⟨R.SPG_SLOT_RETRY, 16, 8⟩
def F.SPG_SLOT_RETRY.DVDT : Fld := ⟨R.SPG_SLOT_RETRY, 24, 8⟩

/-- `SPG_SLOT_THERM`, COLD. -/
def R.SPG_SLOT_THERM : RegDesc := ⟨0x2401010, 0x0, 1, 0x40, 24, .cold, .plain, fun _ => 0x4B7D7364,
  [⟨0, 8, .co⟩, ⟨8, 8, .co⟩, ⟨16, 8, .co⟩, ⟨24, 8, .co⟩]⟩
def F.SPG_SLOT_THERM.WARM_C : Fld := ⟨R.SPG_SLOT_THERM, 0, 8⟩
def F.SPG_SLOT_THERM.HOT_C : Fld := ⟨R.SPG_SLOT_THERM, 8, 8⟩
def F.SPG_SLOT_THERM.TMAX_C : Fld := ⟨R.SPG_SLOT_THERM, 16, 8⟩
def F.SPG_SLOT_THERM.COOL_C : Fld := ⟨R.SPG_SLOT_THERM, 24, 8⟩

/-- `SPG_SLOT_MODEL`, COLD. -/
def R.SPG_SLOT_MODEL : RegDesc := ⟨0x2401014, 0x0, 1, 0x40, 24, .cold, .plain, fun _ => 0x76419032,
  [⟨0, 10, .co⟩, ⟨10, 10, .co⟩, ⟨20, 8, .co⟩, ⟨28, 4, .co⟩]⟩
def F.SPG_SLOT_MODEL.RTH : Fld := ⟨R.SPG_SLOT_MODEL, 0, 10⟩
def F.SPG_SLOT_MODEL.TAU_MS : Fld := ⟨R.SPG_SLOT_MODEL, 10, 10⟩
def F.SPG_SLOT_MODEL.RDS : Fld := ⟨R.SPG_SLOT_MODEL, 20, 8⟩
def F.SPG_SLOT_MODEL.T_AMB : Fld := ⟨R.SPG_SLOT_MODEL, 28, 4⟩

/-- `SPG_SLOT_CAP`, COLD. -/
def R.SPG_SLOT_CAP : RegDesc := ⟨0x2401018, 0x0, 1, 0x40, 24, .cold, .plain, fun _ => 0,
  [⟨0, 24, .co⟩]⟩
def F.SPG_SLOT_CAP.CAP_MW : Fld := ⟨R.SPG_SLOT_CAP, 0, 24⟩

/-- `SPG_SLOT_EVT`, WARM. -/
def R.SPG_SLOT_EVT : RegDesc := ⟨0x240101C, 0x0, 1, 0x40, 24, .warm, .plain, fun _ => 0,
  [⟨0, 1, .w1c⟩, ⟨1, 1, .w1c⟩, ⟨2, 1, .w1c⟩, ⟨3, 1, .w1c⟩, ⟨4, 1, .w1c⟩, ⟨5, 1, .w1c⟩, ⟨6, 1, .w1c⟩, ⟨7, 1, .w1c⟩, ⟨8, 1, .w1c⟩, ⟨9, 1, .w1c⟩]⟩
def F.SPG_SLOT_EVT.FAULT : Fld := ⟨R.SPG_SLOT_EVT, 0, 1⟩
def F.SPG_SLOT_EVT.LOCKOUT : Fld := ⟨R.SPG_SLOT_EVT, 1, 1⟩
def F.SPG_SLOT_EVT.REMOVED : Fld := ⟨R.SPG_SLOT_EVT, 2, 1⟩
def F.SPG_SLOT_EVT.CONFIRMED : Fld := ⟨R.SPG_SLOT_EVT, 3, 1⟩
def F.SPG_SLOT_EVT.RESEAT : Fld := ⟨R.SPG_SLOT_EVT, 4, 1⟩
def F.SPG_SLOT_EVT.POWER_ON : Fld := ⟨R.SPG_SLOT_EVT, 5, 1⟩
def F.SPG_SLOT_EVT.POWER_OFF : Fld := ⟨R.SPG_SLOT_EVT, 6, 1⟩
def F.SPG_SLOT_EVT.OVERLOAD : Fld := ⟨R.SPG_SLOT_EVT, 7, 1⟩
def F.SPG_SLOT_EVT.THERMAL : Fld := ⟨R.SPG_SLOT_EVT, 8, 1⟩
def F.SPG_SLOT_EVT.SENSE_LOST : Fld := ⟨R.SPG_SLOT_EVT, 9, 1⟩

/-- `SPG_SLOT_STATE`, WARM. -/
def R.SPG_SLOT_STATE : RegDesc := ⟨0x2401020, 0x0, 1, 0x40, 24, .warm, .plain, fun _ => 0,
  [⟨0, 4, .ro⟩, ⟨4, 1, .ro⟩, ⟨5, 1, .ro⟩, ⟨6, 1, .ro⟩, ⟨7, 1, .ro⟩, ⟨8, 1, .ro⟩, ⟨9, 1, .ro⟩, ⟨10, 2, .ro⟩, ⟨12, 2, .ro⟩, ⟨14, 1, .ro⟩, ⟨15, 1, .ro⟩, ⟨16, 2, .ro⟩, ⟨18, 2, .ro⟩]⟩
def F.SPG_SLOT_STATE.STATE : Fld := ⟨R.SPG_SLOT_STATE, 0, 4⟩
def F.SPG_SLOT_STATE.CONFIRMED : Fld := ⟨R.SPG_SLOT_STATE, 4, 1⟩
def F.SPG_SLOT_STATE.PRSNT_L : Fld := ⟨R.SPG_SLOT_STATE, 5, 1⟩
def F.SPG_SLOT_STATE.PRSNT_S : Fld := ⟨R.SPG_SLOT_STATE, 6, 1⟩
def F.SPG_SLOT_STATE.PRE_EN : Fld := ⟨R.SPG_SLOT_STATE, 7, 1⟩
def F.SPG_SLOT_STATE.GATE_EN : Fld := ⟨R.SPG_SLOT_STATE, 8, 1⟩
def F.SPG_SLOT_STATE.PERST_REL : Fld := ⟨R.SPG_SLOT_STATE, 9, 1⟩
def F.SPG_SLOT_STATE.THERMAL : Fld := ⟨R.SPG_SLOT_STATE, 10, 2⟩
def F.SPG_SLOT_STATE.FAULTS_60S : Fld := ⟨R.SPG_SLOT_STATE, 12, 2⟩
def F.SPG_SLOT_STATE.RESEAT_IN_RETRY : Fld := ⟨R.SPG_SLOT_STATE, 14, 1⟩
def F.SPG_SLOT_STATE.SENSE_OK : Fld := ⟨R.SPG_SLOT_STATE, 15, 1⟩
def F.SPG_SLOT_STATE.ATTN_IND : Fld := ⟨R.SPG_SLOT_STATE, 16, 2⟩
def F.SPG_SLOT_STATE.PWR_IND : Fld := ⟨R.SPG_SLOT_STATE, 18, 2⟩

/-- `SPG_SLOT_FAULT`, WARM. -/
def R.SPG_SLOT_FAULT : RegDesc := ⟨0x2401024, 0x0, 1, 0x40, 24, .warm, .plain, fun _ => 0,
  [⟨0, 8, .ro⟩, ⟨8, 1, .ro⟩, ⟨9, 4, .ro⟩]⟩
def F.SPG_SLOT_FAULT.CLASS : Fld := ⟨R.SPG_SLOT_FAULT, 0, 8⟩
def F.SPG_SLOT_FAULT.VALID : Fld := ⟨R.SPG_SLOT_FAULT, 8, 1⟩
def F.SPG_SLOT_FAULT.IN_STATE : Fld := ⟨R.SPG_SLOT_FAULT, 9, 4⟩

/-- `SPG_SLOT_TELEM0`, WARM. -/
def R.SPG_SLOT_TELEM0 : RegDesc := ⟨0x2401028, 0x0, 1, 0x40, 24, .warm, .plain, fun _ => 0,
  [⟨0, 16, .ro⟩, ⟨16, 16, .ro⟩]⟩
def F.SPG_SLOT_TELEM0.IOUT : Fld := ⟨R.SPG_SLOT_TELEM0, 0, 16⟩
def F.SPG_SLOT_TELEM0.VOUT : Fld := ⟨R.SPG_SLOT_TELEM0, 16, 16⟩

/-- `SPG_SLOT_TELEM1`, WARM. -/
def R.SPG_SLOT_TELEM1 : RegDesc := ⟨0x240102C, 0x0, 1, 0x40, 24, .warm, .plain, fun _ => 0,
  [⟨0, 12, .ro⟩, ⟨12, 1, .ro⟩, ⟨16, 16, .ro⟩]⟩
def F.SPG_SLOT_TELEM1.TEMP : Fld := ⟨R.SPG_SLOT_TELEM1, 0, 12⟩
def F.SPG_SLOT_TELEM1.MODELLED : Fld := ⟨R.SPG_SLOT_TELEM1, 12, 1⟩
def F.SPG_SLOT_TELEM1.POWER : Fld := ⟨R.SPG_SLOT_TELEM1, 16, 16⟩

/-- `SPG_SLOT_LIMIT`, WARM. -/
def R.SPG_SLOT_LIMIT : RegDesc := ⟨0x2401030, 0x0, 1, 0x40, 24, .warm, .plain, fun _ => 0,
  [⟨0, 24, .ro⟩, ⟨24, 1, .ro⟩]⟩
def F.SPG_SLOT_LIMIT.LIMIT_MW : Fld := ⟨R.SPG_SLOT_LIMIT, 0, 24⟩
def F.SPG_SLOT_LIMIT.HOST_SET : Fld := ⟨R.SPG_SLOT_LIMIT, 24, 1⟩

/-- `SPG_SLOT_FAULT_CNT`, WARM. -/
def R.SPG_SLOT_FAULT_CNT : RegDesc := ⟨0x2401034, 0x0, 1, 0x40, 24, .warm, .sat (some (0x24000FC, 0)), fun _ => 0,
  [⟨0, 32, .ro⟩]⟩
def F.SPG_SLOT_FAULT_CNT.V : Fld := ⟨R.SPG_SLOT_FAULT_CNT, 0, 32⟩

/-- `SPG_SLOT_REMOVE_CNT`, WARM. -/
def R.SPG_SLOT_REMOVE_CNT : RegDesc := ⟨0x2401038, 0x0, 1, 0x40, 24, .warm, .sat (some (0x24000FC, 0)), fun _ => 0,
  [⟨0, 32, .ro⟩]⟩
def F.SPG_SLOT_REMOVE_CNT.V : Fld := ⟨R.SPG_SLOT_REMOVE_CNT, 0, 32⟩

/-- `SPG_SLOT_SSB_ERR_CNT`, WARM. -/
def R.SPG_SLOT_SSB_ERR_CNT : RegDesc := ⟨0x240103C, 0x0, 1, 0x40, 24, .warm, .sat (some (0x24000FC, 0)), fun _ => 0,
  [⟨0, 32, .ro⟩]⟩
def F.SPG_SLOT_SSB_ERR_CNT.V : Fld := ⟨R.SPG_SLOT_SSB_ERR_CNT, 0, 32⟩

/-! ## Registers of 15_trust_and_flash.md -/

/-- `SEC_BOOT_STATUS`, WARM. -/
def R.SEC_BOOT_STATUS : RegDesc := ⟨0x200000, 0x0, 1, 0x0, 1, .warm, .plain, fun _ => 0x3,
  [⟨0, 2, .ro⟩, ⟨2, 1, .ro⟩, ⟨3, 1, .ro⟩, ⟨4, 4, .ro⟩, ⟨8, 4, .ro⟩]⟩
def F.SEC_BOOT_STATUS.RUNNING : Fld := ⟨R.SEC_BOOT_STATUS, 0, 2⟩
def F.SEC_BOOT_STATUS.FALLBACK : Fld := ⟨R.SEC_BOOT_STATUS, 2, 1⟩
def F.SEC_BOOT_STATUS.ROM_RESIDENT : Fld := ⟨R.SEC_BOOT_STATUS, 3, 1⟩
def F.SEC_BOOT_STATUS.RESULT_A : Fld := ⟨R.SEC_BOOT_STATUS, 4, 4⟩
def F.SEC_BOOT_STATUS.RESULT_B : Fld := ⟨R.SEC_BOOT_STATUS, 8, 4⟩

/-- `SEC_SVN`, WARM. -/
def R.SEC_SVN : RegDesc := ⟨0x200004, 0x0, 1, 0x0, 1, .warm, .plain, fun _ => 0,
  [⟨0, 7, .ro⟩, ⟨8, 7, .ro⟩]⟩
def F.SEC_SVN.FLOOR : Fld := ⟨R.SEC_SVN, 0, 7⟩
def F.SEC_SVN.RUNNING_SVN : Fld := ⟨R.SEC_SVN, 8, 7⟩

/-- `SEC_FW_VERSION_A`, WARM. -/
def R.SEC_FW_VERSION_A : RegDesc := ⟨0x200008, 0x0, 1, 0x0, 1, .warm, .plain, fun _ => 0,
  [⟨0, 32, .ro⟩]⟩
def F.SEC_FW_VERSION_A.V : Fld := ⟨R.SEC_FW_VERSION_A, 0, 32⟩

/-- `SEC_FW_VERSION_B`, WARM. -/
def R.SEC_FW_VERSION_B : RegDesc := ⟨0x20000C, 0x0, 1, 0x0, 1, .warm, .plain, fun _ => 0,
  [⟨0, 32, .ro⟩]⟩
def F.SEC_FW_VERSION_B.V : Fld := ⟨R.SEC_FW_VERSION_B, 0, 32⟩

/-- `SEC_IMAGE_STATE`, WARM. -/
def R.SEC_IMAGE_STATE : RegDesc := ⟨0x200010, 0x0, 1, 0x0, 1, .warm, .plain, fun _ => 0x60,
  [⟨0, 2, .ro⟩, ⟨2, 2, .ro⟩, ⟨4, 1, .ro⟩, ⟨5, 2, .ro⟩, ⟨7, 1, .ro⟩, ⟨8, 8, .ro⟩]⟩
def F.SEC_IMAGE_STATE.STATE_A : Fld := ⟨R.SEC_IMAGE_STATE, 0, 2⟩
def F.SEC_IMAGE_STATE.STATE_B : Fld := ⟨R.SEC_IMAGE_STATE, 2, 2⟩
def F.SEC_IMAGE_STATE.PREFERRED : Fld := ⟨R.SEC_IMAGE_STATE, 4, 1⟩
def F.SEC_IMAGE_STATE.OPEN : Fld := ⟨R.SEC_IMAGE_STATE, 5, 2⟩
def F.SEC_IMAGE_STATE.WRITE_FENCED : Fld := ⟨R.SEC_IMAGE_STATE, 7, 1⟩
def F.SEC_IMAGE_STATE.QUEUE_KIB : Fld := ⟨R.SEC_IMAGE_STATE, 8, 8⟩

/-- `SEC_FW_PROGRESS`, WARM. -/
def R.SEC_FW_PROGRESS : RegDesc := ⟨0x200014, 0x0, 1, 0x0, 1, .warm, .plain, fun _ => 0,
  [⟨0, 23, .ro⟩]⟩
def F.SEC_FW_PROGRESS.KIB : Fld := ⟨R.SEC_FW_PROGRESS, 0, 23⟩

/-- `SEC_EVT`, WARM. -/
def R.SEC_EVT : RegDesc := ⟨0x200018, 0x0, 1, 0x0, 1, .warm, .plain, fun _ => 0,
  [⟨0, 1, .w1c⟩, ⟨1, 1, .w1c⟩, ⟨2, 1, .w1c⟩, ⟨3, 1, .w1c⟩, ⟨4, 1, .w1c⟩]⟩
def F.SEC_EVT.FALLBACK : Fld := ⟨R.SEC_EVT, 0, 1⟩
def F.SEC_EVT.FW_FINISHED : Fld := ⟨R.SEC_EVT, 1, 1⟩
def F.SEC_EVT.FLOOR_RAISED : Fld := ⟨R.SEC_EVT, 2, 1⟩
def F.SEC_EVT.WRITE_FENCED : Fld := ⟨R.SEC_EVT, 3, 1⟩
def F.SEC_EVT.SPDM_UNLOCK_SEEN : Fld := ⟨R.SEC_EVT, 4, 1⟩

/-- `SEC_EVT_EN`, COLD. -/
def R.SEC_EVT_EN : RegDesc := ⟨0x20001C, 0x0, 1, 0x0, 1, .cold, .plain, fun _ => 0xF,
  [⟨0, 1, .rw⟩, ⟨1, 1, .rw⟩, ⟨2, 1, .rw⟩, ⟨3, 1, .rw⟩, ⟨4, 1, .rw⟩]⟩
def F.SEC_EVT_EN.FALLBACK : Fld := ⟨R.SEC_EVT_EN, 0, 1⟩
def F.SEC_EVT_EN.FW_FINISHED : Fld := ⟨R.SEC_EVT_EN, 1, 1⟩
def F.SEC_EVT_EN.FLOOR_RAISED : Fld := ⟨R.SEC_EVT_EN, 2, 1⟩
def F.SEC_EVT_EN.WRITE_FENCED : Fld := ⟨R.SEC_EVT_EN, 3, 1⟩
def F.SEC_EVT_EN.SPDM_UNLOCK_SEEN : Fld := ⟨R.SEC_EVT_EN, 4, 1⟩

/-- `SEC_LIFECYCLE`, COLD. -/
def R.SEC_LIFECYCLE : RegDesc := ⟨0x200020, 0x0, 1, 0x0, 1, .cold, .plain, fun _ => 0,
  [⟨0, 1, .ro⟩, ⟨1, 1, .ro⟩]⟩
def F.SEC_LIFECYCLE.KEYS_FUSED : Fld := ⟨R.SEC_LIFECYCLE, 0, 1⟩
def F.SEC_LIFECYCLE.LC_IDENTITY_LOCKED : Fld := ⟨R.SEC_LIFECYCLE, 1, 1⟩

/-- `SEC_FUSE_KEYHASH_RSA`, COLD. -/
def R.SEC_FUSE_KEYHASH_RSA : RegDesc := ⟨0x200040, 0x0, 1, 0x4, 12, .cold, .plain, fun _ => 0,
  [⟨0, 32, .ro⟩]⟩
def F.SEC_FUSE_KEYHASH_RSA.V : Fld := ⟨R.SEC_FUSE_KEYHASH_RSA, 0, 32⟩

/-- `SEC_IMAGE_FAIL_CNT`, COLD. -/
def R.SEC_IMAGE_FAIL_CNT : RegDesc := ⟨0x200080, 0x0, 1, 0x0, 1, .cold, .sat (some (0x2000FC, 0)), fun _ => 0,
  [⟨0, 32, .ro⟩]⟩
def F.SEC_IMAGE_FAIL_CNT.V : Fld := ⟨R.SEC_IMAGE_FAIL_CNT, 0, 32⟩

/-- `SEC_TOKEN_FAIL_CNT`, COLD. -/
def R.SEC_TOKEN_FAIL_CNT : RegDesc := ⟨0x200084, 0x0, 1, 0x0, 1, .cold, .sat (some (0x2000FC, 1)), fun _ => 0,
  [⟨0, 32, .ro⟩]⟩
def F.SEC_TOKEN_FAIL_CNT.V : Fld := ⟨R.SEC_TOKEN_FAIL_CNT, 0, 32⟩

/-- `SEC_SPDM_REQ_CNT`, WARM. -/
def R.SEC_SPDM_REQ_CNT : RegDesc := ⟨0x200088, 0x0, 1, 0x0, 1, .warm, .sat (some (0x2000FC, 2)), fun _ => 0,
  [⟨0, 32, .ro⟩]⟩
def F.SEC_SPDM_REQ_CNT.V : Fld := ⟨R.SEC_SPDM_REQ_CNT, 0, 32⟩

/-- `SEC_CNT_OVF`, COLD. -/
def R.SEC_CNT_OVF : RegDesc := ⟨0x2000FC, 0x0, 1, 0x0, 1, .cold, .plain, fun _ => 0,
  [⟨0, 32, .w1c⟩]⟩
def F.SEC_CNT_OVF.V : Fld := ⟨R.SEC_CNT_OVF, 0, 32⟩

/-- `SEC_FUSE_KEYHASH_SLH`, COLD. -/
def R.SEC_FUSE_KEYHASH_SLH : RegDesc := ⟨0x200100, 0x0, 1, 0x4, 12, .cold, .plain, fun _ => 0,
  [⟨0, 32, .ro⟩]⟩
def F.SEC_FUSE_KEYHASH_SLH.V : Fld := ⟨R.SEC_FUSE_KEYHASH_SLH, 0, 32⟩

/-- `SEC_DBG_NONCE`, WARM. -/
def R.SEC_DBG_NONCE : RegDesc := ⟨0x200140, 0x0, 1, 0x4, 8, .warm, .plain, fun _ => 0,
  [⟨0, 32, .ro⟩]⟩
def F.SEC_DBG_NONCE.V : Fld := ⟨R.SEC_DBG_NONCE, 0, 32⟩

/-- `SEC_MEAS`, WARM. -/
def R.SEC_MEAS : RegDesc := ⟨0x200200, 0x40, 5, 0x4, 12, .warm, .plain, fun _ => 0,
  [⟨0, 32, .ro⟩]⟩
def F.SEC_MEAS.V : Fld := ⟨R.SEC_MEAS, 0, 32⟩

/-- The registers of 02_lane_clusters.md. -/
def regs02 : List RegDesc := [
  R.PCL_CLUSTER_ID, R.PCL_CLUSTER_CFG, R.PCL_CLUSTER_STATUS, R.PCL_SLOT_CFG, R.PCL_PORT_STATUS, R.PCL_PORT_CTRL,
  R.PCL_PORT_EVT, R.PCL_LANE_STATUS, R.PCL_LANE_TXEQ, R.PCL_LANE_RXADAPT_CTRL, R.PCL_LANE_CTLE, R.PCL_LANE_DFE_A,
  R.PCL_LANE_DFE_B, R.PCL_LANE_DFE_C, R.PCL_LANE_FLOAT_POS, R.PCL_LANE_FLOAT_VAL, R.PCL_PRBS_CTRL, R.PCL_PRBS_ERR,
  R.PCL_PRBS_STATUS, R.PCL_RECAL_STATUS, R.PCL_PORT_RECOVERY_CNT, R.PCL_PORT_FEC_UNCORR_CNT, R.PCL_PORT_FEC_CORR_LO,
  R.PCL_PORT_FEC_CORR_HI]

/-- The registers of 03_churn.md. -/
def regs03 : List RegDesc := [
  R.CHN_CFG, R.CHN_STATUS, R.CHN_EVT, R.CHN_EVT_EN, R.CHN_POOL_FREE, R.CHN_HEAD_FREE, R.CHN_SHARED_SIZE,
  R.CHN_SHARED_HEADS, R.CHN_POOL_WM, R.CHN_ESC_CFG, R.CHN_ESC_FREE, R.CHN_MC_CFG, R.CHN_MC_TIMER, R.CHN_MC_FREE,
  R.CHN_MC_HEADS_FREE, R.CHN_MC_STRIKE_CNT, R.CHN_MC_TIMEOUT_CNT, R.CHN_MC_STALL_CNT, R.CHN_ROT_CTRL,
  R.CHN_ROT_STATUS, R.CHN_ROT_CYCLE_CNT, R.CHN_ECC_CE_CNT, R.CHN_ECC_UE_CNT, R.CHN_ECC_FIRST_UE, R.CHN_HEAD_CE_CNT,
  R.CHN_HEAD_UE_CNT, R.CHN_NULLIFY_CNT, R.CHN_MIG_WORDS_LO, R.CHN_MIG_WORDS_HI, R.CHN_SF_PKTS_LO, R.CHN_SF_PKTS_HI,
  R.CHN_CNT_OVF, R.CHN_BANK_STATE, R.CHN_BANK_CE_CNT, R.CHN_PORT_CFG, R.CHN_PORT_RES, R.CHN_PORT_HELD,
  R.CHN_PORT_HELD_H, R.CHN_PORT_STALL_CNT, R.CHN_PORT_SF_CNT]

/-- The registers of 04_composition.md. -/
def regs04 : List RegDesc := [
  R.BND_GEN_CTRL, R.BND_GEN_STATUS, R.BND_GEN_OLDER, R.BND_GEN_REJECT, R.BND_EVT, R.BND_EVT_EN, R.BND_TRK_TIMEOUT,
  R.BND_TRK_USED, R.BND_TRK_HWM, R.BND_TRK_STALL_CNT, R.BND_IDE_REFUSED_CNT, R.BND_UNCLAIMED_CNT,
  R.BND_CFG_PROXY_TO_CNT, R.BND_WIN_SHADOWED_CNT, R.BND_CNT_OVF, R.BND_VH_STATUS, R.BND_VH_TAGS, R.BND_VH_TRK_USED,
  R.BND_VH_BLOCKED_CNT, R.BND_VH_RESET_CNT, R.BND_BIND_STATE]

/-- The registers of 05_fabric.md. -/
def regs05 : List RegDesc := [
  R.BND_FAB_CFG, R.BND_FAB_STATUS, R.BND_FAB_LEAD_INFO, R.BND_FAB_EVT, R.BND_FAB_EVT_EN, R.BND_FAB_TIMERS,
  R.BND_FAB_RESEQ_CFG, R.BND_FAB_HOLD_CFG, R.BND_FAB_LINK_LIVE0, R.BND_FAB_LINK_LIVE1, R.BND_FAB_LINK_LIVE2,
  R.BND_FAB_FLOWS_USED, R.BND_FAB_FLOWS_HWM, R.BND_FAB_SENDS_USED, R.BND_FAB_FLOW_PINNED_CNT,
  R.BND_FAB_FLOW_DENY_CNT, R.BND_FAB_RESEQ_HOLE_CNT, R.BND_FAB_RESEQ_LATE_CNT, R.BND_FAB_RESEQ_DUP_CNT,
  R.BND_FAB_SKEW_EXC_CNT, R.BND_FAB_HOP_LIMIT_CNT, R.BND_FAB_DATELINE_BLOCK_CNT, R.BND_FAB_UNREACH_CNT,
  R.BND_FAB_PIN_DROP_CNT, R.BND_FAB_MASK_CNT, R.BND_FAB_PIN_HOLD_CNT, R.BND_FAB_REDIR_CNT, R.BND_FAB_PEER_AUTH_CNT,
  R.BND_FAB_PRIV_REJ_CNT, R.BND_FAB_WHEY_UNROUTE_CNT, R.BND_FAB_CNT_OVF, R.BND_FAB_MEMBER]

/-- The registers of 06_fabric_link.md. -/
def regs06 : List RegDesc := [
  R.KFL_LINK_CFG, R.KFL_LINK_STATUS, R.KFL_LINK_EVT, R.KFL_LINK_EVT_EN, R.KFL_TIMER_A, R.KFL_TIMER_B, R.KFL_TIMER_C,
  R.KFL_SEQ_TX, R.KFL_SEQ_RX, R.KFL_REPLAY_STATUS, R.KFL_LANE_MAP, R.KFL_PEER_SERIAL_LO, R.KFL_PEER_SERIAL_HI,
  R.KFL_TIME_OFFSET, R.KFL_TIME_DELAY, R.KFL_CRED_TX, R.KFL_CRED_RX, R.KFL_CRC_ERR_CNT, R.KFL_FEC_UE_CNT,
  R.KFL_DUP_CNT, R.KFL_OOS_CNT, R.KFL_REPLAY_CNT, R.KFL_RECOV_CNT, R.KFL_MARKER_ERR_CNT, R.KFL_PROTO_ERR_CNT,
  R.KFL_WHEY_UNK_CNT, R.KFL_ABORT_TX_CNT, R.KFL_ABORT_RX_CNT, R.KFL_BROKEN_CNT, R.KFL_CREDIT_TO_CNT, R.KFL_CNT_OVF,
  R.KFL_TX_FLITS_LO, R.KFL_TX_FLITS_HI, R.KFL_RX_FLITS_LO, R.KFL_RX_FLITS_HI, R.KFL_FEC_CORR_SYM_LO,
  R.KFL_FEC_CORR_SYM_HI, R.KFL_IDLE_DEL_LO, R.KFL_IDLE_DEL_HI]

/-- The registers of 07_containment.md. -/
def regs07 : List RegDesc := [
  R.ERR_CFG, R.ERR_STATUS, R.ERR_EVT, R.ERR_EVT_EN, R.ERR_FATAL_CAUSE, R.ERR_FATAL_TIME_LO, R.ERR_FATAL_TIME_HI,
  R.ERR_WDOG_CFG, R.ERR_WDOG_STATUS, R.ERR_JRNL_STATUS, R.ERR_JRNL_SEQ, R.ERR_TRK_TIMEOUT_CNT, R.ERR_CPL_SYNTH_CNT,
  R.ERR_LATE_CPL_CNT, R.ERR_UNEXP_CPL_CNT, R.ERR_UNEXP_ITEM_CNT, R.ERR_WFN_TX_CNT, R.ERR_WFN_RX_CNT,
  R.ERR_WFN_UNDELIV_CNT, R.ERR_POISON_FWD_CNT, R.ERR_SURPRISE_DOWN_CNT, R.ERR_DPC_CNT, R.ERR_WDOG_CNT,
  R.ERR_JRNL_COALESCE_CNT, R.ERR_JRNL_OVERWRITE_CNT, R.ERR_FLASH_FENCED_CNT, R.ERR_CNT_OVF, R.ERR_VH_CFG,
  R.ERR_PFL_IDX, R.ERR_PFL_LOST_CNT]

/-- The registers of 08_traffic_control.md. -/
def regs08 : List RegDesc := [
  R.QOS_CFG, R.QOS_STATUS, R.QOS_EVT, R.QOS_EVT_EN, R.QOS_STARVE_CNT, R.QOS_GATE_OVERRUN_TOTAL, R.QOS_HOLD_FULL_CNT,
  R.QOS_MOVE_WAIT_CNT, R.QOS_GCL_ERR_CNT, R.QOS_RESET_DISCARD_CNT, R.QOS_CNT_OVF, R.QOS_PORT_CFG, R.QOS_PORT_RATE,
  R.QOS_PORT_BURST, R.QOS_GCL_CTRL, R.QOS_GCL_STATUS, R.QOS_GCL_CYCLE, R.QOS_GCL_BASE_LO, R.QOS_GCL_BASE_HI,
  R.QOS_GATE_OVERRUN_CNT, R.QOS_PORT_SENT_LO, R.QOS_PORT_SENT_HI, R.QOS_POL_CFG, R.QOS_POL_CIR, R.QOS_POL_PIR,
  R.QOS_POL_CBS, R.QOS_POL_PBS, R.QOS_POL_STATUS, R.QOS_POL_RED_CNT, R.QOS_POL_HOLD_FULL_CNT, R.QOS_POL_GREEN_LO,
  R.QOS_POL_GREEN_HI, R.QOS_POL_YELLOW_LO, R.QOS_POL_YELLOW_HI, R.QOS_NODE_CFG, R.QOS_NODE_TCMAP, R.QOS_NODE_RATE,
  R.QOS_NODE_BURST, R.QOS_NODE_CS_RATE, R.QOS_NODE_CS_HI, R.QOS_NODE_STATUS, R.QOS_NODE_SENT_LO, R.QOS_NODE_SENT_HI,
  R.QOS_SQ_CFG, R.QOS_SQ_RATE, R.QOS_SQ_BURST, R.QOS_SQ_CS_RATE, R.QOS_SQ_CS_HI, R.QOS_SQ_STATUS, R.QOS_SQ_SENT_LO,
  R.QOS_SQ_SENT_HI]

/-- The registers of 10_access_checks.md. -/
def regs10 : List RegDesc := [
  R.ACU_CFG, R.ACU_STATUS, R.ACU_EVT, R.ACU_EVT_EN, R.ACU_FV_INFO, R.ACU_FV_ADDR_LO, R.ACU_FV_ADDR_HI, R.ACU_FV_RULE,
  R.ACU_FV_TIME_LO, R.ACU_FV_TIME_HI, R.ACU_VIOL_CNT, R.ACU_SPLIT_CNT, R.ACU_TAIL_CNT, R.ACU_CNT_OVF, R.DBG_CTRL,
  R.DBG_STATUS, R.DBG_EVT, R.DBG_EVT_EN, R.DBG_LOCK_FV_INFO, R.DBG_LOCK_FV_ADDR_LO, R.DBG_LOCK_FV_ADDR_HI,
  R.DBG_LOCK_FV_TIME_LO, R.DBG_LOCK_FV_TIME_HI, R.DBG_LOCK_VIOL_CNT, R.DBG_CNT_OVF]

/-- The registers of 11_service_engine.md. -/
def regs11 : List RegDesc := [
  R.Q_DESC_BASE_LO, R.Q_DESC_BASE_HI, R.Q_CPL_BASE_LO, R.Q_CPL_BASE_HI, R.Q_CFG, R.Q_PASID, R.Q_CTRL, R.Q_INT,
  R.Q_DESC_TAIL, R.Q_DESC_HEAD, R.Q_CPL_HEAD, R.Q_CPL_TAIL, R.Q_STATUS, R.FN_INFO, R.FN_EVT, R.FN_EVT_CFG,
  R.TS_BUF0_LO, R.TS_BUF0_HI, R.TS_BUF1_LO, R.TS_BUF1_HI, R.TS_CTRL, R.TS_STATUS, R.SVC_CFG, R.SVC_STATUS, R.SVC_EVT,
  R.SVC_EVT_EN, R.SVC_FREE, R.SVC_CRC_MISMATCH_CNT, R.SVC_DESC_ERR_CNT, R.SVC_ABORT_CNT, R.SVC_FETCH_FAIL_CNT,
  R.SVC_ENG_RESET_CNT, R.SVC_TRC_STALL_CNT, R.SVC_TRC_OOR_CNT, R.SVC_CNT_OVF, R.SVC_DESC_DONE_LO, R.SVC_DESC_DONE_HI,
  R.SVC_BYTES_LO, R.SVC_BYTES_HI, R.SVC_ENG_STATUS, R.SVC_FN_CFG, R.SVC_FN_RES, R.SVC_QMAP, R.SVC_VMAP,
  R.SVC_TRC_CFG, R.SVC_TRC_RANGE_LO, R.SVC_TRC_RANGE_HI, R.SVC_TRC_LINES, R.SVC_TRC_STATUS, R.SVC_TRC_WRITES_LO,
  R.SVC_TRC_WRITES_HI]

/-- The registers of 12_corber.md. -/
def regs12 : List RegDesc := [
  R.MGT_IDENT, R.MGT_SERIAL_LO, R.MGT_SERIAL_HI, R.MGT_MODE, R.MGT_CRB_CTRL, R.MGT_CRB_STATUS, R.MGT_CRB_REQ_BASE_LO,
  R.MGT_CRB_REQ_BASE_HI, R.MGT_CRB_RPL_BASE_LO, R.MGT_CRB_RPL_BASE_HI, R.MGT_CRB_EVT_BASE_LO, R.MGT_CRB_EVT_BASE_HI,
  R.MGT_CRB_REQ_TAIL, R.MGT_CRB_REQ_HEAD, R.MGT_CRB_RPL_HEAD, R.MGT_CRB_RPL_TAIL, R.MGT_CRB_EVT_HEAD,
  R.MGT_CRB_EVT_TAIL, R.MGT_CRB_VEC, R.MGT_CRB_PERM, R.MGT_MCTP_CFG, R.MGT_CRB_EVT_LOST_CNT, R.MGT_CRB_DUP_CNT,
  R.MGT_CRB_BUSY_CNT, R.MGT_CRB_FRAG_ERR_CNT, R.MGT_CNT_OVF]

/-- The registers of 13_modes_power_crossings.md. -/
def regs13 : List RegDesc := [
  R.PWR_MODE_CFG, R.PWR_STATUS, R.PWR_EVT, R.PWR_EVT_EN, R.PWR_CORE_DELAY, R.PWR_DEMAND, R.PWR_VPOL_CFG,
  R.PWR_VPOL_TIME, R.PWR_VCORE, R.PWR_VSDS, R.PWR_SAG_CFG, R.PWR_SAG_CNT, R.PWR_THERM_REG, R.PWR_THERM_CFG,
  R.PWR_DROWSE_CFG, R.PWR_WAKE_EN, R.PWR_WAKE_SRC, R.PWR_AUX_WAKE, R.PWR_AUX_STATUS, R.PWR_DROWSE_LAST_REFUSER,
  R.PWR_DROWSE_REFUSE_CNT, R.PWR_DROWSE_ENTRY_CNT, R.PWR_CNT_OVF, R.PWR_TB_CFG, R.PWR_TB_STATUS, R.PWR_TB_LO,
  R.PWR_TB_HI, R.PWR_TB_SET_LO, R.PWR_TB_SET_HI, R.PWR_TB_OFFSET, R.PWR_TB_STEP_CNT, R.PWR_XD_STATUS,
  R.PWR_XD_SUPERSEDED, R.PWR_XD_EVT, R.PWR_XD_RESYNC_CNT]

/-- The registers of 14_slot_power_guards.md. -/
def regs14 : List RegDesc := [
  R.SPG_STATUS, R.SPG_EVT_EN, R.SPG_CNT_OVF, R.SPG_SLOT_CFG, R.SPG_SLOT_ELEC, R.SPG_SLOT_TIME, R.SPG_SLOT_RETRY,
  R.SPG_SLOT_THERM, R.SPG_SLOT_MODEL, R.SPG_SLOT_CAP, R.SPG_SLOT_EVT, R.SPG_SLOT_STATE, R.SPG_SLOT_FAULT,
  R.SPG_SLOT_TELEM0, R.SPG_SLOT_TELEM1, R.SPG_SLOT_LIMIT, R.SPG_SLOT_FAULT_CNT, R.SPG_SLOT_REMOVE_CNT,
  R.SPG_SLOT_SSB_ERR_CNT]

/-- The registers of 15_trust_and_flash.md. -/
def regs15 : List RegDesc := [
  R.SEC_BOOT_STATUS, R.SEC_SVN, R.SEC_FW_VERSION_A, R.SEC_FW_VERSION_B, R.SEC_IMAGE_STATE, R.SEC_FW_PROGRESS,
  R.SEC_EVT, R.SEC_EVT_EN, R.SEC_LIFECYCLE, R.SEC_FUSE_KEYHASH_RSA, R.SEC_IMAGE_FAIL_CNT, R.SEC_TOKEN_FAIL_CNT,
  R.SEC_SPDM_REQ_CNT, R.SEC_CNT_OVF, R.SEC_FUSE_KEYHASH_SLH, R.SEC_DBG_NONCE, R.SEC_MEAS]

/-- Every register of the register tables. -/
def allRegs : List RegDesc := regs02 ++ regs03 ++ regs04 ++ regs05 ++ regs06 ++ regs07 ++ regs08 ++ regs10 ++ regs11 ++ regs12 ++ regs13 ++ regs14 ++ regs15

end Sys2Proof.Machine
end

