-- ==== Sys2Proof/Machine/State.lean ====
section
/-! DEFINITION. The state of the block: everything the spec gives it, as plain data, in one structure per unit, and the
state right after reset.  Registers stand in `regs` under their BAR0 offset, and only where they differ from their reset
value. -/

namespace Sys2Proof.Machine

/-- The eight major operating modes, in the order of R8. -/
inductive Mode where
  | reset | boot | transparent | composed | fabric | drowse | maintenance | safeHold
  deriving DecidableEq, Repr

/-- The code of a mode in MGT_MODE and in the journal (order of R8). -/
def Mode.code : Mode → Nat
  | .reset => 0 | .boot => 1 | .transparent => 2 | .composed => 3
  | .fabric => 4 | .drowse => 5 | .maintenance => 6 | .safeHold => 7

/-- The mode of a code. -/
def Mode.ofCode : Nat → Mode
  | 0 => .reset | 1 => .boot | 2 => .transparent | 3 => .composed
  | 4 => .fabric | 5 => .drowse | 6 => .maintenance | _ => .safeHold

/-- The double-banked tables of R310, in the order of TABLE; one bank of all of them.  Entries that are not listed hold
zero, but for node attach, whose reset value R246 gives. -/
structure Bank where
  bind : List (Nat × BitVec 512) := []
  vdsp : List (Nat × BitVec 512) := []
  win : List (Nat × BitVec 512) := []
  id : List (Nat × BitVec 512) := []
  acu : List (Nat × BitVec 512) := []
  route : List (Nat × BitVec 512) := []
  group : List (Nat × BitVec 512) := []
  attach : List (Nat × BitVec 512) := []
  portmap : List (Nat × BitVec 512) := []
  deriving DecidableEq, Repr

/-- A journal entry (Table 7.13).  `idx` is its place in the ring and `written` the model's time it was written. -/
structure JournalEntry where
  idx : Nat
  jseq : Nat
  time : Nat
  cls : Nat
  sev : Nat
  scope : Nat
  timeValid : Bool
  flashed : Bool
  port : Nat
  vh : Nat
  binding : Nat
  feid : Nat
  count : Nat
  mode : Nat
  detail : Nat
  written : Nat
  deriving DecidableEq, Repr, Inhabited

/-- A posted-failure log entry (Table 7.8); `written` is the model's time of its last merge window. -/
structure PflEntry where
  addr : Nat
  len : Nat
  dir : Bool
  addrKind : Bool
  binding : Nat
  failFeid : Nat
  reason : Nat
  count : Nat
  requester : Nat
  time : Nat
  tFail : Nat
  written : Nat
  deriving DecidableEq, Repr

/-- Who reports in AER: the vUSP of a VH, a vDSP, or the management PF. -/
inductive AerFn where
  | vusp (vh : Nat)
  | vdsp (vh i : Nat)
  | fn (vh i : Nat)
  | mgmtPf
  deriving DecidableEq, Repr

/-- AER status bits the spec names (R204). -/
inductive AerErr where
  | surpriseDown | completionTimeout | completerAbort | unexpectedCompletion | unsupportedRequest
  | acsViolation | poisoned | egressBlocked | uncorrectableInternal | correctedInternal
  | dlProtocol | fcProtocol | receiver | badTlp | badDllp | replayRollover | replayTimer
  deriving DecidableEq, Repr

/-- Requests of the host that wait in a VH that is not ACTIVE: AER reports and host interrupts of R214 and Table 7.14. -/
structure HeldReport where
  vh : Nat
  fn : AerFn
  err : AerErr
  /-- The header its Header Log is to show (R214). -/
  header : Nat := 0
  deriving DecidableEq, Repr

/-- What the ERR unit holds beside its registers. -/
structure ErrState where
  /-- The journal ring, newest entry first (R221). -/
  journal : List JournalEntry := []
  /-- The FATAL entries flash keeps, newest first (R222). -/
  flashJournal : List JournalEntry := []
  /-- FATAL entries whose commit the supply sag holds (R222). -/
  flashHeld : List JournalEntry := []
  /-- The posted-failure rings: key 64 × VH + index (R215). -/
  pfl : List (Nat × PflEntry) := []
  /-- WFNs in holdoff (R213). -/
  holdoff : List Wfn := []
  /-- AER reports held while a VH is not ACTIVE (R214). -/
  held : List HeldReport := []
  /-- Target error messages queued during a Malacel restart, with the AER status and header their target holds (Table 7.14). -/
  msgQueue : List (Nat × Tlp × Nat × Nat × Nat) := []
  /-- Times of recent watchdog firings: unit kind, index, time (Table 7.11). -/
  firings : List (Nat × Nat × Nat) := []
  /-- Injections armed by INJECT_ERROR: class, object, deadline (R320). -/
  armed : List (Nat × Nat × Nat) := []
  deriving DecidableEq, Repr

/-- States of a tracker entry (Table 7.4). -/
inductive TrkState where
  | opn | orphan | quarantine
  deriving DecidableEq, Repr

/-- A tracker entry (Table 4.11).  `tlp` is the request as received, from which a synthesised completion is built. -/
structure TrkEntry where
  state : TrkState
  vh : Nat
  /-- Whether a VH's binding was crossed; entries of Malacel's own requests have none. -/
  bound : Bool
  binding : Nat
  kind : TlpKind
  origRid : BitVec 16
  origTag : BitVec 14
  outRid : BitVec 16
  outTag : BitVec 14
  inPort : Nat
  outPort : Nat
  destFeid : Nat
  srcFeid : Nat
  bytesLeft : Nat
  bytesTotal : Nat
  acuTail : Nat
  gen : Nat
  tIssue : Nat
  /-- The host is the requester (Table 7.3, step 4). -/
  fromHost : Bool
  /-- A direct peer request (R108), and the binding of its source. -/
  peer : Bool := false
  srcBinding : Nat := 0xFFF
  /-- A remote path: matched by binding index and source device too (R113). -/
  remote : Bool
  /-- End of quarantine, fixed on entry (R113). -/
  quarEnd : Nat
  tlp : Tlp
  /-- The binding entries of the lookup, as it found them: that of `binding` and that of the source (R114). -/
  found : BitVec 512 := 0
  srcFound : BitVec 512 := 0
  deriving DecidableEq, Repr

/-- The number of a unit in the keys of the host view. -/
def hostUnitCode : HostUnit → Nat
  | .vusp => 0
  | .vdsp i => 1 + i % 64
  | .fn i => 65 + i % 64

/-- The number of a field in the keys of the host view. -/
def hostFieldCode : HostField → Nat
  | .primaryBus => 0 | .secondaryBus => 1 | .subordinateBus => 2
  | .memEn => 3 | .ioEn => 4 | .busMaster => 5
  | .memBase => 6 | .memLimit => 7 | .prefBase => 8 | .prefLimit => 9 | .ioBase => 10 | .ioLimit => 11
  | .uncStatus => 12 | .uncMask => 13 | .uncSeverity => 14 | .corStatus => 15 | .corMask => 16
  | .headerLog => 17 | .errEnables => 18
  | .dpcTrigEn => 19 | .dpcCplCa => 20 | .dpcStatus => 21 | .dpcReason => 22
  | .acsSv => 23 | .acsTb => 24 | .acsRr => 25 | .acsCr => 26 | .acsUf => 27 | .acsDt => 28
  | .poisonBlock => 29 | .pflIntEn => 30 | .pflIndex => 31 | .pflLost => 32
  | .presence => 33 | .presenceChanged => 34 | .dllActive => 35 | .dllChanged => 36 | .attention => 37
  | .powerCtlOff => 38 | .attnInd => 39 | .powerInd => 40 | .slotVector => 41
  | .mcEnable => 42 | .mcBase => 43 | .mcIndexPos => 44 | .mcNumGroup => 45 | .mcReceive => 46
  | .bindGen => 47 | .secReset => 48 | .linkDisable => 49 | .powerLimit => 50 | .powerFault => 51 | .aspmControl => 52
  | .bar n => 64 + n % 8
  | .hdm n => 80 + n % 80

/-- An edit session (R115): who holds it and when it was last used. -/
structure Session where
  holder : Requester
  lastUse : Nat
  deriving DecidableEq, Repr

/-- A configuration request Malacel has to forward: VH, vDSP, offset, data of a write, and the requester and tag of the host (R106). -/
structure ProxyWait where
  vh : Nat
  vdsp : Nat
  off : Nat
  write : Option (BitVec 32)
  rid : BitVec 16
  tag : BitVec 14
  deriving DecidableEq, Repr

/-- What the bindings unit holds beside its registers. -/
structure BindState where
  active : Bank := {}
  shadow : Bank := {}
  session : Option Session := none
  /-- A commit whose validation runs. -/
  committing : Bool := false
  /-- The shadow must be copied from the active bank before the next session (R117). -/
  copying : Bool := false
  /-- The management VH (R92). -/
  mgmtVh : Nat := 0
  /-- The host view: key (VH, unit, field), value as the host wrote it (R100). -/
  host : List (Nat × Nat) := []
  /-- Tracker entries, oldest first (R111). -/
  trk : List TrkEntry := []
  /-- Proxy RIDs of remote pairs: RID, FEID, VH (Table 4.1). -/
  proxies : List (Nat × Nat × Nat) := []
  /-- VHs in which the first refused Selective IDE TLP has been journalled (R110). -/
  ideSeen : List Nat := []
  /-- VHs whose reset has started and is not yet at step 6 (R120). -/
  resetting : List Nat := []
  /-- Configuration requests forwarded to a target (R106): the tag of the request there, VH, binding, and the requester and tag
  of the host. -/
  proxied : List (Nat × Nat × Nat × BitVec 16 × BitVec 14) := []
  /-- Configuration requests that wait for a tracker entry, a tag or space before they are forwarded, oldest first (R106, R111, R419). -/
  proxyWaits : List ProxyWait := []
  /-- How the target of a binding is reset, as Malacel read it at commit (R122): binding, 1 D3hot to D0, 2 not at all; FLR where
  unlisted. -/
  methods : List (Nat × Nat) := []
  /-- Binding resets in progress: binding, kind code, whether RESUME_BINDING started it (R418). -/
  resets : List (Nat × Nat × Bool) := []
  deriving DecidableEq, Repr

/-- What a packet is charged: curds and heads of the reserved, shared, escape and multicast pools (Table 3.6). -/
structure Charge where
  res : Nat × Nat := (0, 0)
  shr : Nat × Nat := (0, 0)
  esc : Nat × Nat := (0, 0)
  mc : Nat × Nat := (0, 0)
  deriving DecidableEq, Repr

/-- A residue word (Table 3.8): the ports to serve, struck, and as looked up. -/
structure Residue where
  residue : BitVec 144
  struck : BitVec 144
  destSet : BitVec 144
  group : Nat
  /-- The packet holds a residue word (R86). -/
  held : Bool := true
  deriving DecidableEq, Repr

/-- A packet in the Churn: the head record of Table 3.3 with the header and payload it stores.  `id` is the model's name
for it, `inst` the full generation of its lookup (R114), `words` the places of its 64-byte words, `sfAt` the destinations
that chose store-and-forward, `readers` the ports now reading it, `wholeAt` the time its last word is written, `old` the places
that migration left and the reads in `oldReaders` still use (R88). -/
structure Pkt where
  id : Nat
  inPort : Nat
  /-- The credit class charged; 255 for a packet that came in on no credit. -/
  charge : Nat
  ord : OrdClass
  vh : Nat
  tc : Nat
  dest : Nat
  gen : Nat
  len : Nat
  hdrLen : Nat
  stamp : Nat
  tIn : Nat
  flow : Nat := 0
  binding : Nat := 0xFFF
  /-- The binding a request belongs to where it leaves through another one: that of its source (R202). -/
  owner : Option Nat := none
  chg : Charge := {}
  words : List (Nat × Nat) := []
  residue : Option Residue := none
  sfAt : List Nat := []
  readers : List Nat := []
  wholeAt : Nat := 0
  old : List (Nat × Nat) := []
  oldReaders : List Nat := []
  poisoned : Bool := false
  nullify : Bool := false
  tlp : Option Tlp := none
  fab : Option FabPkt := none
  /-- The route entry of its lookup, as a number (R42), and the slot taken. -/
  route : Nat := 0
  slot : Nat := 0
  /-- HOPS and DL before this device's hop (R140). -/
  hops0 : Nat := 0
  dl0 : Bool := false
  /-- A yellow mark (R228). -/
  yellow : Bool := false
  /-- Held by a policer (R228). -/
  held : Bool := false
  /-- The tracker entry a non-posted request must take before it leaves (R111, R228), and whether its tag is Kalnum's own. -/
  want : Option TrkEntry := none
  fresh : Bool := false
  /-- A packet of this device that has not taken its flow fields yet (R153). -/
  unseq : Bool := false
  /-- The node and class it waits in at its egress port (R232). -/
  node : Nat := 0
  cls : Nat := 0
  /-- Time it joined its queue (R236, R237). -/
  queuedAt : Nat := 0
  deriving DecidableEq, Repr

/-- Credit granted to a partner and not yet used: port, class, and the heads and curds that back it (R77). -/
structure Grant where
  port : Nat
  cls : Nat
  heads : Nat
  bytes : Nat
  res : Nat × Nat
  shr : Nat × Nat
  esc : Nat × Nat
  deriving DecidableEq, Repr

/-- What the Churn holds beside its registers. -/
structure ChurnState where
  /-- The name the next packet takes; it serves as ORDER_STAMP too. -/
  nextId : Nat := 0
  /-- Packets stored, oldest first. -/
  pkts : List Pkt := []
  /-- Credit granted and not used (R77). -/
  grants : List Grant := []
  /-- Ports whose credit is withheld now (R78). -/
  stalled : List Nat := []
  /-- Credit to return, by 8 × port + class: header credits and payload bytes; and the port whose turn it is (R79). -/
  asks : List (Nat × (Nat × Nat)) := []
  turn : Nat := 0
  /-- Until when a paced port returns no more credit (R336, R338). -/
  paced : List (Nat × Nat) := []
  /-- Ports a narrowing request marks store-and-forward (R73). -/
  narrowing : List Nat := []
  /-- Ports whose narrowing, to a width, waits for cut-through packets in progress from them (R73). -/
  narrowTo : List (Nat × Nat) := []
  /-- Ports whose widening, to a width, waits for cut-through packets in progress toward them (R73). -/
  widen : List (Nat × Nat) := []
  /-- Lanes a narrowed PCI Express port had when it trained: port, lanes (R61, R63). -/
  fullWidth : List (Nat × Nat) := []
  /-- Non-posted packets that wait for a tracker entry, by packet name (R111). -/
  trkWait : List Nat := []
  /-- Corrected errors of each bank in this rotation cycle (R89). -/
  cycleCe : List (Nat × Nat) := []
  /-- The bank TEST_BANK named and its request, while the test runs (R90). -/
  namedTest : Option Nat := none
  /-- Banks whose retirement waits (R89). -/
  retiring : List Nat := []
  /-- Banks to retire that wait for the free shared curds that cover them (R87). -/
  retireWait : List Nat := []
  deriving DecidableEq, Repr

/-- A send entry (R153): a flow this device originates. -/
structure SendEntry where
  dst : Nat
  vh : Nat
  ord : Nat
  nextSeq : Nat
  acked : Nat
  granted : Bool
  openSent : Bool
  lastSent : Nat
  deriving DecidableEq, Repr

/-- A packet a flow context holds: its FSEQ, its name, its arrival, whether its skew has been counted (R157), and whether it
waits its turn in arrival order instead of standing in the window (R153, R154, R156). -/
structure HeldSeq where
  fseq : Nat
  pkt : Nat
  since : Nat
  counted : Bool := false
  waits : Bool := false
  deriving DecidableEq, Repr

/-- A flow context (BND_FLOW, R153 to R157). -/
structure FlowCtx where
  idx : Nat
  closing : Bool
  src : Nat
  vh : Nat
  ord : Nat
  expect : Nat
  closeSeq : Nat
  held : List HeldSeq
  acked : Nat
  delivered : Nat
  deriving DecidableEq, Repr

/-- An admitted member as the lead records it (R131). -/
structure Member where
  feid : Nat
  serial : Nat
  elig : Bool
  dynamic : Bool
  linksUp : Nat
  deriving DecidableEq, Repr

/-- What the fabric unit holds beside its registers. -/
structure FabState where
  sends : List SendEntry := []
  flows : List FlowCtx := []
  /-- Flows that may not set OPEN again until FLOW_RETRY has passed: key (R154). -/
  retry : List (Nat × Nat × Nat) := []
  members : List Member := []
  /-- A lead has admitted this device (R133). -/
  leadAdmit : Bool := false
  /-- Links of the members as TOPO_REPORT told this lead: 128 × FEID + link, state + 4 × peer (R138). -/
  topo : List (Nat × Nat) := []
  /-- Dynamic assignments of this lead: serial, FEID (R131). -/
  assigned : List (Nat × Nat) := []
  /-- Floods seen: origin, code, sequence (R138). -/
  seen : List (Nat × Nat × Nat) := []
  /-- The lowest claim heard: FEID and serial (R134). -/
  claim : Option (Nat × Nat) := none
  /-- This device claims (R134). -/
  claiming : Bool := false
  /-- Sequence of this device's floods. -/
  floodSeq : Nat := 0
  /-- Peer FEID recorded for a controller (R150). -/
  peer : List (Nat × Nat) := []
  /-- Peer FEID a HELLO named that is not the recorded one (R150). -/
  newPeer : List (Nat × Nat) := []
  /-- What HELLO told of a link's peer: controller, FEID, serial, the lead it reports (R133). -/
  hello : List (Nat × Nat × Nat × Nat) := []
  /-- The link a routed request came on, by the origin it answers to (R138). -/
  relay : List (Nat × Nat) := []
  /-- The slot an entry last used, by destination FEID (R146). -/
  lastSlot : List (Nat × Nat) := []
  /-- Swaps that changed a route entry and still hold packets, oldest first: FEID, time, generation (R152). -/
  pinSwap : List (Nat × Nat × Nat) := []
  /-- Controllers whose peer has shown itself admitted (R133): its HELLO reported a lead, or a JOIN_REPLY admitted its serial number. -/
  peerAdm : List Nat := []
  /-- The FEID this device held last: its binding entries name it after it has left FABRIC (R97). -/
  lastFeid : Nat := 0
  /-- Packets held as unreachable, and since when (Table 5.11). -/
  unreach : List (Nat × Nat) := []
  /-- Pinned packets held behind a route change (R152). -/
  pinHeld : List (Nat × Nat) := []
  deriving DecidableEq, Repr

/-- A flit kept for replay (R181, R183): what a replayed copy keeps. -/
structure KflFlit where
  lseq : Nat
  whey : List Whey
  slots : List (List Byte)
  start : Nat
  abort : Bool
  deriving DecidableEq, Repr

/-- A packet a link controller has started: its record in the Churn, its VC, the slots it has not sent, and the LSEQ of the
last flit that holds a part of it (R158, R175); `coming` while slots of a transit packet are still to arrive (R176). -/
structure KflPkt where
  pkt : Pkt
  vc : Nat
  slots : List (List Byte)
  lastSeq : Nat
  coming : Bool := false
  deriving DecidableEq, Repr

/-- A packet in reception (R175): its VC, the slots still to come, and its bytes.  `onward` names the transit packet it has become in the
Churn before it is whole (R72, R176); `after` tells what becomes of one whose way onward was taken back: redirected (R158), or
lost with a REASON (R211). -/
structure KflRx where
  vc : Nat
  slots : Nat
  need : Nat
  got : List Byte
  onward : Option Nat := none
  after : Option (Option Nat) := none
  deriving DecidableEq, Repr

/-- What a lane's marker tracking holds (R171): the next MCOUNT and the bad markers in a row. -/
structure LaneMark where
  next : Nat := 0
  bad : Nat := 0
  deriving DecidableEq, Repr

/-- What a link controller holds beside its registers. -/
structure KflLink where
  /-- Packets started, oldest first, until every flit of theirs is acknowledged. -/
  tx : List KflPkt := []
  unacked : List KflFlit := []
  /-- The LSEQ a replay sends next. -/
  replayNext : Option Nat := none
  /-- The next SEQ flit carries ABORT (R176). -/
  abortNext : Bool := false
  rx : Option KflRx := none
  /-- Credit counters as last sent and the flits since, VC0 to whey, and whose turn is next (R187). -/
  crSent : List (Nat × Nat) := List.replicate 7 (0, 0)
  crNext : Nat := 0
  /-- Flit slots since the last IDLE flit (R177). -/
  sinceIdle : Nat := 0
  /-- The flits of the frame being filled, the scrambler, frames since marker set 0, and marker sets sent (R166 to R170). -/
  frame : List (List Byte) := []
  scr : Nat := 0x7FFFFFFF
  frames : Nat := 0
  marker : Nat := 0
  marks : List (Nat × LaneMark) := []
  realign : Bool := false
  /-- Training (Table 6.11): phase, good blocks in it, blocks sent in it, and what the partner's blocks told. -/
  phase : Nat := 0
  good : Nat := 0
  blocks : Nat := 0
  peerOk : Nat := 0
  peerCap : Nat := 0
  peerCfg : Nat := 0
  peerSerial : Nat := 0
  ownOk : Nat := 0
  /-- REQ_TOG last acted on and REQ_REJ, by logical lane; our own requests and their toggles. -/
  appTog : Nat := 0
  rejected : Nat := 0
  reqTog : Nat := 0
  reqs : List (Nat × Word) := []
  /-- Recovery runs on leaving a low-power state (R197). -/
  waking : Bool := false
  /-- Times of protocol errors and of uncorrectable frames within 1.00 ms (R192, R193). -/
  protoErrs : List Nat := []
  ues : List Nat := []
  /-- Remaining time of credit timers that recovery pauses (R188): counter, nanoseconds. -/
  paused : List (Nat × Nat) := []
  token : Nat := 0
  /-- Requests of ours that wait for an answer: token and lane mask, or token and low-power state. -/
  shed : Option (Nat × Nat) := none
  restore : Option (Nat × Nat) := none
  lp : Option (Nat × Nat) := none
  /-- A shedding step asked for that waits for the packet in reception: lane mask and token (R73). -/
  shedAsk : Option (Nat × Nat) := none
  /-- Logical lanes from the next marker set on (Table 6.12). -/
  maskNext : Option Nat := none
  /-- Logical lanes of the full width while the link is shed. -/
  fullMask : Nat := 0
  /-- Restored lanes that have locked (Table 6.12, step 6). -/
  locked : Nat := 0
  /-- No new packet or message starts: an orderly disable runs (R195), with its LINK_DOWN reason. -/
  stopping : Option Nat := none
  /-- LSEQ of the flit that carried LINK_DOWN. -/
  downSeq : Option Nat := none
  /-- Time the link last carried a packet or message (R197). -/
  lastBusy : Nat := 0
  /-- The width code of the frames that arrive, as the marker sets of a shedding step told (R171, Table 6.12). -/
  rxWidth : Option Nat := none
  /-- The receiver (R57, R167 to R171): the logical lanes its frames come on, the position each physical lane has shown in its markers and
  the delay, in ps, that deskews it, the descrambler, and the flits of the frame in hand, each with whether its codewords decoded. -/
  rxMask : Nat := 0
  rxPos : List (Nat × Nat) := []
  deskew : List (Nat × Nat) := []
  rxScr : Nat := 0x7FFFFFFF
  rxFlits : List (List Byte × Bool) := []
  /-- The timebase at the first UI of the frame that leaves, and of the one that has arrived (R198). -/
  frameTb : BitVec 64 := 0
  rxTb : BitVec 64 := 0
  /-- A PHASE 5 block has been received since training or recovery began (Table 6.11, step 6). -/
  ready : Bool := false
  /-- The recovery runs toward the full width: restored lanes had not locked (R196). -/
  toFull : Bool := false
  /-- The width was narrowed for a recalibration of this device, which restores it. -/
  shedOurs : Bool := false
  /-- A low-power state is agreed, and entered once the LP_ACK has gone out: 0 standby, 1 deep idle (R197). -/
  sleep : Option Nat := none
  deriving DecidableEq, Repr

/-- What the link controllers hold: whey messages that wait, by controller, oldest first, and the links. -/
structure KflState where
  whey : List (Nat × Whey) := []
  links : List (Nat × KflLink) := []
  /-- SAFE_HOLD: no further data credit is granted (Table 7.12). -/
  frozen : Bool := false
  deriving DecidableEq, Repr

/-- What a link sends beside Corber and packets of edge ports. -/
inductive LinkMsg where
  /-- A flit, as its 256 bytes. -/
  | flit (bytes : List Byte)
  /-- A frame, complete: the PAM4 levels of each active lane (R168).  Its first UI left with its first flit slot. -/
  | frame (lanes : List (List Nat))
  /-- A marker set: the 32 PAM4 levels of the marker of each active lane (R170). -/
  | markers (set : List (List Nat))
  /-- A training block on a lane: its levels, one a bit in PHASE 0 of training and one a bit pair later (R189). -/
  | kts (lane : Nat) (levels : List Nat)
  /-- Electrical idle. -/
  | idle
  /-- A request of ours that a PCI Express link run at a width by L0p (Table 2.8). -/
  | l0p (width : Nat)
  /-- A margining response or a power-management exchange of a PCI Express lane: lane, code, payload; code 0 says Not Ready (R64). -/
  | lane (lane code payload : Nat)
  deriving DecidableEq, Repr

/-- A bucket: tokens (or credit) in units of 1/1,024 byte, and the timebase of the last refill (R226, R235, R236). -/
structure Bucket where
  tokens : Int
  last : Nat
  deriving DecidableEq, Repr

/-- A request a policer holds (R228): the packet, the policer and ordering class it waits in, and whether it waits unmetered
behind a packet of its domain in the binding's old policer (R244). -/
structure Hold where
  pkt : Nat
  policer : Nat
  np : Bool
  behind : Option Nat := none
  /-- It has been metered red, and counted (R228). -/
  metered : Bool := false
  deriving DecidableEq, Repr

/-- A gate list that waits for its first cycle start (R241). -/
structure GclPending where
  port : Nat
  cycle : Nat
  base : Nat
  start : Nat
  entries : List Word
  deriving DecidableEq, Repr

/-- What traffic control holds beside its registers. -/
structure QosState where
  /-- Buckets that have been used or set: key by `bucketKey`. -/
  buckets : List (Nat × Bucket) := []
  /-- Deficits of round robin (R234): key 8 × node + class for queues, 65536 + node for nodes. -/
  deficit : List (Nat × Int) := []
  /-- Whose turn it is: key port for the port level, 1024 + node for a node. -/
  turn : List (Nat × Nat) := []
  /-- Requests held by policers, oldest first (R228). -/
  holds : List Hold := []
  /-- Service queues the starvation guard serves next: port, node, class (R237). -/
  starved : List (Nat × Nat × Nat) := []
  /-- Administrative gate list entries: key 256 × port + entry (R241). -/
  gclAdmin : List (Nat × Word) := []
  /-- Operating gate list entries, cut to the cycle. -/
  gclOper : List (Nat × Word) := []
  /-- Cycle and base of the operating list of a port. -/
  gclRun : List (Nat × Nat × Nat) := []
  gclPending : List GclPending := []
  /-- When the timebase ends the entry in force at a port (R239). -/
  gclNext : List (Nat × Nat) := []
  /-- Ports whose list keeps its entry until the next cycle start after a timebase step (R242). -/
  gclHeld : List Nat := []
  /-- Packets that overrun their gate: port, class, packet (R240). -/
  overrun : List (Nat × Nat × Nat) := []
  /-- When a service queue, by 8 × node + class, last started a packet (R237). -/
  served : List (Nat × Nat) := []
  /-- Nodes that still serve their old port after an ATTACH change: node, old port, oldest change first (R244). -/
  oldPort : List (Nat × Nat) := []
  deriving DecidableEq, Repr

/-- A descriptor fetched and not yet completed (R281): its queue (function and local index), ring slot, words, the model's
name for it, the bytes placed on engines, the parts carried out, the source bytes of a CRC, the packets its writes are, the
status that ended it, and whether the flush read has been sent and has come back (R282). -/
structure DmDesc where
  fn : Nat
  q : Nat
  slot : Nat
  name : Nat
  words : BitVec 256
  placed : Nat := 0
  parts : List (Nat × Nat) := []
  source : List (Nat × List Byte) := []
  writes : List Nat := []
  status : Option Nat := none
  /-- Its STATUS has stopped its queue. -/
  told : Bool := false
  flushTag : Option Nat := none
  flushed : Bool := false
  /-- Its execution has ended; the entry waits for its turn in ring order. -/
  closed : Bool := false
  deriving DecidableEq, Repr

/-- A chunk on an engine (R283): the descriptor, its bytes, the reads that wait (tag, offset in the chunk, length), the bytes
read and what failed. -/
structure DmChunk where
  engine : Nat
  desc : Nat
  off : Nat
  len : Nat
  reads : List (Nat × Nat × Nat) := []
  got : List (Nat × List Byte) := []
  fail : Option Nat := none
  deriving DecidableEq, Repr

/-- What a read of the data mover's own is for: a batch of descriptors of a queue from a ring slot on (R281), a bitmap line (R289), the
zero-length read of a swap (R291), or, through the management PF, slots of the Corber request ring (R298). -/
inductive OwnRead where
  | fetch (fn q slot count : Nat)
  | line (ctx buf line : Nat)
  | swap (ctx : Nat)
  | ring (slot count : Nat)
  deriving DecidableEq, Repr

/-- Reads of the data mover's own in progress: what they are for, the address their offsets count from, and what has come. -/
structure DmOwn where
  what : OwnRead
  src : Nat
  part : DmChunk
  deriving DecidableEq, Repr

/-- A bitmap line in a tracing engine (R289): context, buffer, line, bits, when its first bit was set, its last use, and whether
it was evicted and only waits for its write-back. -/
structure TraceLine where
  ctx : Nat
  buf : Nat
  line : Nat
  bits : BitVec 512
  since : Nat
  used : Nat
  evicted : Bool := false
  deriving DecidableEq, Repr

/-- A request that waits at lookup for a tracing engine (R289), with what its lookup needs. -/
structure TraceWait where
  bi : Nat
  inPort : Nat
  charge : Nat
  tlp : Tlp
  check : Bool
  pol : Option Nat
  srcFeid : Nat
  /-- A completion, which waits behind such a request of its port (R81). -/
  cpl : Bool := false
  /-- It waits for its engine itself, and its episode is counted. -/
  stalled : Bool := false
  deriving DecidableEq, Repr

/-- A request that has reached a function of the data mover or the management PF (Table 4.2, kind 5): the function, the offset in its
BAR, and where the answer goes. -/
structure FnRequest where
  fn : Nat
  off : Nat
  bi : Nat
  vh : Nat
  inPort : Nat
  orig : Tlp
  tlp : Tlp
  /-- Bytes of the request answered with UR after it (R264). -/
  tail : Nat
  deriving DecidableEq, Repr

/-- What the data mover and the tracing engines hold beside their registers. -/
structure SvcState where
  descs : List DmDesc := []
  /-- Requests that reached a function's BAR and are not yet performed, oldest first. -/
  inbox : List FnRequest := []
  chunks : List DmChunk := []
  /-- The mover's own reads in progress (R278). -/
  own : List DmOwn := []
  nextName : Nat := 0
  nextTag : Nat := 0
  /-- Deficits and token buckets of functions, whose turn it is, and the last queue served of a function (R283). -/
  deficit : List (Nat × Int) := []
  buckets : List (Nat × Bucket) := []
  turn : Nat := 0
  lastQueue : List (Nat × Nat) := []
  /-- Queues (256 × function + index) whose completion ring is on an odd pass (Table 11.2, PHASE). -/
  odd : List Nat := []
  /-- Unsignalled entries of a queue (R282). -/
  unsignalled : List (Nat × Nat) := []
  /-- MSI-X entries that differ from their reset value, and pending bits: 256 × function + entry. -/
  msix : List (Nat × BitVec 128) := []
  pba : List Nat := []
  /-- Lines of the tracing engines, and requests that wait for one. -/
  lines : List TraceLine := []
  waits : List TraceWait := []
  /-- Requests of functions that wait for the limit of R419, by binding, oldest first. -/
  spaceWaits : List (Nat × Tlp) := []
  /-- Packets in the Churn that carry traced writes: packet, context. -/
  traced : List (Nat × Nat) := []
  /-- Swaps in progress: context, name of the first packet looked up after instant S (R291). -/
  swaps : List (Nat × Nat) := []
  /-- Contexts whose zero-length read of a swap has ended, and whether well (R291). -/
  swapRead : List (Nat × Bool) := []
  /-- Contexts whose disable waits for its write-backs (R292). -/
  stopping : List Nat := []
  deriving DecidableEq, Repr

/-- A request that has not had its final reply (R302): opcode, request, requester index, and whether ACCEPTED went out. -/
structure Outst where
  opcode : Nat
  req : CrbReq
  accepted : Bool
  /-- The rings were reset after it came: its replies are discarded (R314). -/
  discard : Bool := false
  deriving DecidableEq, Repr

/-- A record of a change request (R303). -/
structure DupRec where
  src : Requester
  seq : BitVec 32
  opcode : Nat
  tag : BitVec 16
  status : Nat
  detail : Nat
  deriving DecidableEq, Repr

/-- An event subscriber (R297): group mask, minimum severity, and whether an event for it was dropped. -/
structure Subscriber where
  idx : Nat
  src : Requester
  mask : Nat
  minSev : Nat
  lost : Bool := false
  deriving DecidableEq, Repr

/-- A reassembly of a whey Corber packet (R300). -/
structure Reasm where
  origin : Nat
  msgId : Nat
  nextFrag : Nat
  data : List Byte
  deriving DecidableEq, Repr

/-- A request forwarded to another member for a local requester (R300): its TAG there and the request as received. -/
structure Forwarded where
  feid : Nat
  msgId : Nat
  req : CrbReq
  opcode : Nat
  deriving DecidableEq, Repr

/-- The rings as they stood when MGT_CRB_CTRL.ENABLE became 1 (R314): sizes as powers of two, and bases in host memory. -/
structure RingSet where
  req : Nat := 4
  rpl : Nat := 4
  evt : Nat := 4
  reqBase : Nat := 0
  rplBase : Nat := 0
  evtBase : Nat := 0
  deriving DecidableEq, Repr

/-- A packet for the reply ring, or the event ring (R298): its first slot, its bytes, and whether its writes have been issued. -/
structure RingOut where
  evt : Bool
  slot : Nat
  bytes : List Byte
  issued : Bool := false
  deriving DecidableEq, Repr

/-- What Corber holds beside its registers. -/
structure CorberState where
  /-- Requesters tracked: index, source, time of last use (R301). -/
  reqs : List (Nat × Requester × Nat) := [(0, .rings, 0), (1, .malacel, 0)]
  outst : List Outst := []
  /-- Events that go to subscribers in other members, with their FEIDs (R297, R300). -/
  outbox : List (Nat × List Byte) := []
  dups : List DupRec := []
  subs : List Subscriber := []
  evtSeq : BitVec 32 := 0
  /-- Replies that wait for ring space, oldest first (R298). -/
  heldReplies : List (List Byte) := []
  /-- Slots of the request ring that have been read, from MGT_CRB_REQ_HEAD on (R298). -/
  ringWait : List (List Byte) := []
  ringSet : RingSet := {}
  /-- Packets for the reply and the event ring whose writes have not all been sent, oldest first (R298). -/
  hostOut : List RingOut := []
  /-- The EID the bus owner gave; 0 none (R299, MGT_MCTP_CFG). -/
  eid : Nat := 0
  /-- ORDERED requests that wait (R304). -/
  ordered : List (Nat × CrbReq) := []
  /-- Requests that wait for a wake from DROWSE (Table 12.5). -/
  drowseHeld : List (Nat × CrbReq) := []
  /-- CXL FM API requests that wait for a wake from DROWSE. -/
  fmHeld : List (Requester × List Byte) := []
  reasm : List Reasm := []
  forwarded : List Forwarded := []
  /-- MSG_ID the next whey message of this device takes. -/
  nextMsg : Nat := 0
  deriving DecidableEq, Repr

/-- A value channel of a crossing (R343): the value held, the one that waits, and the last one the destination read. -/
structure ValueChan where
  hold : Option Word := none
  next : Option Word := none
  dest : Option Word := none
  deriving DecidableEq, Repr

/-- An event channel of a crossing (R344): pending pulses, whether the count stopped, and what the destination's counter has
been given. -/
structure EventChan where
  pend : Nat := 0
  ovf : Bool := false
  counted : Nat := 0
  deriving DecidableEq, Repr

/-- A queue channel of a crossing (R341, R342): entries that wait, oldest first, and the last one that crossed. -/
structure QueueChan where
  entries : List Word := []
  crossed : Option Word := none
  deriving DecidableEq, Repr

/-- A regulator the board record lists (Table 16.14), with its last PMBus readings (R337): rail, address and page, READ_VOUT,
READ_IOUT, READ_TEMPERATURE_1. -/
structure Regulator where
  rail : Nat
  addr : Nat
  page : Nat
  vout : Nat := 0
  iout : Nat := 0
  temp : Nat := 0
  deriving DecidableEq, Repr

/-- Where DROWSE stands (R328 to R331). -/
inductive DrowsePhase where
  /-- Not entering and not in DROWSE. -/
  | none
  /-- Waiting for the refuser classes to clear. -/
  | waiting
  /-- The 0.55 V request is out. -/
  | lowering
  /-- In DROWSE. -/
  | asleep
  /-- The wake voltage is requested. -/
  | waking
  deriving DecidableEq, Repr

/-- What a voltage request is for (R330, R331, R333). -/
inductive AvsUse where
  | policy | drowse | wake
  deriving DecidableEq, Repr

/-- What the power unit holds beside its registers. -/
structure PwrState where
  /-- Nanoseconds the timebase is still to be slewed by, and the time counted toward the next one (R347). -/
  slew : Int := 0
  slewAcc : Nat := 0
  /-- Offsets of the last three PPS edges (R348). -/
  ppsOffsets : List Int := []
  /-- Offsets smaller than 100 ns in a row under KFL discipline (R349). -/
  kflRun : Nat := 0
  drowse : DrowsePhase := .none
  /-- The voltage acknowledged before DROWSE (R331). -/
  drowseMv : Nat := 800
  /-- The wake that runs: source and ID, and since when. -/
  wake : Option (Nat × Nat × Nat) := none
  /-- A fatal fault met in DROWSE, which SAFE_HOLD follows once the wake has run: class, kind and index (Table 13.7). -/
  fatalWait : Option (Nat × Nat × Nat) := none
  /-- Requests that came during DROWSE, held in their ports: port and packet, oldest first (R331). -/
  heldReq : List (Nat × Tlp) := []
  /-- The core voltage request that waits: what for, whether it raises, and resends so far (R333). -/
  avs : Option (AvsUse × Bool × Nat) := none
  /-- The VDD_SDS request that waits: resends so far. -/
  sds : Option Nat := none
  /-- Intervals in a row that would lower (R335). -/
  downRun : Nat := 0
  /-- The replica readings published last: Q0 to Q3, then the bridges north to west (R31). -/
  replicas : List Nat := []
  regulators : List Regulator := []
  /-- Rind regions whose power gating is enabled (R26). -/
  gating : List Nat := []
  /-- Crossing channels by domain and number: 64 × domain + channel (R341). -/
  values : List (Nat × ValueChan) := []
  events : List (Nat × EventChan) := []
  queues : List (Nat × QueueChan) := []
  /-- A SELF_TEST runs: its requester's parameters, and the ports to enable after it (R318, R324). -/
  testPorts : List Nat := []
  testing : Bool := false
  /-- When it started, and the guards it skips with their states (R318, R319). -/
  testStart : Nat := 0
  testSkip : List (Nat × Nat) := []
  deriving DecidableEq, Repr

/-- What a guard holds beside its registers. -/
structure GuardState where
  /-- FAULT_IN_N is asserted. -/
  faultIn : Bool := false
  /-- A power request waits or is under way (R355). -/
  wanted : Bool := false
  /-- The power requests that wait for the slot to be confirmed: when each came, and whether it is Corber's (R355). -/
  asks : List (Nat × Bool) := []
  /-- An orderly power-off is under way (R355). -/
  offing : Bool := false
  /-- Times of the faults that count to lockout, within 60.0 s (R363). -/
  faults : List Nat := []
  /-- Consecutive samples over the current limit, consecutive samples under 85 % of VIN, consecutive means over the applied
  limit, consecutive bad frames, consecutive good frames. -/
  excess : Nat := 0
  low : Nat := 0
  heavy : Nat := 0
  bad : Nat := 0
  good : Nat := 0
  /-- SEQ of the last good frame. -/
  seq : Option Nat := none
  /-- The 1 ms windows: sums of VOUT and of VOUT × IOUT, samples, and the mean VOUT of the window before. -/
  sumV : Nat := 0
  sumP : Int := 0
  samples : Nat := 0
  meanV : Option Nat := none
  /-- The mean power of the window before, in mW. -/
  meanP : Nat := 0
  /-- The temperature rise of the model, in units of 2^-40 °C (R364). -/
  rise : Int := 0
  /-- The slot is seated since (R353). -/
  seatedAt : Option Nat := none
  /-- The limit a SLOT_LIMIT message set, in mW (R144, R367). -/
  farLimit : Option Nat := none
  deriving DecidableEq, Repr

/-- What the slot guards hold beside their registers. -/
structure SpgState where
  guards : Vector GuardState 24 := Vector.replicate 24 {}
  /-- Slot telemetry of bindings as their DVSEC shows it (R368): binding, bits 28 to 16 of offset 0x3E8. -/
  telem : List (Nat × Nat) := []
  /-- CLKREQ of the far port of remote port bindings, as the device end last told it (Table 5.9): binding, level. -/
  clkreq : List (Nat × Bool) := []
  deriving DecidableEq, Repr

/-- A boot control block copy (Table 15.2). -/
structure BootCopy where
  seq : Nat := 0
  preferred : Nat := 0
  stateA : Nat := 0
  stateB : Nat := 0
  deriving DecidableEq, Repr

/-- An SPDM connection with a requester (R385, R386): how far it has been negotiated, and a measurement response that waits
for RESPOND_IF_READY. -/
structure SpdmConn where
  src : Requester
  level : Nat := 0
  /-- The messages so far that signatures cover: negotiation; digests and certificates; measurements. -/
  vca : List Byte := []
  certs : List Byte := []
  meas : List Byte := []
  waiting : Option (List Byte) := none
  /-- The token of the ResponseNotReady sent for it. -/
  token : Nat := 0
  deriving DecidableEq, Repr

/-- What the security unit holds beside its registers. -/
structure SecState where
  /-- The flash: bytes that do not read as erased, 0xFF, by offset, rising (Table 15.1). -/
  flash : List Host.Cell := []
  /-- The SVN floor fuses (R383). -/
  floor : Nat := 0
  /-- The image open for writing: its SIZE, and the ranges written since FW_BEGIN (offset, length). -/
  size : Nat := 0
  ranges : List (Nat × Nat) := []
  /-- The program queue: offset and bytes, oldest first (R380). -/
  queue : List (Nat × List Byte) := []
  /-- Bytes programmed since FW_BEGIN, and sectors erased since then. -/
  programmed : Nat := 0
  erased : List Nat := []
  /-- FW_FINISH runs: the image. -/
  finishing : Option Nat := none
  /-- A write of image 0 or 1 was fenced and its image has not been opened again (R381). -/
  fenced : List Nat := []
  /-- The staging copy of SET_BOARD_RECORD, and the ranges written since OFFSET 0 (R416). -/
  staging : List (Nat × Byte) := []
  staged : List (Nat × Nat) := []
  /-- DBG_TOKEN words that are not zero (Table 10.8). -/
  token : List (Nat × Word) := []
  /-- Unlocks since cold reset (Table 15.8). -/
  unlocks : Nat := 0
  /-- SHA-384 of the board record as applied (Table 15.8, block 4); of no bytes when none was. -/
  boardHash : List Byte := []
  /-- SHA-384 of the running image's header (Table 15.8, block 2). -/
  imageHash : List Byte := []
  spdm : List SpdmConn := []
  /-- SPDM requests that wait for a wake from DROWSE (Table 15.10). -/
  spdmHeld : List (Requester × List Byte) := []
  /-- Words of Malacel's SRAMs, the attestation log and the key store that the debug port has written, by debug address (Table
  10.4). -/
  sram : List (Nat × Word) := []
  /-- Identifiers the board record gives (R7): Subsystem Vendor ID and the four Subsystem IDs. -/
  subsystem : List Nat := []
  deriving DecidableEq, Repr

/-- Instructions of the test access port (R412). -/
inductive TapInstr where
  | bypass | idcode | sample | extest | clamp | highz | extestPulse | extestTrain
  deriving DecidableEq, Repr

/-- What the pins and the test access port hold (chapter 16). -/
structure PinState where
  /-- Ports whose PERST_OUT_N is released. -/
  released : List Nat := []
  /-- Ports whose PERST_OUT_N the VH end of a remote port binding holds asserted (Table 5.9). -/
  farPerst : List Nat := []
  /-- VDD_IO is low or PWR_WARN_N asserted (R339). -/
  sag : Bool := false
  /-- PERST_N is asserted. -/
  perst : Bool := true
  /-- Rails that are good: VDD_CORE, VDD_SDS, VDDA_SDS, VDD_IO; and VDD_AUX (R402). -/
  core : Bool := false
  sds : Bool := false
  sdsA : Bool := false
  io : Bool := false
  aux : Bool := false
  /-- When VDD_AUX became good (R397), and when PPS_OUT last rose (R407). -/
  auxSince : Nat := 0
  ppsRose : Option Nat := none
  /-- THERMTRIP_N is asserted (R327). -/
  tripped : Bool := false
  /-- Reference-clock inputs of clusters that carry a clock (R53). -/
  refclk : List Nat := []
  /-- Errored words in a row that a lane's PRBS checker has seen (R59). -/
  prbsRun : List (Nat × Nat) := []
  /-- Error limits partners have set on lanes, and the lanes that are being margined (R60). -/
  marginLimit : List (Nat × Nat) := []
  margining : List Nat := []
  /-- Use and argument of a GPIO, where the board record gives one (Table 16.14). -/
  gpio : List (Nat × Nat × Nat) := []
  /-- The test access port: instruction, the boundary register as preloaded and as captured, and the bypass register. -/
  tap : TapInstr := .idcode
  boundary : List Bool := []
  captured : List Bool := []
  bypass : Bool := false
  deriving DecidableEq, Repr

/-- What Kalnum sends out of the package, as the model records it: packets on ports, whey messages and packets on links,
Corber replies and events, interrupts and messages to hosts, bus requests and flash operations. -/
inductive Emission where
  | tlp (port : Nat) (t : Tlp)
  | nullified (port : Nat) (pkt : Nat)
  | targetTlp (binding : Nat) (t : Tlp)
  | link (link : Nat) (what : LinkMsg)
  | reply (outTo : Requester) (bytes : List Byte)
  | event (sub : Nat) (bytes : List Byte)
  /-- An event to every MCTP endpoint (Table 7.12, step 5). -/
  | eventAll (bytes : List Byte)
  | msix (fn vector : Nat)
  | hostIrq (vh i : Nat)
  | aerMsg (fn : AerFn) (err : AerErr) (sev : Nat)
  | service (fn : Nat) (t : Tlp)
  | credit (port cls heads bytes : Nat)
  | spdm (outTo : Requester) (bytes : List Byte)
  | mctp (outTo : Requester) (bytes : List Byte)
  | avs (rail mv : Nat)
  | pmbus (addr cmd : Nat)
  | flash (op : Nat) (addr len : Nat)
  | ppsOut
  /-- The word a direct or a debug read returns. -/
  | data (value : Nat)
  | tdo (bits : List Bool)
  deriving DecidableEq, Repr

/-- What a running timer is for. -/
inductive TimerKind where
  | session | quiesce | proxy | residue | bindReset | unbindButton | reasm | wfn | training | trainRetry
  | replay | credit | recovery | shed | lp | kflIdle | timeReq | drain | settle | heartbeat | heartbeatLoss
  | refused | flowRetry | flowIdle | flowAck | hole | skew | unreach | pin | coalesce | traceAge
  | autoIdle | drowseWait | wake | avs | sag | pps | debounce | proofing | ramp | perst | retry | powerGate
  | powerOff | slotRequest | slotReport | rotation | drainBank | perstOut | deviceReset
  deriving DecidableEq, Repr

/-- A running timer: what it is for, the object, and when it is due. -/
structure Timer where
  kind : TimerKind
  idx : Nat
  due : Nat
  deriving DecidableEq, Repr

/-- Kalnum: everything the spec gives it. -/
structure State where
  /-- Registers that differ from their reset value, by storage offset, rising (R12). -/
  regs : List (Nat × Word) := []
  /-- The `_HI` halves latched by reads of `_LO` halves, by offset (R317). -/
  latches : List (Nat × Word) := []
  mode : Mode := .reset
  /-- A mode transition is in progress (R322). -/
  transition : Bool := false
  /-- The model's own clock: nanoseconds since power-on. -/
  now : Nat := 0
  /-- The timebase (R346). -/
  tb : BitVec 64 := 0
  timers : List Timer := []
  /-- Free values taken so far (the model's own field). -/
  drawn : Nat := 0
  err : ErrState := {}
  bnd : BindState := {}
  churn : ChurnState := {}
  qos : QosState := {}
  fab : FabState := {}
  kfl : KflState := {}
  crb : CorberState := {}
  svc : SvcState := {}
  pwr : PwrState := {}
  spg : SpgState := {}
  sec : SecState := {}
  pins : PinState := {}
  /-- What has left the package, newest first. -/
  sent : List Emission := []
  /-- Commands that wait, first in, first out. -/
  pending : List Instr := []
  deriving DecidableEq, Repr

/-- The machine right after reset. -/
def State.reset : State := {}

/-- Why a step stops. -/
inductive Fault where
  /-- A command carries a record that cannot arrive, such as a packet whose payload is not as long as its header says;
  raised by the commands that carry packets.  Safe: such a command is no event of the hardware. -/
  | illFormed
  deriving DecidableEq, Repr

/-- Why a command has no meaning. -/
inductive Refusal where
  /-- The command has no meaning yet; raised by the dispatcher.  Safe. -/
  | notModelled (mnemonic : String)
  deriving DecidableEq, Repr

end Sys2Proof.Machine
end

