-- ==== Sys2Proof/Machine/KflWire.lean ====
section
/-! DEFINITION. The Kalnum Fabric Link on the wire (chapter 06): the fabric header (Table 5.7), whey messages (Table 6.5), flits
and their CRC (R172 to R174), frames with their scrambler, Reed-Solomon code and lane deal (R166 to R169), lane markers
(R170) and training blocks (Table 6.10). -/

namespace Sys2Proof.Machine

/-! ## Fields packed in a number -/

/-- A number with the given fields: lowest bit, width, value. -/
def packAt (l : List (Nat × Nat × Nat)) : Nat := l.foldl (fun a e => a + (e.2.2 % 2 ^ e.2.1) * 2 ^ e.1) 0

/-! ## The fabric header (Table 5.7) -/

/-- The 128 bits of a fabric header. -/
def fabHdrNat (h : FabHdr) : Nat :=
  packAt [(0, 4, h.ptype), (4, 2, h.ord), (6, 3, h.tc), (9, 1, b2n h.dl), (10, 1, b2n h.pin), (11, 1, b2n h.opn),
    (12, 1, b2n h.redir), (13, 1, b2n h.synth), (16, 4, h.hops), (20, 12, h.src), (32, 12, h.dst), (44, 8, h.vh),
    (52, 12, h.bindIdx), (64, 16, h.fseq), (80, 8, h.genTag), (88, 13, h.ilen)]

/-- The fabric header of 128 bits; reserved bits are ignored. -/
def fabHdrOf (v : Nat) : FabHdr :=
  { ptype := bits v 0 4, ord := bits v 4 2, tc := bits v 6 3, dl := bits v 9 1 == 1, pin := bits v 10 1 == 1,
    opn := bits v 11 1 == 1, redir := bits v 12 1 == 1, synth := bits v 13 1 == 1, hops := bits v 16 4, src := bits v 20 12,
    dst := bits v 32 12, vh := bits v 44 8, bindIdx := bits v 52 12, fseq := bits v 64 16, genTag := bits v 80 8,
    ilen := bits v 88 13 }

/-- Bytes filled with zeros, or cut, to `n`. -/
def toLen (n : Nat) (b : List Byte) : List Byte := (b ++ List.replicate n 0).take n

/-- The item of a packet as ILEN bytes. -/
def itemBytes (f : FabPkt) : List Byte :=
  match f.side with
  | some (_, b) => toLen f.hdr.ilen b
  | none => toLen f.hdr.ilen (f.tlp.elim [] Config.tlpBytes)

/-- Slots of 16 bytes, padded with zeros. -/
def slotsOfBytes : Nat → List Byte → List (List Byte)
  | 0, _ => []
  | n + 1, b => toLen 16 (b.take 16) :: slotsOfBytes n (b.drop 16)

/-- Slots a packet takes (R175): one for its header and those of its item. -/
def slotCount (ilen : Nat) : Nat := 1 + ceilDiv ilen 16

/-- Credits a packet of S slots consumes (R185). -/
def creditsOf (ilen : Nat) : Nat := ceilDiv (slotCount ilen) 16

/-- The slots of a packet. -/
def pktSlots (f : FabPkt) : List (List Byte) :=
  leBytes 16 (fabHdrNat f.hdr) :: slotsOfBytes (ceilDiv f.hdr.ilen 16) (itemBytes f)

/-! ## Whey messages (Table 6.5) -/

/-- The 32 bytes of a whey message. -/
def wheyBytes (w : Whey) : List Byte :=
  leBytes 8 (packAt [(0, 8, w.code), (8, 2, w.carry), (10, 5, w.body.length), (16, 12, w.origin), (28, 12, w.dest),
    (40, 4, w.hops)]) ++ toLen 24 w.body

/-- The whey message of 32 bytes. -/
def wheyOf (b : List Byte) : Whey :=
  let e := leNat (b.take 8)
  { carry := bits e 8 2, code := bits e 0 8, origin := bits e 16 12, dest := bits e 28 12, hops := bits e 40 4,
    body := (b.drop 8).take (min 24 (bits e 10 5)) }

/-! ## CRC-64 and flits (R172 to R174) -/

/-- One bit of the reflected CRC-64 of R173. -/
def crc64Bit (r : Nat) : Nat := if r % 2 = 1 then Nat.xor (r / 2) 0xC96C5795D7870F42 else r / 2

/-- One byte of the CRC-64. -/
def crc64Byte (r : Nat) (b : Byte) : Nat := (List.range 8).foldl (fun x _ => crc64Bit x) (Nat.xor r b.toNat)

/-- The CRC-64 of R173. -/
def crc64 (l : List Byte) : Nat := Nat.xor (l.foldl crc64Byte 0xFFFFFFFFFFFFFFFF) 0xFFFFFFFFFFFFFFFF

/-- A flit header (Table 6.4). -/
structure FlitHdr where
  ftype : Nat := 0
  lseq : Nat := 0
  ack : Nat := 0
  crVc : Nat := 7
  crCum : Nat := 0
  wheyN : Nat := 0
  dslots : Nat := 0
  start : Nat := 15
  abort : Bool := false
  replay : Bool := false
  deriving DecidableEq, Repr

/-- The 64 bits of a flit header. -/
def flitHdrNat (h : FlitHdr) : Nat :=
  packAt [(0, 2, h.ftype), (2, 12, h.lseq), (14, 12, h.ack), (26, 3, h.crVc), (29, 12, h.crCum), (41, 2, h.wheyN),
    (43, 4, h.dslots), (47, 4, h.start), (51, 1, b2n h.abort), (52, 1, b2n h.replay)]

/-- The flit header of 64 bits. -/
def flitHdrOf (v : Nat) : FlitHdr :=
  { ftype := bits v 0 2, lseq := bits v 2 12, ack := bits v 14 12, crVc := bits v 26 3, crCum := bits v 29 12,
    wheyN := bits v 41 2, dslots := bits v 43 4, start := bits v 47 4, abort := bits v 51 1 == 1, replay := bits v 52 1 == 1 }

/-- The 256 bytes of a flit: header, whey messages, data slots, zeros, CRC. -/
def flitBytes (h : FlitHdr) (whey : List Whey) (slots : List (List Byte)) : List Byte :=
  let body := leBytes 8 (flitHdrNat h) ++ toLen 240 ((whey.map wheyBytes).flatten ++ slots.flatten)
  body ++ leBytes 8 (crc64 body)

/-! ## Frames (R166 to R169) -/

/-- The bits of bytes, the least significant of each first. -/
def bitsOf (l : List Byte) : List Bool := (l.map (fun b => (List.range 8).map (fun i => b.getLsbD i))).flatten

/-- The additive scrambler over bits: 31-bit register, feedback of bits 30 and 27 (R169). -/
def scramble : Nat → List Bool → List Bool × Nat
  | r, [] => ([], r)
  | r, b :: l =>
    let n := Nat.xor (bits r 30 1) (bits r 27 1)
    let (t, r1) := scramble ((2 * r + n) % 2 ^ 31) l
    (((n == 1) != b) :: t, r1)

/-- The number bits stand for, the first least significant. -/
def bitsNat : List Bool → Nat
  | [] => 0
  | b :: l => b2n b + 2 * bitsNat l

/-- Symbols of ten bits. -/
def symbols : Nat → List Bool → List Nat
  | 0, _ => []
  | n + 1, l => bitsNat (l.take 10) :: symbols n (l.drop 10)

/-- Multiply by α in GF(2^10) under x^10 + x^3 + 1 (R167). -/
def gfX (a : Nat) : Nat := if 512 ≤ a then Nat.xor (2 * a % 1024) 9 else 2 * a

/-- Product in GF(2^10). -/
def gfMul : Nat → Nat → Nat → Nat
  | 0, _, _ => 0
  | n + 1, a, b => Nat.xor (if b % 2 = 1 then a else 0) (gfMul n (gfX a) (b / 2))

/-- α to a power. -/
def gfPow (n : Nat) : Nat := (List.range n).foldl (fun a _ => gfX a) 1

/-- Coefficients of (x − α^0) … (x − α^(n−1)), highest first (R167). -/
def rsGen (n : Nat) : List Nat :=
  (List.range n).foldl (fun g i =>
    List.zipWith Nat.xor (g ++ [0]) (0 :: g.map (fun c => gfMul 10 c (gfPow i)))) [1]

/-- The parity symbols of a message, p_0 first: the remainder of the message times x^30 (R167). -/
def rsParity (msg : List Nat) : List Nat :=
  let g := (rsGen 30).drop 1
  msg.foldl (fun p m =>
    let fb := Nat.xor m (p.headD 0)
    List.zipWith Nat.xor (p.drop 1 ++ [0]) (g.map (fun c => gfMul 10 c fb))) (List.replicate 30 0)

/-- A codeword: 514 message symbols and 30 parity symbols. -/
def rsEncode (msg : List Nat) : List Nat := msg ++ rsParity msg

/-! ### The decoder (R167) -/

/-- The inverse in GF(2^10): the power 1,022. -/
def gfInv (a : Nat) : Nat :=
  ((List.range 9).foldl (fun (x : Nat × Nat) _ => let q := gfMul 10 x.2 x.2; (gfMul 10 x.1 q, q)) (1, a)).1

/-- A polynomial, lowest coefficient first, at a point. -/
def polyAt (p : List Nat) (x : Nat) : Nat := p.foldr (fun c a => Nat.xor c (gfMul 10 a x)) 0

/-- The 30 syndromes of a received word: its values at α^0 to α^29. -/
def rsSyndromes (w : List Nat) : List Nat := (List.range 30).map (fun j => polyAt w.reverse (gfPow j))

/-- The work of Berlekamp and Massey's algorithm: the error locator, its last correction, the errors it tells, the steps since that
correction and the discrepancy met then. -/
structure Locator where
  poly : List Nat := [1]
  last : List Nat := [1]
  len : Nat := 0
  gap : Nat := 1
  disc : Nat := 1
  deriving DecidableEq, Repr

/-- Sum of two polynomials. -/
def polyAdd : List Nat → List Nat → List Nat
  | [], q => q
  | p, [] => p
  | a :: p, b :: q => Nat.xor a b :: polyAdd p q

/-- Take syndrome `n` into the locator. -/
def Locator.step (s : List Nat) (k : Locator) (n : Nat) : Locator :=
  let d := (List.range (k.len + 1)).foldl (fun a i => Nat.xor a (gfMul 10 (k.poly.getD i 0) (s.getD (n - i) 0))) 0
  let f := gfMul 10 d (gfInv k.disc)
  let next := polyAdd k.poly (List.replicate k.gap 0 ++ k.last.map (gfMul 10 f))
  if d = 0 then { k with gap := k.gap + 1 }
  else if 2 * k.len ≤ n then { poly := next, last := k.poly, len := n + 1 - k.len, gap := 1, disc := d }
  else { k with poly := next, gap := k.gap + 1 }

/-- Correct a received word of 544 symbols: the codeword within 15 symbols of it and the count corrected; none where it is
uncorrectable.  The result is checked to be a codeword. -/
def rsDecode (w : List Nat) : Option (List Nat × Nat) :=
  let s := rsSyndromes w
  let k := (List.range 30).foldl (Locator.step s) {}
  let omega := (List.range 30).map (fun j =>
    (List.range (j + 1)).foldl (fun a i => Nat.xor a (gfMul 10 (k.poly.getD i 0) (s.getD (j - i) 0))) 0)
  let slope := (List.range k.poly.length).map (fun i => if i % 2 = 0 then k.poly.getD (i + 1) 0 else 0)
  let fix (t c : Nat) : Nat × Nat :=
    let x := gfPow (543 - t)
    let y := gfInv x
    if polyAt k.poly y = 0 then (Nat.xor c (gfMul 10 x (gfMul 10 (polyAt omega y) (gfInv (polyAt slope y)))), 1) else (c, 0)
  let l := (List.range 544).map (fun t => fix t (w.getD t 0))
  let n := (l.map (·.2)).foldl (· + ·) 0
  let out := l.map (·.1)
  if k.len ≤ 15 && n == k.len && (rsSyndromes out).all (· == 0) then some (out, n) else none

/-- The PAM4 levels of a symbol: five pairs, Gray-coded (R168). -/
def gray (p : Nat) : Nat := match p with | 0 => 0 | 1 => 1 | 3 => 2 | _ => 3
def levels (n : Nat) (v : Nat) : List Nat := (List.range n).map (fun u => gray (bits v (2 * u) 2))

/-- The bit pair of a level. -/
def ungray (l : Nat) : Nat := match l with | 0 => 0 | 1 => 1 | 2 => 3 | _ => 2

/-- The symbols that levels stand for, five levels a symbol. -/
def unlevel : Nat → List Nat → List Nat
  | 0, _ => []
  | n + 1, l => (l.take 5).foldr (fun x a => ungray x + 4 * a) 0 :: unlevel n (l.drop 5)

/-- The symbols of a codeword on lane `i` of `w` (R168). -/
def dealt (w i : Nat) (cw : List Nat) : List Nat :=
  ((List.range cw.length).filter (fun t => t % w == i)).map (fun t => cw.getD t 0)

/-- A frame of five flits on `w` lanes, and the scrambler after it. -/
def frameLanes (scr w : Nat) (flits : List (List Byte)) : List (List Nat) × Nat :=
  let (b, scr1) := scramble scr (bitsOf flits.flatten)
  let l := b ++ List.replicate 40 false
  let a := rsEncode (symbols 514 l)
  let c := rsEncode (symbols 514 (l.drop 5140))
  ((List.range w).map (fun i => ((dealt w i a ++ dealt w i c).map (levels 5)).flatten), scr1)

/-- Bytes of bits, the least significant bit of each first. -/
def bytesOfBits : Nat → List Bool → List Byte
  | 0, _ => []
  | n + 1, l => BitVec.ofNat 8 (bitsNat (l.take 8)) :: bytesOfBits n (l.drop 8)

/-- What the receiver makes of a frame (R166 to R169): the five flits, each with whether every codeword that holds its bits decoded; the
descrambler after it; the symbols corrected; and whether a codeword was uncorrectable. -/
structure FrameIn where
  flits : List (List Byte × Bool)
  scr : Nat
  corrected : Nat
  bad : Bool
  deriving DecidableEq, Repr

/-- Receive a frame from the levels of its logical lanes, in order. -/
def frameIn (scr : Nat) (lanes : List (List Nat)) : FrameIn :=
  let w := lanes.length
  let n := 544 / w
  let sym := lanes.map (unlevel (2 * n))
  let word (skip : Nat) : List Nat := (List.range 544).map (fun t => (sym.getD (t % w) []).getD (skip + t / w) 0)
  let a := rsDecode (word 0)
  let b := rsDecode (word n)
  let bitsIn (x : Option (List Nat × Nat)) (raw : List Nat) : List Bool :=
    (((x.elim raw (·.1)).take 514).map (fun v => (List.range 10).map (fun i => bits v i 1 == 1))).flatten
  let d := scramble scr ((bitsIn a (word 0) ++ bitsIn b (word n)).take 10240)
  { flits := (List.range 5).map (fun k =>
      (bytesOfBits 256 ((d.1.drop (2048 * k)).take 2048), (2 < k || a.isSome) && (k < 2 || b.isSome)))
    scr := d.2, corrected := a.elim 0 (·.2) + b.elim 0 (·.2), bad := a.isNone || b.isNone }

/-! ## Markers (R170) and training blocks (Table 6.10) -/

/-- Parity of the bits of a number of `n` bits: 1 when an odd number is set. -/
def parity (n v : Nat) : Nat := (List.range n).foldl (fun a i => Nat.xor a (bits v i 1)) 0

/-- The marker of a lane. -/
def markerNat (lane width mcount : Nat) : Nat :=
  let v := packAt [(0, 32, 0xC5A31E6B), (32, 3, lane), (36, 2, width), (38, 8, mcount)]
  v + parity 31 (v / 2 ^ 32) * 2 ^ 63

/-- The levels of a marker: 32 pairs, bits 1 and 0 first (R170). -/
def markerLevels (lane width mcount : Nat) : List Nat := levels 32 (markerNat lane width mcount)

/-- The frame after which marker set `k` stands: ceil(8,192 k / 5). -/
def markerFrame (k : Nat) : Nat := ceilDiv (8192 * k) 5

/-- CRC-16 of the low 240 bits of a block, bit 0 first. -/
def crc16 (v : Nat) : Nat :=
  (List.range 240).foldl (fun r i =>
    let t := Nat.xor (bits r 15 1) (bits v i 1)
    Nat.xor (2 * r % 65536) (if t = 1 then 0x1021 else 0)) 0xFFFF

/-- A training block. -/
structure Kts where
  lane : Nat := 0
  phase : Nat := 0
  rateCap : Nat := 0
  rateNow : Nat := 0
  widthCfg : Nat := 0
  laneOk : Nat := 0
  eqDone : Bool := false
  reqTog : Nat := 0
  ffeReq : Nat := 0
  appTog : Nat := 0
  reqRej : Nat := 0
  ffeNow : Nat := 0
  serial : Nat := 0
  deriving DecidableEq, Repr

/-- The 256 bits of a training block. -/
def ktsNat (k : Kts) : Nat :=
  let v := packAt [(0, 32, 0x3B6EA2D4), (32, 3, k.lane), (36, 3, k.phase), (40, 2, k.rateCap), (42, 2, k.rateNow),
    (44, 2, k.widthCfg), (46, 8, k.laneOk), (54, 1, b2n k.eqDone), (55, 1, k.reqTog), (56, 32, k.ffeReq), (88, 1, k.appTog),
    (89, 1, k.reqRej), (90, 32, k.ffeNow), (128, 64, k.serial)]
  v + crc16 v * 2 ^ 240

/-- The levels of a training block (R189): one for each bit, L0 or L3, in PHASE 0 of training; one for each bit pair else.  DESIGN CHOICE
(notes/assumptions/84): a 0 is sent on L0 and a 1 on L3. -/
def ktsLevels (pairs : Bool) (k : Kts) : List Nat :=
  if pairs then levels 128 (ktsNat k) else (List.range 256).map (fun i => 3 * bits (ktsNat k) i 1)

/-- The training block of 256 bits, or none when its KCRC fails (R189). -/
def ktsOf (v : Nat) : Option Kts :=
  if bits v 240 16 ≠ crc16 (v % 2 ^ 240) then none
  else some { lane := bits v 32 3, phase := bits v 36 3, rateCap := bits v 40 2, rateNow := bits v 42 2, widthCfg := bits v 44 2,
              laneOk := bits v 46 8, eqDone := bits v 54 1 == 1, reqTog := bits v 55 1, ffeReq := bits v 56 32,
              appTog := bits v 88 1, reqRej := bits v 89 1, ffeNow := bits v 90 32, serial := bits v 128 64 }

end Sys2Proof.Machine
end

