-- ==== Sys2Proof/Machine/Ops.lean ====
section
/-! DEFINITION. The named operations every meaning is written over: sparse tables, register and field access, counters
(R315 to R317), timers, free values, events (R297), the journal (R221, R222), the host view (R100) and error reporting in
AER (R204). -/

namespace Sys2Proof.Machine

/-! ## Sparse tables: lists of key and value with strictly rising keys -/

/-- The value of a key. -/
def look {α : Type} (k : Nat) : List (Nat × α) → Option α
  | [] => none
  | (j, v) :: l => if j = k then some v else look k l

/-- The table with `k` holding `v`, in key order. -/
def put {α : Type} (k : Nat) (v : α) : List (Nat × α) → List (Nat × α)
  | [] => [(k, v)]
  | (j, w) :: l => if k < j then (k, v) :: (j, w) :: l else if k = j then (k, v) :: l else (j, w) :: put k v l

/-- The table without `k`. -/
def drop {α : Type} (k : Nat) : List (Nat × α) → List (Nat × α)
  | [] => []
  | (j, w) :: l => if j = k then l else (j, w) :: drop k l

/-- The keys rise strictly. -/
def rising {α : Type} : List (Nat × α) → Bool
  | (j, _) :: (k, w) :: l => decide (j < k) && rising ((k, w) :: l)
  | _ => true

/-- Change the value of a key that is there. -/
def alter {α : Type} (k : Nat) (f : α → α) (l : List (Nat × α)) : List (Nat × α) :=
  match look k l with
  | some v => put k (f v) l
  | none => l

/-! ## Changing one unit of the state -/

/-- Change the part of the state that `err` holds. -/
def State.onErr (s : State) (f : ErrState → ErrState) : State := { s with err := f s.err }

/-- Change the part of the state that `bnd` holds. -/
def State.onBnd (s : State) (f : BindState → BindState) : State := { s with bnd := f s.bnd }

/-- Change the part of the state that `churn` holds. -/
def State.onChurn (s : State) (f : ChurnState → ChurnState) : State := { s with churn := f s.churn }

/-- Change the part of the state that `qos` holds. -/
def State.onQos (s : State) (f : QosState → QosState) : State := { s with qos := f s.qos }

/-- Change the part of the state that `fab` holds. -/
def State.onFab (s : State) (f : FabState → FabState) : State := { s with fab := f s.fab }

/-- Change the part of the state that `kfl` holds. -/
def State.onKfl (s : State) (f : KflState → KflState) : State := { s with kfl := f s.kfl }

/-- Change the part of the state that `crb` holds. -/
def State.onCrb (s : State) (f : CorberState → CorberState) : State := { s with crb := f s.crb }

/-- Change the part of the state that `svc` holds. -/
def State.onSvc (s : State) (f : SvcState → SvcState) : State := { s with svc := f s.svc }

/-- Change the part of the state that `pwr` holds. -/
def State.onPwr (s : State) (f : PwrState → PwrState) : State := { s with pwr := f s.pwr }

/-- Change the part of the state that `spg` holds. -/
def State.onSpg (s : State) (f : SpgState → SpgState) : State := { s with spg := f s.spg }

/-- Change the part of the state that `sec` holds. -/
def State.onSec (s : State) (f : SecState → SecState) : State := { s with sec := f s.sec }

/-- Change the part of the state that `pins` holds. -/
def State.onPins (s : State) (f : PinState → PinState) : State := { s with pins := f s.pins }

/-! ## Registers -/

/-- The value of the word at storage offset `a`, whose reset value is `d`. -/
def regAt (l : List (Nat × Word)) (a : Nat) (d : Word) : Word := (look a l).getD d

/-- The value instance `i` of a register holds: what is stored, or its reset value (R12). -/
def State.rd (s : State) (r : RegDesc) (i : Nat := 0) : Word := regAt s.regs (r.addr i) (r.resetWord i)

/-- Store a word in a register; a register that holds its reset value is not listed. -/
def State.wr (s : State) (r : RegDesc) (i : Nat) (v : Word) : State :=
  { s with regs := if v = r.resetWord i then drop (r.addr i) s.regs else put (r.addr i) v s.regs }

/-- The value of a field. -/
def State.fld (s : State) (f : Fld) (i : Nat := 0) : Nat := bits (s.rd f.reg i).toNat f.lo f.width

/-- Set a field, leaving the rest of its register. -/
def State.setFld (s : State) (f : Fld) (i : Nat) (v : Nat) : State :=
  s.wr f.reg i (BitVec.ofNat 32 (setBits (s.rd f.reg i).toNat f.lo f.width v))

/-- A field that is one bit. -/
def State.flag (s : State) (f : Fld) (i : Nat := 0) : Bool := s.fld f i != 0

/-- Put instance `i` of a register back to its reset value. -/
def State.resetReg (s : State) (r : RegDesc) (i : Nat) : State := { s with regs := drop (r.addr i) s.regs }

/-- Put the registers whose storage offset `p` admits back to their reset values. -/
def State.resetRegs (s : State) (p : Nat → Bool) : State := { s with regs := s.regs.filter (fun e => !p e.1) }

/-- The register that stands at a storage offset, with its instance. -/
def regOf (a : Nat) : List RegDesc → Option (RegDesc × Nat)
  | [] => none
  | r :: l => match r.indexAt a with
    | some i => some (r, i)
    | none => regOf a l

/-- The register at a storage offset. -/
def findReg (a : Nat) : Option (RegDesc × Nat) := regOf a allRegs

/-- The reset domain of the register at a storage offset. -/
def domainAt (a : Nat) : Option Domain := (findReg a).map (fun e => e.1.dom)

/-! ## Counters (Table 12.10) -/

/-- Set a bit of the word stored at offset `a`, whose reset value is zero. -/
def State.setBitAt (s : State) (a b : Nat) : State :=
  { s with regs := put a (regAt s.regs a 0 ||| BitVec.ofNat 32 (2 ^ b)) s.regs }

/-- Add `n` to a 32-bit saturating counter; at its largest value it stops and its OVF bit is set (R315). -/
def State.bumpBy (s : State) (r : RegDesc) (i n : Nat) : State :=
  let v := (s.rd r i).toNat + n
  if n = 0 then s
  else if v < 0xFFFFFFFF then s.wr r i (BitVec.ofNat 32 v)
  else
    let s1 := s.wr r i 0xFFFFFFFF
    match r.kind with
    | .sat (some (a, b)) => s1.setBitAt a b
    | _ => s1

/-- Count one. -/
def State.bump (s : State) (r : RegDesc) (i : Nat := 0) : State := s.bumpBy r i 1

/-- Add `n` to the 64-bit wrapping counter whose low half is `lo` and high half `hi` (R315). -/
def State.stat (s : State) (lo hi : RegDesc) (i n : Nat) : State :=
  let v := (s.rd lo i).toNat + 2 ^ 32 * (s.rd hi i).toNat + n
  (s.wr lo i (BitVec.ofNat 32 v)).wr hi i (BitVec.ofNat 32 (v / 2 ^ 32))

/-- The 64-bit value of a counter pair. -/
def State.pair (s : State) (lo hi : RegDesc) (i : Nat := 0) : Nat := (s.rd lo i).toNat + 2 ^ 32 * (s.rd hi i).toNat

/-- Add `n` to a 16-bit saturating field without a flag (refusal counters, crossing counts). -/
def State.bump16 (s : State) (f : Fld) (i n : Nat) : State := s.setFld f i (min 0xFFFF (s.fld f i + n))

/-- Raise a high-water mark to `v` (Table 12.10). -/
def State.mark (s : State) (f : Fld) (v : Nat) : State := if s.fld f 0 < v then s.setFld f 0 v else s

/-! ## Time, timers, free values, emissions -/

/-- Start, or start again, a timer that is due in `d` nanoseconds. -/
def State.arm (s : State) (k : TimerKind) (i d : Nat) : State :=
  { s with timers := ⟨k, i, s.now + d⟩ :: s.timers.filter (fun (t : Timer) => !(t.kind == k && t.idx == i)) }

/-- Stop a timer. -/
def State.disarm (s : State) (k : TimerKind) (i : Nat) : State :=
  { s with timers := s.timers.filter (fun (t : Timer) => !(t.kind == k && t.idx == i)) }

/-- A timer is running. -/
def State.running (s : State) (k : TimerKind) (i : Nat) : Bool := s.timers.any (fun (t : Timer) => t.kind == k && t.idx == i)

/-- A timer is running and its time has come. -/
def State.due (s : State) (k : TimerKind) (i : Nat) : Bool :=
  s.timers.any (fun (t : Timer) => t.kind == k && t.idx == i && t.due ≤ s.now)

/-- Microseconds in nanoseconds. -/
def us (n : Nat) : Nat := n * 1000

/-- Milliseconds in nanoseconds. -/
def ms (n : Nat) : Nat := n * 1000000

/-- The timebase is valid (R346). -/
def State.tbValid (s : State) : Bool := s.flag F.PWR_TB_STATUS.VALID

/-- A time that Malacel's domain stamps is valid: the timebase is, and so is the domain's copy of it (R40, Table 7.13). -/
def State.stampValid (s : State) : Bool := s.tbValid && s.flag F.PWR_XD_STATUS.TB_VALID 36

/-- The step a slew makes in this nanosecond: the timebase gains or loses one for each 10^6 / SLEW_PPM that pass (R347). -/
def State.slewNow (s : State) : Int :=
  if s.pwr.slew = 0 || s.pwr.slewAcc + s.fld F.PWR_TB_CFG.SLEW_PPM < 1000000 then 0 else if 0 < s.pwr.slew then 1 else -1

/-- One nanosecond passes (notes/assumptions/1): the model's clock and the timebase count (R346), a slew runs (R347), and
1PPS out marks a whole second while the timebase is valid (R348, R407). -/
def State.tick (s : State) : State :=
  let d := s.slewNow
  let acc := if s.pwr.slew = 0 then 0 else (s.pwr.slewAcc + s.fld F.PWR_TB_CFG.SLEW_PPM) % 1000000
  let t := s.tb + 1 + BitVec.ofInt 64 d
  let s1 := { s with now := s.now + 1, tb := t, pwr := { s.pwr with slew := s.pwr.slew - d, slewAcc := acc } }
  if s.flag F.PWR_TB_CFG.PPS_OUT_EN && s.tbValid && t.toNat % 1000000000 == 0 then
    { s1 with sent := .ppsOut :: s1.sent, pins := { s1.pins with ppsRose := some s1.now } } else s1

/-- Record what leaves the package. -/
def State.emit (s : State) (e : Emission) : State := { s with sent := e :: s.sent }

/-- The free value the model takes next; `s.drew` is the state after it is taken. -/
def State.free (s : State) : Nat := Config.freeValue s.drawn

/-- The state after one free value is taken. -/
def State.drew (s : State) : State := { s with drawn := s.drawn + 1 }

/-- Apply a state change to each element of a list, in order. -/
def State.each {α : Type} (s : State) (l : List α) (f : State → α → State) : State := l.foldl f s

/-- Apply a state change when a condition holds. -/
def State.whenb (s : State) (c : Bool) (f : State → State) : State := if c then f s else s

/-- FABRIC mode, or DROWSE or MAINTENANCE entered from it, which keep its traffic and state (Table 13.1). -/
def State.inFabric (s : State) : Bool :=
  s.mode == .fabric || ((s.mode == .maintenance || s.mode == .drowse) && s.fld F.PWR_STATUS.ENTERED_FROM == 4)

/-- This device's own FEID, 0 outside FABRIC mode; SAFE_HOLD keeps the one it had, under which whey messages continue (Table
7.12). -/
def State.ownFeid (s : State) : Nat := if s.inFabric || s.mode == .safeHold then s.fld F.BND_FAB_STATUS.FEID_NOW else 0

/-- The FEID that stands for this device in its tables: its own, or while it has none the static one, which it will use, or the last
it held (R97, R131; DEDUCED, notes/assumptions/28). -/
def State.heldFeid (s : State) : Nat :=
  if s.ownFeid ≠ 0 then s.ownFeid else if s.fld F.BND_FAB_CFG.FEID ≠ 0 then s.fld F.BND_FAB_CFG.FEID else s.fab.lastFeid

/-- The device takes a FEID, or none while it is 0 (R131). -/
def State.takeFeid (s : State) (f : Nat) : State :=
  let s1 := (s.setFld F.BND_FAB_STATUS.FEID_NOW 0 f).setFld F.BND_FAB_STATUS.FEID_VALID 0 (b2n (f != 0))
  s1.whenb (f != 0) (fun s => s.onFab (fun y => { y with lastFeid := f }))

/-! ## Events (R297) -/

/-- The block of a storage offset, in the order of Table 0.13. -/
def blockOf (a : Nat) : Nat :=
  if a < 0x100000 then 0 else if a < 0x200000 then 1 else if a < 0x400000 then 2 else if a < 0x800000 then 3
  else if a < 0x1000000 then 4 else if a < 0x1400000 then 5 else if a < 0x1800000 then 6 else if a < 0x1C00000 then 7
  else if a < 0x2000000 then 8 else if a < 0x2400000 then 9 else if a < 0x2800000 then 10 else if a < 0x3000000 then 11
  else 12

/-- The Corber group whose subscribers a block's events go to.  DESIGN CHOICE (notes/assumptions/7): the spec gives the
groups of opcodes and not of blocks. -/
def blockGroup (block : Nat) : Nat :=
  match block with
  | 0 => 1 | 1 => 9 | 2 => 8 | 3 => 2 | 4 => 2 | 5 => 1 | 6 => 3 | 7 => 5 | 8 => 6 | 9 => 11 | 10 => 7 | 11 => 12 | _ => 8

/-- The slots a packet of `n` body bytes takes on a ring (R298). -/
def ringSlots (n : Nat) : Nat := ceilDiv (16 + n) 256

/-- The slots free on a ring of 2^`n` slots with the given head and tail (R298). -/
def ringFree (n head tail : Nat) : Nat := (head + 2 ^ n - tail % 2 ^ n + 2 ^ n - 1) % 2 ^ n

/-- The entry of SVC_QMAP or SVC_VMAP that gives a function a local index (R284). -/
def State.mapAt (s : State) (r : RegDesc) (f l : Nat) : Option Nat :=
  s.regs.findSome? (fun e =>
    if r.base ≤ e.1 && e.1 < r.base + 65536 && bits e.2.toNat 19 1 == 1 && bits e.2.toNat 0 11 == f && bits e.2.toNat 11 8 == l
    then some ((e.1 - r.base) / 4) else none)

/-- An MSI-X entry of a function: its vector, or the masked entry of a slot without one (R284). -/
def State.msixEntry (s : State) (f v : Nat) : BitVec 128 := (look (256 * f + v) s.svc.msix).getD (BitVec.ofNat 128 (2 ^ 96))

/-- A vector of a function becomes pending. -/
def State.pendVector (s : State) (f v : Nat) : State :=
  s.onSvc (fun y => { y with pba := if y.pba.contains (256 * f + v) then y.pba else (256 * f + v) :: y.pba })

/-- The size of the reply or the event ring as a power of two, its base, and the indices its registers show (R298). -/
def State.ringLog2 (s : State) (evt : Bool) : Nat := if evt then s.crb.ringSet.evt else s.crb.ringSet.rpl
def State.ringBase (s : State) (evt : Bool) : Nat := if evt then s.crb.ringSet.evtBase else s.crb.ringSet.rplBase
def State.ringHead (s : State) (evt : Bool) : Nat := if evt then s.fld F.MGT_CRB_EVT_HEAD.IDX else s.fld F.MGT_CRB_RPL_HEAD.IDX
def State.ringTail (s : State) (evt : Bool) : Nat := if evt then s.fld F.MGT_CRB_EVT_TAIL.IDX else s.fld F.MGT_CRB_RPL_TAIL.IDX

/-- The slots a packet for a ring takes. -/
def RingOut.slots (o : RingOut) : Nat := ringSlots (o.bytes.length - 16)

/-- The slot the next packet for a ring takes: after those whose writes have not all been sent. -/
def State.ringNext (s : State) (evt : Bool) : Nat :=
  match (s.crb.hostOut.filter (fun (o : RingOut) => o.evt == evt)).getLast? with
  | some o => (o.slot + o.slots) % 2 ^ s.ringLog2 evt
  | none => s.ringTail evt

/-- A ring has room for a packet of `n` slots (R298). -/
def State.ringRoom (s : State) (evt : Bool) (n : Nat) : Bool := n ≤ ringFree (s.ringLog2 evt) (s.ringHead evt) (s.ringNext evt)

/-- A packet for a ring: its writes to host memory follow (R298). -/
def State.ringPut (s : State) (evt : Bool) (pkt : List Byte) : State :=
  s.onCrb (fun y => { y with hostOut := y.hostOut ++ [{ evt := evt, slot := s.ringNext evt, bytes := pkt }] })

/-- An event packet of a body (R297). -/
def State.eventPacket (s : State) (lost : Bool) (body : List Byte) : List Byte :=
  leBytes 2 0x0CF0 ++ leBytes 2 0 ++ leBytes 2 body.length ++ leBytes 4 s.ownFeid ++ leBytes 2 2 ++
    leBytes 4 s.crb.evtSeq.toNat ++ leBytes 1 (bodyNat body 0 1) ++ leBytes 1 (b2n lost) ++ body.drop 2

/-- Hand an event to subscriber `b`; on the rings it takes event slots, or is dropped and counted (R298). -/
def State.deliver (s : State) (b : Subscriber) (body : List Byte) : State :=
  let pkt (lost : Bool) : List Byte := s.eventPacket lost body
  let setLost (v : Bool) (s : State) : State :=
    (s.onCrb (fun y => { y with subs := s.crb.subs.map (fun (c : Subscriber) => if c.idx = b.idx then { c with lost := v } else c) }))
  if b.idx = 0 then
    if s.ringRoom true (ringSlots body.length) then setLost false (s.ringPut true (pkt b.lost))
    else setLost true (s.bump R.MGT_CRB_EVT_LOST_CNT)
  else setLost false (match b.src with
    | .whey f => s.onCrb (fun y => { y with outbox := y.outbox ++ [(f.toNat, pkt b.lost)] })
    | _ => s.emit (.event b.idx (pkt b.lost)))

/-- Generate one event for the subscribers whose group mask and minimum severity admit it (R297). -/
def State.corberEvent (s : State) (group sev : Nat) (body : List Byte) : State :=
  let s1 := (s.onCrb (fun y => { y with evtSeq := s.crb.evtSeq + 1 }))
  s1.each (s1.crb.subs.filter (fun (b : Subscriber) => bits b.mask (group - 1) 1 = 1 && b.minSev ≤ sev)) (fun s b => s.deliver b body)

/-- Generate one event for the management VH and every MCTP endpoint, subscribed or not (Table 7.12, step 5). -/
def State.eventToAll (s : State) (body : List Byte) : State :=
  let s1 := s.onCrb (fun y => { y with evtSeq := s.crb.evtSeq + 1 })
  let s2 := match s1.crb.subs.find? (fun (b : Subscriber) => b.idx == 0) with
    | some b => s1.deliver b body
    | none => s1
  s2.emit (.eventAll (s1.eventPacket false body))

/-- The body of a register event, KIND 0 (Table 12.4). -/
def eventBody (kind block bit cls index time : Nat) (entry : List Byte) : List Byte :=
  leBytes 1 kind ++ leBytes 1 0 ++ leBytes 1 block ++ leBytes 1 bit ++ leBytes 2 cls ++ leBytes 2 index ++
    leBytes 8 time ++ entry

/-- The *_EVT_EN register of a block, where it has one. -/
def enableOf (block : Nat) : Option RegDesc :=
  match block with
  | 1 => some R.PWR_EVT_EN | 2 => some R.SEC_EVT_EN | 4 => some R.KFL_LINK_EVT_EN | 5 => some R.CHN_EVT_EN
  | 7 => some R.QOS_EVT_EN | 8 => some R.ACU_EVT_EN | 9 => some R.SVC_EVT_EN | 10 => some R.SPG_EVT_EN
  | 11 => some R.ERR_EVT_EN | 12 => some R.DBG_EVT_EN
  | _ => none

/-- The *_EVT_EN register of an *_EVT field: the BND block has two (Tables 4.17 and 5.16). -/
def enableFor (f : Fld) : Option RegDesc :=
  if f.reg.base = R.BND_EVT.base then some R.BND_EVT_EN
  else if f.reg.base = R.BND_FAB_EVT.base then some R.BND_FAB_EVT_EN
  else enableOf (blockOf f.reg.base)

/-- Set an *_EVT bit; one that becomes 1 while its enable is 1 generates a register event (R297). -/
def State.raise (s : State) (f : Fld) (i : Nat := 0) : State :=
  if s.flag f i then s else
  let s1 := s.setFld f i 1
  match enableFor f with
  | none => s1
  | some en =>
    let j := if en.n1 * en.n2 = 1 then 0 else i
    if bits (s1.rd en j).toNat f.lo 1 = 1 then
      let b := blockOf f.reg.base
      s1.corberEvent (blockGroup b) 3 (eventBody 0 b f.lo 0 i s1.tb.toNat [])
    else s1

/-! ## The journal (R221, R222) -/

/-- Severity and scope of an error class (Table 7.2): severity 0 INFO, 1 CORRECTED, 2 ERROR, 3 FATAL; scope 0 port,
1 binding, 2 VH, 3 device. -/
def classInfo (cls : Nat) : Nat × Nat :=
  match cls with
  | 0x0101 => (2, 2) | 0x0102 => (2, 0) | 0x0103 => (2, 0) | 0x0104 => (2, 0) | 0x0105 => (1, 0) | 0x0106 => (2, 0)
  | 0x0201 => (1, 3) | 0x0202 => (2, 1) | 0x0203 => (2, 1) | 0x0204 => (2, 1) | 0x0205 => (1, 3) | 0x0206 => (2, 1)
  | 0x0207 => (0, 1)
  | 0x0301 => (2, 1) | 0x0302 => (0, 1) | 0x0303 => (0, 1) | 0x0304 => (0, 2) | 0x0305 => (0, 1) | 0x0306 => (2, 1)
  | 0x0307 => (2, 1) | 0x0308 => (2, 1) | 0x0309 => (2, 1)
  | 0x0401 => (2, 1) | 0x0402 => (2, 1) | 0x0403 => (2, 0) | 0x0404 => (0, 1) | 0x0405 => (2, 3) | 0x0406 => (2, 3)
  | 0x0407 => (2, 0)
  | 0x0501 => (2, 3)
  | 0x0601 => (2, 3) | 0x0602 => (2, 0) | 0x0603 => (3, 3) | 0x0604 => (2, 3) | 0x0605 => (3, 3) | 0x0606 => (0, 3)
  | 0x0607 => (0, 3) | 0x0608 => (2, 3) | 0x0609 => (2, 3) | 0x060A => (2, 3) | 0x060B => (2, 3) | 0x060C => (2, 3)
  | 0x060D => (0, 1)
  | _ => (2, 0)

/-- The 64 bytes of a journal entry (Table 7.13). -/
def JournalEntry.bytes (e : JournalEntry) : List Byte :=
  leBytes 4 e.jseq ++ leBytes 8 e.time ++
  leBytes 4 (e.cls + 2 ^ 16 * e.sev + 2 ^ 18 * e.scope + 2 ^ 20 * b2n e.timeValid + 2 ^ 21 * b2n e.flashed) ++
  leBytes 16 (e.port + 2 ^ 8 * e.vh + 2 ^ 16 * e.binding + 2 ^ 28 * e.feid + 2 ^ 40 * e.count + 2 ^ 56 * e.mode) ++
  leBytes 32 e.detail

/-- What an error is about: the journal's PORT, VH, BINDING, FEID and DETAIL fields. -/
structure Where where
  port : Nat := 255
  vh : Nat := 255
  binding : Nat := 0xFFF
  feid : Nat := 0
  detail : Nat := 0
  sev : Option Nat := none
  scope : Option Nat := none

/-- Write a journal entry, or merge it into one of the same CLASS, PORT, VH and BINDING written within the window, of which neither is
FATAL (R221); an entry of enough severity raises a Corber event that carries it (R222). -/
def State.recordError (s : State) (cls : Nat) (w : Where := {}) : State :=
  let sev := w.sev.getD (classInfo cls).1
  let same (e : JournalEntry) : Bool :=
    e.sev != 3 && e.cls == cls && e.port == w.port && e.vh == w.vh && e.binding == min w.binding 0xFFF &&
      decide (s.now < e.written + ms (s.fld F.ERR_CFG.COALESCE_MS))
  if s.flag F.ERR_CFG.COALESCE_EN && sev != 3 && s.err.journal.any same then
    let j0 := ((s.err.journal.find? same).map (·.jseq)).getD 0
    ((s.onErr (fun y => { y with journal := s.err.journal.map (fun (e : JournalEntry) =>
        if e.jseq = j0 then { e with count := min 0xFFFF (e.count + 1) } else e) }))).bump R.ERR_JRNL_COALESCE_CNT
  else
    let jseq := (s.fld F.ERR_JRNL_SEQ.JSEQ + 1) % 2 ^ 32
    let idx := s.fld F.ERR_JRNL_STATUS.NEXT
    let e : JournalEntry :=
      { idx := idx, jseq := jseq, time := s.tb.toNat, cls := cls, sev := sev, scope := w.scope.getD (classInfo cls).2,
        timeValid := s.stampValid, flashed := false, port := w.port, vh := w.vh, binding := min w.binding 0xFFF, feid := w.feid,
        count := 1, mode := s.mode.code, detail := w.detail % 2 ^ 256, written := s.now }
    let full := decide (4096 ≤ s.err.journal.length)
    let s1 := (s.onErr (fun y => { y with journal := e :: s.err.journal.take 4095 }))
    let s2 := (s1.setFld F.ERR_JRNL_SEQ.JSEQ 0 jseq).setFld F.ERR_JRNL_STATUS.NEXT 0 ((idx + 1) % 4096)
    let s3 := s2.whenb full (fun s =>
      (((s.bump R.ERR_JRNL_OVERWRITE_CNT).setFld F.ERR_STATUS.JRNL_WRAPPED 0 1).setFld F.ERR_JRNL_STATUS.WRAPPED 0 1).raise
        F.ERR_EVT.JRNL_OVERWRITE)
    if s3.fld F.ERR_CFG.EVT_MIN_SEV ≤ sev then
      s3.corberEvent 12 sev (eventBody 1 0 0 cls (if w.port ≠ 255 then w.port else w.vh) s3.tb.toNat e.bytes)
    else s3

/-- Commit a FATAL entry to flash, or hold it while a supply sag fences the write: a fenced write is counted and is an error of its own
(R222, class 0x0608). -/
def State.flashFatal (s : State) (e : JournalEntry) : State :=
  if e.sev ≠ 3 || !s.flag F.ERR_CFG.FLASH_FATAL then s
  else if s.flag F.PWR_STATUS.SAG then
    let s1 := ((s.onErr (fun y => { y with flashHeld := s.err.flashHeld ++ [e] }))).bump R.ERR_FLASH_FENCED_CNT
    ((s1.setFld F.ERR_STATUS.FLASH_PENDING 0 1).raise F.ERR_EVT.FLASH_FENCED).recordError 0x0608
  else
    let e1 := { e with flashed := true }
    (s.onErr (fun y => { y with
        flashJournal := (e1 :: s.err.flashJournal).take 16
        journal := s.err.journal.map (fun (j : JournalEntry) => if j.jseq = e.jseq then e1 else j) }))

/-- An error of Table 7.2: its journal entry (R221), and the commit of one that is FATAL (R222). -/
def State.journal (s : State) (cls : Nat) (w : Where := {}) : State :=
  let s1 := s.recordError cls w
  if w.sev.getD (classInfo cls).1 = 3 then s1.flashFatal (s1.err.journal.headD default) else s1

/-! ## The host view (R100) -/

/-- The value a host-owned field has until it is written.  PRESUMED (notes/assumptions/20): the AER mask and severity
defaults are those of the PCI Express Base Specification. -/
def hostDefault : HostField → Nat
  | .uncMask => 0x0440_0000
  | .uncSeverity => 0x0046_2030
  | .corMask => 0x0000_6000
  | .memBase => 1
  | .prefBase => 1
  | .ioBase => 1
  | _ => 0

/-- The key of a field in the host view. -/
def hostKey (vh : Nat) (u : HostUnit) (f : HostField) : Nat := (vh * 129 + hostUnitCode u) * 160 + hostFieldCode f

/-- A field of the host view. -/
def State.host (s : State) (vh : Nat) (u : HostUnit) (f : HostField) : Nat :=
  (look (hostKey vh u f) s.bnd.host).getD (hostDefault f)

/-- Set a field of the host view; a field at its default is not listed. -/
def State.setHost (s : State) (vh : Nat) (u : HostUnit) (f : HostField) (v : Nat) : State :=
  (s.onBnd (fun y => { y with host :=
      if v = (hostDefault f) then drop (hostKey vh u f) s.bnd.host else put (hostKey vh u f) v s.bnd.host }))

/-- A one-bit field of the host view is set. -/
def State.hostOn (s : State) (vh : Nat) (u : HostUnit) (f : HostField) : Bool := s.host vh u f != 0

/-- A field of the host view that no reset of the VH clears: the generation of a binding's last change (Table 4.10). -/
def hostKept (key : Nat) : Bool := key % 160 == hostFieldCode .bindGen

/-- Clear the host view of one VH (Table 4.15, step 4). -/
def State.clearHost (s : State) (vh : Nat) : State :=
  (s.onBnd (fun y => { y with host := s.bnd.host.filter (fun e => !(e.1 / 160 / 129 == vh) || hostKept e.1) }))

/-! ## AER (R204).  PRESUMED bit positions: the PCI Express Base Specification (notes/assumptions/20) -/

/-- The status bit of an error, and whether it stands in the correctable register. -/
def AerErr.bit : AerErr → Nat × Bool
  | .dlProtocol => (4, false) | .surpriseDown => (5, false) | .poisoned => (12, false) | .fcProtocol => (13, false)
  | .completionTimeout => (14, false) | .completerAbort => (15, false) | .unexpectedCompletion => (16, false)
  | .unsupportedRequest => (20, false) | .acsViolation => (21, false) | .uncorrectableInternal => (22, false)
  | .egressBlocked => (26, false)
  | .receiver => (0, true) | .badTlp => (6, true) | .badDllp => (7, true) | .replayRollover => (8, true)
  | .replayTimer => (12, true) | .correctedInternal => (14, true)

/-- The VH and unit of the host view a reporting function has; the management PF reports behind vDSP 0 of the management
VH (R92). -/
def State.aerUnit (s : State) : AerFn → Nat × HostUnit
  | .vusp v => (v, .vusp)
  | .vdsp v i => (v, .vdsp i)
  | .fn v i => (v, .fn i)
  | .mgmtPf => (s.bnd.mgmtVh, .fn 0)

/-- VH states of BND_VH_STATUS. -/
def State.vhActive (s : State) (vh : Nat) : Bool := s.fld F.BND_VH_STATUS.STATE vh == 2

/-- The host lets a message of a severity go (0 ERR_COR, 1 ERR_NONFATAL, 2 ERR_FATAL): its error-reporting enables, of Device Control in bits
0 to 3 (correctable, non-fatal, fatal, unsupported request) and SERR# Enable in bit 4.  PRESUMED: the PCI Express Base Specification
(notes/assumptions/20). -/
def State.errSends (s : State) (vh : Nat) (u : HostUnit) (e : AerErr) (n : Nat) : Bool :=
  let on (b : Nat) : Bool := bits (s.host vh u .errEnables) b 1 == 1
  (on n || (n != 0 && on 4)) && (e != .unsupportedRequest || on 3 || (n != 0 && on 4))

/-- Set a status bit of AER in the host view and send the message the host's masks and error-reporting enables allow (R204).  `advisory` handles an
uncorrectable error as an Advisory Non-Fatal Error: its own bit and bit 13 of the correctable register are set, and the
message is ERR_COR. -/
def State.aerLog (s : State) (fn : AerFn) (e : AerErr) (advisory : Bool) (header : Nat := 0) : State :=
  let (vh, u) := s.aerUnit fn
  let (b, cor) := e.bit
  if cor then
    let s1 := s.setHost vh u .corStatus (s.host vh u .corStatus ||| 2 ^ b)
    s1.whenb (bits (s.host vh u .corMask) b 1 = 0 && s.errSends vh u e 0) (fun s => s.emit (.aerMsg fn e 0))
  else
    let s1 := s.setHost vh u .uncStatus (s.host vh u .uncStatus ||| 2 ^ b)
    let s2 := if header = 0 then s1 else s1.setHost vh u .headerLog header
    if advisory then
      let s3 := s2.setHost vh u .corStatus (s2.host vh u .corStatus ||| 2 ^ 13)
      s3.whenb (bits (s.host vh u .corMask) 13 1 = 0 && s.errSends vh u e 0) (fun s => s.emit (.aerMsg fn e 0))
    else
      let n := 1 + bits (s.host vh u .uncSeverity) b 1
      s2.whenb (bits (s.host vh u .uncMask) b 1 = 0 && s.errSends vh u e n) (fun s => s.emit (.aerMsg fn e n))

end Sys2Proof.Machine
end

