-- ==== Sys2Proof/Machine/Ports.lean ====
section
/-! DEFINITION. Ports, clusters and regions (chapter 01): which ports are live, their role, width and rate, which link
controller and guard serve them. -/

namespace Sys2Proof.Machine

/-- The cluster of a port (Table 1.2). -/
def clusterOf (p : Nat) : Nat := p / 4

/-- The rind region of a cluster, 0 N0 to 7 W1 (Table 1.3). -/
def regionOf (c : Nat) : Nat := 2 * (c / 9) + (if c % 9 < 5 then 0 else 1)

/-- The clusters of a rind region. -/
def clustersOf (g : Nat) : List Nat := (List.range 36).filter (fun c => regionOf c == g)

/-- All port numbers. -/
def allPorts : List Nat := List.range 144

/-- A port is live when the bifurcation of its cluster or pair places one in its slot (R16). -/
def State.live (s : State) (p : Nat) : Bool :=
  p < 144 && 1 ≤ s.fld F.PCL_SLOT_CFG.WIDTH p && s.fld F.PCL_SLOT_CFG.WIDTH p ≤ 5

/-- The role code of a port: 0 host edge, 1 pool edge, 2 fabric (R1). -/
def State.role (s : State) (p : Nat) : Nat := s.fld F.PCL_SLOT_CFG.ROLE p

/-- A live port of the host-edge role, the root of a VH (R92). -/
def State.isHostEdge (s : State) (p : Nat) : Bool := s.live p && s.role p == 0

/-- A live port of the pool-edge role. -/
def State.isPoolEdge (s : State) (p : Nat) : Bool := s.live p && s.role p == 1

/-- A live port of the fabric role. -/
def State.isFabric (s : State) (p : Nat) : Bool := s.live p && s.role p == 2

/-- The protocol code of a port: 0 PCI Express, 1 CXL, 2 KFL. -/
def State.proto (s : State) (p : Nat) : Nat := s.fld F.PCL_SLOT_CFG.PROTO p

/-- The link state of a port (PCL_PORT_STATUS.STATE). -/
def State.linkState (s : State) (p : Nat) : Nat := s.fld F.PCL_PORT_STATUS.STATE p

/-- A link that carries or can at once carry traffic: ACTIVE, RECOVERY or LOW_POWER. -/
def State.linkUp (s : State) (p : Nat) : Bool := 3 ≤ s.linkState p && s.linkState p ≤ 5

/-- A link that is ACTIVE. -/
def State.active (s : State) (p : Nat) : Bool := s.linkState p == 3

/-- Lanes a bifurcation width code gives. -/
def widthLanes (w : Nat) : Nat := match w with | 1 => 1 | 2 => 2 | 3 => 4 | 4 => 8 | 5 => 16 | _ => 0

/-- The first lane of a port (Table 1.2). -/
def firstLane (p : Nat) : Nat := 8 * (p / 4) + 2 * (p % 4)

/-- The lanes of a live port. -/
def State.lanesOf (s : State) (p : Nat) : List Nat :=
  (List.range (widthLanes (s.fld F.PCL_SLOT_CFG.WIDTH p))).map (fun k => firstLane p + k)

/-- A rate code in tenths of Gb/s (or GT/s) per lane. -/
def rateTenths (code : Nat) : Nat :=
  match code with
  | 1 => 25 | 2 => 50 | 3 => 80 | 4 => 160 | 5 => 320 | 6 => 640 | 7 => 1280 | 8 => 1280 | 9 => 2240 | _ => 0

/-- The rate of a port in tenths of Gb/s: current width times lane rate (R72). -/
def State.portRate (s : State) (p : Nat) : Nat :=
  s.fld F.PCL_PORT_STATUS.WIDTH_NOW p * rateTenths (s.fld F.PCL_PORT_STATUS.RATE_NOW p)

/-- Credit classes of a port: 6 on KFL, else 3 (R76). -/
def State.classes (s : State) (p : Nat) : Nat := if s.proto p = 2 then 6 else 3

/-- The KFL link controller of a port: two a cluster, in slots 0 and 2 (R17). -/
def controllerOf (p : Nat) : Nat := p / 2

/-- The fabric port a link index is assigned to (R17). -/
def State.portOfLink (s : State) (l : Nat) : Option Nat :=
  allPorts.find? (fun p => s.isFabric p && s.fld F.PCL_SLOT_CFG.KFL_LINK p == l)

/-- The link index of a fabric port. -/
def State.linkOf (s : State) (p : Nat) : Nat := s.fld F.PCL_SLOT_CFG.KFL_LINK p

/-- The guard assigned to a port, if one is (SPG_SLOT_CFG). -/
def State.guardOf (s : State) (p : Nat) : Option Nat :=
  (List.range 24).find? (fun g => s.flag F.SPG_SLOT_CFG.ENABLE g && s.fld F.SPG_SLOT_CFG.PORT g == p)

/-- Ports that are live. -/
def State.livePorts (s : State) : List Nat := allPorts.filter s.live

/-- The cluster's clock runs: its registers are reachable (R65). -/
def State.clockRuns (s : State) (c : Nat) : Bool := !s.flag F.PCL_CLUSTER_STATUS.CLK_STOPPED c

/-! ## Demand, voltage and pacing (R333 to R336) -/

/-- Banks in service: 2,048 curds each (R75). -/
def State.banksIn (s : State) : Nat := ((List.range 256).filter (fun b => s.fld F.CHN_BANK_STATE.STATE b == 0)).length

/-- 32 times the demand D in GB/s (R334): W is a sum of tenths of Gb/s, and D is 2.5 W and 1,210 GB/s. -/
def State.demand32 (s : State) : Nat := (s.livePorts.map s.portRate).sum + 38720

/-- The access rate a of N banks at a core delay factor in units of 1/256, in GB/s, as a fraction (R334). -/
def accessRate (n k : Nat) : Nat × Nat := (n * 64 * 25600, 42 * k)

/-- The live core delay factor in units of 1/256 (R31). -/
def State.coreDelay (s : State) : Nat := s.fld F.PWR_CORE_DELAY.CORE_DELAY_FACTOR

/-- The access rate is below 1.15 D with `pct` % more (R335, R336).  Before the first reading of k there is nothing to compare. -/
def State.accessBelow (s : State) (pct : Nat) : Bool :=
  let a := accessRate s.banksIn s.coreDelay
  s.flag F.PWR_CORE_DELAY.VALID && decide (a.1 * 10000 * 32 < 115 * (100 + pct) * s.demand32 * a.2)

/-- D and a / 1.15 in GB/s, as PWR_DEMAND shows them. -/
def State.demandWord (s : State) : Nat :=
  let a := accessRate s.banksIn s.coreDelay
  min 65535 (s.demand32 / 32) + 65536 * (if a.2 = 0 then 0 else min 65535 (a.1 * 100 / (a.2 * 115)))

/-- The voltage Kalnum works as at (R333): the last one acknowledged, 0.80 V before the first request. -/
def State.coreMv (s : State) : Nat := let v := s.fld F.PWR_VCORE.ACK_MV; if v = 0 then 800 else v

/-- Request a core voltage, unless a request is outstanding (R333). -/
def State.requestVoltage (s : State) (mv : Nat) (for_ : AvsUse) (up : Bool) : State :=
  if s.pwr.avs.isSome then s
  else
    let s1 := ((s.setFld F.PWR_VCORE.REQ_MV 0 mv).setFld F.PWR_VCORE.PENDING 0 1).setFld F.PWR_STATUS.AVS_PENDING 0 1
    ((s1.onPwr (fun y => { y with avs := some (for_, up, 0) })).emit (.avs 0 mv)).arm .avs 0 (us (s.fld F.PWR_VPOL_TIME.AVS_ACK_US))

/-- The voltage policy of R335; `interval` says an interval has passed, and lowering counts those. -/
def State.vpol (s : State) (interval : Bool) : State :=
  let v := s.coreMv
  let vmin := s.fld F.PWR_VPOL_CFG.VMIN_MV
  let vmax := s.fld F.PWR_VPOL_CFG.VMAX_MV
  let step := s.fld F.PWR_VPOL_TIME.STEP_MV
  let g := s.fld F.PWR_VPOL_CFG.GUARD_PCT
  let run (s : State) (n : Nat) : State := s.onPwr (fun y => { y with downRun := n })
  if s.mode = .reset || s.mode = .boot || s.mode = .drowse then s
  else if !s.flag F.PWR_VPOL_CFG.ENABLE then
    if v = vmax then s else s.requestVoltage vmax .policy (decide (v < vmax))
  else if s.accessBelow g && v < vmax then (run s 0).requestVoltage (min (v + step) vmax) .policy true
  else if s.flag F.PWR_CORE_DELAY.VALID && !s.accessBelow (2 * g) then
    if !interval then s
    else
      let n := s.pwr.downRun + 1
      if n < s.fld F.PWR_VPOL_CFG.DOWN_HOLD || v ≤ vmin then run s (min n 15)
      else (run s 0).requestVoltage (max (v - step) vmin) .policy false
  else run s 0

/-- Pacing of credit return runs while a < 1.15 D (R336). -/
def State.pace (s : State) : State :=
  let on := s.accessBelow 0
  let was := s.flag F.PWR_STATUS.PACING
  (s.setFld F.PWR_STATUS.PACING 0 (b2n on)).whenb (on && !was) (fun s => s.raise F.PWR_EVT.PACING)

/-- The demand is computed again; when it has risen the policy runs at once (R334, R335), and pacing follows (R336). -/
def State.demandStep (s : State) : State :=
  let w := s.demandWord
  let rose := decide (s.fld F.PWR_DEMAND.D < w % 65536)
  ((s.wr R.PWR_DEMAND 0 (BitVec.ofNat 32 w)).whenb (rose && s.flag F.PWR_VPOL_CFG.ENABLE) (fun s => s.vpol false)).pace

/-- The cluster clock runs unless the region is gated, the reference clock is lost or the PLL is stopped (R62, R65). -/
def State.showClock (s : State) (c : Nat) : State :=
  let gone := s.flag F.PCL_CLUSTER_STATUS.REGION_GATED c || !s.flag F.PCL_CLUSTER_STATUS.REFCLK_OK c ||
    !s.flag F.PCL_CLUSTER_STATUS.PLL_LOCK c
  s.setFld F.PCL_CLUSTER_STATUS.CLK_STOPPED c (b2n gone)

/-- Every live port of a rind region is disabled. -/
def State.regionOff (s : State) (g : Nat) : Bool :=
  (clustersOf g).all (fun c => (List.range 4).all (fun k => !s.live (4 * c + k) || s.linkState (4 * c + k) == 0))

/-- A clocked domain enters reset: it is held there until its channels resynchronise (R345), and its copy of the timebase reads as
invalid (R40). -/
def State.domainReset (s : State) (d : Nat) : State :=
  (s.setFld F.PWR_XD_STATUS.IN_RESET d 1).setFld F.PWR_XD_STATUS.TB_VALID d 0

/-- Close or open the power gate of a rind region (R26).  DESIGN CHOICE (notes/assumptions/66): a cluster without power is in reset. -/
def State.setGate (s : State) (g : Nat) (closed : Bool) : State :=
  s.each (clustersOf g) (fun s c => ((s.setFld F.PCL_CLUSTER_STATUS.REGION_GATED c (b2n closed)).showClock c).whenb closed (fun s => s.domainReset c))

/-- The domain of a port's cluster is out of reset (R41). -/
def State.outOfReset (s : State) (p : Nat) : Bool := !s.flag F.PWR_XD_STATUS.IN_RESET (clusterOf p)

/-- The gate of a rind region closes when gating is enabled and every port of it is disabled (R26). -/
def State.gateUpdate (s : State) (g : Nat) : State :=
  let want := s.pwr.gating.contains g && s.regionOff g
  if (clustersOf g).any (fun c => s.flag F.PCL_CLUSTER_STATUS.REGION_GATED c) == want then s else s.setGate g want

/-- A port's link ends: its status word holds only the state `to`, 0 DISABLED or 1 DETECT, and no lane of it stays parked. -/
def State.linkOff (s : State) (p outTo : Nat) : State :=
  let s1 := s.each (s.lanesOf p) (fun s l => s.setFld F.PCL_LANE_STATUS.PARKED l 0)
  let s2 := (s1.wr R.PCL_PORT_STATUS p (BitVec.ofNat 32 outTo)).demandStep
  s2.whenb (outTo == 0) (fun s => s.gateUpdate (regionOf (clusterOf p)))

/-- The state a port without a link stands in: DETECT while it is enabled. -/
def State.restState (s : State) (p : Nat) : Nat := if s.flag F.PCL_PORT_CTRL.ENABLE p then 1 else 0

/-- Every port of a cluster lets its PLL stop (R62): disabled, in L1.1, in L1.2 or in KFL deep idle.  The upper cluster of a pair
follows the clock of the lower one (R24). -/
def State.pllIdle (s : State) (c : Nat) : Bool :=
  let l := if s.flag F.PCL_CLUSTER_CFG.PAIR_UPPER c then c - 1 else c
  (List.range 4).all (fun k =>
    let p := 4 * l + k
    !s.live p || s.linkState p == 0 ||
      (s.linkState p == 5 && [3, 4, 6].contains (s.fld F.PCL_PORT_STATUS.LPSTATE p)))

/-- A port at rest: disabled, in L1.2 or in KFL deep idle (R328). -/
def State.atRest (s : State) (p : Nat) : Bool :=
  s.linkState p == 0 || (s.linkState p == 5 && [4, 6].contains (s.fld F.PCL_PORT_STATUS.LPSTATE p))

/-- The time that every live port has been at rest runs, or not, with AUTO_EN in the modes DROWSE is entered from (R328). -/
def State.idleCheck (s : State) : State :=
  if s.flag F.PWR_DROWSE_CFG.AUTO_EN && [Mode.transparent, .composed, .fabric].contains s.mode && s.livePorts.all s.atRest then
    (if s.running .autoIdle 0 then s else s.arm .autoIdle 0 (ms (s.fld F.PWR_DROWSE_CFG.AUTO_IDLE_MS)))
  else s.disarm .autoIdle 0

/-- Stop or start the PLL of a cluster, and of the upper cluster of its pair, as R62 and R24 state. -/
def State.pllUpdate (s : State) (c : Nat) : State :=
  (s.each (if s.flag F.PCL_CLUSTER_CFG.PAIR_LOWER c then [c, c + 1] else [c]) (fun s c =>
    (s.setFld F.PCL_CLUSTER_STATUS.PLL_LOCK c
      (b2n (s.flag F.PCL_CLUSTER_STATUS.REFCLK_OK c && !s.pllIdle c))).showClock c)).idleCheck

/-- The slots of a cluster that hold live ports. -/
def State.showLive (s : State) (c : Nat) : State :=
  s.setFld F.PCL_CLUSTER_STATUS.LIVE_PORTS c
    (((List.range 4).filter (fun k => s.live (4 * c + k))).foldl (fun a k => a + 2 ^ k) 0)

end Sys2Proof.Machine
end

