-- ==== Sys2Proof/Machine/KflBase.lean ====
section
/-! DEFINITION. What the scheduler asks of a KFL link controller: its state and its credit (R159, R175, R186). -/

namespace Sys2Proof.Machine

/-- The state of a link controller. -/
def State.kl (s : State) (c : Nat) : KflLink := (look c s.kfl.links).getD {}

/-- Change the state of a link controller. -/
def State.onKl (s : State) (c : Nat) (f : KflLink → KflLink) : State :=
  s.onKfl (fun y => { y with links := put c (f (s.kl c)) y.links })

/-- The port of a controller: slot 0 for A, slot 2 for B (R45). -/
def portOfCtl (c : Nat) : Nat := 2 * c

/-- LSTATE of a controller. -/
def State.lst (s : State) (c : Nat) : Nat := s.fld F.KFL_LINK_STATUS.LSTATE c

/-- A link sleeps, in standby or deep idle (R197). -/
def State.asleep (s : State) (c : Nat) : Bool := s.lst c == 7 || s.lst c == 8

/-- The VC of a packet (R159). -/
def vcOf (h : FabHdr) : Nat := h.ord + 3 * b2n h.dl

/-- `a - b` modulo 4,096. -/
def sub12 (a b : Nat) : Nat := (a + 4096 - b % 4096) % 4096

/-- Credit a transmitter has on a counter. -/
def State.kflRoom (s : State) (c v : Nat) : Nat := sub12 (s.fld F.KFL_CRED_TX.LIMIT (7 * c + v)) (s.fld F.KFL_CRED_TX.USED (7 * c + v))

/-- Credit that packets started and not yet begun will take. -/
def State.kflPledged (s : State) (c v : Nat) : Nat :=
  (((s.kl c).tx.filter (fun (t : KflPkt) => t.vc == v && t.lastSeq == 4096)).map (fun t =>
    creditsOf (t.pkt.fab.elim 0 (·.hdr.ilen)))).foldl (· + ·) 0

/-- A packet may start on the link: it has credit for the whole packet (R175). -/
def State.kflMayStart (s : State) (c : Nat) (h : FabHdr) : Bool :=
  let v := vcOf h
  s.lst c == 5 && (s.kl c).stopping.isNone && decide (s.kflPledged c v + creditsOf h.ilen ≤ s.kflRoom c v)

/-- Every slot of a packet has been put in a flit. -/
def KflPkt.sent (t : KflPkt) : Bool := t.slots.isEmpty && !t.coming

/-- A packet must end early (R74, R176): its slots stop, and the next SEQ flit carries ABORT. -/
def State.kflAbort (s : State) (c id : Nat) : State :=
  let k := s.kl c
  match k.tx.find? (fun (t : KflPkt) => t.pkt.id == id && !t.sent) with
  | none => s
  | some t =>
    let rest := k.tx.filter (fun (x : KflPkt) => !(x.pkt.id == id))
    if t.lastSeq = 4096 then s.onKl c (fun k => { k with tx := rest })
    else (s.onKl c (fun k => { k with tx := rest, abortNext := true })).bump R.KFL_ABORT_TX_CNT c

/-- The way onward of a transit packet in reception is taken back before its end has come: `after` tells what becomes of it then (R158,
R176, R211). -/
def State.takeBack (s : State) (k : Pkt) (after : Option (Option Nat)) : State :=
  s.onKl (controllerOf k.inPort) (fun y => { y with rx := y.rx.map (fun (x : KflRx) =>
    if x.onward = some k.id then { x with onward := none, after := after } else x) })

/-- The slot of a route entry that leads to a port, for a copy of a group packet (R148). -/
def State.slotTo (s : State) (r q : Nat) : Option Nat :=
  (List.range 8).find? (fun j => bits r (16 + 7 * j) 7 != 0x7F && s.portOfLink (bits r (16 + 7 * j) 7) == some q)

/-- The packet with a fabric header as it leaves on port `q`: a unicast packet as forwarding left it, a group copy with HOPS and
DL of its slot (R140, R148, R160). -/
def State.fabAt (s : State) (k : Pkt) (q : Nat) : Option FabPkt :=
  match k.fab with
  | none => none
  | some f =>
    if k.residue.isNone then some f
    else match s.slotTo k.route q with
      | none => some f
      | some j => some { f with hdr := { f.hdr with hops := k.hops0 + 1, dl := k.dl0 || bits k.route (72 + j) 1 == 1 } }

/-- A packet toward a fabric port has credit on its link; other ports have none to ask (R175, R186). -/
def State.fabCredit (s : State) (k : Pkt) (q : Nat) : Bool :=
  if !s.isFabric q then true
  else match s.fabAt k q with
    | some f => s.kflMayStart (controllerOf q) f.hdr
    | none => true

end Sys2Proof.Machine
end

