-- ==== Sys2Proof/Machine/Churn.lean ====
section
/-! DEFINITION. The Churn (chapter 03): pools and charging (R75 to R80, R419), storing and freeing packets (R67, R68, R72),
multicast residues (R82 to R86) and the banks (R87 to R90). -/

namespace Sys2Proof.Machine

/-! ## Pools -/

/-- Pairwise sum of curds and heads. -/
def addP (a b : Nat × Nat) : Nat × Nat := (a.1 + b.1, a.2 + b.2)

/-- Pairwise difference, not below zero. -/
def subP (a b : Nat × Nat) : Nat × Nat := (a.1 - b.1, a.2 - b.2)

/-- Pairwise minimum. -/
def minP (a b : Nat × Nat) : Nat × Nat := (min a.1 b.1, min a.2 b.2)

/-- Sum of pairs. -/
def sumP (l : List (Nat × Nat)) : Nat × Nat := l.foldl addP (0, 0)

/-- A port's reserved pool takes room: a computed one while its link is up, a written one as written (R76; DEDUCED,
notes/assumptions/28). -/
def State.reserves (s : State) (p : Nat) : Bool := s.live p && (s.linkUp p || !s.flag F.CHN_PORT_CFG.AUTO_RES p)

/-- The reserved pools of the ports `p` admits. -/
def State.reservedBy (s : State) (p : Nat → Bool) : Nat × Nat :=
  sumP ((allPorts.filter p).map (fun q => (s.fld F.CHN_PORT_RES.RES_CURDS q, s.fld F.CHN_PORT_RES.RES_HEADS q)))

/-- The reserved pools (R76). -/
def State.reservedPools (s : State) : Nat × Nat := s.reservedBy s.reserves

/-- The escape pool (Table 3.6). -/
def State.escPool (s : State) : Nat × Nat := (s.fld F.CHN_ESC_CFG.ESC_CURDS, s.fld F.CHN_ESC_CFG.ESC_HEADS)

/-- The multicast pool (Table 3.6). -/
def State.mcPool (s : State) : Nat × Nat :=
  (4096 * s.fld F.CHN_MC_CFG.POOL_UNITS, 1024 * s.fld F.CHN_MC_CFG.HEAD_UNITS)

/-- Multicast curds and heads in use. -/
def State.mcUsed (s : State) : Nat × Nat := sumP (s.churn.pkts.map (·.chg.mc))

/-- The shared pool that `banks` banks leave when the other pools are as given (Table 3.6); the residue area takes a quarter
curd for each multicast head. -/
def sharedOf (banks : Nat) (res esc mc : Nat × Nat) : Int × Int :=
  ((2048 * banks : Int) - res.1 - esc.1 - mc.1 - (mc.2 / 4 : Nat), (262144 : Int) - res.2 - esc.2 - mc.2)

/-- The size of the shared pool now.  What a decrease of the multicast pool gives back comes as its packets free (R86). -/
def State.sharedSize (s : State) : Nat × Nat :=
  let x := sharedOf s.banksIn s.reservedPools s.escPool (max s.mcPool.1 s.mcUsed.1, max s.mcPool.2 s.mcUsed.2)
  (x.1.toNat, x.2.toNat)

/-- The least shared pool R75 allows. -/
def sharedMin : Nat × Nat := (65536, 32768)

/-- Shared curds and heads in use: by packets and as backing of credit (R77). -/
def State.sharedUsed (s : State) : Nat × Nat :=
  addP (sumP (s.churn.pkts.map (·.chg.shr))) (sumP (s.churn.grants.map (·.shr)))

/-- Free shared curds and heads: F_c and F_h of R78. -/
def State.sharedFree (s : State) : Nat × Nat := subP s.sharedSize s.sharedUsed

/-- Free curds and heads of the escape pool. -/
def State.escFree (s : State) : Nat × Nat :=
  subP s.escPool (addP (sumP (s.churn.pkts.map (·.chg.esc))) (sumP (s.churn.grants.map (·.esc))))

/-- Free curds and heads of the multicast pool. -/
def State.mcFree (s : State) : Nat × Nat := subP s.mcPool s.mcUsed

/-- A packet counts toward what its IN_PORT holds: one on credit, or a request of Malacel or the data mover; no completion Kalnum
makes (R419). -/
def Pkt.counts (k : Pkt) : Bool := k.charge != 255 && (k.inPort < 144 || k.ord != .completion)

/-- Shared curds and heads an ingress port holds: S_p and T_p of R78. -/
def State.sharedHeld (s : State) (p : Nat) : Nat × Nat :=
  addP (sumP ((s.churn.pkts.filter (fun (k : Pkt) => k.inPort == p && k.counts)).map (·.chg.shr)))
    (sumP ((s.churn.grants.filter (·.port == p)).map (·.shr)))

/-- What a class of a port uses of its slice of the reserved pool. -/
def State.resUsed (s : State) (p c : Nat) : Nat × Nat :=
  addP (sumP ((s.churn.pkts.filter (fun (k : Pkt) => k.inPort == p && k.charge == c)).map (·.chg.res)))
    (sumP ((s.churn.grants.filter (fun (g : Grant) => g.port == p && g.cls == c)).map (·.res)))

/-- What is free of a class's slice: the pool is split equally among the classes (R76). -/
def State.resFree (s : State) (p c : Nat) : Nat × Nat :=
  let n := s.classes p
  subP (s.fld F.CHN_PORT_RES.RES_CURDS p / n, s.fld F.CHN_PORT_RES.RES_HEADS p / n) (s.resUsed p c)

/-- Whether holding `h` of a free `f` keeps the limit of R78 under ALPHA code `a` (α is 2^a / 8). -/
def alphaOk (a : Nat) (h f : Nat × Nat) : Bool := 8 * h.1 ≤ 2 ^ a * f.1 && 8 * h.2 ≤ 2 ^ a * f.2

/-- The ALPHA code of an ingress: the port's own, or 1/2 for Malacel and the data mover (R419). -/
def State.alphaOf (s : State) (p : Nat) : Nat := if p < 144 then s.fld F.CHN_PORT_CFG.ALPHA p else 2

/-- The credit class that completions are charged to: class 2, and on KFL the VCs of completions (R80). -/
def State.isCplClass (s : State) (p c : Nat) : Bool := if s.proto p = 2 then c % 3 == 2 else c == 2

/-- Split a need of curds and heads over the reserved slice, the shared pool and, for completions, the escape pool (R77,
R80). -/
def splitCharge (need res shr esc : Nat × Nat) (cpl : Bool) : Charge :=
  let r := minP need res
  let n1 := subP need r
  let sh := if cpl then minP n1 shr else n1
  let e := if cpl then minP (subP n1 sh) esc else (0, 0)
  { res := r, shr := addP sh (subP (subP n1 sh) e), esc := e }

/-- The bank words and curds a payload of `n` bytes takes (R67). -/
def wordsOf (n : Nat) : Nat := n / 64
def curdsOf (n : Nat) : Nat := ceilDiv (n / 64) 4

/-- The backing that credit for `h` heads and `d` payload bytes needs (R77). -/
def backing (h d : Nat) : Nat × Nat := (h + ceilDiv d 256, h)

/-! ## Storing a packet -/

/-- The TLP of a packet in or out of the fabric. -/
def Pkt.tlpOf (k : Pkt) : Option Tlp := k.tlp.orElse (fun _ => k.fab.bind (·.tlp))

/-- The banks in service, in ascending order. -/
def State.inService (s : State) : List Nat := (List.range 256).filter (fun b => s.fld F.CHN_BANK_STATE.STATE b == 0)

/-- The words that hold packet data, or that a read still uses after migration (R88). -/
def State.taken (s : State) : List (Nat × Nat) := (s.churn.pkts.map (fun (k : Pkt) => k.words ++ k.old)).flatten

/-- A free word of a bank in `bs` that holds no word of `mates`, the others of its curd (R68), searched from the place `start` names. -/
def pickWord (bs : List Nat) (taken mates : List (Nat × Nat)) (start : Nat) : Nat × Nat :=
  let row (b : Nat) : Option (Nat × Nat) :=
    (List.range (taken.length + 1)).findSome? (fun i =>
      let w := (b, (start + i) % 8192)
      if taken.contains w then none else some w)
  ((List.range bs.length).findSome? (fun i =>
    let b := bs.getD ((start + i) % bs.length) 0
    if mates.any (·.1 == b) then none else row b)).getD (0, 0)

/-- Place `n` words after those placed already, latest first. -/
def placeWords (bs : List Nat) (start : Nat) : Nat → List (Nat × Nat) → List (Nat × Nat) → List (Nat × Nat)
  | 0, _, done => done.reverse
  | n + 1, taken, done =>
    let w := pickWord bs taken (done.take (done.length % 4)) (start + done.length)
    placeWords bs start n (w :: taken) (w :: done)

/-- The places of a payload's words: any free word of any in-service bank, the four words of a curd in four different
banks (R68).  Where the search begins is a free value (notes/assumptions/3). -/
def State.place (s : State) (n : Nat) : List (Nat × Nat) := placeWords s.inService s.free (wordsOf n) s.taken []

/-- The words of a packet after those in bank `b` have moved, a word at a time from the first (R68, R88). -/
def moveWords (bs : List Nat) (start b : Nat) : List (Nat × Nat) → List (Nat × Nat) → List (Nat × Nat) → List (Nat × Nat)
  | [], _, done => done.reverse
  | w :: l, taken, done =>
    if w.1 = b then
      let curd := done.take (done.length % 4) ++ l.take (3 - done.length % 4)
      let v := pickWord bs taken curd (start + w.2)
      moveWords bs start b l (v :: taken) (v :: done)
    else moveWords bs start b l taken (w :: done)

/-- The class a packet's ordering class is charged to on its ingress: P, NP, Cpl, and on KFL the VC (Table 3.3). -/
def ordCode : OrdClass → Nat
  | .posted => 0 | .nonPosted => 1 | .completion => 2

/-- The credit granted to a class of a port and not used. -/
def State.grantOf (s : State) (p c : Nat) : Option Grant := s.churn.grants.find? (fun (g : Grant) => g.port == p && g.cls == c)

/-- Use one header credit and the data credit of `d` bytes: the backing no longer needed returns to its pools, shared backing
first. -/
def useGrant (g : Grant) (d : Nat) : Grant :=
  let h := g.heads - 1
  let b := g.bytes - d
  let need := backing h b
  let r := minP need g.res
  let n1 := subP need r
  let e := minP n1 g.esc
  { g with heads := h, bytes := b, res := r, esc := e, shr := subP n1 e }

/-- A residue word is free (R86): there are as many as multicast heads. -/
def State.wordFree (s : State) : Bool :=
  decide ((s.churn.pkts.filter (fun (k : Pkt) => k.residue.elim false (·.held))).length < s.mcPool.2)

/-- Multicast packets of an ingress port wait for multicast space (R86). -/
def State.mcWaits (s : State) (p : Nat) : Bool :=
  s.churn.pkts.any (fun (k : Pkt) => k.inPort == p && k.residue.isSome && k.chg.mc == (0, 0))

/-- The time the last word of a packet is written whose header arrives now on a port: its payload bits at the rate of the port; at
once where it came whole (R72).  DEDUCED (notes/assumptions/70): a command brings the packet, at the time of its header. -/
def State.wholeTime (s : State) (k : Pkt) : Nat :=
  if 144 ≤ k.inPort || k.charge == 255 || s.proto k.inPort == 2 || s.portRate k.inPort = 0 then s.now
  else s.now + ceilDiv (80 * k.len) (s.portRate k.inPort)

/-- The time the last word of a packet is written whose end has not come. -/
def never : Nat := 2 ^ 64

/-- A transit packet whose end has not come over its link (R176). -/
def Pkt.coming (k : Pkt) : Bool := k.wholeAt == never

/-- Store a packet: it takes the backing its credit reserved, is charged, placed, named and stamped (R67, R68, R77). -/
def State.store (s : State) (k : Pkt) : State :=
  let s1 := (s.onChurn (fun y => { y with
      grants := s.churn.grants.map (fun (g : Grant) => if g.port = k.inPort && g.cls = k.charge then useGrant g k.len else g) }))
  let need := (curdsOf k.len, 1)
  let chg :=
    if k.residue.isSome && s1.wordFree && alphaOk 3 need s1.mcFree && 0 < s1.mcFree.2 then { mc := need }
    else if k.inPort < 144 && k.charge < 255 then
      splitCharge need (s1.resFree k.inPort k.charge) s1.sharedFree s1.escFree (s1.isCplClass k.inPort k.charge)
    else splitCharge need (0, 0) s1.sharedFree s1.escFree (k.ord == .completion)
  let short := k.residue.isSome && chg.mc == (0, 0)
  let k1 := { k with id := s.churn.nextId, stamp := s.churn.nextId % 2 ^ 32, tIn := s.tb.toNat % 2 ^ 32, chg := chg,
                     residue := k.residue.map (fun r => { r with held := s1.wordFree }), words := s.place k.len, queuedAt := s.now,
                     wholeAt := s.wholeTime k }
  let s2 := (s1.onChurn (fun y => { y with pkts := s1.churn.pkts ++ [k1], nextId := s.churn.nextId + 1 }))
  let s3 := s2.drew
  if short && !s1.mcWaits k.inPort then s3.bump R.CHN_MC_STALL_CNT else s3

/-- The packet of a name. -/
def State.pkt (s : State) (id : Nat) : Option Pkt := s.churn.pkts.find? (·.id == id)

/-- Change the packet of a name. -/
def State.onPkt (s : State) (id : Nat) (f : Pkt → Pkt) : State :=
  { s with churn := { s.churn with pkts := s.churn.pkts.map (fun (k : Pkt) => if k.id = id then f k else k) } }

/-- Free the packets `p` admits: their heads, curds and residue words return to their pools (R82). -/
def State.freePkts (s : State) (p : Pkt → Bool) : State :=
  (s.onChurn (fun y => { y with pkts := s.churn.pkts.filter (fun (k : Pkt) => !p k) }))

/-- Tell the pool events that follow from the free counts: POOL_LOW and MC_SHORT (CHN_STATUS, CHN_EVT). -/
def State.poolEvents (s : State) : State :=
  let low := decide (s.sharedFree.1 < s.fld F.CHN_POOL_WM.WM)
  let short := decide (s.mcFree.1 < 16 || s.mcFree.2 < 1)
  let s1 := (s.whenb (low && !s.flag F.CHN_STATUS.POOL_LOW) (fun s => s.raise F.CHN_EVT.POOL_LOW)).setFld
    F.CHN_STATUS.POOL_LOW 0 (b2n low)
  (s1.whenb (short && !s1.flag F.CHN_STATUS.MC_SHORT) (fun s => s.raise F.CHN_EVT.MC_SHORT)).setFld
    F.CHN_STATUS.MC_SHORT 0 (b2n short)

/-- Whether a packet from `i` to `e` goes store-and-forward (R72): the egress is faster, the ingress is not in FLIT mode, a
narrowing request marks the ingress (R73), or FORCE_SF is set.  The inner sources, Malacel and the data mover, have no
port; their packets are whole before egress. -/
def State.storeForward (s : State) (i e : Nat) : Bool :=
  s.flag F.CHN_CFG.FORCE_SF || s.churn.narrowing.contains i ||
    (if i < 144 then (s.proto i != 2 && !s.flag F.PCL_PORT_STATUS.FLIT i) || decide (s.portRate i < s.portRate e)
     else true)

/-- Decide for each destination in `ps` of a stored packet (R72): SF records those that chose store-and-forward, and each counts at
its egress and for the device. -/
def State.decideSf (s : State) (id : Nat) (ps : List Nat) : State :=
  match s.pkt id with
  | none => s
  | some k =>
    let l := ps.filter (fun q => s.storeForward k.inPort q)
    (s.onPkt id (fun k => { k with sfAt := l })).each l (fun s q =>
      (s.whenb (q < 144) (fun s => s.bump R.CHN_PORT_SF_CNT q)).stat R.CHN_SF_PKTS_LO R.CHN_SF_PKTS_HI 0 1)

/-- Store a packet that leaves by a local port, and decide how (R72). -/
def State.storeTo (s : State) (k : Pkt) : State := (s.store k).decideSf s.churn.nextId [k.dest]

/-- The read of a packet at a port may begin: it is cut-through there, or the packet is whole (R72). -/
def State.readable (s : State) (k : Pkt) (q : Nat) : Bool := !k.sfAt.contains q || decide (k.wholeAt ≤ s.now)

/-- A cut-through packet from a port is not fully written yet (R73). -/
def State.cutThroughFrom (s : State) (p : Nat) : Bool :=
  s.churn.pkts.any (fun (k : Pkt) => k.inPort == p && decide (s.now < k.wholeAt) && !(k.residue.isNone && k.sfAt.contains k.dest))

/-- A cut-through packet is in progress toward a port (R73). -/
def State.cutThroughTo (s : State) (p : Nat) : Bool :=
  s.churn.pkts.any (fun (k : Pkt) => k.readers.contains p && !k.sfAt.contains p)

/-! ## Multicast (R82 to R86) -/

/-- The ports of a bitmap. -/
def portsIn (b : BitVec 144) : List Nat := allPorts.filter (fun p => b.getLsbD p)

/-- The bitmap of a port. -/
def portBit (p : Nat) : BitVec 144 := BitVec.ofNat 144 (2 ^ p)

/-- Clear a port from a residue. -/
def Residue.clear (r : Residue) (p : Nat) : Residue := { r with residue := r.residue &&& ~~~(portBit p) }

/-- Strike a port from a residue. -/
def Residue.strike (r : Residue) (p : Nat) : Residue := { r.clear p with struck := r.struck ||| portBit p }

/-- End a packet on an egress that has sent its header (R74). -/
def State.nullifyAt (s : State) (id q : Nat) : State :=
  ((s.emit (.nullified q id)).bump R.CHN_NULLIFY_CNT).raise F.CHN_EVT.NULLIFY

/-- A read of a packet ends: the place migration left is free once no read uses it (R88). -/
def Pkt.unread (k : Pkt) (q : Nat) : Pkt :=
  let o := k.oldReaders.filter (· != q)
  { k with readers := k.readers.filter (· != q), oldReaders := o, old := if o.isEmpty then [] else k.old }

/-- A packet that has sent its header on a port ends early there (R74, R176). -/
def State.stopRead (s : State) (id q : Nat) : State :=
  ((s.nullifyAt id q).whenb (s.isFabric q) (fun s => s.kflAbort (controllerOf q) id)).onPkt id (·.unread q)

/-- The link of ingress port `p` is lost: a packet not fully written ends on every egress that has sent its header, and no other
destination receives it (R74). -/
def State.ingressLost (s : State) (p : Nat) : State :=
  let cut (k : Pkt) : Bool := k.inPort == p && decide (s.now < k.wholeAt)
  (s.each (s.churn.pkts.filter cut) (fun s k => s.each k.readers (fun s q => s.stopRead k.id q))).freePkts cut

/-- Strike port `q` from every multicast packet at once (R83): each strike counts, a read in progress stops and is nullified
(Table 3.9), and packets whose residue empties are freed. -/
def State.strikePort (s : State) (q : Nat) : State :=
  let hit := s.churn.pkts.filter (fun (k : Pkt) => match k.residue with | some r => r.residue.getLsbD q | none => false)
  let s1 := s.each hit (fun s k =>
    let s1 := (s.bump R.CHN_MC_STRIKE_CNT).raise F.CHN_EVT.MC_STRIKE
    let s2 := s1.whenb (k.readers.contains q) (fun s => s.stopRead k.id q)
    s2.onPkt k.id (fun k => { k with residue := k.residue.map (·.strike q) }))
  s1.freePkts (fun k => match k.residue with | some r => r.residue == 0 && k.readers.isEmpty | none => false)

/-- A destination has finished reading a packet (R82): a multicast packet loses its RESIDUE bit and is freed when no bit is
left; a unicast packet is freed. -/
def State.readDone (s : State) (id q : Nat) : State :=
  match s.pkt id with
  | none => s
  | some k =>
    match k.residue with
    | none => s.freePkts (·.id == id)
    | some r =>
      let r1 := r.clear q
      let s1 := s.onPkt id (fun k => { k.unread q with residue := some r1 })
      s1.whenb (r1.residue == 0) (fun s => s.freePkts (·.id == id))

/-- A multicast packet held in ingress backing takes a residue word when one is free, and is re-charged to the multicast pool
when it holds a word and space is free (R86). -/
def State.recharge (s : State) (id : Nat) : State :=
  match s.pkt id with
  | none => s
  | some k =>
    let need := (curdsOf k.len, 1)
    match k.residue with
    | none => s
    | some r =>
      if k.chg.mc != (0, 0) || !(r.held || s.wordFree) then s
      else
        let s1 := s.onPkt id (fun k => { k with residue := some { r with held := true } })
        if need.1 ≤ s1.mcFree.1 && 1 ≤ s1.mcFree.2 then
          s1.onPkt id (fun k => { k with chg := { mc := need } })
        else s1

/-! ## Banks (R87 to R90) -/

/-- Banks that have failed. -/
def State.failedBanks (s : State) : Nat := ((List.range 256).filter (fun b => s.fld F.CHN_BANK_STATE.STATE b == 6)).length

/-- Show the count of failed banks. -/
def State.showFailed (s : State) : State :=
  let n := s.failedBanks
  (s.setFld F.CHN_STATUS.FAILED_BANKS 0 n).setFld F.CHN_ROT_STATUS.FAILED_BANKS 0 n

/-- The next bank in ascending number after `b`, wrapping at 255 and skipping failed and retiring banks. -/
def State.nextBank (s : State) (b : Nat) : Option Nat :=
  ((List.range 256).map (fun k => (b + 1 + k) % 256)).find? (fun c => s.fld F.CHN_BANK_STATE.STATE c == 0)

/-- Live words of a bank. -/
def State.wordsLive (s : State) (b : Nat) : Nat :=
  (s.churn.pkts.map (fun (k : Pkt) => (k.words.filter (·.1 == b)).length)).foldl (· + ·) 0

/-- Start step 1 of Table 3.10: the spare joins service, the next bank starts draining.  A step with no spare needs the free
shared curds to cover the bank (R87). -/
def State.rotate (s : State) (next : Option Nat) : State :=
  match next with
  | none => s
  | some b =>
    let hasSpare := s.flag F.CHN_ROT_STATUS.SPARE_VALID
    if !hasSpare && s.sharedFree.1 < 2048 then s
    else
      let s1 := s.whenb hasSpare (fun s => s.setFld F.CHN_BANK_STATE.STATE (s.fld F.CHN_ROT_STATUS.SPARE_BANK) 0)
      let s2 := (s1.setFld F.CHN_BANK_STATE.STATE b 1).setFld F.CHN_ROT_STATUS.STEP_BANK 0 b
      let s3 := ((s2.setFld F.CHN_ROT_STATUS.STEP_STATE 0 1).setFld F.CHN_ROT_STATUS.SPARE_VALID 0 0).setFld
        F.CHN_STATUS.ROT_ACTIVE 0 1
      (s3.arm .drainBank b (us (s3.fld F.CHN_ROT_CTRL.DRAIN_US))).demandStep

/-- Rotation goes on: enabled, and no bank has failed or is being retired unless ROT_AFTER_FAIL is set (R87, R89). -/
def State.rotating (s : State) : Bool :=
  s.flag F.CHN_ROT_CTRL.ENABLE && ((s.failedBanks == 0 && s.churn.retiring.isEmpty) || s.flag F.CHN_ROT_CTRL.ROT_AFTER_FAIL)

/-- A step that takes a bank out of service without a spare waits for the free shared curds that cover it; they are not spent on new
grants (R87). -/
def State.bankWaits (s : State) : Bool :=
  !s.flag F.CHN_ROT_STATUS.SPARE_VALID &&
    (!s.churn.retireWait.isEmpty || (s.due .rotation 0 && s.rotating) ||
      (s.fld F.CHN_ROT_STATUS.STEP_STATE == 0 && s.churn.namedTest.elim false (fun b => s.fld F.CHN_BANK_STATE.STATE b == 0)))

/-- The backing of a grant of `h` header credits and `d` payload bytes at a port: a KFL credit is one head and two curds (R77,
R185). -/
def State.grantNeed (s : State) (p h d : Nat) : Nat × Nat := if s.proto p = 2 then (2 * h, h) else backing h d

/-- What a grant is charged, when the limits of R78 and R87 let it be made: reserved, then shared, and for completions the escape pool
where the shared pool may not give it (R77, R80). -/
def State.grantCharge (s : State) (p c : Nat) (need : Nat × Nat) : Option Charge :=
  let cpl := s.isCplClass p c
  let free := s.sharedFree
  let room := if s.bankWaits then free.1 - 2048 else free.1
  let ok (g : Charge) : Bool :=
    g.shr == (0, 0) || (alphaOk (s.alphaOf p) (addP (s.sharedHeld p) g.shr) (subP free g.shr) && g.shr.1 ≤ room && g.shr.2 ≤ free.2)
  let a := splitCharge need (s.resFree p c) free s.escFree cpl
  let b := splitCharge need (s.resFree p c) (0, 0) s.escFree cpl
  if ok a then some a else if cpl && ok b then some b else none

/-- The grant of a class of a port, with more heads and bytes and what they are charged. -/
def State.grantMore (s : State) (p c h d : Nat) (chg : Charge) : State :=
  let g : Grant := (s.grantOf p c).getD { port := p, cls := c, heads := 0, bytes := 0, res := (0, 0), shr := (0, 0), esc := (0, 0) }
  let more := { g with heads := g.heads + h, bytes := g.bytes + d, res := addP g.res chg.res, shr := addP g.shr chg.shr,
                       esc := addP g.esc chg.esc }
  s.onChurn (fun y => { y with grants := y.grants.filter (fun (x : Grant) => !(x.port == p && x.cls == c)) ++ [more] })

/-- The limit of R419 lets an issuer in the core, Malacel (144) or the data mover (145), store a packet of `n` payload bytes more. -/
def State.innerRoom (s : State) (p n : Nat) : Bool :=
  let need := (curdsOf n, 1)
  alphaOk 2 (addP (s.sharedHeld p) need) (subP s.sharedFree need) && need.1 ≤ s.sharedFree.1 && need.2 ≤ s.sharedFree.2

/-- A bank becomes FAILED (R89): event, journal, and on the ninth a fatal fault, which the caller enters. -/
def State.failBank (s : State) (b : Nat) : State :=
  let s1 := (s.setFld F.CHN_BANK_STATE.STATE b 6).showFailed
  ((s1.raise F.CHN_EVT.BANK_FAIL).journal 0x0601 { detail := b }).demandStep

/-- A bank is retired (R89): it leaves the free lists and drains.  Without a spare it first waits for the free shared curds that cover
it (R87). -/
def State.retireBank (s0 : State) (b : Nat) : State :=
  let s := s0.onChurn (fun y => { y with retireWait := y.retireWait.filter (· != b) })
  let hasSpare := s.flag F.CHN_ROT_STATUS.SPARE_VALID
  if s.fld F.CHN_BANK_STATE.STATE b ≠ 0 then s
  else if !hasSpare && s.sharedFree.1 < 2048 then s.onChurn (fun y => { y with retireWait := y.retireWait ++ [b] })
  else
    let s1 := s.whenb hasSpare (fun s =>
      (s.setFld F.CHN_BANK_STATE.STATE (s.fld F.CHN_ROT_STATUS.SPARE_BANK) 0).setFld F.CHN_ROT_STATUS.SPARE_VALID 0 0)
    let s2 := s1.setFld F.CHN_BANK_STATE.STATE b 5
    (((s2.onChurn (fun y => { y with retiring := b :: s2.churn.retiring }))).arm .drainBank b
      (us (s.fld F.CHN_ROT_CTRL.DRAIN_US))).demandStep

/-- Retirements that waited start as soon as the free shared curds cover them (R87). -/
def State.retireDue (s : State) : State := s.each s.churn.retireWait State.retireBank

/-- A corrected error in a bank word (R69, R89): counted, journalled, and the bank is retired at CE_LIMIT. -/
def State.bankCe (s : State) (b : Nat) : State :=
  let s1 := (((s.bump R.CHN_ECC_CE_CNT).bump R.CHN_BANK_CE_CNT b).raise F.CHN_EVT.ECC_CE).journal 0x0201 { detail := b }
  let n := (look b s1.churn.cycleCe).getD 0 + 1
  let s2 := (s1.onChurn (fun y => { y with cycleCe := put b n s1.churn.cycleCe }))
  s2.whenb (s2.fld F.CHN_ROT_CTRL.CE_LIMIT ≤ n && s2.fld F.CHN_BANK_STATE.STATE b == 0) (fun s =>
    (s.setFld F.CHN_BANK_STATE.CE_LIMIT_HIT b 1).retireBank b)

/-- An uncorrectable error in a bank word (R69, R89): counted, captured first, and the bank is retired. -/
def State.bankUe (s : State) (b row : Nat) : State :=
  let s1 := (s.bump R.CHN_ECC_UE_CNT).raise F.CHN_EVT.ECC_UE
  let s2 := s1.whenb (!s1.flag F.CHN_ECC_FIRST_UE.VALID) (fun s =>
    ((s.setFld F.CHN_ECC_FIRST_UE.BANK 0 b).setFld F.CHN_ECC_FIRST_UE.ROW 0 row).setFld F.CHN_ECC_FIRST_UE.VALID 0 1)
  (s2.setFld F.CHN_BANK_STATE.UE_SEEN b 1).retireBank b

end Sys2Proof.Machine
end

