-- ==== Sys2Proof/Machine/Qos.lean ====
section
/-! DEFINITION. Traffic control (chapter 08): accounted length, buckets, the policer meter, the port map, gates, and the
choice of the next packet at an egress port. -/

namespace Sys2Proof.Machine

/-! ## Accounted length (R225) -/

/-- The TLP bytes of a packet: header and payload; CXL.mem requests and responses count 16 or 80, side-band items 8. -/
def Pkt.tlpBytes (k : Pkt) : Nat :=
  match k.tlp with
  | none => if (k.fab.bind (·.side)).isSome then 8 else k.hdrLen + k.len
  | some t => match t.kind with
    | .cxlMemRd | .cxlNdr => 16
    | .cxlMemWr | .cxlDrs => 80
    | _ => k.hdrLen + k.len

/-- The accounted length under an ACCT bit and OVH field. -/
def Pkt.accounted (k : Pkt) (acct : Bool) (ovh : Nat) : Nat := k.tlpBytes + if acct then ovh else 0

/-! ## Buckets (R226, R235, R236): tokens in 1/1,024 byte -/

/-- The buckets traffic control has. -/
inductive BucketId where
  | polC (p : Nat) | polP (p : Nat) | node (n : Nat) | nodeCs (n : Nat) | sq (k : Nat) | sqCs (k : Nat) | port (q : Nat)
  deriving DecidableEq, Repr

/-- The key of a bucket. -/
def BucketId.key : BucketId → Nat
  | .polC p => p | .polP p => 4096 + p | .node n => 8192 + n | .nodeCs n => 12288 + n
  | .sq k => 16384 + k | .sqCs k => 65536 + k | .port q => 131072 + q

/-- The rate, in Mb/s, and the size, in bytes, of a bucket. -/
def State.bucketCfg (s : State) : BucketId → Nat × Nat
  | .polC p => (s.fld F.QOS_POL_CIR.RATE p, s.fld F.QOS_POL_CBS.SIZE p)
  | .polP p => (s.fld F.QOS_POL_PIR.RATE p, s.fld F.QOS_POL_PBS.SIZE p)
  | .node n => (s.fld F.QOS_NODE_RATE.RATE n, s.fld F.QOS_NODE_BURST.SIZE n)
  | .nodeCs n => (s.fld F.QOS_NODE_CS_RATE.RATE n, s.fld F.QOS_NODE_CS_HI.HI n)
  | .sq k => (s.fld F.QOS_SQ_RATE.RATE k, s.fld F.QOS_SQ_BURST.SIZE k)
  | .sqCs k => (s.fld F.QOS_SQ_CS_RATE.RATE k, s.fld F.QOS_SQ_CS_HI.HI k)
  | .port q => (s.fld F.QOS_PORT_RATE.RATE q, s.fld F.QOS_PORT_BURST.SIZE q)

/-- A credit shaper, which starts at credit 0; the others start full (R226, R235). -/
def BucketId.isCredit : BucketId → Bool
  | .nodeCs _ | .sqCs _ => true
  | _ => false

/-! ## Nodes and classes (R231 to R233) -/

/-- The default of an entry of the node-attach table: nodes 0 to 143 are attached to their ports (R246). -/
def attachDefault (n : Nat) : BitVec 512 := if n < 144 then BitVec.ofNat 512 (0x100 + n) else 0

/-- The entry of a table, zero when not listed. -/
def entry (l : List (Nat × BitVec 512)) (i : Nat) : BitVec 512 := (look i l).getD 0

/-- A field of a table entry. -/
def ef (e : BitVec 512) (lo w : Nat) : Nat := bits e.toNat lo w

/-- The ATTACH entry of a node in a bank. -/
def Bank.attachOf (b : Bank) (n : Nat) : BitVec 512 := (look n b.attach).getD (attachDefault n)

/-- A node is attached to a port in the active bank. -/
def State.attached (s : State) (n q : Nat) : Bool :=
  let e := s.bnd.active.attachOf n
  ef e 8 1 == 1 && ef e 0 8 == q

/-- The port map's node for a VH at a port, or the default node of the port. -/
def State.nodeByMap (s : State) (q v : Nat) : Nat :=
  let e := entry s.bnd.active.portmap (144 * q + v)
  if ef e 12 1 = 1 then ef e 0 12 else q

/-- The node a packet of VH `v` enters at egress port `q` (R232); `sub` is the SUBSCRIBER of the binding it is addressed to
when that binding's PORT is `q`. -/
def State.nodeFor (s : State) (q v : Nat) (sub : Option Nat) : Nat :=
  match sub with
  | some n => if s.attached n q then n else s.nodeByMap q v
  | none => s.nodeByMap q v

/-- The service class of a TC at a node (R233). -/
def State.classAt (s : State) (n tc : Nat) : Nat := bits (s.rd R.QOS_NODE_TCMAP n).toNat (3 * tc) 3

/-! ## Buckets now -/

/-- What a rate in Mb/s brings in `dt` ns, in 1/1,024 byte (R226). -/
def refill (rate dt : Nat) : Nat := rate * dt * 1024 / 8000

/-- A packet is queued in a node, in one of its classes where `c` names one: it waits there or is being sent. -/
def State.queuedIn (s : State) (n : Nat) (c : Option Nat) (k : Pkt) : Bool :=
  let at_ (m d : Nat) : Bool := m == n && c.elim true (· == d)
  !k.held && k.want.isNone &&
    (match k.residue with
     | some r => r.held && allPorts.any (fun q => r.residue.getLsbD q &&
         at_ (s.nodeFor q k.vh none) (s.classAt (s.nodeFor q k.vh none) k.tc))
     | none => k.dest < 144 && at_ k.node k.cls)

/-- The credit of a credit shaper now (R236): it rises while its child or node has a packet, and while it is negative; after
an idle time it is no higher than 0.  The child has had a packet since the oldest one there joined. -/
def State.credit (s : State) (b : BucketId) (rate size : Nat) (k : Bucket) : Bucket :=
  let l := match b with
    | .nodeCs n => s.churn.pkts.filter (s.queuedIn n none)
    | .sqCs i => s.churn.pkts.filter (s.queuedIn (i / 8) (some (i % 8)))
    | _ => []
  let dt := s.tb.toNat - k.last
  let busy := match l with
    | [] => 0
    | p :: ps => min dt (s.now - ps.foldl (fun m (x : Pkt) => min m x.queuedAt) p.queuedAt)
  let v : Int := if busy = dt then k.tokens else min 0 (k.tokens + (refill rate (dt - busy) : Nat))
  ⟨min (size * 1024 : Nat) (v + (refill rate busy : Nat)), s.tb.toNat⟩

/-- A bucket now: refilled by RATE × Δt / 8,000 bytes and capped at its size (R226, R235), or the credit of a credit shaper.
Buckets start full, credit at 0. -/
def State.bucket (s : State) (b : BucketId) : Bucket :=
  let (rate, size) := s.bucketCfg b
  let k := (look b.key s.qos.buckets).getD ⟨if b.isCredit then 0 else (size * 1024 : Nat), 0⟩
  if !b.isCredit then ⟨min (size * 1024 : Nat) (k.tokens + (refill rate (s.tb.toNat - k.last) : Nat)), s.tb.toNat⟩
  else if rate = 0 then ⟨0, s.tb.toNat⟩
  else s.credit b rate size k

/-- Store a bucket. -/
def State.setBucket (s : State) (b : BucketId) (v : Bucket) : State :=
  (s.onQos (fun y => { y with buckets := put b.key v s.qos.buckets }))

/-- Take `n` bytes from a bucket, refilled first; a shaper of rate 0 is off (R235, R236). -/
def State.spend (s : State) (b : BucketId) (n : Nat) : State :=
  let k := s.bucket b
  if (s.bucketCfg b).1 = 0 then s else s.setBucket b { k with tokens := k.tokens - (n * 1024 : Nat) }

/-- A shaper lets its child go: it is off, or holds tokens (credit) of at least 0 (R234). -/
def State.shaperOk (s : State) (b : BucketId) : Bool := (s.bucketCfg b).1 == 0 || decide (0 ≤ (s.bucket b).tokens)

/-- The tokens of a bucket after its rate and size change (R243).  `old` is the setting before the write. -/
def State.reconfigure (s : State) (b : BucketId) (old : Nat × Nat) (tokens : Int) (tokInit : Bool) : State :=
  let (rate, size) := s.bucketCfg b
  if old = (rate, size) then s
  else
    let v : Int :=
      if b.isCredit then 0
      else if s.flag F.QOS_CFG.DK96_TOKENS then min tokens (size * 1024 : Nat)
      else if tokInit then (size * 1024 : Nat) else 0
    s.setBucket b ⟨v, s.tb.toNat⟩

/-! ## The policer meter (R226 to R229) -/

/-- The colour of a request. -/
inductive Colour where
  | green | yellow | red
  deriving DecidableEq, Repr

/-- Meter `b` accounted bytes at policer `p` (R226); with CIR 0 every admitted packet is yellow (R230). -/
def State.meter (s : State) (p b : Nat) : Colour × State :=
  let tp := s.bucket (.polP p)
  let tc := s.bucket (.polC p)
  let n : Int := (b * 1024 : Nat)
  if tp.tokens < n then (.red, (s.setBucket (.polP p) tp).setBucket (.polC p) tc)
  else if s.fld F.QOS_POL_CIR.RATE p = 0 || decide (tc.tokens < n) then (.yellow, (s.setBucket (.polP p) { tp with tokens := tp.tokens - n }).setBucket (.polC p) tc)
  else (.green, (s.setBucket (.polP p) { tp with tokens := tp.tokens - n }).setBucket (.polC p) { tc with tokens := tc.tokens - n })

/-- The accounted length of a packet at a policer. -/
def State.policed (s : State) (p : Nat) (k : Pkt) : Nat :=
  k.accounted (s.flag F.QOS_POL_CFG.ACCT p) (s.fld F.QOS_POL_CFG.OVH p)

/-- Held units of a policer: curds plus packets (R229). -/
def State.heldUnits (s : State) (p : Nat) : Nat :=
  ((s.qos.holds.filter (·.policer == p)).map (fun h => 1 + curdsOf ((s.pkt h.pkt).elim 0 (·.len)))).foldl (· + ·) 0

/-- Show what a policer holds, and enter or leave the full state (R229). -/
def State.showHolds (s : State) (p : Nat) : State :=
  let n := s.heldUnits p
  let hm := s.fld F.QOS_POL_CFG.HOLD_MAX p
  let mine := s.qos.holds.filter (·.policer == p)
  let s1 := ((s.setFld F.QOS_POL_STATUS.HELD p n).setFld F.QOS_POL_STATUS.HOLDING_P p (b2n (mine.any (fun h => !h.np)))).setFld
    F.QOS_POL_STATUS.HOLDING_NP p (b2n (mine.any (·.np)))
  let s2 := s1.setFld F.QOS_STATUS.ANY_HOLDING 0 (b2n !s.qos.holds.isEmpty)
  if hm ≤ n && !s2.flag F.QOS_POL_STATUS.FULL p then
    ((((s2.setFld F.QOS_POL_STATUS.FULL p 1).raise F.QOS_EVT.HOLD_FULL).bump R.QOS_HOLD_FULL_CNT).bump
      R.QOS_POL_HOLD_FULL_CNT p).setFld F.QOS_STATUS.FULL_POLICERS 0 (s2.fld F.QOS_STATUS.FULL_POLICERS + 1)
  else if n ≤ hm - 64 && s2.flag F.QOS_POL_STATUS.FULL p then
    (s2.setFld F.QOS_POL_STATUS.FULL p 0).setFld F.QOS_STATUS.FULL_POLICERS 0 (s2.fld F.QOS_STATUS.FULL_POLICERS - 1)
  else s2

/-- Put a packet in the hold queue of a policer (R228). -/
def State.hold (s : State) (p : Nat) (k : Pkt) (behind : Option Nat) (metered : Bool) : State :=
  (((s.onPkt k.id (fun k => { k with held := true })).onQos (fun y => { y with holds := s.qos.holds ++ [⟨k.id, p, k.ord == .nonPosted, behind, metered⟩] }))).showHolds p

/-- Count an admitted packet by its colour (Table 8.5). -/
def State.countColour (s : State) (p b : Nat) : Colour → State
  | .green => s.stat R.QOS_POL_GREEN_LO R.QOS_POL_GREEN_HI p b
  | .yellow => s.stat R.QOS_POL_YELLOW_LO R.QOS_POL_YELLOW_HI p b
  | .red => s

/-- Two packets stand in one ordering domain (R81). -/
def Pkt.sameDomain (a b : Pkt) : Bool := a.inPort == b.inPort && a.dest == b.dest && a.vh == b.vh && a.tc == b.tc

/-- A packet of the same binding and ordering domain, older than `k`, that another policer than `p` holds (R244). -/
def State.heldBefore (s : State) (p : Nat) (k : Pkt) (h : Hold) : Bool :=
  h.policer != p && decide (h.pkt < k.id) && (s.pkt h.pkt).elim false (fun x => x.binding == k.binding && x.sameDomain k)

/-- Police a stored packet at policer `p` (R228, R244): a queue that is not empty takes it unmetered; a packet behind one of
its binding and domain in another policer waits there; else it is metered, and red is held. -/
def State.police (s : State) (p : Nat) (k : Pkt) : State :=
  if !s.flag F.QOS_POL_CFG.ENABLE p then s
  else
    let np := k.ord == .nonPosted
    match s.qos.holds.find? (s.heldBefore p k) with
    | some h => (s.hold p k (some h.pkt) false).bump R.QOS_MOVE_WAIT_CNT
    | none =>
      if s.qos.holds.any (fun (h : Hold) => h.policer == p && h.np == np) then s.hold p k none false
      else
        let b := s.policed p k
        match s.meter p b with
        | (.red, s1) => (s1.hold p k none true).bump R.QOS_POL_RED_CNT p
        | (c, s1) => (s1.countColour p b c).onPkt k.id (fun k => { k with yellow := c == .yellow })

/-! ## Gates (R239 to R242) -/

/-- Gates and duration of a list entry. -/
def gates (w : Word) : Nat := bits w.toNat 0 8
def duration (w : Word) : Nat := bits w.toNat 8 24

/-- A list cut or extended to its cycle: gates and length of each stretch (R239). -/
def cutList (cycle : Nat) : List Word → List (Nat × Nat)
  | [] => []
  | [w] => [(gates w, cycle)]
  | w :: l => if cycle ≤ duration w then [(gates w, cycle)] else (gates w, duration w) :: cutList (cycle - duration w) l

/-- The operating list of a port. -/
def State.operList (s : State) (q : Nat) : List Word :=
  (List.range (s.fld F.QOS_GCL_STATUS.OPER_LAST q + 1)).map (fun e => (look (256 * q + e) s.qos.gclOper).getD 0)

/-- Gates are in force at a port (R239). -/
def State.gated (s : State) (q : Nat) : Bool := s.flag F.QOS_GCL_CTRL.GATE_EN q && s.flag F.QOS_GCL_STATUS.OPER_VALID q

/-- A class's gate is open at a port; one that a packet has overrun stays open until the packet ends (R240). -/
def State.gateOpen (s : State) (q c : Nat) : Bool :=
  !s.gated q || bits (s.fld F.QOS_GCL_STATUS.CUR_GATES q) c 1 == 1 ||
    s.qos.overrun.any (fun e => e.1 == q && e.2.1 == c && (s.pkt e.2.2).elim false (·.readers.contains q))

/-- The stretch of a cycle that a position falls in, and the time to its end. -/
def stretchAt : List (Nat × Nat) → Nat → Nat × Nat
  | [], _ => (0, 0)
  | [(_, d)], t => (0, d - t)
  | (_, d) :: l, t => if t < d then (0, d - t) else let (i, left) := stretchAt l (t - d); (i + 1, left)

/-- How long a class stays open over consecutive stretches. -/
def openRun (c : Nat) : List (Nat × Nat) → Nat
  | [] => 0
  | (g, d) :: l => if bits g c 1 = 1 then d + openRun c l else 0

/-- The longest window of a class in the cycle, across the cycle boundary. -/
def longestWindow (c : Nat) (l : List (Nat × Nat)) : Nat :=
  ((List.range l.length).map (fun i => min (openRun c (l.drop i ++ l.take i)) ((l.map (·.2)).foldl (· + ·) 0))).foldl max 0

/-- The first cycle start not earlier than now (R241). -/
def cycleStart (base cycle now : Nat) : Nat := if now ≤ base then base else base + ceilDiv (now - base) cycle * cycle

/-- The time until the class's gate next closes, counted from now (R240), the held entry's
rest included (R242); none when it never closes. -/
def State.untilClose (s : State) (q c : Nat) : Option Nat :=
  match look q s.qos.gclRun with
  | none => none
  | some (cycle, _) =>
    let l := cutList cycle (s.operList q)
    if l.all (fun e => bits e.1 c 1 == 1) then none
    else
      let i := if s.qos.gclHeld.contains q then 0 else s.fld F.QOS_GCL_STATUS.CUR_ENTRY q + 1
      some ((look q s.qos.gclNext).getD 0 - s.tb.toNat + openRun c (l.drop i ++ l))

/-- A window of a class begins now: its entry begins, and the entry before has the gate closed (R240). -/
def State.windowBegins (s : State) (q c : Nat) : Bool :=
  match look q s.qos.gclRun with
  | none => false
  | some (cycle, base) =>
    let l := cutList cycle (s.operList q)
    let i := s.fld F.QOS_GCL_STATUS.CUR_ENTRY q
    let start := ((l.take i).map (·.2)).foldl (· + ·) 0
    let last := (l.getD ((i + l.length - 1) % max 1 l.length) (0xFF, 0)).1
    !s.qos.gclHeld.contains q && bits last c 1 == 0 && (s.tb.toNat - base) % cycle == start

/-- A packet fits its gate, or must overrun it: none does not start, `some true` overruns (R240). -/
def State.gateFit (s : State) (q c bytes : Nat) : Option Bool :=
  if !s.gateOpen q c then none
  else if !s.gated q then some false
  else
    match s.untilClose q c with
    | none => some false
    | some left =>
      let n := (bytes + s.fld F.QOS_PORT_CFG.OVH q) * 8 * 10
      let r := s.portRate q
      if n ≤ left * r then some false
      else
        match look q s.qos.gclRun with
        | none => some false
        | some (cycle, _) =>
          let l := cutList cycle (s.operList q)
          if longestWindow c l * r < n && s.windowBegins q c then some true else none

/-! ## The choice at an egress port (R233, R234, R237) -/

/-- A packet waits at port `q` to be sent: not held, no tracker entry to take, `q` not served or being read. -/
def Pkt.waitsAt (k : Pkt) (q : Nat) : Bool :=
  !k.held && k.want.isNone && !k.readers.contains q &&
    (match k.residue with
     | some r => r.held && r.residue.getLsbD q
     | none => k.dest == q)

/-- The node a packet waits in at a port: multicast packets by the port map (R232). -/
def State.nodeAt (s : State) (k : Pkt) (q : Nat) : Nat := if k.residue.isSome then s.nodeFor q k.vh none else k.node

/-- The class a packet waits in at a port. -/
def State.clsAt (s : State) (k : Pkt) (q : Nat) : Nat :=
  if k.residue.isSome then s.classAt (s.nodeFor q k.vh none) k.tc else k.cls

/-- The ID that ID-based ordering goes by: a request's requester, a completion's completer.  PRESUMED: the PCI Express Base
Specification (notes/assumptions/20). -/
def idoId (t : Tlp) : BitVec 16 := if t.kind.ord = .completion then t.cplId else t.rid

/-- A younger packet may pass an older posted one: RO permits it, or IDO where their IDs differ, and the older is blocked (R81). -/
def mayPass (k j : Pkt) (c : PartnerCredit) : Bool :=
  !c.p && j.ord == .posted && k.ord != .posted &&
    (match k.tlpOf, j.tlpOf with
     | some t, some u => t.ro || (t.ido && idoId t != idoId u)
     | _, _ => false)

/-- A packet stands before port `q`, unicast or as a copy of a multicast packet, and has not begun to leave on it. -/
def Pkt.standsAt (k : Pkt) (q : Nat) : Bool :=
  !k.readers.contains q && (match k.residue with
    | some r => r.residue.getLsbD q
    | none => k.dest == q)

/-! Flow sequence numbers (R153) -/

/-- The successor in the space of FSEQ values (R153). -/
def seqNext (n : Nat) : Nat := if n = 65535 then 1 else n + 1

/-- The distance from `a` to `b` (R153). -/
def seqDist (a b : Nat) : Nat := (b + 65535 - a) % 65535

/-- A source never sends a sprayed packet 512 or more past the last EXPECT acknowledged; one that precedes it is not past it (R153,
R155). -/
def State.windowOk (s : State) (k : Pkt) : Bool :=
  match k.fab with
  | none => true
  | some f =>
    if f.hdr.pin || f.hdr.src != s.ownFeid then true
    else
      match s.fab.sends.find? (fun (e : SendEntry) => e.dst == f.hdr.dst && e.vh == f.hdr.vh && e.ord == f.hdr.ord) with
      | some e => let d := seqDist e.acked f.hdr.fseq; decide (d < 512 || 32767 < d)
      | none => true

/-- A packet waits in a node it would not enter now: its SUBSCRIBER, the port map or ATTACH has changed (R244). -/
def State.leftNode (s : State) (j : Pkt) (q : Nat) : Bool :=
  let b := entry s.bnd.active.bind j.binding
  let aimed := j.binding < 4096 && j.ord != .completion && ef b 1 3 != 2 && ef b 1 3 != 3 && ef b 18 8 == q
  j.residue.isNone && s.nodeFor q j.vh (if aimed then some (ef b 95 12) else none) != j.node

/-- R81 and R244 let packet `k` leave its queues at `q`: no older packet of its domain and class, none of its domain in the
node it has left, and no older posted packet it may not pass. -/
def State.permitted (s : State) (q : Nat) (c : PartnerCredit) (k : Pkt) : Bool :=
  c.ok k.ord && s.windowOk k && s.fabCredit k q && s.readable k q &&
  !s.churn.pkts.any (fun (j : Pkt) =>
    decide (j.id < k.id) && j.inPort == k.inPort && j.vh == k.vh && j.tc == k.tc && j.standsAt q &&
      (j.ord == k.ord || (j.ord == .posted && !mayPass k j c) || (j.waitsAt q && s.nodeAt j q != s.nodeAt k q && s.leftNode j q)))

/-- The head a service queue offers: the oldest permitted packet; at equal T_IN posted, then completion (R233). -/
def State.headOf (s : State) (q n c : Nat) (pc : PartnerCredit) : Option Pkt :=
  let l := s.churn.pkts.filter (fun (k : Pkt) => k.waitsAt q && s.nodeAt k q == n && s.clsAt k q == c && s.permitted q pc k)
  let rank (k : Pkt) : Nat := match k.ord with | .posted => 0 | .completion => 1 | .nonPosted => 2
  l.foldl (fun b k => match b with
    | none => some k
    | some j => if k.tIn < j.tIn || (k.tIn == j.tIn && rank k < rank j) then some k else some j) none

/-- One child in an arbitration: its number, priority, weight, and the packet at its head. -/
structure Child where
  idx : Nat
  prio : Nat
  weight : Nat
  len : Nat
  pkt : Pkt

/-- Deficit round robin from the child whose turn it is (R234): each child passed gains its quantum. -/
def drr (key : Nat → Nat) : Nat → List Child → List (Nat × Int) → Option (Child × List (Nat × Int))
  | 0, _, _ => none
  | _ + 1, [], _ => none
  | f + 1, c :: l, d =>
    let have' := (look (key c.idx) d).getD 0
    if (c.len : Int) ≤ have' then some (c, put (key c.idx) (have' - c.len) d)
    else drr key f (l ++ [c]) (put (key c.idx) (have' + (64 * c.weight : Nat)) d)

/-- Rotate a list of children so that the one whose turn it is comes first. -/
def fromTurn (t : Nat) (l : List Child) : List Child := l.filter (fun c => t ≤ c.idx) ++ l.filter (fun c => c.idx < t)

/-- Choose among eligible children: priority, colour, deficit round robin (R234). -/
def State.choose (s : State) (l : List Child) (key : Nat → Nat) (turnKey : Nat) : Option (Child × QosState) :=
  let p := (l.map (·.prio)).foldl min 8
  let l1 := l.filter (·.prio == p)
  let g := l1.filter (fun c => !c.pkt.yellow)
  let l2 := if s.flag F.QOS_CFG.YELLOW_DEMOTE && !g.isEmpty then g else l1
  let rounds := (l2.map (fun c => ((c.len : Int) - (look (key c.idx) s.qos.deficit).getD 0).toNat / 64 + 2)).foldl max 0
  match drr key (l2.length * rounds + 1) (fromTurn ((look turnKey s.qos.turn).getD 0) l2) s.qos.deficit with
  | none => none
  | some (c, d) => some (c, { s.qos with deficit := d, turn := put turnKey c.idx s.qos.turn })

/-- The port a moved node still serves: the first old port where packets of it wait (R244). -/
def State.oldPortOf (s : State) (n : Nat) : Option Nat :=
  (s.qos.oldPort.find? (fun e => e.1 == n && s.churn.pkts.any (fun (k : Pkt) => k.waitsAt e.2 && s.nodeAt k e.2 == n))).map (·.2)

/-- The nodes with packets waiting at a port, in ascending order; a node moved by ATTACH serves its old port first (R244). -/
def State.nodesAt (s : State) (q : Nat) : List Nat :=
  let l := ((s.churn.pkts.filter (·.waitsAt q)).map (fun k => s.nodeAt k q)).filter (fun n => (s.oldPortOf n).getD q == q)
  (l.foldl (fun (a : List (Nat × Unit)) n => put n () a) []).map (·.1)

/-- The accounted length of a packet at a service queue. -/
def State.sqLen (s : State) (n c : Nat) (k : Pkt) : Nat :=
  k.accounted (s.flag F.QOS_SQ_CFG.ACCT (8 * n + c)) (s.fld F.QOS_SQ_CFG.OVH (8 * n + c))

/-- The accounted length of a packet at a node. -/
def State.nodeLen (s : State) (n : Nat) (k : Pkt) : Nat :=
  k.accounted (s.flag F.QOS_NODE_CFG.ACCT n) (s.fld F.QOS_NODE_CFG.OVH n)

/-- The eligible service queues of a node at a port (R234). -/
def State.eligibleQueues (s : State) (q n : Nat) (pc : PartnerCredit) : List Child :=
  (List.range 8).filterMap (fun c =>
    let k8 := 8 * n + c
    match s.headOf q n c pc with
    | none => none
    | some k =>
      if s.flag F.QOS_SQ_CFG.ENABLE k8 && s.shaperOk (.sq k8) && s.shaperOk (.sqCs k8) && (s.gateFit q c k.tlpBytes).isSome
      then some { idx := c, prio := s.fld F.QOS_SQ_CFG.PRIO k8, weight := s.fld F.QOS_SQ_CFG.WEIGHT k8,
                  len := s.sqLen n c k, pkt := k }
      else none)

/-- What the scheduler of a port chooses: node, class, packet and the scheduler state after it (R234). -/
def State.schedule (s : State) (q : Nat) (pc : PartnerCredit) : Option (Nat × Nat × Pkt × QosState) :=
  let kids := (s.nodesAt q).filterMap (fun n =>
    if s.flag F.QOS_NODE_CFG.ENABLE n && s.shaperOk (.node n) && s.shaperOk (.nodeCs n) then
      match s.choose (s.eligibleQueues q n pc) (fun c => 8 * n + c) (1024 + n) with
      | none => none
      | some (c, qs) =>
        some (({ idx := n, prio := s.fld F.QOS_NODE_CFG.PRIO n, weight := s.fld F.QOS_NODE_CFG.WEIGHT n,
                 len := s.nodeLen n c.pkt, pkt := c.pkt } : Child), (c.idx, qs))
    else none)
  match s.choose (kids.map (·.1)) (fun n => 65536 + n) q with
  | none => none
  | some (c, qn) =>
    match kids.find? (fun e => e.1.idx == c.idx) with
    | none => none
    | some (_, cls, qs) =>
      some (c.idx, cls, c.pkt,
        { qs with deficit := put (65536 + c.idx) ((look (65536 + c.idx) qn.deficit).getD 0)
                    (qn.deficit.foldl (fun a e => if 65536 ≤ e.1 then put e.1 e.2 a else a) qs.deficit)
                  turn := put q c.idx qs.turn })

/-- A queue's head has waited STARVE_US: since the oldest packet there joined, and since the queue was last served (R237). -/
def State.guardDue (s : State) (q n c : Nat) : Bool :=
  let wait := us (s.fld F.QOS_PORT_CFG.STARVE_US q)
  let l := s.churn.pkts.filter (fun (k : Pkt) => k.waitsAt q && s.nodeAt k q == n && s.clsAt k q == c)
  wait != 0 && decide (max ((look (8 * n + c) s.qos.served).getD 0) ((l.map (·.queuedAt)).foldl min s.now) + wait ≤ s.now)

/-- The starved queue a port serves next: its gate, node and queue enables and the port shaper permit it (R237). -/
def State.starvedNext (s : State) (q : Nat) (pc : PartnerCredit) : Option (Nat × Nat × Pkt) :=
  (s.qos.starved.filter (·.1 == q)).findSome? (fun e =>
    match s.headOf q e.2.1 e.2.2 pc with
    | none => none
    | some k =>
      if k.ord == .completion && s.guardDue q e.2.1 e.2.2 && (s.oldPortOf e.2.1).getD q == q && s.flag F.QOS_NODE_CFG.ENABLE e.2.1 && s.flag F.QOS_SQ_CFG.ENABLE (8 * e.2.1 + e.2.2) &&
          (s.gateFit q e.2.2 k.tlpBytes).isSome
      then some (e.2.1, e.2.2, k) else none)

/-- Charge the deficits of a queue and its node for a packet, below 0 where need be (R237). -/
def State.chargeDeficit (s : State) (n c : Nat) (k : Pkt) : State :=
  let less (key len : Nat) (d : List (Nat × Int)) : List (Nat × Int) := put key ((look key d).getD 0 - (len : Int)) d
  s.onQos (fun y => { y with deficit := less (65536 + n) (s.nodeLen n k) (less (8 * n + c) (s.sqLen n c k) y.deficit) })

/-- Charge a packet to the shapers it passes and count its bytes as it starts (R235, R236, R238). -/
def State.chargeStart (s0 : State) (q n c : Nat) (k : Pkt) : State :=
  let s := s0.onQos (fun y => { y with
    served := put (8 * n + c) s0.now y.served, starved := y.starved.filter (fun x => !(x == (q, n, c))) })
  let k8 := 8 * n + c
  let pl := k.accounted (s.flag F.QOS_PORT_CFG.ACCT q) (s.fld F.QOS_PORT_CFG.OVH q)
  let s1 := (s.spend (.sq k8) (s.sqLen n c k)).spend (.sqCs k8) (s.sqLen n c k)
  let s2 := ((s1.spend (.node n) (s.nodeLen n k)).spend (.nodeCs n) (s.nodeLen n k)).spend (.port q) pl
  ((s2.stat R.QOS_SQ_SENT_LO R.QOS_SQ_SENT_HI k8 (s.sqLen n c k)).stat R.QOS_NODE_SENT_LO R.QOS_NODE_SENT_HI n
    (s.nodeLen n k)).stat R.QOS_PORT_SENT_LO R.QOS_PORT_SENT_HI q pl

/-- A queue that empties loses its deficit, and its credit when that is positive (R234, R236). -/
def State.queueEmptied (s : State) (q n c : Nat) : State :=
  let left := s.churn.pkts.any (fun (k : Pkt) => k.waitsAt q && s.nodeAt k q == n && s.clsAt k q == c)
  if left then s
  else
    let zero (b : BucketId) (s : State) : State :=
      if 0 < (s.bucket b).tokens then s.setBucket b ⟨0, s.tb.toNat⟩ else s
    let s1 := zero (.sqCs (8 * n + c)) (s.onQos (fun y => { y with deficit := drop (8 * n + c) s.qos.deficit }))
    let nodeLeft := s.churn.pkts.any (fun (k : Pkt) => k.waitsAt q && s.nodeAt k q == n)
    if nodeLeft then s1
    else zero (.nodeCs n) (s1.onQos (fun y => { y with
      deficit := drop (65536 + n) s1.qos.deficit, oldPort := s1.qos.oldPort.filter (fun e => e != (n, q)) }))

/-- Show the entry of a list in force at a port, by the timebase (R239), and note when it ends. -/
def State.showGate (s : State) (q cycle base : Nat) (l : List (Nat × Nat)) : State :=
  let (i, left) := stretchAt l ((s.tb.toNat - base) % cycle)
  let s1 := s.onQos (fun y => { y with
    gclHeld := y.gclHeld.filter (· != q), gclNext := put q (s.tb.toNat + left) y.gclNext })
  (s1.setFld F.QOS_GCL_STATUS.CUR_ENTRY q i).setFld F.QOS_GCL_STATUS.CUR_GATES q ((l.getD i (0xFF, 0)).1)

/-- A list R241 accepts: every duration and the cycle in range, and no class closed for the whole cycle. -/
def gclOk (cycle : Nat) (l : List Word) : Bool :=
  1000 ≤ cycle && cycle ≤ 1000000000 && l.all (fun w => 20 ≤ duration w) &&
    (List.range 8).all (fun c => (cutList cycle l).any (fun e => bits e.1 c 1 == 1))

/-- The administrative list of a port. -/
def State.adminList (s : State) (q last : Nat) : List Word :=
  (List.range (last + 1)).map (fun e => (look (256 * q + e) s.qos.gclAdmin).getD 0xFFFFFFFF)

/-- Submit the administrative list of a port (R241): none is changed when the check fails. -/
def State.gclChange (s : State) (q : Nat) : Option State :=
  let cycle := s.fld F.QOS_GCL_CYCLE.CYCLE_NS q
  let base := (s.rd R.QOS_GCL_BASE_LO q).toNat + 2 ^ 32 * (s.rd R.QOS_GCL_BASE_HI q).toNat
  let l := s.adminList q (s.fld F.QOS_GCL_CTRL.ADMIN_LAST q)
  if !gclOk cycle l then none
  else
    let start := cycleStart base cycle s.tb.toNat
    let s1 := (s.onQos (fun y => { y with
      gclPending := ⟨q, cycle, base, start, l⟩ :: s.qos.gclPending.filter (·.port != q) }))
    some ((s1.setFld F.QOS_GCL_STATUS.CHANGE_PENDING q 1).setFld F.QOS_STATUS.GCL_PENDING 0 1)

/-- A timebase step of 1.00 µs or more is counted and reported; every list keeps its entry until the first cycle start computed from the
corrected time, and so does a list that waits for its own (R242). -/
def State.gclStep (s : State) : State :=
  ((s.raise F.QOS_EVT.GCL_STEP).bump R.QOS_GCL_ERR_CNT).onQos (fun y => { y with
    gclHeld := y.gclRun.map (·.1)
    gclNext := y.gclRun.map (fun e => (e.1, cycleStart e.2.2 e.2.1 s.tb.toNat))
    gclPending := y.gclPending.map (fun (g : GclPending) => { g with start := cycleStart g.base g.cycle s.tb.toNat }) })

end Sys2Proof.Machine
end

