-- ==== Sys2Proof/Machine/Tables.lean ====
section
/-! DEFINITION. The entries of the double-banked tables (Tables 4.3, 4.4, 4.6, 4.7, 5.10, 10.2 and BND_GROUP) and the
bindings they make. -/

namespace Sys2Proof.Machine

/-- The tables of R310 and the bytes of an entry of each. -/
inductive Table where
  | bind | vdsp | win | id | acu | route | group | attach | portmap
  deriving DecidableEq, Repr

/-- The table of a TABLE code (R310). -/
def Table.ofCode : Nat → Option Table
  | 0 => some .bind | 1 => some .vdsp | 2 => some .win | 3 => some .id | 4 => some .acu | 5 => some .route
  | 6 => some .group | 7 => some .attach | 8 => some .portmap | _ => none

/-- Entry size in bytes (R310). -/
def Table.size : Table → Nat
  | .bind => 64 | .vdsp => 4 | .win => 32 | .id => 4 | .acu => 32 | .route => 16 | .group => 32 | .attach => 4
  | .portmap => 4

/-- Number of entries (Tables 4.17, 5.16, 8.5, 10.7). -/
def Table.count : Table → Nat
  | .bind => 4096 | .vdsp => 9216 | .win => 16384 | .id => 65536 | .acu => 8192 | .route => 4096 | .group => 1023
  | .attach => 4096 | .portmap => 20736

/-- BAR0 offset of the window of a table. -/
def Table.base : Table → Nat
  | .bind => 0x1410000 | .vdsp => 0x1460000 | .win => 0x1480000 | .id => 0x1500000 | .acu => 0x1D00000
  | .route => 0x1710000 | .group => 0x1720000 | .attach => 0x1A00000 | .portmap => 0x1980000

/-- Stride of the window of a table. -/
def Table.stride : Table → Nat
  | .attach => 0x40
  | t => t.size

/-- The reserved bits of an entry, as ranges (lowest bit, width). -/
def Table.reserved : Table → List (Nat × Nat)
  | .bind => [(126, 2), (192, 320)]
  | .vdsp => [(14, 18)]
  | .win => [(31, 1), (46, 18), (116, 12), (186, 70)]
  | .id => [(21, 11)]
  | .acu => [(19, 45), (122, 6), (186, 70)]
  | .route => [(3, 1), (10, 6), (80, 48)]
  | .group => [(144, 112)]
  | .attach => [(9, 23)]
  | .portmap => [(13, 19)]

/-- The list of a table in a bank. -/
def Bank.list (b : Bank) : Table → List (Nat × BitVec 512)
  | .bind => b.bind | .vdsp => b.vdsp | .win => b.win | .id => b.id | .acu => b.acu | .route => b.route
  | .group => b.group | .attach => b.attach | .portmap => b.portmap

/-- The entry of a table that reset leaves. -/
def Table.default (t : Table) (i : Nat) : BitVec 512 := if t = .attach then attachDefault i else 0

/-- The entry `i` of a table in a bank. -/
def Bank.entry (b : Bank) (t : Table) (i : Nat) : BitVec 512 := (look i (b.list t)).getD (t.default i)

/-- Replace the list of a table. -/
def Bank.withList (b : Bank) (t : Table) (l : List (Nat × BitVec 512)) : Bank :=
  match t with
  | .bind => { b with bind := l } | .vdsp => { b with vdsp := l } | .win => { b with win := l }
  | .id => { b with id := l } | .acu => { b with acu := l } | .route => { b with route := l }
  | .group => { b with group := l } | .attach => { b with attach := l } | .portmap => { b with portmap := l }

/-- Write an entry; one equal to its reset value is not listed. -/
def Bank.write (b : Bank) (t : Table) (i : Nat) (e : BitVec 512) : Bank :=
  b.withList t (if e = t.default i then drop i (b.list t) else put i e (b.list t))

/-- The reserved bits of an entry are 0. -/
def Table.clean (t : Table) (e : BitVec 512) : Bool := t.reserved.all (fun r => ef e r.1 r.2 == 0)

/-- Write an entry of the shadow bank. -/
def State.writeShadow (s : State) (t : Table) (i : Nat) (e : BitVec 512) : State :=
  ((s.onBnd (fun y => { y with shadow := s.bnd.shadow.write t i e }))).setFld F.BND_GEN_STATUS.SHADOW_DIRTY 0 1

/-! ## Binding entries (Table 4.3) -/

/-- A binding entry. -/
abbrev Bind := BitVec 512

def Bind.valid (b : Bind) : Bool := ef b 0 1 == 1
def Bind.kind (b : Bind) : Nat := ef b 1 3
def Bind.vh (b : Bind) : Nat := ef b 4 8
def Bind.vdsp (b : Bind) : Nat := ef b 12 6
def Bind.port (b : Bind) : Nat := ef b 18 8
def Bind.rid (b : Bind) : Nat := ef b 26 16
def Bind.ldId (b : Bind) : Nat := ef b 42 4
def Bind.feid (b : Bind) : Nat := ef b 46 12
def Bind.remote (b : Bind) : Nat := ef b 58 12
def Bind.identity (b : Bind) : Bool := ef b 70 1 == 1
def Bind.idePass (b : Bind) : Bool := ef b 71 1 == 1
def Bind.autoRebind (b : Bind) : Bool := ef b 72 1 == 1
def Bind.traceEn (b : Bind) : Bool := ef b 73 1 == 1
def Bind.traceCtx (b : Bind) : Nat := ef b 74 9
def Bind.policer (b : Bind) : Nat := ef b 83 12
def Bind.subscriber (b : Bind) : Nat := ef b 95 12
def Bind.surprise (b : Bind) : Bool := ef b 107 1 == 1
def Bind.winCount (b : Bind) : Nat := ef b 108 4
def Bind.winFirst (b : Bind) : Nat := ef b 112 14
def Bind.serial (b : Bind) : Nat := ef b 128 64

/-- A port or remote-port binding: the real devices stand below it (Table 4.2). -/
def Bind.isPortKind (b : Bind) : Bool := b.kind == 0 || b.kind == 2
/-- A VH-end entry of a remote binding (R97). -/
def Bind.isRemote (b : Bind) : Bool := b.kind == 2 || b.kind == 3

/-- The number under which the place of the management PF goes among the bindings: no entry has it. -/
def pfPlace : Nat := 4096

/-- The place of the management PF, behind vDSP 0 of the management VH (R92): that of function 0 of the data mover while no entry binds
it (R277; DEDUCED, notes/assumptions/65). -/
def State.pfBind (s : State) : Bind := BitVec.ofNat 512 (1 + 2 * 5 + 2 ^ 4 * s.bnd.mgmtVh + 2 ^ 18 * 255 + 2 ^ 26 * 0xF800)

/-- The active binding entry `i`, or the place of the management PF. -/
def State.bind (s : State) (i : Nat) : Bind := if i = pfPlace then s.pfBind else s.bnd.active.entry .bind i

/-- A device-end entry: its FEID names the VH end's device, not this one (R97). -/
def State.isDeviceEnd (s : State) (b : Bind) : Bool := !b.isRemote && b.feid != 0 && b.feid != s.heldFeid

/-- The valid active bindings. -/
def State.bindings (s : State) : List (Nat × Bind) := s.bnd.active.bind.filter (fun e => Bind.valid e.2)

/-- A vDSP exists. -/
def State.vdspPresent (s : State) (vh i : Nat) : Bool :=
  ef (s.bnd.active.entry .vdsp (64 * vh + i)) 0 1 == 1 || (vh == s.bnd.mgmtVh && i == 0)

/-- The state of a binding (Table 4.5). -/
def State.bindState (s : State) (i : Nat) : Nat := if i = pfPlace then 1 else s.fld F.BND_BIND_STATE.STATE i

/-- The binding of a vDSP (Table 4.4); one that UNBIND has released still serves its vDSP while it is UNBINDING (Table 4.5,
notes/assumptions/15). -/
def State.bindingOf (s : State) (vh i : Nat) : Option Nat :=
  let e := s.bnd.active.entry .vdsp (64 * vh + i)
  if ef e 0 2 = 3 then some (ef e 2 12)
  else (s.bindings.find? (fun b => Bind.vh b.2 == vh && Bind.vdsp b.2 == i && !s.isDeviceEnd b.2 && s.bindState b.1 == 4)).map (·.1)

/-- Put a binding in a state with a cause; EMPTY and RESETTING wait for the target's first answer (Table 4.5, CFG_READY). -/
def State.setBindState (s : State) (i st cause : Nat) : State :=
  let s1 := (s.setFld F.BND_BIND_STATE.STATE i st).setFld F.BND_BIND_STATE.SUSPEND_CAUSE i cause
  if st = 0 || st = 3 then s1.setFld F.BND_BIND_STATE.CFG_READY i 0 else s1

/-- The target of a binding answers configuration (DEDUCED, notes/assumptions/29: its link has come up or its reset has ended). -/
def State.cfgReady (s : State) (i : Nat) (up : Bool) : State := s.setFld F.BND_BIND_STATE.CFG_READY i (b2n up)

/-- The port binding a pool-edge port carries, if any (R104). -/
def State.portBinding (s : State) (p : Nat) : Option (Nat × Bind) :=
  s.bindings.find? (fun e => Bind.kind e.2 == 0 && Bind.port e.2 == p)

/-- The bindings that target a port of this device. -/
def State.bindingsOn (s : State) (p : Nat) : List (Nat × Bind) :=
  s.bindings.filter (fun e => !Bind.isRemote e.2 && Bind.port e.2 == p && Bind.kind e.2 != 5)

/-- The bindings of a VH that this device holds the VH end of. -/
def State.bindingsOf (s : State) (vh : Nat) : List (Nat × Bind) :=
  s.bindings.filter (fun e => Bind.vh e.2 == vh && !s.isDeviceEnd e.2)

/-- The host-visible RID behind a vDSP: its secondary bus, device 0, function 0 (R103). -/
def State.hostRid (s : State) (vh i : Nat) : BitVec 16 := BitVec.ofNat 16 (256 * s.host vh (.vdsp i) .secondaryBus)

/-- The ID of the vUSP (R420): device 0 on the bus the host assigned. -/
def State.vuspId (s : State) (vh : Nat) : BitVec 16 := BitVec.ofNat 16 (256 * s.host vh .vusp .primaryBus)

/-- The ID of a vDSP (R93, R420): device i/2, function i mod 2, on the vUSP's secondary bus. -/
def State.vdspId (s : State) (vh i : Nat) : BitVec 16 :=
  BitVec.ofNat 16 (256 * s.host vh .vusp .secondaryBus + 8 * (i / 2) + i % 2)

/-! ## Windows (Table 4.6) -/

def winBinding (w : BitVec 512) : Nat := ef w 10 12
def winSize (w : BitVec 512) : Nat := 2 ^ ef w 25 6
def winPhys (w : BitVec 512) : Nat := 2 ^ ef w 180 6
def winDevBase (w : BitVec 512) : Nat := ef w 128 52 * 4096
def winPeerBase (w : BitVec 512) : Nat := ef w 64 52 * 4096

/-- The BAR windows of a binding, with their numbers. -/
def State.winsOf (s : State) (b : Bind) : List (Nat × BitVec 512) :=
  (List.range b.winCount).map (fun k => (b.winFirst + k, s.bnd.active.entry .win (b.winFirst + k)))

/-- An address lies in `n` bytes from a base. -/
def inRange (a base n : Nat) : Bool := base ≤ a && a < base + n

/-- The BAR window of a binding an address falls in: its base is the host's BAR and Memory Space Enable is 1 (R101). -/
def State.barHit (s : State) (b : Bind) (a : Nat) : Option (BitVec 512) :=
  if !s.hostOn b.vh (.fn b.vdsp) .memEn then none
  else ((s.winsOf b).find? (fun e =>
    ef e.2 0 2 == 1 && inRange a (s.host b.vh (.fn b.vdsp) (.bar (ef e.2 22 3))) (winSize e.2))).map (·.2)

/-- The vDSP of a VH whose bridge memory windows claim an address (R101). -/
def State.claims (s : State) (vh : Nat) (a : Nat) (io : Bool) : Option Nat :=
  (List.range 64).find? (fun i =>
    let u := HostUnit.vdsp i
    s.vdspPresent vh i &&
      (if io then s.hostOn vh u .ioEn && s.host vh u .ioBase ≤ a && a ≤ s.host vh u .ioLimit
       else s.hostOn vh u .memEn &&
        ((s.host vh u .memBase ≤ a && a ≤ s.host vh u .memLimit) ||
         (s.host vh u .prefBase ≤ a && a ≤ s.host vh u .prefLimit))))

/-! ## Routes and groups (Table 5.10, BND_GROUP) -/

/-- The link indices of the slots of a route entry; 0x7F is empty. -/
def slotOf (r : Nat) (j : Nat) : Nat := bits r (16 + 7 * j) 7
def routeValid (r : Nat) : Bool := bits r 0 1 == 1
def routeType (r : Nat) : Nat := bits r 1 2
def routeSpray (r : Nat) : Nat := bits r 4 2
def slotDateline (r j : Nat) : Bool := bits r (72 + j) 1 == 1

/-- The non-empty slots of an entry. -/
def slotsOf (r : Nat) : List Nat := (List.range 8).filter (fun j => slotOf r j != 0x7F)

/-- A fabric link is live: BND_FAB_LINK_LIVE shows it (R150). -/
def State.linkLive (s : State) (l : Nat) : Bool :=
  if l < 32 then bits (s.rd R.BND_FAB_LINK_LIVE0).toNat l 1 == 1
  else if l < 64 then bits (s.rd R.BND_FAB_LINK_LIVE1).toNat (l - 32) 1 == 1
  else bits (s.rd R.BND_FAB_LINK_LIVE2).toNat (l - 64) 1 == 1

/-- Show a fabric link live or not. -/
def State.setLinkLive (s : State) (l : Nat) (v : Bool) : State :=
  let set (f : Fld) (k : Nat) : State := s.setFld f 0 (setBits (s.fld f) k 1 (b2n v))
  if l < 32 then set F.BND_FAB_LINK_LIVE0.LIVE l
  else if l < 64 then set F.BND_FAB_LINK_LIVE1.LIVE (l - 32)
  else set F.BND_FAB_LINK_LIVE2.LIVE (l - 64)

end Sys2Proof.Machine
end

