-- ==== Sys2Proof/Machine/Fabric.lean ====
section
/-! DEFINITION. Sending through the fabric (chapter 05): whey messages (R138), the choice of a slot (R146), posted failures
and their notices (R211 to R215), the outcomes of forwarding (R149), flows at the source (R153 to R155) and at the
destination (R157). -/

namespace Sys2Proof.Machine

/-! ## Whey messages -/

/-- Queue a whey message at the link controller of a link index; a link without a port takes none. -/
def State.wheyOn (s : State) (l : Nat) (w : Whey) : State :=
  match s.portOfLink l with
  | none => s
  | some p => (s.onKfl (fun y => { y with whey := s.kfl.whey ++ [(controllerOf p, w)] }))

/-- The active route entry of a FEID, as a number. -/
def State.routeOf (s : State) (f : Nat) : Nat := (s.bnd.active.entry .route f).toNat

/-- The first live slot of a FEID's route entry (R138).  DESIGN CHOICE (notes/assumptions/74): an entry without one counts as no entry, so
that the message may still go by the relay link. -/
def State.wheySlot (s : State) (f : Nat) : Option Nat :=
  let r := s.routeOf f
  if !routeValid r then none else ((slotsOf r).map (slotOf r)).find? s.linkLive

/-- The fabric links whose port is ACTIVE: whey messages flow on every trained link (R133). -/
def State.trainedLinks (s : State) : List Nat :=
  (allPorts.filter (fun p => s.isFabric p && s.linkUp p)).map s.linkOf

/-- Send a routed whey message toward its DEST (R138): on the first live slot; with no route entry, on the link a request of
the DEST came on, else back on the link `back` the message itself came on; else it is discarded and counted.  `via` names the
neighbour's link where the device has no route yet.  The second component tells whether it left. -/
def State.wheyRouted (s : State) (w : Whey) (via : Option Nat := none) (back : Option Nat := none) : State × Bool :=
  match s.wheySlot w.dest with
  | some l => (s.wheyOn l w, true)
  | none =>
    match ((via.orElse (fun _ => look w.dest s.fab.relay)).orElse (fun _ => back)).filter (fun l => s.trainedLinks.contains l) with
    | some l => (s.wheyOn l w, true)
    | none => (s.bump R.BND_FAB_WHEY_UNROUTE_CNT, false)

/-- Flood a whey message on every trained link but the one it came on (R138). -/
def State.wheyFlood (s : State) (w : Whey) (cameOn : Option Nat := none) : State :=
  s.each (s.trainedLinks.filter (fun l => cameOn != some l)) (fun s l => s.wheyOn l w)

/-- Pack fields of given widths from bit 0 up into bytes (R178). -/
def packFields (l : List (Nat × Nat)) : List Byte :=
  let (v, n) := l.foldl (fun (a : Nat × Nat) e => (a.1 + (e.1 % 2 ^ e.2) * 2 ^ a.2, a.2 + e.2)) (0, 0)
  leBytes (ceilDiv n 8) v

/-- Field `k` of widths `ws` of a packed body. -/
def packed (b : List Byte) (ws : List Nat) (k : Nat) : Nat := bits (leNat b) ((ws.take k).foldl (· + ·) 0) (ws.getD k 0)

/-- A routed message of this device; WHOPS counts the hop it is on, as HOPS does (R140, R178; notes/assumptions/62). -/
def State.message (s : State) (code dest : Nat) (fields : List (Nat × Nat)) : Whey :=
  { carry := 2, code := code, origin := s.ownFeid, dest := dest, hops := 1, body := packFields fields }

/-! ## The posted-failure log (R214, R215) -/

/-- The Memory Write header of a logged failure for the Header Log: length in DW and address (R214). -/
def mwrHeader (addr len : Nat) : Nat := Tlp.header { kind := .mwr, addr := addr, len := len }

/-- Log an advisory Completer Abort on a vDSP, or hold it while the VH is not ACTIVE (R214, Table 7.14). -/
def State.advise (s : State) (fn : AerFn) (vh : Nat) (e : AerErr) (header : Nat) : State :=
  if s.vhActive vh then s.aerLog fn e true header
  else (s.onErr (fun y => { y with held := s.err.held ++ [⟨vh, fn, e, header⟩] }))

/-- The VH-end binding a failure notice is about, if it still stands: its own index for DIR 1, else the entry whose device end is
named. -/
def State.vhEndBinding (s : State) (w : Wfn) : Option Nat :=
  (s.bindings.find? (fun e => Bind.isRemote e.2 && Bind.vh e.2 == w.vh &&
    (if w.dir then e.1 else Bind.remote e.2) == w.bindIdx)).map (·.1)

/-- DIR 0: the host address of a failing byte when a BAR window of the binding covers it (R214). -/
def State.toHostAddr (s : State) (b : Bind) (a : Nat) : Nat × Bool :=
  match (s.winsOf b).find? (fun e => ef e.2 0 2 == 1 && inRange a (winDevBase e.2) (winPhys e.2)) with
  | some e => (s.host b.vh (.fn b.vdsp) (.bar (ef e.2 22 3)) + (a - winDevBase e.2), false)
  | none => (a, true)

/-- Write a failure record in the log of its VH (R214, R215): a merge with the newest unconsumed entry of the same BINDING,
REASON and DIR within 1.00 ms, else a new entry; a full ring loses its oldest.  A write lost in the fabric is journalled as class
0x0401 here, where its host is told (Table 7.2, notes/assumptions/63).  Then the AER report and the log interrupt.  A notice whose binding
has been removed (`gone`) is logged under the index it carries, and no function reports it (Table 7.14). -/
def State.logFailure (s : State) (w : Wfn) (bi : Nat) (gone : Bool := false) : State :=
  let v := w.vh
  let b : Bind := if gone then 0 else s.bind bi
  let prod := s.fld F.ERR_PFL_IDX.PROD v
  let cons := s.fld F.ERR_PFL_IDX.CONS v
  let newest := look (64 * v + (prod + 63) % 64) s.err.pfl
  let merge := prod != cons && (match newest with
    | some e => e.binding == min bi 0xFFF && e.reason == w.reason && e.dir == w.dir && decide (s.now < e.written + ms 1)
    | none => false)
  let (addr, kind) := if w.dir then (w.addr, false) else s.toHostAddr b w.addr
  let s1 :=
    if merge then
      let add (e : PflEntry) : PflEntry := { e with count := min 255 (e.count + w.count) }
      s.onErr (fun y => { y with pfl := alter (64 * v + (prod + 63) % 64) add s.err.pfl })
    else
      let e : PflEntry := {
        addr := addr, len := w.len, dir := w.dir, addrKind := kind, binding := min bi 0xFFF,
        failFeid := if s.inFabric then w.failFeid else 0, reason := w.reason, count := min 255 w.count,
        requester := if w.dir && !gone then (s.hostRid v b.vdsp).toNat else 0, time := s.tb.toNat, tFail := w.tFail, written := s.now }
      let s1 := (s.onErr (fun y => { y with pfl := put (64 * v + prod) e s.err.pfl }))
      let full := (prod + 1) % 64 == cons
      let s2 := s1.setFld F.ERR_PFL_IDX.PROD v ((prod + 1) % 64)
      s2.whenb full (fun s =>
        ((((s.setFld F.ERR_PFL_IDX.CONS v ((cons + 1) % 64)).bump R.ERR_PFL_LOST_CNT v).setFld F.ERR_PFL_IDX.LOST v 1).raise
          F.ERR_EVT.PFL_LOST))
  let far := if w.failFeid = s.ownFeid then 0 else w.failFeid
  let s1 := s1.whenb ([0, 1, 2, 3, 7, 10].contains w.reason || (w.reason == 8 && far != 0))
    (fun s => s.journal 0x0401 { vh := v, binding := bi, feid := far, detail := addr })
  let s2 := s1.setFld F.ERR_STATUS.PFL_PENDING 0 1
  let empty := gone || bi != pfPlace && s.bindingOf v b.vdsp != some bi
  let s3 := if empty then s2 else s2.advise (.vdsp v b.vdsp) v .completerAbort (mwrHeader addr w.len)
  let s4 := if s3.flag F.ERR_EVT.PFL then s3
            else if s3.flag F.ERR_VH_CFG.PFL_INT_EN v then s3.raise F.ERR_EVT.PFL else s3.setFld F.ERR_EVT.PFL 0 1
  let e := (look (64 * v + (s4.fld F.ERR_PFL_IDX.PROD v + 63) % 64) s4.err.pfl)
  let bytes := match e with
    | some e => leBytes 32 (e.addr + 2 ^ 64 * e.len + 2 ^ 77 * b2n e.dir + 2 ^ 78 * b2n e.addrKind + 2 ^ 79 +
        2 ^ 80 * e.binding + 2 ^ 92 * e.failFeid + 2 ^ 104 * e.reason + 2 ^ 108 * e.count + 2 ^ 128 * e.requester +
        2 ^ 160 * e.time + 2 ^ 224 * e.tFail)
    | none => []
  let s5 := s4.whenb (s4.flag F.ERR_VH_CFG.PFL_INT_EN v) (fun s => s.corberEvent 12 2 (eventBody 2 0 0 0 v s.tb.toNat bytes))
  s5.whenb (s5.hostOn v .vusp .pflIntEn && s5.vhActive v && !empty) (fun s => s.emit (.hostIrq v b.vdsp))

/-- The body of a WFN (Table 7.7). -/
def wfnFields (w : Wfn) : List (Nat × Nat) :=
  [(w.addr, 64), (w.len, 13), (w.vh, 8), (w.bindIdx, 12), (b2n w.dir, 1), (w.reason, 4), (w.failFeid, 12), (w.tFail, 32),
   (w.fseq, 16), (w.genTag, 8), (w.count, 8)]

/-- The WFN of a body. -/
def wfnOfBody (src : Nat) (b : List Byte) : Wfn :=
  let ws := [64, 13, 8, 12, 1, 4, 12, 32, 16, 8, 8]
  { src := src, addr := packed b ws 0, len := packed b ws 1, vh := packed b ws 2, bindIdx := packed b ws 3,
    dir := packed b ws 4 == 1, reason := packed b ws 5, failFeid := packed b ws 6, tFail := packed b ws 7,
    fseq := packed b ws 8, genTag := packed b ws 9, count := packed b ws 10 }

/-- Send a WFN or WFN_FWD; one that cannot be routed is discarded, counted and journalled (R212). -/
def State.sendWfn (s : State) (code dest : Nat) (w : Wfn) : State :=
  let (s1, ok) := s.wheyRouted (s.message code dest (wfnFields w))
  if ok then s1 else ((s1.bump R.ERR_WFN_UNDELIV_CNT).raise F.ERR_EVT.WFN_UNDELIV).journal 0x0406 { vh := w.vh, feid := dest }

/-- A posted write that failed away from its VH end makes a WFN toward the device where it entered the fabric, held for the
holdoff, in which further failures add to its COUNT (R211, R213). -/
def State.failWrite (s : State) (w : Wfn) : State :=
  let same (x : Wfn) : Bool := x.src == w.src && x.vh == w.vh && x.bindIdx == w.bindIdx && x.reason == w.reason
  if s.err.holdoff.any same then
    s.onErr (fun y => { y with
      holdoff := s.err.holdoff.map (fun (x : Wfn) => if same x then { x with count := min 255 (x.count + w.count) } else x) })
  else
    let key := ((w.src * 256 + w.vh) * 4096 + w.bindIdx) * 16 + w.reason
    (s.onErr (fun y => { y with
      holdoff := s.err.holdoff ++ [{ w with failFeid := s.ownFeid, tFail := s.tb.toNat % 2 ^ 32 }] })).arm .wfn key
      (us (s.fld F.ERR_CFG.WFN_HOLDOFF_US))

/-- A posted write that failed at binding `bi` of this device (R211): logged at the VH end.  A device end gives notice: of a
write toward its target to the device that sent it, of its target's own write, of which this device is the source, to the VH
end.  BIND_IDX is as in the write's fabric header: the entry of the end it goes to. -/
def State.failBound (s : State) (bi : Nat) (w : Wfn) : State :=
  let b := s.bind bi
  if !s.isDeviceEnd b then s.logFailure { w with failFeid := s.ownFeid, tFail := s.tb.toNat % 2 ^ 32 } bi
  else if w.dir then s.failWrite { w with src := s.ownFeid, vh := b.vh, bindIdx := b.remote }
  else s.failWrite { w with src := b.feid, vh := b.vh, bindIdx := bi }

/-- The holdoff of a notice has ended: it goes to the source of the write (R213); where that is this device, as a WFN_FWD to
the VH end (R211). -/
def State.wfnSend (s : State) (w : Wfn) : State :=
  let s1 := s.bump R.ERR_WFN_TX_CNT
  if w.src = s.ownFeid then
    match s.bindings.find? (fun e => s.isDeviceEnd e.2 && Bind.vh e.2 == w.vh && Bind.remote e.2 == w.bindIdx) with
    | some e => s1.sendWfn 0x31 (Bind.feid e.2) w
    | none => ((s1.bump R.ERR_WFN_UNDELIV_CNT).raise F.ERR_EVT.WFN_UNDELIV).journal 0x0406 { vh := w.vh, feid := w.src }
  else s1.sendWfn 0x30 w.src w

/-- The record of a lost posted packet. -/
def Pkt.wfn (k : Pkt) (reason : Nat) (dir : Bool) : Wfn :=
  let h := (k.fab.map (·.hdr)).getD {}
  { src := h.src, addr := k.tlpOf.elim 0 (·.addr), len := max 1 k.len, vh := k.vh,
    bindIdx := if k.fab.isSome then h.bindIdx else k.binding, dir := dir, reason := reason, failFeid := 0, tFail := 0,
    fseq := h.fseq, genTag := h.genTag, count := 1 }

/-- A path loss (R149, R211): the packet is discarded; a posted write makes its failure record with REASON, a group write one journal
entry.  One of this device is recorded for the binding that owns it; one for a binding of this device is logged where that is the VH end,
else its source is told.  Nothing in a fabric header tells a transit device the direction of a write: its DIR is a free value
(notes/assumptions/3). -/
def State.pathLoss (s : State) (id reason : Nat) : State :=
  match s.pkt id with
  | none => s
  | some k =>
    let s1 := s.freePkts (·.id == id)
    let h := (k.fab.map (·.hdr)).getD {}
    if k.coming then s1.takeBack k (some (some reason))
    else if 0xC00 ≤ h.dst then s1.journal 0x0407 { vh := k.vh, feid := h.src }
    else match k.tlpOf with
    | some t =>
      if t.kind = .mwr then
        let b := s.bind h.bindIdx
        -- Packets of this device: the VH end logs a host write at once; a device end's own write goes to the VH end.
        if h.src == s.ownFeid || h.src == 0 then
          s1.failBound (k.owner.getD k.binding) (k.wfn reason (k.owner.isSome || s.isDeviceEnd (s.bind k.binding)))
        else if h.dst == s.ownFeid && b.valid && b.feid == h.src then
          (if s.isDeviceEnd b then s1.failWrite (k.wfn reason false) else s1.failBound h.bindIdx (k.wfn reason true))
        else s1.drew.failWrite (k.wfn reason (s.free % 2 == 1))
      else s1
    | none => s1

/-! ## Choosing a slot (R146, R160) -/

/-- The pinned slot: the first non-empty slot at or above j0, wrapping at 7 (R146). -/
def pinnedSlot (r : Nat) (h : FabHdr) : Option Nat :=
  let j0 := (Nat.xor (Nat.xor h.src h.dst) (Nat.xor h.vh h.ord)) % 8
  ((List.range 8).map (fun k => (j0 + k) % 8)).find? (fun j => slotOf r j != 0x7F)

/-- The candidates of a packet: live non-empty slots, without dateline slots at level 1 (R146). -/
def State.candidates (s : State) (r : Nat) (dl : Bool) : List Nat :=
  (slotsOf r).filter (fun j => s.linkLive (slotOf r j) && !(dl && slotDateline r j))

/-- Curds queued for a link's port. -/
def State.queuedAt (s : State) (l : Nat) : Nat :=
  match s.portOfLink l with
  | none => 0
  | some p => ((s.churn.pkts.filter (·.dest == p)).map (fun k => curdsOf k.len)).foldl (· + ·) 0

/-- What forwarding decides for a packet (Table 5.11). -/
inductive Forward where
  | slot (j : Nat)
  | hold
  | lose (reason : Nat) (cnt : RegDesc) (evt : Fld)

/-- Decide where a packet with fabric header `h` (HOPS and DL as it stands here) leaves, under route entry `r` (R140, R146,
Table 5.11). -/
def State.forward (s : State) (r : Nat) (h : FabHdr) : Forward :=
  if !routeValid r then .lose 0 R.BND_FAB_UNREACH_CNT F.BND_FAB_EVT.UNREACH
  else if routeType r = 1 then .lose 0 R.BND_FAB_UNREACH_CNT F.BND_FAB_EVT.UNREACH
  else if s.fld F.BND_FAB_CFG.HOP_LIMIT < h.hops + 1 then .lose 1 R.BND_FAB_HOP_LIMIT_CNT F.BND_FAB_EVT.HOP_LIMIT
  else if h.pin || routeSpray r = 0 then
    match pinnedSlot r h with
    | none => .hold
    | some j =>
      if h.dl && slotDateline r j then .lose 2 R.BND_FAB_DATELINE_BLOCK_CNT F.BND_FAB_EVT.DATELINE_BLOCK
      else if s.linkLive (slotOf r j) then .slot j else .hold
  else
    let cs := s.candidates r h.dl
    if routeSpray r = 1 then
      let last := (look h.dst s.fab.lastSlot).getD 7
      match (cs.filter (fun j => last < j) ++ cs).head? with
      | some j => .slot j
      | none => .hold
    else
      match cs.foldl (fun b j => match b with
          | none => some j
          | some i => if s.queuedAt (slotOf r j) < s.queuedAt (slotOf r i) then some j else some i) none with
      | some j => .slot j
      | none => .hold

/-- A packet was looked up before generation `g`, which is at most as old as the active one. -/
def State.olderThan (s : State) (k : Pkt) (g : Nat) : Bool :=
  let a := s.fld F.BND_GEN_STATUS.ACTIVE_GEN
  decide ((a + 65536 - g % 65536) % 65536 < (a + 65536 - k.gen % 65536) % 65536)

/-- A pinned packet toward a FEID is held behind a route change: it was looked up after it (R152, R163). -/
def State.pinHolds (s : State) (f : Nat) (k : Pkt) : Bool := s.fab.pinSwap.any (fun e => e.1 == f && !s.olderThan k e.2.2)

/-- Put a stored packet on its way (R140, R146, R149, R152, R160): on a slot, held, or lost.  DESIGN CHOICE (notes/assumptions/74): a pinned
packet through an entry that sprays does not count as the last slot used, and the first round robin starts at slot 0. -/
def State.sendOn (s : State) (id : Nat) : State :=
  match s.pkt id with
  | none => s
  | some k =>
    match k.fab with
    | none => s
    | some f =>
      let h := { f.hdr with hops := k.hops0, dl := k.dl0 }
      if h.pin && s.pinHolds h.dst k && !(s.fab.pinHeld.any (·.1 == id)) then
        ((((s.onPkt id (fun k => { k with held := true })).onFab (fun y => { y with pinHeld := s.fab.pinHeld ++ [(id, h.dst)] }))).bump R.BND_FAB_PIN_HOLD_CNT).raise
          F.BND_FAB_EVT.PIN_HOLD
      else
        match s.forward k.route h with
        | .slot j =>
          let l := slotOf k.route j
          let p := (s.portOfLink l).getD 255
          let dl := h.dl || slotDateline k.route j
          let n := s.nodeFor p k.vh none
          let s1 := s.onPkt id (fun k => { k with
            fab := some { f with hdr := { h with hops := h.hops + 1, dl := dl } }, slot := j, dest := p, queuedAt := s.now, held := false,
            node := n, cls := s.classAt n k.tc })
          (s1.onFab (fun y => { y with lastSlot := if h.pin then s1.fab.lastSlot else put h.dst j s1.fab.lastSlot })).decideSf id [p]
        | .hold =>
          if s.fab.unreach.any (·.1 == id) then s
          else
            (((s.onPkt id (fun k => { k with held := true })).onFab (fun y => { y with unreach := s.fab.unreach ++ [(id, s.now)] }))).arm .unreach id
              (s.fld F.BND_FAB_HOLD_CFG.UNREACH_HOLD * 100000)
        | .lose reason cnt evt => ((s.bump cnt).raise evt).pathLoss id reason

/-! ## Flows at the source (R153 to R155) -/

/-- The key of a flow at this device's side: destination, VH, ORD, packed. -/
def flowKey (a vh ord : Nat) : Nat := (a * 256 + vh) * 4 + ord

/-- Set the flow fields of a header a source sends (R147, R153, R154): the sequence of a send entry, OPEN on the packet that
asks for a context, PIN until it is granted.  DESIGN CHOICE (notes/assumptions/74): while no send entry is free, each packet that
stays pinned for it counts in BND_FAB_FLOW_PINNED_CNT. -/
def State.sourceFlow (s : State) (h : FabHdr) : FabHdr × State :=
  let mine (e : SendEntry) : Bool := e.dst == h.dst && e.vh == h.vh && e.ord == h.ord
  match s.fab.sends.find? mine with
  | some e =>
    let e1 := { e with nextSeq := seqNext e.nextSeq }
    ({ h with pin := !e.granted || s.flag F.BND_FAB_CFG.PIN_ALL, fseq := e.nextSeq, opn := false },
     s.onFab (fun y => { y with sends := s.fab.sends.map (fun (x : SendEntry) => if mine x then e1 else x) }))
  | none =>
    let waiting := s.fab.retry.any (fun r => r.1 == h.dst && r.2.1 == h.vh && r.2.2 == h.ord)
    if s.flag F.BND_FAB_CFG.PIN_ALL || waiting then ({ h with pin := true, fseq := 0, opn := false }, s)
    else if 4096 ≤ s.fab.sends.length then
      ({ h with pin := true, fseq := 0, opn := false }, (s.bump R.BND_FAB_FLOW_PINNED_CNT).raise F.BND_FAB_EVT.FLOW_PINNED)
    else
      let e : SendEntry := { dst := h.dst, vh := h.vh, ord := h.ord, nextSeq := 2, acked := 1, granted := false,
                             openSent := true, lastSent := s.now }
      ({ h with pin := true, fseq := 1, opn := true }, (s.onFab (fun y => { y with sends := s.fab.sends ++ [e] })))

/-- A packet of a granted flow of this device is sent: its idle time starts again (R156). -/
def State.flowSent (s : State) (h : FabHdr) : State :=
  let mine (e : SendEntry) : Bool := e.granted && e.dst == h.dst && e.vh == h.vh && e.ord == h.ord
  if h.src = s.ownFeid && h.fseq != 0 && s.fab.sends.any mine then
    (s.onFab (fun y => { y with sends := y.sends.map (fun (x : SendEntry) => if mine x then { x with lastSent := s.now } else x) })).arm
      .flowIdle (flowKey h.dst h.vh h.ord) (us (s.fld F.BND_FAB_RESEQ_CFG.IDLE))
  else s

/-- A packet of this device takes its flow fields and leaves by route (R139, R140, R153). -/
def State.sequence (s : State) (id : Nat) : State :=
  match s.pkt id with
  | none => s
  | some k =>
    match k.fab, k.unseq with
    | some f, true =>
      let (h, s1) := s.sourceFlow f.hdr
      (s1.onPkt id (fun k => { k with fab := some { f with hdr := h }, unseq := false })).sendOn id
    | _, _ => s

/-- A packet of this device that carries an item through the fabric, with the route its lookup finds, which it keeps (R42, R145). -/
def State.fabOwn (s : State) (k : Pkt) (h : FabHdr) (t : Option Tlp) (side : Option (Nat × List Byte)) : Pkt :=
  let h1 := { h with src := s.ownFeid, genTag := s.fld F.BND_GEN_STATUS.ACTIVE_GEN % 256, hops := 0 }
  { k with fab := some { hdr := h1, tlp := t, side := side }, tlp := none, hops0 := 0, dl0 := false, dest := 255, unseq := true
           route := s.routeOf h.dst }

/-- Send an item of this device through the fabric at once. -/
def State.sendFab (s : State) (k : Pkt) (h : FabHdr) (t : Option Tlp) (side : Option (Nat × List Byte) := none) : State :=
  (s.store (s.fabOwn k h t side)).sequence s.churn.nextId

end Sys2Proof.Machine
end

