-- ==== Sys2Proof/Machine/Clock.lean ====
section
/-! DEFINITION. The timebase and its discipline (R242, R346 to R349). -/

namespace Sys2Proof.Machine

/-- A step of the timebase (R347): counted, reported, and the gate lists realign (R242). -/
def State.tbStep (s : State) (t : BitVec 64) : State :=
  let s1 := { s with tb := t, pwr := { s.pwr with slew := 0, slewAcc := 0 } }
  ((s1.bump R.PWR_TB_STEP_CNT).raise F.PWR_EVT.TB_STEP).gclStep

/-- A correction by `d` ns: a slew below 1.00 µs, a step from there on (R347). -/
def State.tbCorrect (s : State) (d : Int) : State :=
  let s1 := s.wr R.PWR_TB_OFFSET 0 (BitVec.ofInt 32 d)
  if d.natAbs < 1000 then { s1 with pwr := { s1.pwr with slew := d, slewAcc := 0 } } else s1.tbStep (s1.tb + BitVec.ofInt 64 d)

/-- The timebase becomes valid (R346). -/
def State.tbTrue (s : State) : State := s.setFld F.PWR_TB_STATUS.VALID 0 1

/-- KFL discipline is called for: SRC 2, or SRC 3 without PPS_LOCK (R349). -/
def State.kflTime (s : State) : Bool :=
  s.fld F.PWR_TB_CFG.SRC == 2 || (s.fld F.PWR_TB_CFG.SRC == 3 && !s.flag F.PWR_TB_STATUS.PPS_LOCK)

/-- This device is a member of a fabric whose lead it knows (Table 5.4). -/
def State.isMember (s : State) : Bool := s.fld F.BND_FAB_STATUS.STATE == 4 && s.flag F.BND_FAB_STATUS.LEAD_KNOWN

/-- The link that requests time: the first live slot of the route entry for the lead (R349). -/
def State.timeLink (s : State) : Option Nat :=
  if s.kflTime && s.isMember then
    let r := s.routeOf (s.fld F.BND_FAB_STATUS.LEAD_FEID)
    if routeValid r then ((slotsOf r).map (slotOf r)).find? s.linkLive else none
  else none

/-- Set TIME_REQ_EN on the chosen link alone, and show it (R349). -/
def State.timeUpdate (s : State) : State :=
  let now := s.timeLink
  let code := now.getD 0x7F
  let s1 :=
    if s.fld F.PWR_TB_STATUS.TIME_LINK = code then s
    else
      let s1 := (s.setFld F.PWR_TB_STATUS.TIME_LINK 0 code).setFld F.PWR_TB_STATUS.KFL_LOCK 0 0
      { s1 with pwr := { s1.pwr with kflRun := 0 } }
  if !s.kflTime then s1
  else s1.each (List.range 72) (fun s c =>
    let want := match now.bind s.portOfLink with | some p => controllerOf p == c | none => false
    if s.flag F.KFL_LINK_CFG.TIME_REQ_EN c == want then s
    else
      let s2 := s.setFld F.KFL_LINK_CFG.TIME_REQ_EN c (b2n want)
      if want && !s2.asleep c then s2.arm .timeReq c (ms (s2.fld F.KFL_TIMER_C.TIME_INTERVAL c)) else s2.disarm .timeReq c)

/-- An offset measured on a link disciplines the timebase when that link is the chosen one (R349). -/
def State.kflOffset (s : State) (l : Nat) (d : Int) : State :=
  if !s.kflTime || s.fld F.PWR_TB_STATUS.TIME_LINK ≠ l then s
  else
    let s1 := s.tbCorrect d
    let n := if d.natAbs < 100 then s1.pwr.kflRun + 1 else 0
    let s2 := { s1 with pwr := { s1.pwr with kflRun := n } }
    s2.whenb (3 ≤ n) (fun s => (s.setFld F.PWR_TB_STATUS.KFL_LOCK 0 1).tbTrue)

end Sys2Proof.Machine
end

