-- ==== Sys2Proof/Machine/Mover.lean ====
section
/-! DEFINITION. What the data mover and the tracing engines take from the data path (chapter 11): the completions of the
mover's reads (R280), and the bits of traced writes (R287 to R289). -/

namespace Sys2Proof.Machine

/-! ## Functions -/

/-- The physical RID of a function of the data mover (R277). -/
def fnRid (f : Nat) : Nat := 0xF800 + f

/-- The internal binding of a function; the PF has its place behind vDSP 0 of the management VH without one (R277, R92). -/
def State.fnBinding (s : State) (f : Nat) : Option (Nat × Bind) :=
  (s.bindings.find? (fun e => Bind.kind e.2 == 5 && Bind.rid e.2 == fnRid f)).orElse
    (fun _ => if f = 0 && (s.bindingOf s.bnd.mgmtVh 0).isNone then some (pfPlace, s.pfBind) else none)

/-! ## Completions of the mover's reads -/

/-- The STATUS a completion that ends a read brings, if it fails (Table 11.3). -/
def readFailure (t : Tlp) (synth : Bool) : Option Nat :=
  if synth then some 0x05
  else if t.kind = .cpl && t.status = .ca then some 0x03
  else if t.kind = .cpl && t.status ≠ .sc then some 0x02
  else if t.ep then some 0x04 else none

/-- A chunk takes the completion of one of its reads; a DRS brings the whole line, of which the read may want a part.  `src` is the
source address of the chunk's descriptor. -/
def DmChunk.receive (c : DmChunk) (src : Nat) (t : Tlp) (bad : Option Nat) : DmChunk :=
  match c.reads.find? (fun r => r.1 == t.tag.toNat) with
  | none => c
  | some (tag, off, len) =>
    let data := if t.kind = .cxlDrs then (t.data.drop ((src + c.off + off) % 64)).take len else t.data
    let held := ((c.got.filter (fun g => off ≤ g.1 && g.1 < off + len)).map (·.2.length)).foldl (· + ·) 0
    let done := bad.isSome || decide (len ≤ held + data.length)
    { c with got := if bad.isSome then c.got else c.got ++ [(off + held, data)]
             reads := if done then c.reads.filter (fun r => r.1 != tag) else c.reads
             fail := c.fail.orElse (fun _ => bad) }

/-- A completion reaches the data mover: a chunk's read, a read of its own, or the flush read of a descriptor. -/
def State.dmReceive (s : State) (t : Tlp) (synth : Bool) : State :=
  let bad := readFailure t synth
  s.onSvc (fun y => { y with
    chunks := y.chunks.map (fun (c : DmChunk) =>
      c.receive ((y.descs.find? (fun (d : DmDesc) => d.name == c.desc)).elim 0 (fun d => bits d.words.toNat 64 64)) t bad)
    own := y.own.map (fun (o : DmOwn) => { o with part := o.part.receive o.src t bad })
    descs := y.descs.map (fun (d : DmDesc) =>
      if d.flushTag = some t.tag.toNat then { d with flushed := true, status := d.status.orElse (fun _ => bad) } else d) })

/-! ## Traced writes (R287 to R289) -/

/-- The context that a binding's traced writes go to. -/
def Bind.trace (b : Bind) : Option Nat := if b.traceEn then some b.traceCtx else none

/-- STATE of a trace context: 0 OFF, 1 TRACING, 2 SWAPPING, 3 FAULT. -/
def State.trcState (s : State) (c : Nat) : Nat := s.fld F.SVC_TRC_STATUS.STATE c

/-- The buffer that records now: the other one from instant S of a swap on (Table 11.4, step 2). -/
def State.trcBuf (s : State) (c : Nat) : Nat :=
  let b := s.fld F.SVC_TRC_STATUS.ACTIVE_BUF c
  if s.trcState c = 2 then 1 - b else b

/-- The kinds that are traced (R287). -/
def tracedKind : TlpKind → Bool
  | .mwr | .dmwr | .atomicOp => true
  | _ => false

/-- The base of the range of a context. -/
def State.trcBase (s : State) (c : Nat) : Nat := s.pair R.SVC_TRC_RANGE_LO R.SVC_TRC_RANGE_HI c / 2 ^ 21 * 2 ^ 21

/-- The pages of its range that bytes from `a` on touch, and whether some byte lies outside (R288). -/
def State.trcPages (s : State) (c a len : Nat) : List Nat × Bool :=
  let base := s.trcBase c
  let top := base + 2 ^ 21 * s.fld F.SVC_TRC_LINES.LINES c
  let n := (a + len - 1) / 4096 - a / 4096 + 1
  let pages := (List.range n).map (fun k => a / 4096 + k)
  ((pages.filter (fun p => base ≤ 4096 * p && 4096 * p < top)).map (fun p => p - base / 4096), decide (a < base) || decide (top < a + len))

/-- A line is in the cache and may take bits. -/
def TraceLine.isFor (l : TraceLine) (c b n : Nat) : Bool := l.ctx == c && l.buf == b && l.line == n && !l.evicted

/-- The lines a tracing engine holds: context c is served by engine c mod 8, and each has 64 lines (R289). -/
def State.engineLines (s : State) (e : Nat) : List TraceLine := s.svc.lines.filter (fun (l : TraceLine) => l.ctx % 8 == e && !l.evicted)

/-- The engine's write-back slot holds a line.  One slot an engine: DESIGN CHOICE (notes/assumptions/14). -/
def State.slotBusy (s : State) (e : Nat) : Bool := s.svc.lines.any (fun (l : TraceLine) => l.ctx % 8 == e && l.evicted)

/-- The key of a line's age timer. -/
def lineKey (c b n : Nat) : Nat := (2 * c + b) * 2 ^ 24 + n

/-- The new lines a traced write needs. -/
def State.linesNeeded (s : State) (c a len : Nat) : Nat :=
  let ns := ((s.trcPages c a len).1.map (· / 512)).eraseDups
  (ns.filter (fun n => !s.svc.lines.any (fun (l : TraceLine) => l.isFor c (s.trcBuf c) n))).length

/-- A traced write finds neither a free line nor a write-back slot, and waits at lookup (R289). -/
def State.traceFull (s : State) (b : Bind) (t : Tlp) : Bool :=
  match b.trace with
  | none => false
  | some c =>
    tracedKind t.kind && (s.trcState c == 1 || s.trcState c == 2) &&
      decide (64 - (s.engineLines (c % 8)).length + b2n (!s.slotBusy (c % 8)) < s.linesNeeded c t.addr (max 1 t.len))

/-- Set the bit of a page in a context's recording buffer; an engine without a free line evicts its least recently used one. -/
def State.traceBit (s : State) (c page : Nat) : State :=
  let b := s.trcBuf c
  let n := page / 512
  let bit := BitVec.ofNat 512 (2 ^ (page % 512))
  if s.svc.lines.any (fun (l : TraceLine) => l.isFor c b n) then
    s.onSvc (fun y => { y with lines := y.lines.map (fun (l : TraceLine) =>
      if l.isFor c b n then { l with bits := l.bits ||| bit, used := s.now } else l) })
  else
    let mine := s.engineLines (c % 8)
    let old := mine.foldl (fun (o : Option TraceLine) l => match o with
      | none => some l
      | some m => if l.used < m.used then some l else some m) none
    let s1 := match decide (64 ≤ mine.length), old with
      | true, some o => s.onSvc (fun y => { y with lines := y.lines.map (fun (l : TraceLine) =>
          if l.isFor o.ctx o.buf o.line then { l with evicted := true } else l) })
      | _, _ => s
    (s1.onSvc (fun y => { y with
      lines := y.lines ++ [{ ctx := c, buf := b, line := n, bits := bit, since := s.now, used := s.now }] })).arm .traceAge
      (lineKey c b n) (us (s1.fld F.SVC_CFG.TRC_AGE_US))

/-- A traced write of `len` bytes at `a`, the packet of name `id`, leaves toward the host (R287, R288). -/
def State.traceWrite (s : State) (c at_ a len id : Nat) : State :=
  if !(s.trcState c == 1 || s.trcState c == 2) then s
  else
    let (pages, out) := s.trcPages c a len
    let s1 := s.stat R.SVC_TRC_WRITES_LO R.SVC_TRC_WRITES_HI c 1
    let s2 := s1.whenb (at_ != 0) (fun s => s.setFld F.SVC_TRC_STATUS.TRANSLATED_SEEN c 1)
    let s3 := s2.whenb out (fun s =>
      ((s.setFld F.SVC_TRC_STATUS.OUT_OF_RANGE c 1).bump R.SVC_TRC_OOR_CNT).raise F.SVC_EVT.TRC_OOR)
    let s4 := s3.each pages (fun s p => s.traceBit c p)
    s4.onSvc (fun y => { y with traced := (id, c) :: y.traced.filter (fun e => (s4.pkt e.1).isSome) })

/-- A request waits at lookup for its tracing engine (R289). -/
def State.traceWait (s : State) (w : TraceWait) : State :=
  (s.onSvc (fun y => { y with waits := y.waits ++ [{ w with stalled := true }] })).bump R.SVC_TRC_STALL_CNT

/-! ## Failures and resets (R285, R286) -/

/-- A trace context enters FAULT: it stops recording, and what its engine holds of it is given up (R289, R292). -/
def State.trcFault (s : State) (c : Nat) : State :=
  if s.trcState c = 0 then s
  else
    let s1 := (s.setFld F.SVC_TRC_STATUS.STATE c 3).raise F.SVC_EVT.TRC_FAULT
    let s2 := s1.onSvc (fun y => { y with
      lines := y.lines.filter (fun (l : TraceLine) => l.ctx != c)
      swaps := y.swaps.filter (fun e => e.1 != c)
      own := y.own.filter (fun (o : DmOwn) => match o.what with
        | .line x _ _ | .swap x => x != c
        | .fetch .. | .ring .. => true)
      swapRead := drop c y.swapRead
      stopping := y.stopping.filter (· != c) })
    { s2 with timers := s2.timers.filter (fun (t : Timer) => !(t.kind == TimerKind.traceAge && t.idx / 2 ^ 25 == c)) }

/-- The contexts assigned to a function, with their slots (SVC_TRC_CFG). -/
def State.contextsOf (s : State) (f : Nat) : List (Nat × Nat) :=
  s.regs.filterMap (fun e =>
    let c := (e.1 - R.SVC_TRC_CFG.base) / 0x40
    if R.SVC_TRC_CFG.base ≤ e.1 && c < 512 && (e.1 - R.SVC_TRC_CFG.base) % 0x40 == 0 && bits e.2.toNat 14 1 == 1 &&
        bits e.2.toNat 0 11 == f then some (c, bits e.2.toNat 11 3) else none)

/-- Show what of the data mover is in flight, and whether a queue is in ERROR (SVC_STATUS). -/
def State.showMover (s : State) : State :=
  let err := s.regs.any (fun e => match R.Q_STATUS.indexAt e.1 with
    | some _ => bits e.2.toNat 0 2 == 3
    | none => false)
  (s.setFld F.SVC_STATUS.IN_FLIGHT 0 s.svc.descs.length).setFld F.SVC_STATUS.ANY_ERROR 0 (b2n err)

/-- An engine is idle again. -/
def State.engineIdle (s : State) (e : Nat) : State := s.wr R.SVC_ENG_STATUS e 0

/-- The tracker entries of the reads of some chunks become ORPHAN (R121). -/
def State.orphanReads (s : State) (tags : List Nat) : State :=
  s.onBnd (fun y => { y with trk := y.trk.map (fun (e : TrkEntry) =>
    if e.inPort == 145 && e.state == .opn && tags.contains e.origTag.toNat
    then { e with state := .orphan } else e) })

/-- Reads of the request ring in progress are given up, and so is what is left for the rings (R298, R314). -/
def State.ringsDrop (s : State) : State :=
  let ofRing (o : DmOwn) : Bool := match o.what with | .ring .. => true | _ => false
  let s1 := s.orphanReads ((s.svc.own.filter ofRing).map (fun (o : DmOwn) => o.part.reads.map (·.1))).flatten
  (s1.onSvc (fun y => { y with own := y.own.filter (fun o => !ofRing o) })).onCrb (fun y => { y with ringWait := [], heldReplies := [], hostOut := [] })

/-- A reset of a function, or the departure of its binding from BOUND (R286): its queues are DISABLED and forget their
descriptors, its reads are orphaned, its interface and its MSI-X entries take their reset values, and its trace contexts
enter FAULT. -/
def State.dmReset (s : State) (f : Nat) : State :=
  let mine := s.svc.descs.filter (fun (d : DmDesc) => d.fn == f)
  let chunks := s.svc.chunks.filter (fun (c : DmChunk) => mine.any (·.name == c.desc))
  let ofFn (o : DmOwn) : Bool := match o.what with
    | .fetch g _ _ _ => g == f
    | .line c _ _ | .swap c => s.fld F.SVC_TRC_CFG.OWNER c == f
    | .ring .. => f == 0
  let own := s.svc.own.filter ofFn
  let tags := ((chunks ++ own.map (·.part)).map (fun c => c.reads.map (·.1))).flatten ++ mine.filterMap (·.flushTag)
  let s1 := s.orphanReads tags
  let s2 := s1.each chunks (fun s c => s.engineIdle c.engine)
  let s3 := s2.onSvc (fun y => { y with
    descs := y.descs.filter (fun (d : DmDesc) => d.fn != f)
    chunks := y.chunks.filter (fun (c : DmChunk) => !mine.any (·.name == c.desc))
    deficit := drop f y.deficit
    own := y.own.filter (fun o => !ofFn o)
    spaceWaits := y.spaceWaits.filter (fun e => (s2.bind e.1).rid != fnRid f)
    waits := y.waits.filter (fun (w : TraceWait) => !(w.inPort == 145 && (s2.bind w.bi).rid == fnRid f))
    lastQueue := drop f y.lastQueue
    odd := y.odd.filter (fun i => i / 256 != f)
    unsignalled := y.unsignalled.filter (fun e => e.1 / 256 != f)
    msix := y.msix.filter (fun e => e.1 / 256 != f)
    pba := y.pba.filter (fun i => i / 256 != f) })
  let s4 := { s3 with timers := s3.timers.filter (fun (t : Timer) => !(t.kind == TimerKind.coalesce && t.idx / 256 == f)) }
  let lo := 0x10000000 + 0x10000 * f
  let s5 := s4.resetRegs (fun a => lo ≤ a && a < lo + 0x10000)
  (s5.each (s5.contextsOf f) (fun s e => s.trcFault e.1)).showMover

/-- A binding leaves BOUND: the function of an internal one is reset (R286). -/
def State.leaveBound (s : State) (bi : Nat) : State :=
  let b := s.bind bi
  if b.kind = 5 && 0xF800 ≤ b.rid then s.dmReset (b.rid - 0xF800) else s

/-- The longest prefix of a descriptor that its parts cover: BYTES_DONE (R280). -/
def prefixDone : Nat → Nat → List (Nat × Nat) → Nat
  | 0, n, _ => n
  | f + 1, n, l =>
    match l.find? (fun p => p.1 ≤ n && n < p.1 + p.2) with
    | some p => prefixDone f (p.1 + p.2) l
    | none => n

/-- The reset of an engine (R285): each descriptor with a chunk on it ends ABORTED, and the reads of its chunks are
orphaned. -/
def State.engineReset (s : State) (e : Nat) : State :=
  let names := (s.svc.chunks.filter (fun (c : DmChunk) => c.engine == e)).map (·.desc)
  let gone := s.svc.chunks.filter (fun (c : DmChunk) => names.contains c.desc)
  let tags := (gone.map (fun c => c.reads.map (·.1))).flatten
  let s1 := s.orphanReads tags
  let s2 := s1.each gone (fun s c => s.engineIdle c.engine)
  let s3 := s2.onSvc (fun y => { y with
    chunks := y.chunks.filter (fun (c : DmChunk) => !names.contains c.desc)
    spaceWaits := y.spaceWaits.filter (fun e => !(e.2.kind.nonPosted && tags.contains e.2.tag.toNat))
    descs := y.descs.map (fun (d : DmDesc) => if names.contains d.name then { d with status := some 0x08 } else d) })
  (s3.bump R.SVC_ENG_RESET_CNT).raise F.SVC_EVT.ENG_RESET

end Sys2Proof.Machine
end

