-- ==== Sys2Proof/Machine/Reply.lean ====
section
/-! DEFINITION. Corber packets and replies (R295 to R305): the header, where a reply goes, and the final reply of an accepted
operation.  Every unit that ends an accepted operation ends it with `State.finish`. -/

namespace Sys2Proof.Machine

/-- Corber status codes (Table 12.3). -/
def stOk : Nat := 0x0000
def stAccepted : Nat := 0x0001
def stBusy : Nat := 0x0101
def stTraffic : Nat := 0x0102
def stParam : Nat := 0x0201
def stResource : Nat := 0x0202
def stAuth : Nat := 0x0301
def stLocked : Nat := 0x0302
def stPeer : Nat := 0x0401
def stConflict : Nat := 0x0402
def stFenced : Nat := 0x0501
def stUnsupported : Nat := 0x0601

/-- The flags of a reply (Table 12.2): REPLY, EVENT on the final reply of an accepted operation, DUPLICATE. -/
def replyFlags (final dup : Bool) : Nat := 1 + 2 * b2n final + 16 * b2n dup

/-- A reply packet (R296): the request's header fields and a body of STATUS, DETAIL and data; in the DK-96 form the short
header and 16 zero bits (R299). -/
def replyBytes (opcode : Nat) (q : CrbReq) (final dup : Bool) (status detail : Nat) (data : List Byte) : List Byte :=
  if q.dk96 then
    leBytes 2 opcode ++ leBytes 2 q.tag.toNat ++ leBytes 2 (4 + data.length) ++ leBytes 2 q.object ++ leBytes 4 q.seq.toNat ++
      leBytes 2 status ++ leBytes 2 0 ++ data
  else
    leBytes 2 opcode ++ leBytes 2 q.tag.toNat ++ leBytes 2 (4 + data.length) ++
      leBytes 4 (q.feid.toNat + 2 ^ 16 * q.object) ++ leBytes 2 (replyFlags final dup) ++ leBytes 4 q.seq.toNat ++
      leBytes 2 status ++ leBytes 2 detail ++ data

/-- Write a packet to the reply ring, or hold it, and the reading of requests, until space frees (R298). -/
def State.toRing (s : State) (pkt : List Byte) : State :=
  if s.crb.heldReplies.isEmpty && s.ringRoom false (ringSlots (pkt.length - 16)) then s.ringPut false pkt
  else (s.onCrb (fun c => { c with heldReplies := c.heldReplies ++ [pkt] })).setFld F.MGT_CRB_STATUS.RPL_STALL 0 1

/-- The fragments of a Corber packet on the whey channel, from fragment number `i` (R300). -/
def fragments (msg : Nat) : Nat → Nat → List Byte → List (List Byte)
  | 0, _, _ => []
  | n + 1, i, b =>
    let d := b.take 20
    let last := b.length ≤ 20
    (leBytes 4 (msg + 2 ^ 8 * i + 2 ^ 16 * b2n last + 2 ^ 17 * d.length) ++ d) ::
      (if last then [] else fragments msg n (i + 1) (b.drop 20))

/-- Send a Corber packet over the whey channel toward a FEID (R300). -/
def State.toWhey (s : State) (feid : Nat) (pkt : List Byte) : State :=
  let msg := s.crb.nextMsg % 256
  let s1 := s.onCrb (fun c => { c with nextMsg := (msg + 1) % 256 })
  s1.each (fragments msg 256 0 pkt) (fun s b =>
    (s.wheyRouted { carry := 2, code := 0x40, origin := s.ownFeid, dest := feid, hops := 1, body := b }).1)

/-- Send a packet to a requester over its transport. -/
def State.sendTo (s : State) (src : Requester) (pkt : List Byte) : State :=
  match src with
  | .rings => s.toRing pkt
  | .malacel => s.emit (.reply .malacel pkt)
  | .mctp m e => s.emit (.reply (.mctp m e) pkt)
  | .whey f => s.toWhey f.toNat pkt

/-- The requester index of a source, 0 where none is recorded. -/
def State.indexOfReq (s : State) (r : Requester) : Nat := ((s.crb.reqs.find? (fun e => e.2.1 == r)).map (·.1)).getD 0

/-- Record the status of a change request, as one of the requester's last 32 (R303). -/
def State.record (s : State) (opcode : Nat) (q : CrbReq) (status detail : Nat) : State :=
  let e : DupRec := { src := q.src, seq := q.seq, opcode := opcode, tag := q.tag, status := status, detail := detail }
  s.onCrb (fun c =>
    let others := c.dups.filter (fun (d : DupRec) => !(d.src == q.src && d.seq == q.seq && d.opcode == opcode && d.tag == q.tag))
    let mine := (others.filter (fun (d : DupRec) => d.src == q.src)).take 31
    { c with dups := e :: (mine ++ others.filter (fun (d : DupRec) => d.src != q.src)) })

/-- Send a reply, first or final (R296, R305); one of status BUSY is counted (R314). -/
def State.replyNow (s : State) (opcode : Nat) (q : CrbReq) (final : Bool) (status detail : Nat) (data : List Byte) : State :=
  (s.whenb (status == stBusy) (fun s => s.bump R.MGT_CRB_BUSY_CNT)).sendTo q.src (replyBytes opcode q final false status detail data)

/-- The accepted requests of an opcode about an object. -/
def State.awaiting (s : State) (opcode object : Nat) : List Outst :=
  s.crb.outst.filter (fun (o : Outst) => o.opcode == opcode && o.req.object == object && o.accepted)

/-- Give the final reply of the accepted requests that `p` admits (R305). -/
def State.finishIf (s : State) (p : Outst → Bool) (status detail : Nat) (data : List Byte) : State :=
  let l := s.crb.outst.filter (fun (o : Outst) => o.accepted && p o)
  let s1 := s.onCrb (fun c => { c with outst := c.outst.filter (fun (o : Outst) => !(o.accepted && p o)) })
  s1.each l (fun s o =>
    let s2 := s.record o.opcode o.req status detail
    if o.discard then s2 else s2.replyNow o.opcode o.req true status detail data)

/-- Give the final reply of every accepted request of an opcode about an object (R305). -/
def State.finish (s : State) (opcode object status : Nat) (detail : Nat := 0) (data : List Byte := []) : State :=
  s.finishIf (fun o => o.opcode == opcode && o.req.object == object) status detail data

/-- Give the final reply of every accepted request of an opcode that names no object (R305). -/
def State.finishAny (s : State) (opcode status : Nat) (detail : Nat := 0) (data : List Byte := []) : State :=
  s.finishIf (fun o => o.opcode == opcode) status detail data

end Sys2Proof.Machine
end

