-- ==== Sys2Proof/Machine/Contain.lean ====
section
/-! DEFINITION. Containment (chapters 04 and 07): completions Kalnum makes (R420, R419), the tracker (R111 to R113, R208,
R209), DPC (R206), surprise down (R218), the resets of a VH and of a binding (R119 to R123), fatal faults (R220). -/

namespace Sys2Proof.Machine

/-! ## Completions Kalnum makes -/

/-- The completion of a request with a status, completer ID, Byte Count and the first byte still due (R420). -/
def mkCpl (req : Tlp) (st : CplStatus) (cplId : BitVec 16) (count first : Nat) : Tlp :=
  { kind := .cpl, rid := req.rid, tag := req.tag, tc := req.tc, cplId := cplId, status := st, byteCount := count,
    lowerAddr := first % 128, ro := req.ro, ido := req.ido, hdrLen := 12, ld := req.ld }

/-- The response that ends a CXL.mem request: a poisoned DRS for a read, an NDR Cmp for a write (R210, R265). -/
def mkCxl (req : Tlp) : Tlp :=
  if req.kind = .cxlMemRd then
    { kind := .cxlDrs, rid := req.rid, tag := req.tag, ep := true, len := 64, data := List.replicate 64 0, ld := req.ld }
  else { kind := .cxlNdr, rid := req.rid, tag := req.tag, ld := req.ld }

/-- Store a packet of Kalnum's own toward a port; packets toward Malacel and the data mover are handed over (R232, R419). -/
def State.own (s : State) (outTo vh binding : Nat) (t : Tlp) : State :=
  if 144 ≤ outTo then s.emit (.service outTo t)
  else
    let n := s.nodeFor outTo vh none
    s.storeTo { id := 0, inPort := 144, charge := ordCode t.kind.ord, ord := t.kind.ord, vh := vh, tc := t.tc.val, dest := outTo,
                gen := s.fld F.BND_GEN_STATUS.ACTIVE_GEN, len := t.payload, hdrLen := t.hdrLen, stamp := 0, tIn := 0,
                binding := binding, tlp := some t, node := n, cls := s.classAt n t.tc.val }

/-- The PTYPE of an item (Table 5.8). -/
def ptypeOf : TlpKind → Nat
  | .cxlMemRd => 2 | .cxlMemWr => 3 | .cxlNdr => 4 | .cxlDrs => 5 | _ => 0

/-- The PTYPE of a TLP that entered on a port: of one from a CXL link, CXL.io (Table 5.8). -/
def State.ptypeFrom (s : State) (inPort : Nat) (k : TlpKind) : Nat :=
  if ptypeOf k = 0 && inPort < 144 && s.flag F.PCL_PORT_STATUS.CXL_ACTIVE inPort then 1 else ptypeOf k

/-- Send a TLP to the other end of a remote binding: FEID, BIND_IDX and VH as the entry `b` names them (R142). -/
def State.tunnelBy (s : State) (inPort charge : Nat) (bi : Nat) (b : Bind) (t : Tlp) (synth : Bool := false) : State :=
  s.sendFab { id := 0, inPort := inPort, charge := charge, ord := t.kind.ord, vh := b.vh, tc := t.tc.val, dest := 255,
              gen := s.fld F.BND_GEN_STATUS.ACTIVE_GEN, len := t.payload, hdrLen := t.hdrLen, stamp := 0, tIn := 0,
              binding := bi }
    { ptype := s.ptypeFrom inPort t.kind, ord := ordCode t.kind.ord, tc := t.tc.val, synth := synth, dst := b.feid, vh := b.vh,
      bindIdx := b.remote, ilen := max 8 (t.hdrLen + t.payload) } (some t)

/-- Send a TLP to the other end of a binding of the active bank. -/
def State.tunnel (s : State) (inPort charge : Nat) (bi : Nat) (t : Tlp) : State := s.tunnelBy inPort charge bi (s.bind bi) t

/-- Send a side-band item in the posted flow of a remote binding (R143), metered as the binding's policer asks (R227). -/
def State.sideband (s : State) (bi sig : Nat) (level : Bool) (value : Nat) : State :=
  let b := s.bind bi
  let k : Pkt :=
    { id := 0, inPort := 144, charge := 0, ord := .posted, vh := b.vh, tc := 0, dest := 255,
      gen := s.fld F.BND_GEN_STATUS.ACTIVE_GEN, len := 0, hdrLen := 8, stamp := 0, tIn := 0, binding := bi }
  let h : FabHdr := { ptype := 6, ord := 0, dst := b.feid, vh := b.vh, bindIdx := b.remote, ilen := 8 }
  let item := packFields [(sig, 8), (b2n level, 1), (0, 7), (value, 32), (0, 16)]
  let id := s.churn.nextId
  let s1 := s.store (s.fabOwn k h none (some (sig, item)))
  let on := s.flag (if s.isDeviceEnd b then F.QOS_POL_CFG.DIR_UP else F.QOS_POL_CFG.DIR_DOWN) b.policer
  let s2 := match s1.pkt id with
    | some k => s1.whenb on (fun s => s.police b.policer k)
    | none => s1
  s2.whenb (!(s2.pkt id).elim false (·.held)) (fun s => s.sequence id)

/-- Word 0x04 of a function as its host reads it: Memory Space Enable and Bus Master Enable from the host view, the other bits of
Command and Status as the target's own (Table 4.9). -/
def State.commandWord (s : State) (vh i w : Nat) : Nat :=
  setBits (setBits w 1 1 (b2n (s.hostOn vh (.fn i) .memEn))) 2 1 (b2n (s.hostOn vh (.fn i) .busMaster))

/-- A completion reaches Malacel (a synthesised one leaves the 50.0 ms of a proxied request running, R106): one of a configuration
request it forwarded goes on to the host that asked, with the target's status (R106). -/
def State.malReceive (s : State) (t : Tlp) : State :=
  match s.bnd.proxied.find? (fun e => e.1 == t.tag.toNat) with
  | none => s.emit (.service 144 t)
  | some (tag, vh, bi, rid, htag) =>
    let s1 := (s.onBnd (fun y => { y with proxied := y.proxied.filter (fun e => e.1 != tag) })).disarm .proxy tag
    let i := (s1.bind bi).vdsp
    let word4 := s.bnd.trk.any (fun (e : TrkEntry) => e.inPort == 144 && e.outTag.toNat == tag && e.kind == .cfgrd && e.tlp.addr == 4)
    let data := if word4 && t.data.length = 4 then leBytes 4 (s1.commandWord vh i (leNat t.data)) else t.data
    s1.own vh vh bi { t with rid := rid, tag := htag, cplId := s1.hostRid vh i, data := data }

/-- Answer a requester under the binding entry `b` of its lookup: over the port it came in on, through the fabric when it stands at
the other end of a remote binding, or within the core when it is Malacel or the data mover. -/
def State.answerBy (s : State) (inPort vh bi : Nat) (b : Bind) (t : Tlp) (synth : Bool := false) : State :=
  if inPort = 145 then s.dmReceive t synth
  else if inPort = 144 then (if synth then s else s.malReceive t)
  else if inPort < 144 && s.isFabric inPort then s.tunnelBy 144 2 bi b t synth else s.own inPort vh bi t

/-- Answer a requester under a binding of the active bank. -/
def State.answer (s : State) (inPort vh bi : Nat) (t : Tlp) : State := s.answerBy inPort vh bi (s.bind bi) t

/-! ## Injected errors (R320) -/

/-- An injection of a class waits on an object and has not lapsed. -/
def State.injected (s : State) (cls obj : Nat) : Bool :=
  s.err.armed.any (fun a => a.1 == cls && a.2.1 == obj && decide (s.now ≤ a.2.2))

/-- An injection has met its access. -/
def State.spendInjection (s : State) (cls obj : Nat) : State :=
  s.onErr (fun y => { y with armed := y.armed.filter (fun a => !(a.1 == cls && a.2.1 == obj)) })

/-! ## Recalibration (R63, R64) -/

/-- A recalibration of a port is running. -/
def State.recalOn (s : State) (p : Nat) : Bool :=
  s.fld F.PCL_RECAL_STATUS.STATE (clusterOf p) == 1 && s.fld F.PCL_RECAL_STATUS.SLOT (clusterOf p) == p % 4

/-- The lanes a port's link has when it is not narrowed. -/
def State.fullOf (s : State) (p : Nat) : Nat := (look p s.churn.fullWidth).getD (s.fld F.PCL_PORT_STATUS.WIDTH_NOW p)

/-- Abort the recalibration of a port, if one runs, with its cause (R64); the accepted request ends with BUSY, DETAIL 2
(DESIGN CHOICE, notes/assumptions/9). -/
def State.abortRecal (s : State) (p cause : Nat) : State :=
  if !s.recalOn p then s
  else
    let c := clusterOf p
    let s1 := (s.setFld F.PCL_RECAL_STATUS.STATE c 3).setFld F.PCL_RECAL_STATUS.ABORT_CAUSE c cause
    let s2 := (s1.setFld F.PCL_CLUSTER_STATUS.RECAL_BUSY c 0).setFld F.PCL_PORT_STATUS.RECAL_BORROW p 0
    -- A KFL link keeps its width until a marker set or a recovery changes it (R200).
    let s3 := s2.whenb (s2.proto p != 2) (fun s =>
      (s.setFld F.PCL_PORT_STATUS.NARROWED p 0).each (s.lanesOf p) (fun s l => s.setFld F.PCL_LANE_STATUS.PARKED l 0))
    let s4 := s3.whenb (0 < s3.fld F.PCL_PORT_STATUS.WIDTH_NOW p && s3.linkUp p)
      (fun s => (s.setFld F.PCL_PORT_STATUS.WIDTH_NOW p (s.fullOf p)).demandStep)
    ((s4.onChurn (fun y => { y with narrowing := y.narrowing.filter (· != p), narrowTo := drop p y.narrowTo, widen := drop p y.widen, fullWidth := drop p y.fullWidth })).raise
      F.PCL_PORT_EVT.RECAL_ABORT p).finish 0x0205 p stBusy 2

/-- Requests held by a policer, or waiting for an entry, end with the packets they are. -/
def State.dropHolds (s : State) : State :=
  let gone := ((s.qos.holds.filter (fun (h : Hold) => (s.pkt h.pkt).isNone)).map (·.policer)).eraseDups
  let s1 := s.onChurn (fun y => { y with trkWait := y.trkWait.filter (fun i => (s.pkt i).isSome) })
  let s2 := s1.onQos (fun y => { y with holds := y.holds.filter (fun (h : Hold) => (s.pkt h.pkt).isSome) })
  s2.each gone (fun s p => s.showHolds p)

/-- A link ends: its status word shows DISABLED or DETECT, its recalibration aborts with a cause, and its multicast residues are
struck (R64, R83); PORT_EVT.LINK_DOWN tells of one that left ACTIVE for DETECT. -/
def State.linkEnds (s : State) (p rest cause : Nat) : State :=
  let was := s.linkUp p && rest == 1
  let s0 := (s.abortRecal p cause).whenb (s.linkUp p) (fun s => (s.ingressLost p).dropHolds)
  let s1 := (s0.linkOff p rest).strikePort p
  (s1.whenb was (fun s => s.raise F.PCL_PORT_EVT.LINK_DOWN p)).pllUpdate (clusterOf p)

/-! ## Completer IDs and statuses (R420) -/

/-- DPC Trigger Status is set on a vDSP. -/
def State.dpcOn (s : State) (vh i : Nat) : Bool := s.hostOn vh (.vdsp i) .dpcStatus

/-- The status DPC Completion Control selects (R206). -/
def State.dpcStatusOf (s : State) (vh i : Nat) : CplStatus := if s.hostOn vh (.vdsp i) .dpcCplCa then .ca else .ur

/-- The status of a synthesised completion: DPC Completion Control under DPC, else CPL_SYNTH of the VH; UR where no binding
owns the entry (R209, R218). -/
def State.synthStatus (s : State) (bound : Bool) (vh vdsp : Nat) : CplStatus :=
  if !bound then .ur
  else if s.dpcOn vh vdsp then s.dpcStatusOf vh vdsp
  else if s.flag F.ERR_VH_CFG.CPL_SYNTH vh then .ca else .ur

/-! ## The tracker -/

/-- Entries in use, of the device and of a VH; those of no VH are charged to VH 0 (R112). -/
def State.trkUsed (s : State) : Nat := s.bnd.trk.length
def State.vhUsed (s : State) (v : Nat) : Nat := (s.bnd.trk.filter (fun e => e.vh == v || (v == 0 && 144 ≤ e.vh))).length

/-- Free entries every VH's MIN still guarantees (R112). -/
def State.owed (s : State) : Nat :=
  (allPorts.map (fun u => s.fld F.BND_VH_TAGS.MIN u - s.vhUsed u)).foldl (· + ·) 0

/-- VH `v` may take an entry (R112). -/
def State.mayTake (s : State) (v : Nat) : Bool :=
  s.trkUsed < 131072 &&
    (s.vhUsed v < s.fld F.BND_VH_TAGS.MIN v ||
     (s.vhUsed v < s.fld F.BND_VH_TAGS.MAX v && decide (s.owed < 131072 - s.trkUsed)))

/-- A tag free for an OUT_RID: neither in use nor in quarantine (R112, R208).  Which is a free value. -/
def State.freeTag (s : State) (rid : BitVec 16) : Option (BitVec 14) :=
  let used := (s.bnd.trk.filter (·.outRid == rid)).map (·.outTag)
  if 16384 ≤ used.length then none
  else ((List.range (used.length + 1)).map (fun k => BitVec.ofNat 14 (s.free + k))).find? (fun t => !used.contains t)

/-- Show the tracker's use and its high-water mark. -/
def State.trkMarks (s : State) : State := s.mark F.BND_TRK_HWM.HWM s.trkUsed

/-- A tag under which Malacel may forward a configuration request of `n` payload bytes now: an entry of VH 0's share, a tag of requester
0x00FF, and space (R106, R111, R112, R419). -/
def State.proxyTag (s : State) (n : Nat) : Option (BitVec 14) :=
  if s.mayTake 0 && s.innerRoom 144 n then s.freeTag 0x00FF else none

/-- Malacel forwards a configuration request to the target of binding `bi` (R106); a logical device's carries its LD-ID (R125).  A write
of word 0x04 leaves Memory Space Enable and Bus Master Enable of the target set (Table 4.9). -/
def State.proxySend (s : State) (q : ProxyWait) (bi : Nat) (t : BitVec 14) : State :=
  let b := s.bind bi
  let data := q.write.elim [] (fun w => leBytes 4 (if q.off = 4 then setBits w.toNat 1 2 3 else w.toNat))
  let c : Tlp := { kind := if q.write.isSome then .cfgwr else .cfgrd, rid := 0x00FF, tag := t, target := BitVec.ofNat 16 b.rid
                   idRouted := true, addr := q.off, len := data.length, data := data
                   ld := if b.kind = 4 then some ⟨b.ldId % 16, Nat.mod_lt _ (by decide)⟩ else none }
  let far := b.kind = 3
  let e : TrkEntry :=
    { state := .opn, vh := 255, bound := false, binding := bi, kind := c.kind, origRid := 0x00FF, origTag := t,
      outRid := 0x00FF, outTag := t, inPort := 144, outPort := if far then 255 else b.port, destFeid := if far then b.feid else 0,
      srcFeid := s.ownFeid, bytesLeft := 4, bytesTotal := 4, acuTail := 0, gen := s.fld F.BND_GEN_STATUS.ACTIVE_GEN % 256,
      tIssue := s.tb.toNat % 2 ^ 32, fromHost := false, remote := far, quarEnd := 0, tlp := c, found := b, srcFound := b }
  let s1 := (s.drew.onBnd (fun y => { y with
    trk := y.trk ++ [e], proxied := y.proxied ++ [(t.toNat, q.vh, bi, q.rid, q.tag)] })).arm .proxy t.toNat (ms 50)
  (if far then s1.trkMarks.tunnel 144 1 bi c else s1.trkMarks.own b.port q.vh bi c)

/-- Configuration requests that wait go on, in order, while each may; one whose binding is gone ends with UR. -/
def State.proxyRun : Nat → State → State
  | 0, s => s
  | n + 1, s =>
    match s.bnd.proxyWaits with
    | [] => s
    | q :: l =>
      let s1 := s.onBnd (fun y => { y with proxyWaits := l })
      match s.bindingOf q.vh q.vdsp, s.proxyTag (if q.write.isSome then 4 else 0) with
      | some bi, some t => State.proxyRun n (s1.proxySend q bi t)
      | some _, none => s
      | none, _ => State.proxyRun n (s1.own q.vh q.vh 0xFFF
          (mkCpl { kind := .cfgrd, rid := q.rid, tag := q.tag } .ur (s.vdspId q.vh q.vdsp) 4 0))

/-- Every configuration request that can leave now leaves. -/
def State.proxyGo (s : State) : State :=
  if s.bnd.proxyWaits.isEmpty then s else (State.proxyRun s.bnd.proxyWaits.length s).poolEvents

/-- Malacel has a configuration request to forward (R106): it waits its turn, and one that waits first for a tracker entry counts an
episode (R111). -/
def State.proxyAsk (s : State) (q : ProxyWait) : State :=
  let s1 := (s.onBnd (fun y => { y with proxyWaits := y.proxyWaits ++ [q] })).proxyGo
  let stalls := s.bnd.proxyWaits.isEmpty && !s1.bnd.proxyWaits.isEmpty && (!s.mayTake 0 || (s.freeTag 0x00FF).isNone)
  s1.whenb stalls (fun s => (s.bump R.BND_TRK_STALL_CNT).raise F.BND_EVT.TRK_FULL)

/-- Keep the entries `p` does not admit. -/
def State.freeEntries (s : State) (p : TrkEntry → Bool) : State :=
  (s.onBnd (fun y => { y with trk := s.bnd.trk.filter (fun (e : TrkEntry) => !p e) }))

/-- Change the entries `p` admits. -/
def State.onEntries (s : State) (p : TrkEntry → Bool) (f : TrkEntry → TrkEntry) : State :=
  (s.onBnd (fun y => { y with trk := s.bnd.trk.map (fun (e : TrkEntry) => if p e then f e else e) }))

/-- Two entries are the same: an entry is named by what it sent and where. -/
def TrkEntry.same (a b : TrkEntry) : Bool :=
  a.outRid == b.outRid && a.outTag == b.outTag && a.binding == b.binding && a.srcFeid == b.srcFeid && a.fromHost == b.fromHost

/-- The quarantine time: the larger of BND_TRK_TIMEOUT and 1.00 ms (R208). -/
def State.quarTime (s : State) : Nat := max (us (s.fld F.BND_TRK_TIMEOUT.TIMEOUT_US)) (ms 1)

/-- Put an entry in QUARANTINE: its end is fixed now (R113, R208). -/
def State.quarantine (s : State) (e : TrkEntry) : State :=
  s.onEntries (·.same e) (fun x => { x with state := .quarantine, quarEnd := s.now + s.quarTime })

/-- The binding at which the request of an entry entered, by index and as the lookup found it: the source's of a request of a target
(R114, R420). -/
def TrkEntry.entered (e : TrkEntry) : Nat × Bind := if e.fromHost then (e.binding, e.found) else (e.srcBinding, e.srcFound)

/-- Complete an OPEN entry toward its requester with a status, count it and quarantine it (R209, R210, R218). -/
def State.synth (s : State) (e : TrkEntry) (st : CplStatus) : State :=
  let rb := e.entered.2
  let cid := if e.bound then (if s.isDeviceEnd rb then 0 else s.vdspId e.vh rb.vdsp) else 0
  let req := { e.tlp with rid := e.origRid, tag := e.origTag }
  let t := if e.kind = .cxlMemRd || e.kind = .cxlMemWr then mkCxl req
           else mkCpl req st cid (e.bytesLeft + e.acuTail) (e.tlp.addr + (e.bytesTotal - e.bytesLeft))
  let s1 := s.answerBy e.inPort e.vh e.entered.1 rb t true
  let s2 := (s1.bump R.ERR_CPL_SYNTH_CNT).quarantine e
  s2.whenb (e.kind == .cxlMemWr && e.bound) (fun s =>
    let w : Wfn := { src := e.srcFeid, addr := e.tlp.addr, len := max 1 e.tlp.len, vh := e.vh,
                     bindIdx := e.binding, dir := !e.fromHost, reason := 5, failFeid := 0, tFail := 0, fseq := 0,
                     genTag := e.gen, count := 1 }
    s.failBound e.entered.1 w)

/-! ## Slot registers of a vDSP (R98, R99) -/

/-- A vDSP shows presence and link, without a change event. -/
def State.slotIs (s : State) (vh i : Nat) (presence dll : Bool) : State :=
  (s.setHost vh (.vdsp i) .presence (b2n presence)).setHost vh (.vdsp i) .dllActive (b2n dll)

/-- The host sees presence and link of a vDSP change. -/
def State.showSlot (s : State) (vh i : Nat) (presence dll : Bool) : State :=
  let u := HostUnit.vdsp i
  let set (f c : HostField) (v : Bool) (s : State) : State :=
    if s.host vh u f = b2n v then s else (s.setHost vh u f (b2n v)).setHost vh u c 1
  set .dllActive .dllChanged dll (set .presence .presenceChanged presence s)

/-! ## DPC (R206, R207) -/

/-- A packet that belongs to a binding: addressed through it. -/
def Pkt.ofBinding (k : Pkt) (bi : Nat) : Bool := k.binding == bi

/-- Discard the unicast posted writes of a binding that `p` admits, with one posted-failure entry of REASON 8 whose COUNT is
their number (Table 7.3, step 5; R218, step 3); those a peer sent are recorded so for the peer's binding (R202). -/
def State.dropWrites (s : State) (bi : Nat) (p : Pkt → Bool) : State :=
  let hit (k : Pkt) : Bool := k.ofBinding bi && k.residue.isNone && k.ord == .posted && p k
  let l := s.churn.pkts.filter hit
  let ws := l.filter (fun k => k.tlpOf.elim false (·.kind == .mwr))
  let s1 := (s.freePkts hit).dropHolds
  s1.each ((ws.map (fun (k : Pkt) => k.owner.getD bi)).eraseDups) (fun s i =>
    match ws.filter (fun (k : Pkt) => k.owner.getD bi == i) with
    | [] => s
    | k :: l =>
      s.failBound i { k.wfn 8 (k.owner.isSome || k.inPort == 145 || (k.inPort < 144 && s.isPoolEdge k.inPort)) with
        count := min 255 (l.length + 1), bindIdx := i, vh := (s.bind i).vh })

/-- Complete the non-posted requests of a binding that wait without a tracker entry (Table 8.2, DPC row). -/
def State.endWaiting (s : State) (bi : Nat) (p : Pkt → Bool) (st : CplStatus) (cid : BitVec 16) : State :=
  let hit (k : Pkt) : Bool := k.ofBinding bi && k.want.isSome && p k
  let l := s.churn.pkts.filter hit
  let s1 := (s.freePkts hit).dropHolds
  s1.each l (fun s k => match k.want with
    | some e =>
      let req := { e.tlp with rid := e.origRid, tag := e.origTag }
      s.answerBy e.inPort e.vh e.entered.1 e.entered.2 (if req.kind.isCxl then mkCxl req else mkCpl req st cid e.tlp.asked e.tlp.addr)
    | none => s)

/-- Trigger DPC on a vDSP (Table 7.3, steps 1 to 5).  A second trigger while the status is set changes nothing (R207). -/
def State.dpcTrigger (s : State) (vh i reason : Nat) : State :=
  if s.dpcOn vh i then s
  else
    let s1 := (((s.setHost vh (.vdsp i) .dpcStatus 1).setHost vh (.vdsp i) .dpcReason reason).bump R.ERR_DPC_CNT).raise F.ERR_EVT.DPC
    match s1.bindingOf vh i with
    | none => s1
    | some bi =>
      let b := s1.bind bi
      let s2 := (((s1.leaveBound bi).setBindState bi 2 3).showSlot vh i false false).raise F.BND_EVT.BIND_SUSPEND
      let s3 := s2.whenb (b.kind == 0) (fun s => s.linkEnds b.port 0 5)
      let st := s3.dpcStatusOf vh i
      let es := s3.bnd.trk.filter (fun (e : TrkEntry) => e.state == .opn && e.bound &&
        (e.binding == bi || (e.peer && e.srcBinding == bi)))
      let s4 := s3.each es (fun s e =>
        if e.fromHost then s.synth e st
        else if s.linkUp e.inPort then s.synth e .ur
        else s.freeEntries (·.same e))
      (s4.endWaiting bi (fun _ => true) st (s4.vdspId vh i)).dropWrites bi (fun _ => true)

/-- Log an error on a vDSP, which may trigger DPC (R206): uncorrectable, unmasked, not advisory, of a severity the trigger
enable selects (1 fatal only, 2 both: PRESUMED, notes/assumptions/20). -/
def State.reportVdsp (s : State) (vh i : Nat) (e : AerErr) (advisory : Bool) (header : Nat := 0) : State :=
  let s1 := s.aerLog (.vdsp vh i) e advisory header
  let (b, cor) := e.bit
  let u := HostUnit.vdsp i
  let sev := bits (s.host vh u .uncSeverity) b 1
  let en := s.host vh u .dpcTrigEn
  if cor || advisory || bits (s.host vh u .uncMask) b 1 = 1 then s1
  else if en = 2 || (en = 1 && sev = 1) then s1.dpcTrigger vh i (if sev = 1 then 2 else 1)
  else s1

/-- Report an error of a class on the vDSP of a binding, with its journal entry; at a device end only the journal learns of it
here (R202, R203). -/
def State.reportBinding (s : State) (cls bi : Nat) (e : AerErr) (advisory : Bool) (header : Nat := 0) (port : Nat := 255) : State :=
  let b := s.bind bi
  let s1 := s.journal cls { vh := b.vh, binding := bi, port := port, detail := header }
  if s.isDeviceEnd b then s1 else s1.reportVdsp b.vh b.vdsp e advisory header

/-! ## Surprise down (R218) -/

/-- Suspend a binding with a cause; the vDSP shows an empty slot (Table 4.5), and a device end tells its VH end (R143). -/
def State.suspend (s : State) (bi cause : Nat) : State :=
  let b := s.bind bi
  if s.bindState bi = 0 || (s.bindState bi = 2 && s.fld F.BND_BIND_STATE.SUSPEND_CAUSE bi = 3) then s
  else
    let s1 := ((s.leaveBound bi).setBindState bi 2 cause).raise F.BND_EVT.BIND_SUSPEND
    if s.isDeviceEnd b then (s1.sideband bi 7 false 0).sideband bi 1 false 0
    else s1.showSlot b.vh b.vdsp false false

/-- Surprise-down containment of a pool-edge port; `removed` says its guard reports removal (R218). -/
def State.surpriseDown (s : State) (p : Nat) (removed : Bool) : State :=
  let s1 := (s.bump R.ERR_SURPRISE_DOWN_CNT).raise F.ERR_EVT.SURPRISE_DOWN
  let s2 := s1.strikePort p
  let bs := s2.bindingsOn p
  let s3 := s2.each bs (fun s e => s.suspend e.1 (if removed then 1 else 2))
  let es := s3.bnd.trk.filter (fun (e : TrkEntry) => e.state == .opn && e.outPort == p)
  let s4 := s3.each es (fun s e => s.synth e (s.synthStatus (e.bound && !s.isDeviceEnd e.found) e.vh (Bind.vdsp e.found)))
  let s5 := s4.each bs (fun s e =>
    let b : Bind := e.2
    let far := s.isDeviceEnd b
    (s.endWaiting e.1 (·.dest == p) (s.synthStatus (!far) b.vh b.vdsp) (if far then 0 else s.vdspId b.vh b.vdsp)).dropWrites e.1
      (·.dest == p))
  let s6 := (s5.freePkts (fun k => k.dest == p && k.residue.isNone)).dropHolds
  let s7 := s6.journal 0x0102 { port := p }
  s7.each (bs.filter (fun e => !s7.isDeviceEnd e.2)) (fun s e => s.reportVdsp (Bind.vh e.2) (Bind.vdsp e.2) .surpriseDown false)

/-! ## Resets of a VH and of a binding (R119 to R123) -/

/-- Start the reset of one binding (Table 4.16); one already RESETTING joins, a SUSPENDED one stays unless it is resumed
(R123, R418); that of an internal binding is the reset of its function (R286).  A function is written Initiate FLR, or without FLR the
power states D3hot and D0; without either it is not touched (R122).  PRESUMED bits: the PCI Express Base Specification
(notes/assumptions/20). -/
def State.startReset (s : State) (bi : Nat) (resume : Bool) : State :=
  let b := s.bind bi
  let st := s.bindState bi
  if !b.valid || st = 3 || (st = 2 && !resume) || st = 0 then s
  else
    let s1 := s.setBindState bi 3 0
    let s2 := (s1.onBnd (fun y => { y with resets := s1.bnd.resets ++ [(bi, b.kind, resume)] }))
    let s3 := s2.arm .bindReset bi (ms 1000)
    -- RESETTING shows presence and link (Table 4.5); the bind that follows a resumed reset is seen at its end.
    let s3 := if s3.isDeviceEnd b then s3 else s3.slotIs b.vh b.vdsp true true
    let write (s : State) (x : Nat) : State :=
      s.emit (.targetTlp bi { kind := .cfgwr, rid := 0x00FF, target := BitVec.ofNat 16 b.rid, idRouted := true, len := 4, data := leBytes 4 x,
                              ld := if b.kind = 4 then some ⟨b.ldId % 16, Nat.mod_lt _ (by decide)⟩ else none })
    match b.kind with
    | 0 => ((s3.onPins (fun y => { y with released := y.released.filter (· != b.port) })).arm .perstOut b.port (ms 1)).linkEnds
        b.port (s3.restState b.port) 2
    | 2 => s3.sideband bi 4 true 0
    | 5 => s3.leaveBound bi
    | _ => match look bi s3.bnd.methods with
      | none => write s3 0x8000
      | some 1 => write (write s3 3) 0
      | some _ => s3

/-- Complete with UR a non-posted request of a target that ends in the Churn, under its requester's own ID and tag, which its entry or
the one it waits for records (R120, R420). -/
def State.endOwn (s : State) (v : Nat) (k : Pkt) (e : Option TrkEntry) (t : Tlp) : State :=
  let b := e.elim (s.bind k.binding) (·.entered.2)
  let req := match e with | some e => { e.tlp with rid := e.origRid, tag := e.origTag } | none => t
  s.answerBy k.inPort v (e.elim k.binding (·.entered.1)) b (mkCpl req .ur (s.vdspId v b.vdsp) req.asked req.addr)

/-- Step 2 of Table 4.15: packets in the Churn toward the host-edge port end, each counted in BND_VH_BLOCKED_CNT. -/
def State.endToward (s : State) (v : Nat) : State :=
  let hit (k : Pkt) : Bool := k.dest == v && k.residue.isNone
  let l := s.churn.pkts.filter hit
  let s1 := (s.freePkts hit).dropHolds
  s1.each l (fun s k =>
    let s1 := s.bump R.BND_VH_BLOCKED_CNT v
    match k.ord, k.tlpOf with
    | .nonPosted, some t =>
      let e := s.bnd.trk.find? (fun (e : TrkEntry) => e.outRid == t.rid && e.outTag == t.tag && e.binding == k.binding && !e.fromHost)
      let s2 := match e with | some e => s1.freeEntries (·.same e) | none => s1
      s2.endOwn v k (e.orElse (fun _ => k.want)) t
    | _, _ => s1)

/-- Requests a policer holds end with the VH (Table 8.2): those of the host are discarded, those toward it end as queued
packets do. -/
def State.endHolds (s : State) (v : Nat) : State :=
  let mine := s.churn.pkts.filter (fun (k : Pkt) => k.held && k.vh == v && s.qos.holds.any (·.pkt == k.id))
  let s1 := s.each mine (fun s _ => (s.bump R.QOS_RESET_DISCARD_CNT).raise F.QOS_EVT.RESET_DISCARD)
  let s2 := s1.each (mine.filter (fun k => k.dest == v && k.ord == .nonPosted)) (fun s k => match k.tlpOf with
    | some t => s.endOwn v k k.want t
    | none => s)
  (s2.freePkts (fun k => mine.any (·.id == k.id))).dropHolds

/-- The rings end: what waits on them goes, the replies of their outstanding requests are discarded, and subscriber 0 is gone
(R297, R314). -/
def State.ringsOff (s : State) : State :=
  s.ringsDrop.onCrb (fun y => { y with
    subs := y.subs.filter (fun (b : Subscriber) => b.idx != 0)
    outst := y.outst.map (fun (o : Outst) => if o.req.src = .rings then { o with discard := true } else o) })

/-- A whole-VH reset (Table 4.15, steps 1 to 5): state, traffic, tracker, host view, binding resets. -/
def State.vhReset (s : State) (v : Nat) : State :=
  let again := s.bnd.resetting.contains v
  let s1 := if again then s
            else ((s.setFld F.BND_VH_STATUS.STATE v 1).raise F.BND_EVT.VH_RESET v).bump R.BND_VH_RESET_CNT v
  let s2 := (s1.endHolds v).endToward v
  let s3 := s2.onEntries (fun e => e.vh == v && e.state == .opn) (fun e => { e with state := .orphan })
  let s4 := (s3.clearHost v).each (s3.bindingsOf v) (fun s e =>
    s.whenb (s.bindState e.1 == 1 || s.bindState e.1 == 3) (fun s => s.slotIs v (Bind.vdsp e.2) true true))
  let s5 := s4.whenb (v == s.bnd.mgmtVh) (fun s =>
    ((s.resetRegs (fun a => domainAt a == some .vh && decide (a < 0x10000000))).setFld F.MGT_CRB_STATUS.FW_READY 0
      (s.fld F.MGT_CRB_STATUS.FW_READY)).ringsOff.dmReset 0)
  let s6 := s5.onBnd (fun y => { y with
    resetting := if again then y.resetting else v :: y.resetting
    proxyWaits := y.proxyWaits.filter (fun (q : ProxyWait) => q.vh != v)
    proxied := y.proxied.filter (fun e => e.2.1 != v) })
  s6.each (s6.bindingsOf v) (fun s e => s.startReset e.1 false)

/-- The end of steps 2 to 5 (Table 4.15, step 6): DOWN while the host-edge link is not up, else ACTIVE. -/
def State.vhResetDone (s : State) (v : Nat) : State :=
  let s1 := (s.onBnd (fun y => { y with resetting := s.bnd.resetting.filter (· != v) }))
  s1.setFld F.BND_VH_STATUS.STATE v (if s1.linkUp v then 2 else 0)

/-- Reports held for a VH go out once it is ACTIVE (Table 7.14). -/
def State.releaseHeld (s : State) (v : Nat) : State :=
  let l := s.err.held.filter (·.vh == v)
  let s1 := (s.onErr (fun y => { y with held := s.err.held.filter (fun (h : HeldReport) => !(h.vh == v)) }))
  s1.each l (fun s h =>
    let s2 := s.aerLog h.fn h.err true h.header
    match h.fn with
    | .vdsp _ i => s2.whenb (s2.hostOn v .vusp .pflIntEn) (fun s => s.emit (.hostIrq v i))
    | _ => s2)

/-! ## Fatal faults (R220) -/

/-- Enter SAFE_HOLD on a fatal fault (Table 7.12): the fence closes, the cause is captured and journalled as FATAL whatever the severity of
its class, OPEN entries are completed with CA unless the tracker is at fault, the mode changes, and the management VH and every MCTP
endpoint are told. -/
def State.safeHold (s : State) (cls kind index : Nat) : State :=
  let s1 := (s.setFld F.ERR_STATUS.FENCE 0 1).raise F.ERR_EVT.FATAL
  let s2 := ((((s1.setFld F.ERR_FATAL_CAUSE.CLASS 0 cls).setFld F.ERR_FATAL_CAUSE.KIND 0 kind).setFld
    F.ERR_FATAL_CAUSE.INDEX 0 index).setFld F.ERR_FATAL_CAUSE.VALID 0 1)
  let s3 := (s2.wr R.ERR_FATAL_TIME_LO 0 (BitVec.ofNat 32 s.tb.toNat)).wr R.ERR_FATAL_TIME_HI 0 (BitVec.ofNat 32 (s.tb.toNat / 2 ^ 32))
  let s4 := s3.journal cls { detail := kind + 16 * index, sev := some 3 }
  let s5 := s4.aerLog .mgmtPf .uncorrectableInternal false
  let s6 := if kind = 5 then s5 else s5.each (s5.bnd.trk.filter (·.state == .opn)) (fun s e => s.synth e .ca)
  let s7 := { s6 with mode := .safeHold, transition := false, kfl := { s6.kfl with frozen := true } }
  (s7.raise F.PWR_EVT.MODE_CHANGE).eventToAll (eventBody 1 0 0 cls 255 s7.tb.toNat (s4.err.journal.headD default).bytes)

/-- A failed bank, and the fatal fault of the ninth (R89). -/
def State.failBankR (s : State) (b : Nat) : State :=
  let s1 := s.failBank b
  if 9 ≤ s1.failedBanks && s1.mode != .safeHold then s1.safeHold 0x0605 15 b else s1

end Sys2Proof.Machine
end

