-- ==== Sys2Proof/Machine/Acu.lean ====
section
/-! DEFINITION. The traffic access check unit (chapter 10, R258 to R268, R421, R422): rules, the split of a request into
allowed and forbidden runs, violations and their notices. -/

namespace Sys2Proof.Machine

/-- Directions of a checked request, as ACU_FV_INFO.DIR codes them. -/
inductive AcuDir where
  | down | up | peer
  deriving DecidableEq, Repr

/-- The code of a direction (Table 10.2). -/
def AcuDir.code : AcuDir → Nat
  | .down => 1 | .up => 2 | .peer => 3

/-- The kinds of request the traffic ACU checks (R258). -/
def checked : TlpKind → Bool
  | .mrd | .mrdLk | .mwr | .atomicOp | .dmwr | .cxlMemRd | .cxlMemWr => true
  | _ => false

/-- The kinds of the write class (R261); an AtomicOp is of both. -/
def writeClass : TlpKind → Bool
  | .mwr | .dmwr | .cxlMemWr | .atomicOp => true
  | _ => false

/-- The kinds of the read class (R261). -/
def readClass : TlpKind → Bool
  | .mrd | .mrdLk | .cxlMemRd | .atomicOp => true
  | _ => false

/-- A rule matches a block of a request of binding `bi` of VH `vh` (R260). -/
def ruleMatches (r : BitVec 512) (blk vh bi : Nat) (d : AcuDir) : Bool :=
  ef r 0 1 == 1 && decide (ef r 64 58 ≤ blk) && decide (blk ≤ ef r 128 58) && (ef r 15 2 == 0 || ef r 15 2 == d.code) &&
    (ef r 1 2 == 0 || (ef r 1 2 == 1 && ef r 3 12 == vh) || (ef r 1 2 == 2 && ef r 3 12 == bi))

/-- The rule that forbids a block to a request, if one does: the lowest-numbered match decides (R260, R261, R262). -/
def State.forbids (s : State) (blk vh bi : Nat) (d : AcuDir) (k : TlpKind) : Option Nat :=
  if !s.flag F.ACU_CFG.ENABLE then none
  else
    match s.bnd.active.acu.find? (fun e => ruleMatches e.2 blk vh bi d) with
    | none => none
    | some (i, r) => if (readClass k && ef r 17 1 == 0) || (writeClass k && ef r 18 1 == 0) then some i else none

/-- What the lookup decides of a piece of a request: allowed, forbidden by a rule, or beyond the BAR end (R102). -/
inductive Verdict where
  | allow
  | rule (i : Nat)
  | beyond
  deriving DecidableEq, Repr

/-- A piece of a request: its first byte counted from the request's, its length and its verdict. -/
structure Piece where
  off : Nat
  len : Nat
  verdict : Verdict
  deriving DecidableEq, Repr

/-- The pieces of `len` bytes at `addr`: cut at 64-byte blocks and at `room`, the bytes before the BAR end (R102, R260). -/
def State.pieces (s : State) (addr len room vh bi : Nat) (d : AcuDir) (k : TlpKind) : List Piece :=
  let n := (addr + len - 1) / 64 - addr / 64 + 1
  (List.range n).flatMap (fun j =>
    let blk := addr / 64 + j
    let lo := max addr (blk * 64) - addr
    let hi := min (addr + len) ((blk + 1) * 64) - addr
    let mid := max lo (min hi room)
    let v := if checked k then (match s.forbids blk vh bi d k with | some i => Verdict.rule i | none => .allow) else .allow
    (if lo < mid then [⟨lo, mid - lo, v⟩] else []) ++ (if mid < hi then [⟨mid, hi - mid, .beyond⟩] else []))

/-- Join neighbouring allowed pieces into runs of offset and length. -/
def runsOf : List Piece → List (Nat × Nat)
  | [] => []
  | p :: l =>
    let r := runsOf l
    if p.verdict ≠ .allow then r
    else
      match r with
      | (o, n) :: m => if o = p.off + p.len then (p.off, p.len + n) :: m else (p.off, p.len) :: r
      | [] => [(p.off, p.len)]

/-- The bytes before the first piece that is not allowed: the prefix a read issues (R264). -/
def prefixOf : List Piece → Nat
  | [] => 0
  | p :: l => if p.verdict = .allow then p.len + prefixOf l else 0

/-- The pieces a rule forbids: the first one's offset and rule, and the bytes refused.  A write loses the forbidden pieces, a read
everything from the first of them up to the BAR end, any other request all of it (R263 to R265). -/
def refusedBy (k : TlpKind) (l : List Piece) : Option (Nat × Nat × Nat) :=
  let bytes (l : List Piece) : Nat := (l.map (·.len)).foldl (· + ·) 0
  let f := l.filter (fun p => match p.verdict with | .rule _ => true | _ => false)
  match f with
  | [] => none
  | p :: _ =>
    let gone := if k = .mwr then f
                else if k = .mrd || k = .mrdLk then l.filter (fun x => p.off ≤ x.off && x.verdict != .beyond)
                else l.filter (fun x => x.verdict != .beyond)
    some (p.off, (match p.verdict with | .rule i => i | _ => 0), bytes gone)

/-- Bytes beyond the BAR end: the first one's offset and their number. -/
def beyondOf (l : List Piece) : Option (Nat × Nat) :=
  let f := l.filter (fun p => p.verdict == .beyond)
  match f with
  | [] => none
  | p :: _ => some (p.off, (f.map (·.len)).foldl (· + ·) 0)

/-- The byte enables of a part of a request: the original's at its outer ends, full ones elsewhere (R263).  A part of one
double word has none for a last double word (PRESUMED: the PCI Express Base Specification; notes/assumptions/20). -/
def cutBe (t : Tlp) (addr off len : Nat) : BitVec 8 :=
  let first := if off = 0 then t.be &&& 0x0F else 0x0F
  let last := if off + len = t.len then t.be >>> 4 else 0x0F
  if off = 0 && len == t.len then t.be
  else if (addr + off) / 4 = (addr + off + len - 1) / 4 then first &&& last
  else first ||| (last <<< 4)

/-- The bytes of `len` from offset `off` of a write, as a write of their own (R263). -/
def cutWrite (t : Tlp) (addr off len : Nat) : Tlp :=
  { t with addr := addr + off, len := len, data := (t.data.drop off).take len, be := cutBe t addr off len }

/-- The first-violation capture takes a violation while it is free (R267). -/
def State.capture (s : State) (d : AcuDir) (write cxl : Bool) (addr len vh bi rule : Nat) : State :=
  if s.flag F.ACU_FV_INFO.VALID then s
  else
    let s1 := (((s.setFld F.ACU_FV_INFO.DIR 0 d.code).setFld F.ACU_FV_INFO.WRITE 0 (b2n write)).setFld
      F.ACU_FV_INFO.LEN 0 len).setFld F.ACU_FV_INFO.BINDING 0 (min bi 0xFFF)
    let s2 := (s1.wr R.ACU_FV_ADDR_LO 0 (BitVec.ofNat 32 addr)).wr R.ACU_FV_ADDR_HI 0 (BitVec.ofNat 32 (addr / 2 ^ 32))
    let s3 := ((s2.setFld F.ACU_FV_RULE.RULE 0 rule).setFld F.ACU_FV_RULE.VH 0 vh).setFld F.ACU_FV_RULE.CXL 0 (b2n cxl)
    let s4 := (s3.wr R.ACU_FV_TIME_LO 0 (BitVec.ofNat 32 s.tb.toNat)).wr R.ACU_FV_TIME_HI 0 (BitVec.ofNat 32 (s.tb.toNat / 2 ^ 32))
    ((s4.setFld F.ACU_FV_INFO.VALID 0 1).setFld F.ACU_STATUS.FV_VALID 0 1).raise F.ACU_EVT.FIRST_CAPTURED

/-- The body of an ACU notice (R422). -/
def acuNotice (vh bi dir : Nat) (write : Bool) (len header : Nat) : List (Nat × Nat) :=
  [(vh, 8), (bi, 12), (dir, 2), (b2n write, 1), (len, 13), (header, 128)]

/-- The key of the notice holdoff of a VH and binding, apart from the keys of WFNs. -/
def noticeKey (vh bi : Nat) : Nat := 2 ^ 40 + vh * 4096 + bi

/-- A device end tells the VH end of a violation, at most once in a holdoff time (R422). -/
def State.notice (s : State) (bi : Nat) (d : AcuDir) (write : Bool) (len header : Nat) : State :=
  let b := s.bind bi
  let key := noticeKey b.vh b.remote
  if s.running .wfn key && !s.due .wfn key then s
  else
    let (s1, ok) := s.wheyRouted (s.message 0x32 b.feid (acuNotice b.vh b.remote d.code write len header))
    let s2 := s1.arm .wfn key (us (s.fld F.ERR_CFG.WFN_HOLDOFF_US))
    if ok then s2 else s2.bump R.ERR_WFN_UNDELIV_CNT

/-- Count and report a violation (R266, R268, R422): `addr` is the checked address of the first refused byte, `len` the bytes
refused, `t` the request as received.  The capture names `abi`, the binding of R260; the report goes to the vDSP of `bi`, the
binding at which the request entered (R420; notes/assumptions/64). -/
def State.violation (s : State) (d : AcuDir) (t : Tlp) (bi abi rule addr len : Nat) : State :=
  let b := s.bind bi
  let write := writeClass t.kind
  let s1 := (s.bump R.ACU_VIOL_CNT).raise F.ACU_EVT.VIOLATION
  let s2 := s1.capture d write t.kind.isCxl addr len (s.bind abi).vh abi rule
  let s3 := s2.reportBinding 0x0309 bi .completerAbort false t.header
  s3.whenb (s3.isDeviceEnd b) (fun s => s.notice bi d write len t.header)

/-- Count a request of which part is issued and part refused (R421). -/
def State.countSplit (s : State) : State := (s.bump R.ACU_SPLIT_CNT).raise F.ACU_EVT.SPLIT

end Sys2Proof.Machine
end

