-- ==== Sys2Proof/Machine/Route.lean ====
section
/-! DEFINITION. The lookup (step 6 of Table 1.9): where a request goes, how it is translated and split, and what becomes of
one that is refused (R101 to R110, R119 to R125, R142, R263 to R266). -/

namespace Sys2Proof.Machine

/-- Traffic crosses Kalnum: the modes in which links carry TLPs, outside the fence of SAFE_HOLD (R8, R220). -/
def State.carries (s : State) : Bool :=
  !s.flag F.ERR_STATUS.FENCE &&
    (s.mode == .transparent || s.mode == .composed || s.mode == .fabric || s.mode == .maintenance)

/-! ## A request on its way -/

/-- Where a request leaves to and how: by a port of this device, or through the fabric under a header. -/
structure Plan where
  inPort : Nat
  charge : Nat
  vh : Nat
  /-- The binding crossed. -/
  bi : Nat
  dir : AcuDir
  /-- This device checks the request (R258), against the rules of this binding. -/
  check : Bool
  abi : Nat
  /-- The binding on whose vDSP refusals are reported, and the completer ID of a whole refusal (R420). -/
  rbi : Nat
  cid : BitVec 16
  /-- The local port, or none for the fabric. -/
  outTo : Option Nat
  hdr : FabHdr := {}
  /-- IDs as sent, and whether the tag is Kalnum's own. -/
  rid : BitVec 16
  fresh : Bool
  ld : Option (Fin 16) := none
  pol : Option Nat := none
  sub : Option Nat := none
  fromHost : Bool
  peer : Bool := false
  srcBi : Nat := 0xFFF
  remote : Bool := false
  destFeid : Nat := 0
  srcFeid : Nat := 0
  /-- A write of a trace context's own bitmap, which is not traced (R287). -/
  bitmap : Bool := false
  /-- The ID an ID-routed request takes at a function or logical device: its physical one (R105). -/
  target : Option (BitVec 16) := none

/-- Take a tracker entry for a stored request that wants one (R111, R112): its tag is put in the packet. -/
def State.takeEntry (s : State) (id : Nat) : State × Bool :=
  match s.pkt id with
  | none => (s, false)
  | some k =>
    match k.want with
    | none => (s, true)
    | some e =>
      let tag? := if k.fresh then s.freeTag e.outRid else some e.origTag
      match s.mayTake e.vh, tag? with
      | true, some tag =>
        let e1 := { e with outTag := tag, tIssue := s.tb.toNat % 2 ^ 32 }
        let retag (t : Tlp) : Tlp := { t with tag := tag }
        let s1 := if k.fresh then s.drew else s
        let s2 := s1.onPkt id (fun k => { k with
          want := none, tlp := k.tlp.map retag, fab := k.fab.map (fun f => { f with tlp := f.tlp.map retag }) })
        let s3 := s2.onBnd (fun b => { b with trk := b.trk ++ [e1] })
        let s4 := s3.onChurn (fun c => { c with trkWait := c.trkWait.filter (· != id) })
        (s4.trkMarks, true)
      | _, _ => (s, false)

/-- A stored request goes on: unless a policer holds it, it takes its entry and leaves; one that finds none waits, and the
first to wait of its port counts an episode (R111). -/
def State.goOn (s : State) (id : Nat) : State :=
  match s.pkt id with
  | none => s
  | some k =>
    if k.held then s
    else
      let (s1, ok) := s.takeEntry id
      if ok then (s1.onPkt id (fun k => { k with queuedAt := s1.now })).sequence id
      else if s1.churn.trkWait.contains id then s1
      else
        let first := !s1.churn.trkWait.any (fun j => (s1.pkt j).elim false (fun x => x.inPort == k.inPort))
        let s2 := s1.onChurn (fun c => { c with trkWait := c.trkWait ++ [id] })
        s2.whenb first (fun s => (s.bump R.BND_TRK_STALL_CNT).raise F.BND_EVT.TRK_FULL)

/-- Record a posted write that failed at binding `bi` in this device (R211). -/
def State.recordFailure (s : State) (bi : Nat) (dirUp : Bool) (reason addr len : Nat) (h : FabHdr := {}) : State :=
  s.failBound bi { src := h.src, addr := addr, len := max 1 len, vh := (s.bind bi).vh, bindIdx := bi, dir := dirUp,
                   reason := reason, failFeid := 0, tFail := 0, fseq := h.fseq, genTag := h.genTag, count := 1 }

/-- Send one request of a plan: store, police, take an entry, leave (steps 6 and 7 of Table 1.9).  `orig` is the request as
received, of which `prefix` bytes are issued and `tail` answered with UR (R264). -/
def State.launch (s : State) (pl : Plan) (orig t : Tlp) (pre tail : Nat) : State :=
  let t1 := { t with rid := pl.rid, ld := pl.ld.orElse (fun _ => t.ld)
                     target := if t.idRouted then pl.target.getD t.target else t.target }
  let b := s.bind pl.bi
  let last := pl.outTo.isSome && t.kind == .mwr
  let outTo0 := pl.outTo.getD 255
  if last && s.injected 0x0401 pl.bi then
    -- An injection of class 0x0401 discards the write at the last Kalnum of its path (Table 12.13).
    ((s.spendInjection 0x0401 pl.bi).journal 0x0401 { port := outTo0, vh := pl.vh, binding := pl.bi }).recordFailure pl.rbi
      (!pl.fromHost) 8 t.addr t.len
  else if pl.outTo = some 145 then
    let base := ((s.winsOf b).find? (fun e => inRange t.addr (winDevBase e.2) (winPhys e.2))).elim 0 (fun e => winDevBase e.2)
    s.onSvc (fun y => { y with inbox := y.inbox ++
      [{ fn := b.rid - 0xF800, off := t.addr - base, bi := pl.bi, vh := pl.vh, inPort := pl.inPort, orig := orig, tlp := t1, tail := tail }] })
  else
    let e : TrkEntry :=
      { state := .opn, vh := if pl.vh < 144 then pl.vh else 0, bound := true, binding := pl.bi, kind := t.kind,
        origRid := orig.rid, origTag := orig.tag, outRid := if pl.remote && pl.fresh then BitVec.ofNat 16 pl.vh else pl.rid,
        outTag := orig.tag, inPort := pl.inPort, outPort := pl.outTo.getD 255, destFeid := pl.destFeid, srcFeid := pl.srcFeid,
        bytesLeft := pre, bytesTotal := pre, acuTail := tail, gen := s.fld F.BND_GEN_STATUS.ACTIVE_GEN % 256, tIssue := 0,
        fromHost := pl.fromHost, peer := pl.peer, srcBinding := pl.srcBi, remote := pl.remote, quarEnd := 0, tlp := orig
        found := b, srcFound := s.bind pl.srcBi }
    let np := t.kind.nonPosted
    let outTo := pl.outTo.getD 255
    let n := s.nodeFor outTo pl.vh pl.sub
    let k : Pkt :=
      { id := 0, inPort := pl.inPort, charge := pl.charge, ord := t.kind.ord, vh := pl.vh, tc := t.tc.val, dest := outTo,
        gen := s.fld F.BND_GEN_STATUS.ACTIVE_GEN, len := t1.payload, hdrLen := t1.hdrLen, stamp := 0, tIn := 0,
        binding := pl.bi, owner := if pl.rbi = pl.bi then none else some pl.rbi, want := if np then some e else none, fresh := pl.fresh && np, poisoned := t.ep, tlp := some t1,
        node := n, cls := s.classAt n t.tc.val }
    let k1 := if pl.outTo.isSome then k
              else s.fabOwn k { pl.hdr with ptype := s.ptypeFrom pl.inPort t.kind, ord := ordCode t.kind.ord, tc := t.tc.val,
                                            ilen := max 8 (t1.hdrLen + t1.payload) } (some t1) none
    let id := s.churn.nextId
    let s1 := s.store k1
    let s2' := s1.whenb pl.outTo.isSome (fun s => s.decideSf id [outTo])
    let s2 := match (s.bind pl.bi).trace, pl.dir with
      | some c, .up => s2'.whenb (tracedKind t.kind && pl.outTo.isSome && !pl.bitmap) (fun s => s.traceWrite c t.at_ t.addr (max 1 t.len) id)
      | _, _ => s2'
    let s3 := match pl.pol, s2.pkt id with
      | some p, some k => s2.police p k
      | _, _ => s2
    (s3.goOn id).poolEvents

/-- Complete a refused non-posted request toward its requester; a refused posted request is only discarded. -/
def State.refuse (s : State) (inPort vh bi : Nat) (t : Tlp) (st : CplStatus) (cid : BitVec 16) : State :=
  if t.kind.isCxl then (if t.kind.nonPosted then s.answer inPort vh bi (mkCxl t) else s)
  else if t.kind.nonPosted then s.answer inPort vh bi (mkCpl t st cid t.asked t.addr)
  else s

/-- Issue a request at its checked address: every piece the ACU and the BAR end allow goes on, the rest is refused and
reported (R102, R263 to R266, R421). -/
def State.issue (s : State) (pl : Plan) (t : Tlp) (addr room : Nat) : State :=
  let len := max 1 t.len
  let ab := s.bind pl.abi
  let ps := if pl.check then s.pieces addr len room ab.vh pl.abi pl.dir t.kind
            else if len ≤ room then [⟨0, len, .allow⟩]
            else (if 0 < room then [⟨0, room, .allow⟩] else []) ++ [⟨room, len - room, .beyond⟩]
  let viol := refusedBy t.kind ps
  let bey := beyondOf ps
  let s1 := match viol with
    | some (off, rule, n) => s.violation pl.dir t pl.rbi pl.abi rule (addr + off) n
    | none => s
  let s2 := match bey with
    | some _ => (s1.bump R.BND_UNCLAIMED_CNT).reportBinding 0x0305 pl.rbi .unsupportedRequest false t.header
    | none => s1
  if viol.isNone && bey.isNone then s2.launch pl t { t with addr := addr } len 0
  else if t.kind = .mwr then
    let runs := runsOf ps
    let s3 := s2.each runs (fun s r => s.launch pl t (cutWrite t addr r.1 r.2) r.2 0)
    let s4 := match viol with
      | some (off, _, n) => s3.recordFailure pl.rbi (!pl.fromHost) 4 (addr + off) n
      | none => s3
    let s5 := match bey with
      | some (off, n) => s4.recordFailure pl.rbi (!pl.fromHost) 5 (addr + off) n
      | none => s4
    s5.whenb (!runs.isEmpty) State.countSplit
  else if t.kind = .mrd || t.kind = .mrdLk then
    let pre := prefixOf ps
    if pre = 0 then
      (s2.whenb viol.isSome (fun s => s.bump R.ACU_TAIL_CNT)).refuse pl.inPort pl.vh pl.bi t .ur pl.cid
    else (s2.launch pl t { t with addr := addr, len := pre, be := cutBe t addr 0 pre } pre (len - pre)).countSplit
  else
    let s3 := s2.refuse pl.inPort pl.vh pl.bi t .ur pl.cid
    match viol with
    | some (off, _, n) => s3.whenb (t.kind == .cxlMemWr) (fun s => s.recordFailure pl.rbi (!pl.fromHost) 4 (addr + off) n)
    | none => s3

/-! ## Refusals -/

/-- A request refused at a binding is journalled as class 0x0305 and logged on its vDSP (Table 7.2). -/
def State.refuseAt (s : State) (inPort vh bi : Nat) (e : AerErr) (t : Tlp) (cid : BitVec 16) (port : Nat := 255) : State :=
  (s.reportBinding 0x0305 bi e false t.header port).refuse inPort vh bi t .ur cid

/-- A request of binding `b` that came in on a port came from its target: from a pool-edge port, the data mover, or through the fabric
from the device end. -/
def State.fromTarget (s : State) (inPort : Nat) (b : Bind) : Bool :=
  inPort = 145 || (inPort < 144 && (s.isPoolEdge inPort || (s.isFabric inPort && !s.isDeviceEnd b)))

/-- Selective IDE at a binding that does not pass it (R110). -/
def State.refuseIde (s : State) (inPort vh bi : Nat) (t : Tlp) (cid : BitVec 16) : State :=
  let b := s.bind bi
  let s1 := (s.bump R.BND_IDE_REFUSED_CNT).raise F.BND_EVT.IDE_REFUSED
  let first := !s1.bnd.ideSeen.contains b.vh
  let s2 := s1.whenb first (fun s =>
    (s.onBnd (fun x => { x with ideSeen := b.vh :: x.ideSeen })).journal 0x0306 { vh := b.vh, binding := bi, detail := t.header })
  let s3 := s2.whenb (!s2.isDeviceEnd b) (fun s => s.reportVdsp b.vh b.vdsp .unsupportedRequest false t.header)
  let s4 := s3.refuse inPort vh bi t .ur cid
  s4.whenb (t.kind == .mwr) (fun s => s.recordFailure bi (s.fromTarget inPort b) 9 t.addr t.len)

/-- A binding lets TLPs with Selective IDE protection pass (R109). -/
def Bind.passesIde (b : Bind) : Bool := b.identity && b.idePass

/-- A binding forwards requests now (Table 4.5): BOUND, or UNBINDING before the host powers the slot off. -/
def State.forwards (s : State) (bi : Nat) : Bool :=
  s.bindState bi == 1 || (s.bindState bi == 4 && !s.hostOn (s.bind bi).vh (.vdsp (s.bind bi).vdsp) .powerCtlOff)

/-- A posted write is discarded at a contained binding: it makes a record of REASON 8, unless the binding is SUSPENDED or its VH is not
ACTIVE (R211). -/
def State.contained (s : State) (bi : Nat) (t : Tlp) (dirUp : Bool) : State :=
  s.whenb (t.kind == .mwr && s.bindState bi != 2 && (s.isDeviceEnd (s.bind bi) || s.vhActive (s.bind bi).vh)) (fun s =>
    s.recordFailure bi dirUp 8 t.addr t.len)

/-- A poisoned TLP is counted as it is forwarded, and logged by its ingress function (R217, class 0x0207). -/
def State.poisonIn (s : State) (fn : AerFn) (vh bi : Nat) (t : Tlp) : State :=
  s.whenb t.ep (fun s => ((s.journal 0x0207 { vh := vh, binding := bi }).aerLog fn .poisoned true t.header).bump R.ERR_POISON_FWD_CNT)

/-- A poisoned request stopped at an egress function that blocks poison (R217). -/
def State.poisonStop (s : State) (vh : Nat) (u : HostUnit) (fn : AerFn) (inPort bi : Nat) (t : Tlp) (cid : BitVec 16) :
    Option State :=
  if t.ep && s.hostOn vh u .poisonBlock && t.kind.ord != .completion then
    let s1 := match fn with
      | .vdsp v i => s.reportVdsp v i .egressBlocked false t.header
      | _ => s.aerLog fn .egressBlocked false t.header
    some (s1.refuse inPort vh bi t .ur cid)
  else none

/-! ## Requests from the host (R101 to R103) -/

/-- The ways of an HDM decoder's interleave code (R126). -/
def hdmWays (c : Nat) : Nat := match c with | 0 => 1 | 1 => 2 | 2 => 4 | 3 => 8 | 4 => 16 | _ => 0

/-- Target `k` of HDM decoder `d` of a VH, a vDSP: 8 bits each, targets 0 to 7 in field 4d + 3 and 8 to 15 in field 64 + d (R126). -/
def State.hdmEntry (s : State) (vh d k : Nat) : Nat :=
  bits (s.host vh .vusp (.hdm (if k < 8 then 4 * d + 3 else 64 + d))) (8 * (k % 8)) 8 % 64

/-- The vDSP a CXL.mem address goes to: the committed HDM decoder that covers it, and the target its interleave selects
(R126).  Fields 4d to 4d + 2 of the host view are decoder d's base, size and control; PRESUMED layout of control
(bits 3:0 granularity, 7:4 ways, 9 commit, 10 committed, 11 error, not committed; notes/assumptions/20). -/
def State.hdmTarget (s : State) (vh addr : Nat) : Option Nat :=
  (List.range 16).findSome? (fun d =>
    let f (j : Nat) : Nat := s.host vh .vusp (.hdm (4 * d + j))
    if bits (f 2) 10 1 = 1 && inRange addr (f 0) (f 1) then
      some (s.hdmEntry vh d ((addr / 2 ^ (8 + bits (f 2) 0 4)) % max 1 (hdmWays (bits (f 2) 4 4))))
    else none)

/-- The vDSP whose bus range holds a bus number (R101, R105). -/
def State.vdspOfBus (s : State) (vh bus : Nat) : Option Nat :=
  (List.range 64).find? (fun i =>
    let u := HostUnit.vdsp i
    s.vdspPresent vh i && 0 < s.host vh u .secondaryBus && s.host vh u .secondaryBus ≤ bus && bus ≤ s.host vh u .subordinateBus)

/-- The vDSP a request of the host goes to (R101, R105, R126). -/
def State.hostClaim (s : State) (vh : Nat) (t : Tlp) : Option Nat :=
  match t.kind with
  | .mrd | .mrdLk | .mwr | .atomicOp | .dmwr => s.claims vh t.addr false
  | .iord | .iowr => s.claims vh t.addr true
  | .cxlMemRd | .cxlMemWr => s.hdmTarget vh t.addr
  | _ => s.vdspOfBus vh (t.target.toNat / 256)

/-- A request no vDSP claims (R101, class 0x0304), answered under a completer ID (R420). -/
def State.unclaimedBy (s : State) (vh : Nat) (t : Tlp) (cid : BitVec 16) : State :=
  let s1 := ((s.bump R.BND_UNCLAIMED_CNT).journal 0x0304 { vh := vh, detail := t.header }).aerLog (.vusp vh)
    .unsupportedRequest false t.header
  s1.refuse vh vh 0xFFF t .ur cid

/-- A request that reaches no vDSP: the vUSP answers. -/
def State.unclaimed (s : State) (vh : Nat) (t : Tlp) : State := s.unclaimedBy vh t (s.vuspId vh)

/-- The plan of a host request toward a binding (R103, R142). -/
def State.downPlan (s : State) (vh charge bi : Nat) : Plan :=
  let b := s.bind bi
  let base : Plan :=
    { inPort := vh, charge := charge, vh := vh, bi := bi, dir := .down, check := true, abi := bi, rbi := bi,
      cid := s.vdspId vh b.vdsp, outTo := some b.port, rid := BitVec.ofNat 16 vh, fresh := true, fromHost := true,
      pol := if s.flag F.QOS_POL_CFG.DIR_DOWN b.policer then some b.policer else none, sub := some b.subscriber,
      srcFeid := s.ownFeid }
  let far : Plan := { base with
    outTo := none, sub := none, remote := true, destFeid := b.feid, hdr := { dst := b.feid, vh := b.vh, bindIdx := b.remote } }
  match b.kind with
  | 0 => { base with fresh := false }
  | 2 => { far with fresh := false }
  | 3 => { far with rid := 0 }
  | 4 => { base with ld := some ⟨b.ldId % 16, Nat.mod_lt _ (by decide)⟩, target := some (BitVec.ofNat 16 b.rid) }
  | _ => { base with target := some (BitVec.ofNat 16 b.rid) }

/-- Give a plan the IDs a request keeps where they pass unchanged. -/
def Plan.keepIds (pl : Plan) (t : Tlp) : Plan := if pl.fresh then pl else { pl with rid := t.rid }

/-- A host request reaches the binding of the vDSP that claims it. -/
def State.hostToBinding (s : State) (vh i bi charge : Nat) (t : Tlp) : State :=
  let b := s.bind bi
  let cid := s.vdspId vh i
  if t.ide && !b.passesIde then s.refuseIde vh vh bi t cid
  else if t.kind.isMem && t.at_ ≠ 0 then s.refuseAt vh vh bi .unsupportedRequest t cid
  -- Under a function binding the device works as PCI Express (R124).
  else if t.kind.isCxl && (b.kind = 1 || b.kind = 5) then s.refuseAt vh vh bi .unsupportedRequest t cid
  else if !s.forwards bi then
    if s.bindState bi = 3 && (t.kind = .cfgrd || t.kind = .cfgwr) then s.refuse vh vh bi t .crs cid
    else (s.refuse vh vh bi t (if s.dpcOn vh i then s.dpcStatusOf vh i else .ur) cid).contained bi t false
  else
    match s.poisonStop vh (.vdsp i) (.vdsp vh i) vh bi t cid with
    | some s1 => s1
    | none =>
      let pl := (s.downPlan vh charge bi).keepIds t
      if b.isPortKind || !t.kind.isMem then
        (if (t.kind = .iord || t.kind = .iowr) && !b.isPortKind then s.unclaimed vh t
         else s.issue pl t t.addr (2 ^ 64))
      else
        match s.barHit b t.addr with
        | none =>
          ((s.bump R.BND_UNCLAIMED_CNT).reportBinding 0x0305 bi .unsupportedRequest false t.header).refuse vh vh bi t .ur cid
        | some w =>
          if (t.kind.nonPosted && ef w 32 1 == 0) || (!t.kind.nonPosted && ef w 33 1 == 0) then
            let s1 := s.refuseAt vh vh bi .unsupportedRequest t cid
            s1.whenb (t.kind == .mwr) (fun s => s.recordFailure bi false 5 t.addr t.len)
          else
            let off := t.addr % winSize w
            s.issue pl t (winDevBase w + off) (winPhys w - off)

/-! ## PCI Express Multicast (R82, R265) -/

/-- The multicast group of a write in a VH.  PRESUMED: the PCI Express Base Specification's ranges (notes/assumptions/20). -/
def State.mcGroup (s : State) (vh : Nat) (t : Tlp) : Option Nat :=
  let u := HostUnit.vusp
  let pos := s.host vh u .mcIndexPos
  let base := s.host vh u .mcBase
  if t.kind = .mwr && s.hostOn vh u .mcEnable && inRange t.addr base ((s.host vh u .mcNumGroup + 1) * 2 ^ pos)
  then some ((t.addr - base) / 2 ^ pos % 64) else none

/-- The destinations of a group in a VH: the ports of local bindings that forward, and the host-edge port, whose functions
receive it, less the ingress port. -/
def State.mcSet (s : State) (vh g inPort : Nat) : BitVec 144 :=
  let downs := (s.bindingsOf vh).filter (fun e =>
    (Bind.kind e.2 == 0 || Bind.kind e.2 == 1 || Bind.kind e.2 == 4) && s.forwards e.1 && s.linkUp (Bind.port e.2) &&
      bits (s.host vh (.vdsp (Bind.vdsp e.2)) .mcReceive) g 1 == 1)
  let b0 := downs.foldl (fun (b : BitVec 144) e => b ||| portBit (Bind.port e.2)) 0
  let b1 := if bits (s.host vh .vusp .mcReceive) g 1 = 1 then b0 ||| portBit vh else b0
  b1 &&& ~~~(portBit inPort)

/-- The copies of a multicast write that their own egress stops: a binding without IDE_PASS refuses one with Selective IDE (R110), and
a function that blocks poison stops a poisoned one (R217).  The ports left, and the state after the reports. -/
def State.mcStops (s : State) (vh inPort : Nat) (set : BitVec 144) (ds : List (Nat × Bind)) (t : Tlp) : BitVec 144 × State :=
  let ides := ds.filter (fun e => t.ide && !Bind.passesIde e.2)
  let blocks := ds.filter (fun e => t.ep && s.hostOn vh (.vdsp (Bind.vdsp e.2)) .poisonBlock && !(t.ide && !Bind.passesIde e.2))
  let up := t.ep && s.hostOn vh .vusp .poisonBlock && set.getLsbD vh
  let gone := (ides ++ blocks).foldl (fun (b : BitVec 144) e => b ||| portBit (Bind.port e.2)) (if up then portBit vh else 0)
  let s1 := s.each ides (fun s e => s.refuseIde inPort vh e.1 t 0)
  let s2 := s1.each blocks (fun s e => s.reportVdsp vh (Bind.vdsp e.2) .egressBlocked false t.header)
  (set &&& ~~~gone, s2.whenb up (fun s => s.aerLog (.vusp vh) .egressBlocked false t.header))

/-- A multicast write (R82, R258, R265): refused whole when an ACU rule forbids a block of it for one of its copies, toward a binding
or, of a target's write, toward the host; one that came through the fabric was checked where it entered.  The write of a target is
policed where it enters (R227). -/
def State.mcWrite (s0 : State) (vh inPort charge g src : Nat) (t : Tlp) (check : Bool) (pol : Option Nat := none) : State :=
  let set0 := s0.mcSet vh g inPort
  let ds := (s0.bindingsOf vh).filter (fun e => Bind.port e.2 < 144 && set0.getLsbD (Bind.port e.2))
  let copies := ds.map (fun e => (e.1, if src = 0xFFF then AcuDir.down else .peer)) ++
    (if src ≠ 0xFFF && set0.getLsbD vh then [(src, AcuDir.up)] else [])
  let bad := if !check then none else copies.findSome? (fun e =>
    match refusedBy t.kind (s0.pieces t.addr (max 1 t.len) (2 ^ 64) vh e.1 e.2 t.kind) with
    | some v => some (e.1, e.2, v)
    | none => none)
  match bad with
  | some (bi, dir, off, rule, n) => s0.violation dir t (if src = 0xFFF then bi else src) bi rule (t.addr + off) n
  | none =>
    let (set, s) := s0.mcStops vh inPort set0 ds t
    if set = 0 then s
    else
      let k : Pkt :=
        { id := 0, inPort := inPort, charge := charge, ord := .posted, vh := vh, tc := t.tc.val, dest := 255,
          gen := s.fld F.BND_GEN_STATUS.ACTIVE_GEN, len := t.payload, hdrLen := t.hdrLen, stamp := 0, tIn := 0,
          binding := src, residue := some { residue := set, struck := 0, destSet := set, group := g }, tlp := some t }
      let id := s.churn.nextId
      let s0 := s.store k
      let s1 := match (s.bind src).trace with
        | some c => s0.whenb (src != 0xFFF && set.getLsbD vh && tracedKind t.kind) (fun s => s.traceWrite c t.at_ t.addr (max 1 t.len) id)
        | none => s0
      let s2 := s1.decideSf id (portsIn set)
      let s3 := match pol, s2.pkt id with
        | some p, some k => s2.police p k
        | _, _ => s2
      (s3.whenb (s3.fld F.CHN_MC_TIMER.TIMER_US != 0) (fun s => s.arm .residue id (us (s.fld F.CHN_MC_TIMER.TIMER_US)))).poolEvents

/-- Bytes of the management PF's BAR0 (R14). -/
def pfBar : Nat := 2 ^ 26

/-- A request of the management host reaches BAR0 of the management PF, which stands behind vDSP 0 of its VH (R14, R92). -/
def State.toPf (s : State) (vh i : Nat) (t : Tlp) : Bool :=
  vh == s.bnd.mgmtVh && i == 0 && t.kind.isMem && s.hostOn vh (.fn 0) .memEn && inRange t.addr (s.host vh (.fn 0) (.bar 0)) pfBar

/-- Hand a request to the management PF. -/
def State.pfRequest (s : State) (vh : Nat) (t : Tlp) : State :=
  s.onSvc (fun y => { y with inbox := y.inbox ++
    [{ fn := 0, off := t.addr - s.host vh (.fn 0) (.bar 0), bi := 0xFFF, vh := vh, inPort := vh, orig := t, tlp := t, tail := 0 }] })

/-- A request of the host at its host-edge port (R101).  One with an Address Type other than 00 is refused where a vDSP claims it, or
by the vUSP (R102).  DESIGN CHOICE: one that the bridge window of a vDSP without a binding claims is unclaimed, and that vDSP answers
(notes/assumptions/71). -/
def State.hostRequest (s : State) (vh : Nat) (t : Tlp) : State :=
  let s1 := s.poisonIn (.vusp vh) vh 0xFFF t
  let charge := ordCode t.kind.ord
  let translated := t.kind.isMem && t.at_ ≠ 0
  match (if translated then none else s1.mcGroup vh t) with
  | some g => s1.mcWrite vh vh charge g 0xFFF t true
  | none =>
    match s1.hostClaim vh t with
    | none => s1.unclaimed vh t
    | some i =>
      match s1.bindingOf vh i with
      | some bi => s1.hostToBinding vh i bi charge t
      | none =>
        if translated then ((s1.journal 0x0305 { vh := vh, detail := t.header }).reportVdsp vh i .unsupportedRequest false t.header).refuse vh
          vh 0xFFF t .ur (s1.vdspId vh i)
        else if s1.toPf vh i t then s1.pfRequest vh t
        else s1.unclaimedBy vh t (s1.vdspId vh i)

/-! ## Requests from targets (R104, R105, R108) -/

/-- The binding a TLP from a pool-edge port belongs to (R104, R125). -/
def State.classify (s : State) (p : Nat) (t : Tlp) : Option Nat :=
  match s.portBinding p with
  | some (bi, _) => some bi
  | none =>
    match t.ld with
    | some l => (s.bindingsOn p).findSome? (fun e => if Bind.kind e.2 = 4 && Bind.ldId e.2 = l.val then some e.1 else none)
    | none =>
      let id := if t.kind.ord = .completion then t.cplId else t.rid
      let e := s.bnd.active.entry .id id.toNat
      if ef e 0 1 = 1 then some (ef e 9 12) else none

/-- The peer a request from a binding hits (R105): a BAR window, or the bridge window of a port binding, of another binding of
its VH; the window and its device address tell where. -/
def State.peerHit (s : State) (bi : Nat) (b : Bind) (t : Tlp) : Option (Nat × Option (BitVec 512)) :=
  (s.bindingsOf b.vh).findSome? (fun e =>
    if e.1 = bi then none
    else if Bind.isPortKind e.2 then
      (if s.claims b.vh t.addr false = some (Bind.vdsp e.2) then some (e.1, none) else none)
    else (s.barHit e.2 t.addr).map (fun w => (e.1, some w)))

/-- The peer window a request hits (R105, R108): TYPE 1, of its VH, whose SRC_BINDING admits it. -/
def State.peerWindow (s : State) (bi : Nat) (b : Bind) (addr : Nat) : Option (BitVec 512) :=
  (s.bnd.active.win.find? (fun e =>
    ef e.2 0 2 == 3 && ef e.2 2 8 == b.vh && (ef e.2 34 12 == 0xFFF || ef e.2 34 12 == bi) &&
      inRange addr (winPeerBase e.2) (winSize e.2))).map (·.2)

/-- The plan of a request from a binding upstream to its host, at the VH end (R105). -/
def State.upPlan (s : State) (bi inPort charge : Nat) (t : Tlp) (check : Bool) (pol : Option Nat) (srcFeid : Nat) : Plan :=
  let b := s.bind bi
  { inPort := inPort, charge := charge, vh := b.vh, bi := bi, dir := .up, check := check, abi := bi, rbi := bi,
    cid := s.vdspId b.vh b.vdsp, outTo := some b.vh, rid := if b.isPortKind then t.rid else s.hostRid b.vh b.vdsp, fresh := false,
    pol := pol, fromHost := false, srcBi := bi, remote := srcFeid != s.ownFeid, srcFeid := srcFeid }

/-- The plan of a direct request to a peer (R108): toward the peer's binding, under the source's IDs.  Within a VH those are
the host-visible ones, across VHs the physical ones. -/
def State.peerPlan (s : State) (bi tb inPort charge : Nat) (t : Tlp) (cross check : Bool) (pol : Option Nat) (srcFeid : Nat) : Plan :=
  let b := s.bind bi
  let c := s.bind tb
  let pl := s.downPlan c.vh charge tb
  { pl with inPort := inPort, vh := b.vh, dir := .peer, check := check, rbi := bi, cid := s.vdspId b.vh b.vdsp,
            rid := if b.isPortKind || cross then t.rid else s.hostRid b.vh b.vdsp,
            fresh := pl.remote && pl.fresh, pol := pol, fromHost := false, peer := true, srcBi := bi, srcFeid := srcFeid }

/-- A peer request leaves for its target, through the window's read and write bits when it crosses VHs (R108). -/
def State.peerSend (s : State) (bi tb inPort charge : Nat) (t : Tlp) (w : Option (BitVec 512)) (cross check : Bool)
    (pol : Option Nat) (srcFeid : Nat) : State :=
  let b := s.bind bi
  let cid := s.vdspId b.vh b.vdsp
  let shut := match w with
    | some w => (t.kind.nonPosted && ef w 32 1 == 0) || (!t.kind.nonPosted && ef w 33 1 == 0)
    | none => false
  if t.ide && !(s.bind tb).passesIde then s.refuseIde inPort b.vh bi t cid
  else if cross && shut then
    (s.bump R.BND_VH_BLOCKED_CNT b.vh).refuseAt inPort b.vh bi .unsupportedRequest t cid
  else if !s.forwards tb then
    (s.refuse inPort b.vh bi t .ur cid).whenb (t.kind == .mwr) (fun s => s.recordFailure bi true 8 t.addr t.len)
  else
    match s.poisonStop (s.bind tb).vh (.vdsp (s.bind tb).vdsp) (.vdsp (s.bind tb).vh (s.bind tb).vdsp) inPort bi t cid with
    | some s1 => s1
    | none =>
      let pl := s.peerPlan bi tb inPort charge t cross check pol srcFeid
      match w with
      | none => s.issue pl t t.addr (2 ^ 64)
      | some w =>
        let off := if cross then t.addr - winPeerBase w else t.addr % winSize w
        s.issue pl t (winDevBase w + off) (winPhys w - off)

/-- The severity of an error message (Table 7.2, class 0x0308), of its code.  PRESUMED: the PCI Express Base Specification
(notes/assumptions/20). -/
def messageSev (code : Nat) : Nat := if code = 0x30 then 1 else if code = 0x33 then 3 else 2

/-- Malacel handles an error of a target with the status and Header Log of its AER (R205): both are copied into the virtual AER of the
binding, the target's two status registers are cleared, and a message goes to the host from the target's host-visible RID where the
host's mask lets it. -/
def State.virtualAer (s : State) (bi unc cor header : Nat) : State :=
  let b := s.bind bi
  let u := HostUnit.fn b.vdsp
  let clear (x : Nat) (s : State) : State := s.whenb (x != 0) (fun s =>
    s.emit (.targetTlp bi { kind := .cfgwr, rid := 0x00FF, target := BitVec.ofNat 16 b.rid, idRouted := true, len := 4, data := leBytes 4 x
                            ld := if b.kind = 4 then some ⟨b.ldId % 16, Nat.mod_lt _ (by decide)⟩ else none }))
  let s1 := (s.setHost b.vh u .uncStatus (s.host b.vh u .uncStatus ||| unc)).setHost b.vh u .corStatus (s.host b.vh u .corStatus ||| cor)
  let s2 := clear cor (clear unc (s1.setHost b.vh u .headerLog header))
  let openUnc := unc &&& (0xFFFFFFFF - s.host b.vh u .uncMask)
  if openUnc ≠ 0 then
    s2.emit (.aerMsg (.fn b.vh b.vdsp) .uncorrectableInternal (if openUnc &&& s.host b.vh u .uncSeverity = 0 then 1 else 2))
  else if cor &&& (0xFFFFFFFF - s.host b.vh u .corMask) ≠ 0 then s2.emit (.aerMsg (.fn b.vh b.vdsp) .correctedInternal 0)
  else s2

/-- An error message of a target has come through the fabric to its VH end (R205): that of a remote function is handled as any function's,
with what Malacel reads of the target's AER, which is a free value here (notes/assumptions/76). -/
def State.farError (s : State) (bi : Nat) (t : Tlp) : State :=
  let w (k : Nat) : Nat := Config.freeValue (s.drawn + k) % 2 ^ 32
  ((s.journal 0x0308 { vh := (s.bind bi).vh, binding := bi, detail := w 2, sev := some (messageSev t.msgCode) }).drew.drew.drew).virtualAer
    bi (w 0) (w 1) (w 2)

/-- Route a request of a binding at the VH end (R105, R108).  `check` says it entered here: one that came through the fabric was checked
toward the host at its device end, and as a peer request is checked here, where its peer address is known (DESIGN CHOICE,
notes/assumptions/72). -/
def State.upRequest (s : State) (bi inPort charge : Nat) (t : Tlp) (check : Bool) (pol : Option Nat) (srcFeid : Nat) : State :=
  let b := s.bind bi
  let v := b.vh
  let u := HostUnit.vdsp b.vdsp
  let cid := s.vdspId v b.vdsp
  let wait : TraceWait := { bi := bi, inPort := inPort, charge := charge, tlp := t, check := check, pol := pol, srcFeid := srcFeid }
  let up (s : State) : State :=
    match s.poisonStop v .vusp (.vusp v) inPort bi t cid with
    | some s1 => s1
    | none =>
      if s.traceFull b t then s.traceWait wait
      else s.issue (s.upPlan bi inPort charge t check pol srcFeid) t t.addr (2 ^ 64)
  if s.svc.waits.any (fun (w : TraceWait) => w.inPort == inPort && !w.cpl) then
    s.onSvc (fun y => { y with waits := y.waits ++ [wait] })
  else if !b.isPortKind && !s.hostOn v (.fn b.vdsp) .busMaster && t.kind != .msg then
    (s.bump R.BND_VH_BLOCKED_CNT v).refuseAt inPort v bi .unsupportedRequest t cid
  else if !t.kind.isMem then up s
  else
    match s.mcGroup v t with
    | some g =>
      if s.traceFull b t && (s.mcSet v g inPort).getLsbD v then s.traceWait wait
      else s.mcWrite v inPort charge g bi t check pol
    | none =>
      let bar := s.peerHit bi b t
      let win := s.peerWindow bi b t.addr
      match bar, win with
      | none, none => up s
      -- No host setting opens or closes a peer window (R108).
      | none, some w => s.peerSend bi (winBinding w) inPort charge t (some w) true true pol srcFeid
      | some (tb, w), _ =>
        let s1 := s.whenb win.isSome (fun s => s.bump R.BND_WIN_SHADOWED_CNT)
        let bus := t.rid.toNat / 256
        let inBus := !b.isPortKind || (s.host v u .secondaryBus ≤ bus && bus ≤ s.host v u .subordinateBus)
        let direct (s : State) : State := s.peerSend bi tb inPort charge t w false true pol srcFeid
        if s.hostOn v u .acsSv && !inBus then s1.refuseAt inPort v bi .acsViolation t cid
        else if t.at_ ≠ 0 then
          (if s.hostOn v u .acsTb then s1.refuseAt inPort v bi .acsViolation t cid
           else if s.hostOn v u .acsDt then direct s1 else up s1)
        else if s.hostOn v u .acsRr then up s1
        else direct s1

/-- A request of a target that the VH of no binding, or a VH that is not ACTIVE, owns (R104). -/
def State.blocked (s : State) (p vh bi : Nat) (t : Tlp) (cid : BitVec 16) : State :=
  (s.bump R.BND_VH_BLOCKED_CNT vh).refuse p vh bi t .ur cid

/-- The policer of a target request (R227); the place of the management PF has none. -/
def State.upPolicer (s : State) (b : Bind) : Option Nat :=
  if b != s.pfBind && s.flag F.QOS_POL_CFG.DIR_UP b.policer then some b.policer else none

/-- A request at the device end of a remote binding goes to the VH end (R97, R142), which routes it. -/
def State.tunnelUp (s : State) (bi p charge : Nat) (t : Tlp) : State :=
  let b := s.bind bi
  let pl : Plan :=
    { inPort := p, charge := charge, vh := b.vh, bi := bi, dir := .up, check := true, abi := bi, rbi := bi, cid := 0,
      outTo := none, hdr := { dst := b.feid, vh := b.vh, bindIdx := b.remote },
      rid := if b.isPortKind then t.rid else 0, fresh := false, pol := s.upPolicer b, fromHost := false, srcBi := bi,
      remote := true, destFeid := b.feid, srcFeid := s.ownFeid }
  s.issue pl t t.addr (2 ^ 64)

/-- A request TLP from a pool-edge port (R104, R105). -/
def State.targetRequest (s : State) (p : Nat) (t : Tlp) : State :=
  let charge := ordCode t.kind.ord
  match s.classify p t with
  | none => s.blocked p 0 0xFFF t 0
  | some bi =>
    let b := s.bind bi
    let devEnd := s.isDeviceEnd b
    let cid := if devEnd then 0 else s.vdspId b.vh b.vdsp
    if !devEnd && !s.vhActive b.vh then s.blocked p b.vh bi t cid
    else
      let s1 := if devEnd then s.whenb t.ep (fun s => s.bump R.ERR_POISON_FWD_CNT) else s.poisonIn (.vdsp b.vh b.vdsp) b.vh bi t
      if t.ide && !b.passesIde then s1.refuseIde p b.vh bi t cid
      else if !s1.forwards bi then (s1.refuse p b.vh bi t .ur cid).contained bi t true
      else if devEnd then s1.tunnelUp bi p charge t
      else s1.upRequest bi p charge t true (s1.upPolicer b) s1.ownFeid

/-! ## Completions (R113, R142, R209, R264) -/

/-- The ORPHAN or OPEN entry sees the bytes of a completion; one that is not Successful ends the request. -/
def TrkEntry.after (e : TrkEntry) (t : Tlp) : TrkEntry :=
  { e with bytesLeft := if t.kind.isCxl || (t.kind = .cpl && t.status ≠ .sc) then 0 else e.bytesLeft - max t.len (if t.data.isEmpty then e.bytesLeft else 0) }

/-- The CXL channel of an entry's response. -/
def TrkEntry.cxl (e : TrkEntry) : Bool := e.kind == .cxlMemRd || e.kind == .cxlMemWr

/-- A completion was made by Kalnum at the device end, which has no number of the VH: it carries completer ID 0 (R420; DEDUCED,
notes/assumptions/76). -/
def State.madeThere (s : State) (e : TrkEntry) (t : Tlp) : Bool :=
  (e.fromHost || e.peer) && e.remote && !s.isDeviceEnd e.found && t.kind == .cpl && t.status != .sc && t.cplId == 0

/-- A completion as its requester sees it: IDs and tag restored, the completer ID of a function or LD binding replaced (R104),
the Byte Count of data raised by the tail (R103, R264).  The binding is as the request's lookup recorded it (R114). -/
def State.restored (s : State) (e : TrkEntry) (t : Tlp) : Tlp :=
  let b : Bind := e.found
  let swap := (e.fromHost || e.peer) && !b.isPortKind
  { t with
    rid := e.origRid, tag := e.origTag, byteCount := t.byteCount + (if t.status = .sc then e.acuTail else 0),
    lowerAddr := t.lowerAddr, ld := e.tlp.ld
    cplId := if s.madeThere e t then s.vdspId e.vh e.entered.2.vdsp
             else if swap then (if s.isDeviceEnd b then 0 else s.hostRid e.vh b.vdsp) else t.cplId }

/-- Send a completion of an entry to its requester: over its port, or through the fabric to the other end. -/
def State.deliverCpl (s : State) (e : TrkEntry) (inPort charge : Nat) (t : Tlp) (synth : Bool) : State :=
  if e.inPort < 144 && s.isFabric e.inPort then s.tunnelBy inPort charge e.entered.1 e.entered.2 t synth
  else if e.inPort = 145 then s.dmReceive t synth
  else if 144 ≤ e.inPort then s.malReceive t
  else
    let n := s.nodeFor e.inPort e.vh none
    (s.storeTo { id := 0, inPort := inPort, charge := charge, ord := .completion, vh := e.vh, tc := t.tc.val, dest := e.inPort,
                 gen := s.fld F.BND_GEN_STATUS.ACTIVE_GEN, len := t.payload, hdrLen := t.hdrLen, stamp := 0, tIn := 0,
                 binding := e.binding, poisoned := t.ep, tlp := some t, node := n, cls := s.classAt n t.tc.val }).poolEvents

/-- The UR completion of a tail, after the last data completion and in its ordering domain (R264). -/
def State.sendTail (s : State) (e : TrkEntry) (inPort : Nat) (cid : BitVec 16) : State :=
  if e.acuTail = 0 then s
  else
    let req := { e.tlp with rid := e.origRid, tag := e.origTag }
    ((s.deliverCpl e inPort 255 (mkCpl req .ur cid e.acuTail (e.tlp.addr + e.bytesTotal)) false).bump R.ACU_TAIL_CNT)

/-- A completion meets its entry (R113, Table 7.4). -/
def State.matched (s : State) (e : TrkEntry) (inPort charge : Nat) (t : Tlp) : State :=
  let e1 := e.after t
  match e.state with
  | .quarantine => (s.bump R.ERR_LATE_CPL_CNT).journal 0x0303 { vh := e.vh, binding := e.binding, port := inPort }
  | .orphan => if e1.bytesLeft = 0 then s.freeEntries (·.same e) else s.onEntries (·.same e) (fun _ => e1)
  | .opn =>
    let b : Bind := e.found
    let redirect := e.peer && e.outPort == inPort && Bind.vh e.srcFound == b.vh && !s.isDeviceEnd b &&
      s.hostOn b.vh (.vdsp b.vdsp) .acsCr
    if redirect then
      -- P2P Completion Redirect: upstream to the host, which sends it back down (R108).
      let up := { t with cplId := if b.isPortKind then t.cplId else s.hostRid b.vh b.vdsp }
      s.deliverCpl { e with inPort := b.vh } inPort charge up false
    else
      let out := s.restored e t
      let s1 := s.deliverCpl e inPort charge out false
      if e1.bytesLeft = 0 then
        let s2 := s1.whenb (t.kind.isCxl || t.status == .sc) (fun s => s.sendTail e inPort out.cplId)
        s2.freeEntries (·.same e)
      else s1.onEntries (·.same e) (fun _ => e1)

/-- A completion that matches no entry (R113, class 0x0302). -/
def State.unexpected (s : State) (inPort : Nat) (bi : Option Nat) (t : Tlp) : State :=
  let s1 := (s.bump R.ERR_UNEXP_CPL_CNT).raise F.ERR_EVT.UNEXP_CPL
  match bi with
  | some bi => s1.reportBinding 0x0302 bi .unexpectedCompletion true t.header inPort
  | none => s1.journal 0x0302 { port := inPort, detail := t.header }

/-- A poisoned completion on its way: counted, and logged by its ingress function where that is in this device; a poisoned DRS of CXL.mem
passes unchanged (R217). -/
def State.poisonCpl (s : State) (fn : Option AerFn) (vh bi : Nat) (t : Tlp) : State :=
  if !t.ep || t.kind.isCxl then s
  else match fn with
    | some f => s.poisonIn f vh bi t
    | none => s.bump R.ERR_POISON_FWD_CNT

/-- A completion from an edge port (R113). -/
def State.completion (s : State) (p : Nat) (t : Tlp) : State :=
  let charge := 2
  let bi := if s.isPoolEdge p then s.classify p t else none
  let hit := s.bnd.trk.find? (fun (e : TrkEntry) =>
    if t.kind.isCxl then e.cxl && e.outTag == t.tag && e.outPort == p && (bi.elim true (· == e.binding))
    else !e.cxl && e.outRid == t.rid && e.outTag == t.tag && e.destFeid == 0)
  -- The bindings it meets: the one it comes from, and those its request crossed (R110).
  let met := (bi.elim [] (fun i => [(i, s.bind i)])) ++ (hit.elim [] (fun e =>
    [(e.binding, (e.found : Bind))] ++ (if e.peer then [(e.srcBinding, e.srcFound)] else [])))
  match (if t.ide then met.find? (fun e => !Bind.passesIde e.2) else none) with
  | some (i, b) => s.refuseIde p b.vh i t 0
  | none =>
    let s1 := if s.isHostEdge p then s.poisonCpl (some (.vusp p)) p 0xFFF t
              else match bi with
                | some i => s.poisonCpl (if s.isDeviceEnd (s.bind i) then none else some (.vdsp (s.bind i).vh (s.bind i).vdsp)) (s.bind i).vh i t
                | none => s
    match hit with
    | some e => s1.matched e p charge t
    | none => s1.unexpected p bi t

/-! ## Items that leave the fabric here (R97, R142, R209) -/

/-- The entry a completion through the fabric answers: by OUT_TAG, binding index and source FEID, and on a port binding, whose IDs pass
unchanged, by OUT_RID; on the others the fabric copy carries no requester ID (R113, R142). -/
def State.fabEntry (s : State) (h : FabHdr) (t : Tlp) : Option TrkEntry :=
  s.bnd.trk.find? (fun (e : TrkEntry) =>
    e.outTag == t.tag && (e.outRid == t.rid || !Bind.isPortKind e.found || e.cxl) && e.destFeid == h.src && e.binding == h.bindIdx &&
      (t.kind.isCxl == e.cxl) && e.remote)

/-- A synthesised completion of the other end (R209): the VH end sets its status and completer ID, logs and quarantines; the
device end passes it on and quarantines. -/
def State.synthArrived (s : State) (e : TrkEntry) (inPort : Nat) (t : Tlp) : State :=
  let b : Bind := e.found
  if s.isDeviceEnd b then
    ((s.deliverCpl e inPort 2 { s.restored e t with cplId := 0 } false).quarantine e)
  else
    let st := s.synthStatus true e.vh b.vdsp
    let out := { s.restored e t with cplId := s.vdspId e.vh b.vdsp, status := if t.kind.isCxl then t.status else st }
    let s1 := (s.deliverCpl e inPort 2 out false).quarantine e
    s1.reportBinding 0x0301 e.binding .completionTimeout false e.tlp.header

/-- An item refused at a binding that is not valid here or whose FEID is not its source's (R97). -/
def State.refuseItem (s : State) (h : FabHdr) (t : Tlp) : State :=
  let back (c : Tlp) : State :=
    s.sendFab { id := 0, inPort := 144, charge := 2, ord := .completion, vh := h.vh, tc := h.tc, dest := 255,
                gen := s.fld F.BND_GEN_STATUS.ACTIVE_GEN, len := c.payload, hdrLen := c.hdrLen, stamp := 0, tIn := 0 }
      { ptype := if h.ptype = 1 then 1 else ptypeOf c.kind, ord := 2, tc := h.tc, dst := h.src, vh := h.vh, bindIdx := (s.bind h.bindIdx).remote,
        ilen := max 8 (c.hdrLen + c.payload) } (some c)
  if t.kind.nonPosted then back (if t.kind.isCxl then mkCxl t else mkCpl t .ur 0 t.asked t.addr)
  else if t.kind = .mwr then
    s.failWrite { src := h.src, addr := t.addr, len := max 1 t.len, vh := h.vh, bindIdx := h.bindIdx,
                  dir := (s.bind h.bindIdx).isRemote, reason := 3, failFeid := 0, tFail := 0, fseq := h.fseq,
                  genTag := h.genTag, count := 1 }
  else s

/-- The plan of a host request at the device end of a remote binding (R103, R142): proxy RID of the (FEID, VH) pair and a tag
of this device's own. -/
def State.devPlan (s : State) (inPort charge bi : Nat) (h : FabHdr) (t : Tlp) : Plan :=
  let b := s.bind bi
  let proxy := ((s.bnd.proxies.find? (fun e => e.2.1 == h.src && e.2.2 == h.vh)).map (·.1)).getD 0x90
  { inPort := inPort, charge := charge, vh := h.vh, bi := bi, dir := .down, check := false, abi := bi, rbi := bi, cid := 0,
    outTo := some b.port, rid := if b.isPortKind then t.rid else BitVec.ofNat 16 proxy, fresh := !b.isPortKind,
    ld := if b.kind = 4 then some ⟨b.ldId % 16, Nat.mod_lt _ (by decide)⟩ else none, sub := some b.subscriber, fromHost := true
    target := if b.isPortKind then none else some (BitVec.ofNat 16 b.rid)
    remote := false, srcFeid := h.src }

/-- A TLP that leaves the fabric at its binding (R97, R142). -/
def State.fabTlp (s : State) (inPort charge : Nat) (h : FabHdr) (t : Tlp) : State :=
  let bi := h.bindIdx
  let b := s.bind bi
  if !b.valid || b.feid != h.src then
    (if t.kind.ord = .completion then s.unexpected inPort none t else s.refuseItem h t)
  else if t.ide && !b.passesIde then s.refuseIde inPort h.vh bi t (if s.isDeviceEnd b then 0 else s.vdspId b.vh b.vdsp)
  else if t.kind.ord = .completion then
    let s1 := s.whenb (!s.isDeviceEnd b) (fun s => s.poisonCpl (some (.vdsp b.vh b.vdsp)) b.vh bi t)
    match s1.fabEntry h t with
    | none => s1.unexpected inPort (if s.isDeviceEnd b then none else some bi) t
    | some e =>
      if h.synth && e.state = .opn then s1.synthArrived e inPort t else s1.matched e inPort charge t
  else if s.isDeviceEnd b then
    if !s.forwards bi then
      -- A write discarded because its binding is SUSPENDED makes no record (R211).
      if t.kind = .mwr then s.whenb (s.bindState bi != 2) (fun s => s.recordFailure bi false 8 t.addr t.len h)
      else s.refuse inPort h.vh bi t .ur 0
    else if t.kind.isCxl && b.kind = 1 then s.refuseAt inPort h.vh bi .unsupportedRequest t 0
    else s.issue (s.devPlan inPort charge bi h t) t t.addr (2 ^ 64)
  else if !s.vhActive b.vh then s.blocked inPort b.vh bi t (s.vdspId b.vh b.vdsp)
  else if !s.forwards bi then (s.refuse inPort b.vh bi t .ur (s.vdspId b.vh b.vdsp)).contained bi t true
  else
    let s1 := s.poisonIn (.vdsp b.vh b.vdsp) b.vh bi t
    if t.kind = .msg && !b.isPortKind && (t.msgCode = 0x30 || t.msgCode = 0x31 || t.msgCode = 0x33) then s1.farError bi t
    else s1.upRequest bi inPort charge t false none h.src

end Sys2Proof.Machine
end

