-- ==== Sys2Proof/Machine/Links.lean ====
section
/-! DEFINITION. What follows when a link comes up, changes or goes down (chapters 01 to 04): reserved pools (R76), resets that
end, bindings that resume (R99, R365, R418), recalibrations that abort (R64), PERST_OUT_N (R405). -/

namespace Sys2Proof.Machine

/-! ## PERST_OUT_N -/

/-- Drive a port's PERST_OUT_N low, for 1.00 ms at least (R405). -/
def State.assertPerst (s : State) (p : Nat) : State :=
  if !s.pins.released.contains p then s
  else (s.onPins (fun y => { y with released := y.released.filter (· != p) })).arm .perstOut p (ms 1)

/-- Release a port's PERST_OUT_N. -/
def State.releasePerst (s : State) (p : Nat) : State :=
  s.onPins (fun y => { y with released := p :: y.released.filter (· != p) })

/-- PERST_OUT_N of a pool-edge port may rise (R405): the port is enabled, the assertion has lasted 1.00 ms, no far VH end holds it, and its
guard permits (R358), or, without a guard, its clock has been there for 100 µs. -/
def State.mayReleasePerst (s : State) (p : Nat) : Bool :=
  let past (i : Nat) : Bool := !s.running .perstOut i || s.due .perstOut i
  s.isPoolEdge p && s.flag F.PCL_PORT_CTRL.ENABLE p && past p && !s.pins.farPerst.contains p && s.mode != .reset && s.mode != .boot &&
    (match s.guardOf p with
     | some g => s.flag F.SPG_SLOT_STATE.PERST_REL g
     | none => s.flag F.PCL_CLUSTER_STATUS.REFCLK_OK (clusterOf p) && past (1000 + clusterOf p))

/-- A port may train: it is enabled and its guard, if it has one, has released PERST_OUT_N (R358). -/
def State.mayTrain (s : State) (p : Nat) : Bool :=
  s.live p && s.flag F.PCL_PORT_CTRL.ENABLE p && s.flag F.PCL_CLUSTER_STATUS.REFCLK_OK (clusterOf p) &&
    (match s.guardOf p with
     | some g => s.flag F.SPG_SLOT_STATE.PERST_REL g
     | none => true)

/-! ## Reserved pools (R76) -/

/-- The curds of the largest packet: M_p of R76. -/
def maxPacketCurds : Nat := 16

/-- The reserved pool R76 computes for a port at `rate` tenths of Gb/s: curds and heads. -/
def State.autoRes (s : State) (p rate : Nat) : Nat × Nat :=
  let n := s.classes p
  let bt := ceilDiv (rate * s.fld F.CHN_PORT_CFG.RT_NS p) 20480
  (min 65535 (bt + n * maxPacketCurds), min 65535 (bt + n))

/-- Set the reserved pool of a port whose link comes up, cut as far as the minimum of R75 requires but never below the least
of R76. -/
def State.setRes (s : State) (p rate : Nat) : State :=
  if !s.flag F.CHN_PORT_CFG.AUTO_RES p then s
  else
    let want := s.autoRes p rate
    let others := s.reservedBy (fun q => q != p && s.reserves q)
    let room := sharedOf s.banksIn others s.escPool s.mcPool
    let n := s.classes p
    let fit (w least : Nat) (have' : Int) (keep : Nat) : Nat := max least (min w (have' - keep).toNat)
    let c := fit want.1 (n * maxPacketCurds) room.1 sharedMin.1
    let h := fit want.2 n room.2 sharedMin.2
    let s1 := (s.setFld F.CHN_PORT_RES.RES_CURDS p c).setFld F.CHN_PORT_RES.RES_HEADS p h
    s1.whenb (c < want.1 || h < want.2) (fun s => s.raise F.CHN_EVT.RES_CUT)

/-! ## Bindings in and out of service (R99, R418) -/

/-- The host sees a bind on the vDSP of a binding (R99). -/
def State.showBind (s : State) (bi : Nat) : State :=
  let b := s.bind bi
  if s.isDeviceEnd b then s else s.showSlot b.vh b.vdsp true true

/-- The host sees a resumed binding come back as a bind: presence and link, both with their changed bits (R99, R418). -/
def State.bindSeen (s : State) (bi : Nat) : State :=
  let b := s.bind bi
  let u := HostUnit.vdsp b.vdsp
  ((s.slotIs b.vh b.vdsp true true).setHost b.vh u .presenceChanged 1).setHost b.vh u .dllChanged 1

/-- The reset of a binding has reached its end on the target: it is BOUND, and whoever asked for it hears OK (Table 4.16,
R418). -/
def State.bindingResetDone (s : State) (bi : Nat) : State :=
  let resumed := s.bnd.resets.any (fun r => r.1 == bi && r.2.2)
  let s1 := (s.onBnd (fun y => { y with resets := y.resets.filter (fun r => r.1 != bi) })).disarm .bindReset bi
  let s2 := (s1.setBindState bi 1 0).cfgReady bi true
  let s3 := s2.whenb (resumed && !s2.isDeviceEnd (s2.bind bi)) (fun s => s.bindSeen bi)
  let s4 := s3.whenb (s3.isDeviceEnd (s3.bind bi)) (fun s => (s.sideband bi 7 true 0).sideband bi 1 true 0)
  (s4.finish 0x0308 bi stOk).finish 0x0309 bi stOk

/-- A binding reset that ended without its target: SUSPENDED with cause 5 (R418, Table 4.16). -/
def State.bindingResetFailed (s : State) (bi : Nat) : State :=
  let s1 := (s.onBnd (fun y => { y with resets := y.resets.filter (fun r => r.1 != bi) })).disarm .bindReset bi
  let s2 := (s1.setBindState bi 2 5).raise F.BND_EVT.BIND_SUSPEND
  let b := s2.bind bi
  let s3 := if s2.isDeviceEnd b then (s2.sideband bi 7 false 0).sideband bi 1 false 0 else s2.showSlot b.vh b.vdsp false false
  (s3.finish 0x0308 bi stBusy 2).finish 0x0309 bi stBusy 2

/-- The serial number of a target after its port has linked up again decides whether its binding resumes (R365). -/
def State.reseated (s : State) (bi serial : Nat) : State :=
  let b := s.bind bi
  if s.bindState bi ≠ 2 || s.fld F.BND_BIND_STATE.SUSPEND_CAUSE bi ≠ 1 then s
  else if b.serial ≠ 0 && b.serial = serial && b.autoRebind then s.startReset bi true
  else (s.setFld F.BND_EVT.BIND_SUSPEND 0 0).raise F.BND_EVT.BIND_SUSPEND

/-! ## A link comes up -/

/-- A VH whose host-edge link is up leaves DOWN (Table 4.15, step 6), and what waited for it goes out (Table 7.14). -/
def State.vhUp (s : State) (v : Nat) : State :=
  if s.fld F.BND_VH_STATUS.STATE v = 0 then (s.setFld F.BND_VH_STATUS.STATE v 2).releaseHeld v else s

/-- A port's link reaches ACTIVE at a rate and width. -/
def State.linkActive (s : State) (p rate width : Nat) (flit cxl rev : Bool) : State :=
  let s1 := (s.linkOff p 3).setFld F.PCL_PORT_STATUS.WIDTH_NOW p width
  let s2 := ((s1.setFld F.PCL_PORT_STATUS.RATE_NOW p rate).setFld F.PCL_PORT_STATUS.FLIT p (b2n flit)).setFld
    F.PCL_PORT_STATUS.REVERSED p (b2n rev)
  let s3 := ((s2.setFld F.PCL_PORT_STATUS.CXL_ACTIVE p (b2n cxl)).raise F.PCL_PORT_EVT.LINK_UP p).demandStep
  let s4 := (s3.setRes p (width * rateTenths rate)).onChurn (fun y => { y with
    narrowing := y.narrowing.filter (· != p), narrowTo := drop p y.narrowTo, widen := drop p y.widen, fullWidth := drop p y.fullWidth })
  s4.each (s4.lanesOf p) (fun s l => ((s.setFld F.PCL_LANE_STATUS.SIGNAL_DET l 1).setFld F.PCL_LANE_STATUS.CDR_LOCK l 1).setFld
    F.PCL_LANE_STATUS.ADAPT_CONVERGED l 1)

/-- The highest rate code a port may train at (R22, R50): its MAX_RATE and the ceiling of its cluster, 32 GT/s without
FLIT mode. -/
def State.rateCap (s : State) (p : Nat) (flit : Bool) : Nat :=
  let c := clusterOf p
  let m := s.fld F.PCL_SLOT_CFG.MAX_RATE p
  if s.proto p = 2 then min m (if s.fld F.PCL_CLUSTER_CFG.CEIL_KFL c = 0 then 0 else 7 + s.fld F.PCL_CLUSTER_CFG.CEIL_KFL c)
  else
    let x := min m (s.fld F.PCL_CLUSTER_CFG.CEIL_PCIE c)
    if flit then x else min x 5

/-- A CXL port has negotiated below 32 GT/s (R51): CXL_RATE_LOW sets, and a Corber event tells of it.  DEDUCED: the block has no event
enables, and R51 raises the event without one (notes/assumptions/83). -/
def State.cxlLow (s : State) (p : Nat) : State :=
  let f := F.PCL_PORT_EVT.CXL_RATE_LOW
  if s.flag f p then s
  else (s.setFld f p 1).corberEvent (blockGroup (blockOf f.reg.base)) 3 (eventBody 0 (blockOf f.reg.base) f.lo 0 p s.tb.toNat [])

/-- Receive polarity as training found it on a PCI Express lane (R57): a free value. -/
def State.findPolarity (s : State) (l : Nat) : State := (s.setFld F.PCL_LANE_STATUS.POLARITY_INV l (s.free % 2)).drew

/-- A PCI Express or CXL link trains (R22, R50, R51): the port is up at a rate within its cap, and what depends on it
follows.  `serials` are the Device Serial Numbers Malacel reads behind a reseated port (R365). -/
def State.linkTrained (s : State) (p rate width : Nat) (flit cxlNeg rev : Bool) (serials : List (Nat × Nat)) : State :=
  if !s.mayTrain p || s.proto p = 2 || !(s.linkState p = 1 || s.linkState p = 2) || rate = 0 || s.rateCap p flit < rate ||
      width = 0 || (s.lanesOf p).length < width then s
  else
    let cxlOk := s.proto p = 1 && cxlNeg && (rate = 5 || rate = 6)
    let s1 := (s.linkActive p rate width flit cxlOk rev).each (s.lanesOf p) State.findPolarity
    let s2 := s1.whenb (s1.proto p == 1 && cxlNeg && rate < 5) (fun s => s.cxlLow p)
    if s2.isHostEdge p then s2.vhUp p
    else
      let bs := s2.bindingsOn p
      let s3 := s2.each (bs.filter (fun e => s2.bindState e.1 == 3 && Bind.kind e.2 == 0)) (fun s e => s.bindingResetDone e.1)
      let s4 := s3.each bs (fun s e => match look e.1 serials with
        | some n => s.reseated e.1 n
        | none => s)
      s4.each (bs.filter (fun e => s4.bindState e.1 == 1)) (fun s e => (s.cfgReady e.1 true).showBind e.1)

/-! ## A link goes down -/

/-- A link leaves ACTIVE for DETECT, or is disabled. -/
def State.linkDown (s : State) (p cause : Nat) : State := s.linkEnds p (s.restState p) cause

/-- A pool-edge port's link is lost: surprise-down containment (R218). -/
def State.poolDown (s : State) (p : Nat) (removed : Bool) : State := (s.linkDown p 2).surpriseDown p removed

/-- A host-edge port's link is lost or reset: class 0x0101 and the reset of its VH (R119, R203). -/
def State.hostDown (s : State) (p : Nat) (dlDown : Bool) : State :=
  let s1 := s.whenb dlDown (fun s => (s.linkDown p 2).journal 0x0101 { port := p, vh := p })
  s1.vhReset p

end Sys2Proof.Machine
end

