-- ==== Sys2Proof/Machine/Slots.lean ====
section
/-! DEFINITION. The slot power guards (chapter 14): the guard state machine, sense frames, faults and lockout, limits,
telemetry and indicators, and the side-band items of remote port bindings (R143, R144). -/

namespace Sys2Proof.Machine

/-! ## Guards -/

/-- Guard states (Table 14.1). -/
def gDisabled : Nat := 0
def gEmpty : Nat := 1
def gDebounce : Nat := 2
def gReadyOff : Nat := 3
def gProofing : Nat := 4
def gRamp : Nat := 5
def gOn : Nat := 6
def gRetry : Nat := 7
def gLockout : Nat := 8

/-- What a guard holds beside its registers. -/
def State.guard (s : State) (g : Nat) : GuardState := s.spg.guards[g]?.getD {}

/-- Change what a guard holds. -/
def State.onGuard (s : State) (g : Nat) (f : GuardState → GuardState) : State :=
  s.onSpg (fun y => { y with guards := y.guards.setIfInBounds g (f (s.guard g)) })

/-- The state of a guard. -/
def State.gState (s : State) (g : Nat) : Nat := s.fld F.SPG_SLOT_STATE.STATE g

/-- The port of a guard. -/
def State.gPort (s : State) (g : Nat) : Nat := s.fld F.SPG_SLOT_CFG.PORT g

/-- Both presence pins are asserted (R353). -/
def State.seated (s : State) (g : Nat) : Bool := s.flag F.SPG_SLOT_STATE.PRSNT_L g && s.flag F.SPG_SLOT_STATE.PRSNT_S g

/-- PRE_EN or GATE_EN of a guard is high. -/
def State.powered (s : State) (g : Nat) : Bool := s.flag F.SPG_SLOT_STATE.PRE_EN g || s.flag F.SPG_SLOT_STATE.GATE_EN g

/-- A new attempt may start: not in RESET, BOOT or SAFE_HOLD (R354, Table 13.1). -/
def State.mayProof (s : State) : Bool := s.mode != .reset && s.mode != .boot && s.mode != .safeHold

/-- Put a guard in a state, with the outputs of Table 14.1. -/
def State.gSet (s : State) (g st : Nat) : State :=
  let s1 := ((s.setFld F.SPG_SLOT_STATE.STATE g st).setFld F.SPG_SLOT_STATE.PRE_EN g (b2n (st == gProofing || st == gRamp))).setFld
    F.SPG_SLOT_STATE.GATE_EN g (b2n (st == gRamp || st == gOn))
  let s2 := if st = gOn then s1 else (s1.setFld F.SPG_SLOT_STATE.PERST_REL g 0).assertPerst (s1.gPort g)
  let s3 := s2.setFld F.SPG_STATUS.ON 0 (setBits (s2.fld F.SPG_STATUS.ON) g 1 (b2n (st == gOn)))
  s3.whenb (st != gRetry) (fun s => s.setFld F.SPG_SLOT_STATE.RESEAT_IN_RETRY g 0)

/-- Start an attempt: PROOFING and its time limit (R356). -/
def State.gProof (s : State) (g : Nat) : State :=
  let s1 := s.onGuard g (fun y => { y with
    wanted := true, asks := [], samples := 0, sumV := 0, sumP := 0, meanV := none, excess := 0, low := 0, bad := 0 })
  (s1.gSet g gProofing).arm .proofing g (ms (s1.fld F.SPG_SLOT_TIME.PROOF_MS g))

/-- Enter READY_OFF: a request that waits, or AUTO_ON, starts an attempt (R355). -/
def State.gReady (s : State) (g : Nat) : State :=
  let s1 := s.gSet g gReadyOff
  if s1.mayProof && !(s1.guard g).offing && ((s1.guard g).wanted || s1.flag F.SPG_SLOT_CFG.AUTO_ON g) then s1.gProof g else s1

/-- Where a guard without power stands by presence: EMPTY, DEBOUNCE or READY_OFF (R353, R354); the time a seated slot has already
stayed so counts. -/
def State.gByPresence (s : State) (g : Nat) : State :=
  if !s.seated g then s.gSet g gEmpty
  else if s.flag F.SPG_SLOT_STATE.CONFIRMED g then s.gReady g
  else (s.gSet g gDebounce).whenb (!s.running .debounce g) (fun t =>
    t.arm .debounce g (((s.guard g).seatedAt.getD s.now) + ms (s.fld F.SPG_SLOT_TIME.DEBOUNCE_MS g) - s.now))

/-! ## Records (Table 14.2) -/

/-- The vDSP binding of a guard's slot: its port binding. -/
def State.gBinding (s : State) (g : Nat) : Option (Nat × Bind) := s.portBinding (s.gPort g)

/-- Severity of a guard class (Table 14.2). -/
def guardSev (cls : Nat) : Nat := if [0x0707, 0x0709, 0x070A, 0x070C, 0x070D].contains cls then 0 else 2

/-- Record a class: journal, SPG_SLOT_FAULT. -/
def State.gRecord (s : State) (g cls : Nat) : State :=
  let s1 := s.journal cls { port := s.gPort g, detail := g, sev := some (guardSev cls) }
  ((s1.setFld F.SPG_SLOT_FAULT.CLASS g (cls % 256)).setFld F.SPG_SLOT_FAULT.VALID g 1).setFld F.SPG_SLOT_FAULT.IN_STATE g
    (s.gState g)

/-- The host sees Power Fault Detected (Table 14.2, Table 5.9). -/
def State.gPowerFault (s : State) (g : Nat) : State :=
  match s.gBinding g with
  | none => s
  | some (bi, b) => if s.isDeviceEnd b then s.sideband bi 2 true 0 else s.setHost b.vh (.vdsp b.vdsp) .powerFault 1

/-- Faults within the last 60.0 s (R363). -/
def State.gRecent (s : State) (g : Nat) : List Nat := (s.guard g).faults.filter (fun t => s.now < t + ms 60000)

/-- The slot's link goes with its power: surprise down of a link that was up, and at a removal always (R218, R362); a port in training
returns to DETECT (R358). -/
def State.gDropLink (s : State) (g : Nat) (removed : Bool) : State :=
  let p := s.gPort g
  let s1 := s.whenb (s.linkUp p || s.linkState p == 2) (fun s => s.linkDown p 2)
  s1.whenb (removed || s.linkUp p) (fun s => s.surpriseDown p removed)

/-- End the attempt of a guard with a class: outputs low, and RETRY, or LOCKOUT on the third counted fault in 60.0 s (R360,
R363); the accepted power requests end with BUSY and the class (R355). -/
def State.gFault (s : State) (g cls : Nat) : State :=
  let counts := cls != 0x0709
  let s1 := s.gRecord g cls
  let s2 := s1.whenb counts (fun s => ((s.raise F.SPG_SLOT_EVT.FAULT g).bump R.SPG_SLOT_FAULT_CNT g).gPowerFault g)
  let s3 := s2.onGuard g (fun y => { y with
    faults := if counts then s2.now :: s2.gRecent g else s2.gRecent g, wanted := false, asks := [], offing := false })
  let n := (s3.gRecent g).length
  let s4 := ((s3.setFld F.SPG_SLOT_STATE.FAULTS_60S g (min 3 n)).disarm .proofing g).disarm .ramp g
  let s5 := ((s4.disarm .perst g).disarm .powerGate g).disarm .powerOff g
  let lock := counts && decide (3 ≤ n)
  let s6 := if lock then ((s5.gRecord g 0x070B).raise F.SPG_SLOT_EVT.LOCKOUT g).gSet g gLockout
            else (s5.gSet g gRetry).arm .retry g (ms (s5.fld F.SPG_SLOT_RETRY.RETRY_MS g))
  (s6.finish 0x0702 g stBusy cls).gDropLink g (cls == 0x0709)

/-- The guard may leave RETRY (R361). -/
def State.gMayLeave (s : State) (g : Nat) : Bool :=
  let y := s.guard g
  s.gState g == gRetry && (!s.running .retry g || s.due .retry g) && !y.faultIn && s.flag F.SPG_SLOT_STATE.CONFIRMED g &&
    decide ((BitVec.ofNat 12 (s.fld F.SPG_SLOT_TELEM1.TEMP g)).toInt ≤ 8 * (s.fld F.SPG_SLOT_THERM.COOL_C g : Int)) &&
    decide (4 ≤ y.good)

/-- Leave RETRY once every condition holds: PROOFING with AUTO_ON or a pending request, else READY_OFF (R361, R354). -/
def State.gLeaveRetry (s : State) (g : Nat) : State :=
  if !s.gMayLeave g then s
  else
    let want := s.flag F.SPG_SLOT_CFG.AUTO_ON g || (s.guard g).wanted
    if want && !s.mayProof then s
    else
      let s1 := s.disarm .retry g
      if want then s1.gProof g else s1.gSet g gReadyOff

/-! ## Power of a slot as bytes of the standard (R144, R367) -/

/-- Milliwatts as a PCI Express power value and scale, rounded down (R144).  PRESUMED above 239 W: the Base Specification's
steps of 25 W from 250 W (notes/assumptions/20). -/
def encodePower (mw : Nat) : Nat × Nat :=
  if mw ≤ 239 then (mw, 3)
  else if mw ≤ 2390 then (mw / 10, 2)
  else if mw ≤ 23900 then (mw / 100, 1)
  else if mw < 250000 then (min 239 (mw / 1000), 0)
  else (min 0xFE (0xF0 + (mw - 250000) / 25000), 0)

/-- A power value and scale in milliwatts (R144). -/
def decodePower (value scale : Nat) : Nat :=
  if 0xF0 ≤ value && scale = 0 then 250000 + (value - 0xF0) * 25000
  else match scale with | 0 => value * 1000 | 1 => value * 100 | 2 => value * 10 | _ => value

/-- The limit a host set for a guard's slot: through the vDSP of a local port binding, or by SLOT_LIMIT (R367). -/
def State.hostLimit (s : State) (g : Nat) : Option Nat :=
  match s.gBinding g with
  | some (_, b) =>
    if s.isDeviceEnd b then (s.guard g).farLimit
    else
      let v := s.host b.vh (.vdsp b.vdsp) .powerLimit
      if v = 0 then none else some (decodePower (bits v 0 8) (bits v 8 2))
  | none => none

/-- The applied limit of a slot, if a host's limit or a cap exists (R367). -/
def State.appliedLimit (s : State) (g : Nat) : Option Nat :=
  let cap := s.fld F.SPG_SLOT_CAP.CAP_MW g
  let base := match s.hostLimit g with
    | some h => some (if cap = 0 then h else min h cap)
    | none => if cap = 0 then none else some cap
  base.map (fun l => if s.fld F.SPG_SLOT_STATE.THERMAL g = 2 then l / 2 else l)

/-- Send Set_Slot_Power_Limit on a slot's port with the applied limit (R367). -/
def State.sendLimit (s : State) (g : Nat) : State :=
  match s.appliedLimit g with
  | none => s
  | some mw =>
    if !s.linkUp (s.gPort g) then s
    else
      let (v, sc) := encodePower mw
      s.own (s.gPort g) 0 0xFFF { kind := .msg, rid := 0x00FF, msgCode := 0x50, len := 4, data := leBytes 4 (v + 256 * sc) }

/-- A link-up of a guarded slot's port tells the slot its limit (R367). -/
def State.limitAtLinkUp (s : State) (p : Nat) : State :=
  match s.guardOf p with
  | some g => s.sendLimit g
  | none => s

/-- Show the applied limit, and tell the slot when it changes (R367). -/
def State.applyLimit (s : State) (g : Nat) : State :=
  let mw := (s.appliedLimit g).getD 0
  let s1 := (s.setFld F.SPG_SLOT_LIMIT.LIMIT_MW g mw).setFld F.SPG_SLOT_LIMIT.HOST_SET g (b2n (s.hostLimit g).isSome)
  s1.whenb (s.fld F.SPG_SLOT_LIMIT.LIMIT_MW g != mw % 2 ^ 24) (fun s => s.sendLimit g)

/-- What sets the hosts' limits has changed: bindings, or the host view of a VH (R367). -/
def State.limitsAgain (s : State) : State :=
  s.each ((List.range 24).filter (fun g => s.flag F.SPG_SLOT_CFG.ENABLE g)) (fun s g => s.applyLimit g)

/-! ## Temperature (R364) -/

/-- The rise of the model after one good frame, in 2^-40 °C, from voltages in mV and current in 4 mA (R364).  DESIGN CHOICE
(notes/assumptions/10): whole µW and 2^-40 °C, each rounded down. -/
def modelRise (d : Int) (vin vout : Nat) (iout : Int) (rds rth tauMs : Nat) : Int :=
  let uw := max (4 * iout * ((vin : Int) - vout)) (16 * iout * iout * rds / 100000)
  d + (uw * rth * 2 ^ 40 / 100000000 - d) / (1000 * max 1 tauMs)

/-- The thermal state that follows `cur` at a temperature in 0.125 °C: a state falls back 3 °C below its threshold (R364). -/
def nextThermal (cur : Nat) (t : Int) (warm hot tmax : Nat) : Nat :=
  let at_ (c : Nat) (k : Nat) : Bool := decide (8 * (c : Int) ≤ t) || (k ≤ cur && decide (8 * ((c : Int) - 3) < t))
  if at_ tmax 3 then 3 else if at_ hot 2 then 2 else if at_ warm 1 then 1 else 0

/-- The telemetry DVSEC of a slot's vDSP (R368). -/
def telemWord (thermal mw : Nat) : Nat :=
  let (v, sc) := encodePower mw
  1 + 2 * thermal + 8 * v + 2048 * sc

/-- Store the telemetry of a binding (R368). -/
def State.setTelem (s : State) (bi w : Nat) : State := s.onSpg (fun y => { y with telem := put bi w y.telem })

/-- A new thermal state of a guard (R364): class 0x070C, the event, the host's view and the limit. -/
def State.gThermal (s : State) (g th : Nat) : State :=
  if s.fld F.SPG_SLOT_STATE.THERMAL g = th then s
  else
    let s1 := ((s.setFld F.SPG_SLOT_STATE.THERMAL g th).gRecord g 0x070C).raise F.SPG_SLOT_EVT.THERMAL g
    let s2 := match s1.gBinding g with
      | some (bi, b) =>
        if s1.isDeviceEnd b then s1.sideband bi 0x12 false th
        else s1.setTelem bi (setBits ((look bi s1.spg.telem).getD 1) 1 2 th)
      | none => s1
    s2.applyLimit g

/-! ## Sense frames (R366) -/

/-- CRC-8, polynomial 0x07, over the bits of a list, first bit first (R366). -/
def crc8 (l : List Bool) : Nat :=
  l.foldl (fun c b => let top := (c / 128 != b2n b); let d := (c * 2) % 256; if top then Nat.xor d 7 else d) 0

/-- Bits `hi` down to `lo` of a frame. -/
def frameBits (f : BitVec 64) (hi lo : Nat) : List Bool := (List.range (hi + 1 - lo)).map (fun k => f.getLsbD (hi - k))

/-- A frame is good (R366). -/
def State.goodFrame (s : State) (g : Nat) (f : BitVec 64) : Bool :=
  crc8 (frameBits f 63 8) == bits f.toNat 0 8 && (s.guard g).seq != some (bits f.toNat 16 4) && bits f.toNat 8 1 == 1 &&
    (s.flag F.SPG_SLOT_CFG.TEMP_MODE g || bits f.toNat 9 1 == 1)

/-- A bad frame: the fourth in a row loses the sense, and in a powered state is fault 0x0708 (R366, Table 14.2). -/
def State.badFrame (s : State) (g : Nat) : State :=
  let s1 := (s.bump R.SPG_SLOT_SSB_ERR_CNT g).onGuard g (fun y => { y with bad := y.bad + 1, good := 0 })
  let s2 := s1.setFld F.SPG_SLOT_STATE.SENSE_OK g 0
  if (s2.guard g).bad = 4 then
    let s3 := s2.raise F.SPG_SLOT_EVT.SENSE_LOST g
    let st := s3.gState g
    s3.whenb (st == gProofing || st == gRamp || st == gOn) (fun s => s.gFault g 0x0708)
  else s2

/-- Enter RAMP (R357). -/
def State.gRampUp (s : State) (g : Nat) : State :=
  ((s.disarm .proofing g).gSet g gRamp).arm .ramp g (ms (s.fld F.SPG_SLOT_TIME.RAMP_MS g))

/-- The end of a 1 ms window: mean voltage and power, proofing (R356), overload (0x0707) and telemetry (R368). -/
def State.gWindow (s : State) (g : Nat) : State :=
  let y := s.guard g
  let mv := y.sumV / 1000
  let mw := (4 * y.sumP / 1000000).toNat
  let prev := y.meanV
  let s1 := s.onGuard g (fun y => { y with samples := 0, sumV := 0, sumP := 0, meanV := some mv, meanP := mw })
  let s2 := s1.setFld F.SPG_SLOT_TELEM1.POWER g (min 65535 (mw / 100))
  let excess := match s2.appliedLimit g with
    | some l => decide (11 * l < 10 * mw)
    | none => false
  let s3 := s2.onGuard g (fun y => { y with heavy := if excess then y.heavy + 1 else 0 })
  let s4 := s3.whenb (excess && (s3.guard g).heavy == 100) (fun s => (s.gRecord g 0x0707).raise F.SPG_SLOT_EVT.OVERLOAD g)
  let s5 := match s4.gBinding g with
    | some (bi, b) => if s4.isDeviceEnd b then s4 else s4.setTelem bi (telemWord (s4.fld F.SPG_SLOT_STATE.THERMAL g) mw)
    | none => s4
  let dv := match prev with
    | some p => max mv p - min mv p
    | none => 10 * s5.fld F.SPG_SLOT_RETRY.DVDT g
  s5.whenb (s5.gState g == gProofing && !(s5.guard g).offing && decide (9 * s5.fld F.SPG_SLOT_ELEC.VIN_MV g ≤ 10 * mv) &&
    decide (dv < 10 * s5.fld F.SPG_SLOT_RETRY.DVDT g)) (fun s => s.gRampUp g)

/-- The outstanding SLOT_POWER requests of a guard with a value of ON. -/
def powerAsked (g on : Nat) (o : Outst) : Bool := o.opcode == 0x0702 && o.req.object == g && bodyNat o.req.body 0 1 == on

/-- The power requests that wait end with BUSY and a DETAIL (R355). -/
def State.gLapse (s : State) (g detail : Nat) : State :=
  ((s.onGuard g (fun y => { y with wanted := false, asks := [] })).disarm .slotRequest g).finishIf (powerAsked g 1) stBusy detail []

/-- The oldest power request that waits has waited 10.0 s: it lapses alone, and the next one's time runs (R355). -/
def State.gLapseOne (s : State) (g : Nat) : State :=
  match (s.guard g).asks with
  | [] | [_] => s.gLapse g 7
  | (_, corber) :: (t, c) :: l =>
    let s1 := (s.onGuard g (fun y => { y with asks := (t, c) :: l })).arm .slotRequest g (t + ms 10000 - s.now)
    match corber, s1.crb.outst.find? (fun (o : Outst) => o.accepted && powerAsked g 1 o) with
    | true, some o => s1.finishIf (fun x => x == o) stBusy 7 []
    | _, _ => s1

/-- An orderly power-off has ended (R355).  The request that AUTO_ON makes at the entry to READY_OFF starts its attempt only now
(DESIGN CHOICE, notes/assumptions/19), as does one that comes while the power-off runs. -/
def State.gOffDone (s : State) (g : Nat) : State :=
  let s1 := ((s.onGuard g (fun y => { y with offing := false })).disarm .powerOff g).raise F.SPG_SLOT_EVT.POWER_OFF g
  let s2 := s1.finishIf (powerAsked g 0) stOk 0 []
  s2.whenb (s2.gState g == gReadyOff) (fun s => s.gReady g)

/-- A good frame (R360, R364, R366): telemetry, temperature, windows, faults, retry. -/
def State.goodSample (s : State) (g : Nat) (f : BitVec 64) : State :=
  let iout : Int := (BitVec.ofNat 16 (bits f.toNat 48 16)).toInt
  let vout := bits f.toNat 32 16
  let vin := s.fld F.SPG_SLOT_ELEC.VIN_MV g
  let modelled := s.flag F.SPG_SLOT_CFG.TEMP_MODE g
  let y := s.guard g
  let rise := modelRise y.rise vin vout iout (s.fld F.SPG_SLOT_MODEL.RDS g) (s.fld F.SPG_SLOT_MODEL.RTH g)
    (s.fld F.SPG_SLOT_MODEL.TAU_MS g)
  let temp : Int := if modelled then min 2047 (80 * (s.fld F.SPG_SLOT_MODEL.T_AMB g : Int) + rise * 8 / 2 ^ 40)
                    else (BitVec.ofNat 12 (bits f.toNat 20 12)).toInt
  let st := s.gState g
  let s1 := s.onGuard g (fun y => { y with
    seq := some (bits f.toNat 16 4), bad := 0, good := y.good + 1, rise := if modelled then rise else y.rise
    samples := y.samples + 1, sumV := y.sumV + vout, sumP := y.sumP + vout * iout
    excess := if 10 * (s.fld F.SPG_SLOT_ELEC.OC_10MA g : Int) < 4 * iout then y.excess + 1 else 0
    low := if st == gOn && decide (100 * vout < 85 * vin) then y.low + 1 else 0 })
  let s2 := (s1.setFld F.SPG_SLOT_TELEM0.IOUT g (bits f.toNat 48 16)).setFld F.SPG_SLOT_TELEM0.VOUT g vout
  let s3 := (s2.setFld F.SPG_SLOT_TELEM1.TEMP g (BitVec.ofInt 12 temp).toNat).setFld F.SPG_SLOT_TELEM1.MODELLED g (b2n modelled)
  let s4 := s3.setFld F.SPG_SLOT_STATE.SENSE_OK g (b2n (4 ≤ (s3.guard g).good))
  let s5 := s4.gThermal g (nextThermal (s4.fld F.SPG_SLOT_STATE.THERMAL g) temp (s4.fld F.SPG_SLOT_THERM.WARM_C g)
    (s4.fld F.SPG_SLOT_THERM.HOT_C g) (s4.fld F.SPG_SLOT_THERM.TMAX_C g))
  let live := st == gProofing || st == gRamp || st == gOn
  let z := s5.guard g
  if live && s5.fld F.SPG_SLOT_TIME.OC_US g ≤ z.excess then s5.gFault g 0x0702
  else if live && decide (8 * (s5.fld F.SPG_SLOT_THERM.TMAX_C g : Int) ≤ temp) then s5.gFault g 0x0703
  else if st = gOn && 10 ≤ z.low then s5.gFault g 0x0706
  else
    let s6 := s5.whenb (decide (1000 ≤ z.samples)) (fun s => s.gWindow g)
    let s7 := s6.whenb (z.offing && !live && decide (10 * vout < vin)) (fun s => s.gOffDone g)
    s7.gLeaveRetry g

/-! ## Orderly power-off (R355) -/

/-- Start an orderly power-off: PERST_OUT_N asserted, the link disabled without surprise down; the outputs fall after
1.00 ms.  It ends an attempt under way, and the requests that wait for it. -/
def State.gPowerOff (s : State) (g : Nat) : State :=
  let p := s.gPort g
  let s0 := (s.onGuard g (fun y => { y with offing := true, wanted := false, asks := [] })).each [.proofing, .ramp, .slotRequest] (fun s k => s.disarm k g)
  let s1 := (s0.finishIf (powerAsked g 1) stBusy 2 []).assertPerst p
  let s2 := (s1.setFld F.SPG_SLOT_STATE.PERST_REL g 0).linkDown p 5
  let s3 := match s2.gBinding g with
    | some (_, b) => if s2.isDeviceEnd b then s2 else s2.showSlot b.vh b.vdsp true false
    | none => s2
  (s3.disarm .perst g).arm .powerGate g (ms 1)

/-- A power request for a guard (R355): it starts an attempt in READY_OFF, waits in EMPTY and DEBOUNCE, joins one under way, and
waits for a power-off that runs, and a host's in RETRY for the end of that (R361); where the retry timer expires in the same instant it
starts one too (Table 14.7); elsewhere it changes nothing. -/
def State.gRequest (s : State) (g : Nat) (corber : Bool) : State :=
  let st := s.gState g
  if s.gMayLeave g then (s.onGuard g (fun y => { y with wanted := true })).gLeaveRetry g
  else if st = gReadyOff && s.mayProof && !(s.guard g).offing then s.gProof g
  else if st = gEmpty || st = gDebounce || st = gReadyOff then
    (s.onGuard g (fun y => { y with wanted := true, asks := y.asks ++ [(s.now, corber)] })).whenb (!s.running .slotRequest g)
      (fun s => s.arm .slotRequest g (ms 10000))
  else if (s.guard g).offing || st = gRetry then s.onGuard g (fun y => { y with wanted := true })
  else s

/-! ## Indicators (R367) -/

/-- Set a guard's indicators. -/
def State.gIndicate (s : State) (g attn pwr : Nat) : State :=
  (s.setFld F.SPG_SLOT_STATE.ATTN_IND g attn).setFld F.SPG_SLOT_STATE.PWR_IND g pwr

/-! ## Side-band items (R143, R144) -/

/-- The guard of a binding's port, at its device end or locally. -/
def State.guardOfBinding (s : State) (bi : Nat) : Option Nat := s.guardOf (s.bind bi).port

/-- A device end loses or regains presence or link: the binding at the VH end follows (Table 4.5, R143). -/
def State.farLink (s : State) (bi : Nat) (level : Bool) (cause : Nat) : State :=
  let b := s.bind bi
  if level then
    (if s.bindState bi = 3 && b.kind = 2 && cause = 2 then s.bindingResetDone bi
     else if s.bindState bi = 1 then (s.cfgReady bi true).showSlot b.vh b.vdsp true true else s)
  else if s.bindState bi = 1 || s.bindState bi = 4 then
    let s1 := s.suspend bi cause
    let es := s1.bnd.trk.filter (fun (e : TrkEntry) => e.state == .opn && e.binding == bi && e.fromHost)
    (s1.each es (fun s e => s.synth e (s.synthStatus true e.vh b.vdsp))).reportVdsp b.vh b.vdsp .surpriseDown false
  else s

/-- A reset of the VH end meets one this device's Corber has under way on the device end of the same binding (R162): the lead's own
operation holds authority, else the one through the device with the lower FEID; a reset that yields ends with PEER_AUTHORITY, and
goes on as the other's. -/
def State.resetYields (s : State) (src bi : Nat) : State :=
  let mine := s.crb.outst.filter (fun (o : Outst) => o.accepted && (o.opcode == 0x0308 || o.opcode == 0x0309) && o.req.object == bi)
  let leads (o : Outst) : Bool := s.flag F.BND_FAB_STATUS.LEAD_KNOWN &&
    (o.req.src == .whey (BitVec.ofNat 12 (s.fld F.BND_FAB_STATUS.LEAD_FEID)) ||
     (o.req.src == .malacel && s.fld F.BND_FAB_STATUS.LEAD_FEID == s.ownFeid))
  if mine.isEmpty || mine.any leads || s.ownFeid ≤ src then s
  else
    let s1 := (s.bump R.BND_FAB_PEER_AUTH_CNT).raise F.BND_FAB_EVT.PEER_AUTHORITY
    (s1.finish 0x0308 bi stPeer src).finish 0x0309 bi stPeer src

/-- A side-band item from device `src` for binding `bi` (R143, R144). -/
def State.sidebandItem (s : State) (src bi sig : Nat) (level : Bool) (value : Nat) : State :=
  let b := s.bind bi
  let v := b.vh
  let u := HostUnit.vdsp b.vdsp
  if !b.valid || b.feid ≠ src then
    s.whenb (sig == 0x11 || sig == 0x13) (fun s =>
      (s.bump R.BND_FAB_PRIV_REJ_CNT).journal 0x0404 { vh := v, binding := bi, feid := src })
  else if s.isDeviceEnd b then
    match sig with
    | 0x04 =>
      let s := s.resetYields src bi
      let t := s.onPins (fun y => { y with farPerst := (if level then [b.port] else []) ++ y.farPerst.filter (· != b.port) })
      if level then ((t.assertPerst b.port).arm .perstOut b.port (ms 1)).linkDown b.port 2
      else if t.mayReleasePerst b.port then (t.disarm .perstOut b.port).releasePerst b.port
      else t
    | 0x11 => match s.guardOfBinding bi with
      | some g => (s.onGuard g (fun y => { y with farLimit := some value })).applyLimit g
      | none => s
    | 0x13 => match s.guardOfBinding bi with
      | some g => s.gIndicate g (bits value 0 2) (bits value 2 2)
      | none => s
    | _ => s
  else
    let portKind := b.kind = 2
    match sig with
    | 0x01 =>
      if level then s.whenb (s.bindState bi == 1) (fun s => s.showSlot v b.vdsp true (s.hostOn v u .dllActive)) else s.farLink bi false 1
    | 0x02 => if portKind then s.setHost v u .powerFault (b2n level) else s
    | 0x03 => if portKind && level then s.setHost v u .attention 1 else s
    | 0x05 => if portKind && level then s.emit (.hostIrq v b.vdsp) else s
    | 0x06 => s.whenb portKind (fun s => s.onSpg (fun y => { y with clkreq := put bi level y.clkreq }))
    | 0x07 => s.farLink bi level 2
    | 0x10 => if portKind then s.setTelem bi (telemWord (bits ((look bi s.spg.telem).getD 0) 1 2) value) else s
    | 0x12 => if portKind then s.setTelem bi (setBits ((look bi s.spg.telem).getD 1) 1 2 value) else s
    | _ => s

end Sys2Proof.Machine
end

