-- ==== Sys2Proof/Machine/FabRx.lean ====
section
/-! DEFINITION. A packet with a fabric header arrives (R141, R148): it goes on by route, is copied to a group, or leaves the
fabric here through its flow context (R153 to R157). -/

namespace Sys2Proof.Machine

/-! ## Items -/

/-- The local end of an item: the TLP is routed at its binding, a side-band item acts, and a reserved PTYPE is discarded and
counted (Table 5.8). -/
def State.deliverItem (s : State) (inPort charge : Nat) (f : FabPkt) : State :=
  if 7 ≤ f.hdr.ptype then (s.bump R.ERR_UNEXP_ITEM_CNT).journal 0x0403 { port := inPort, feid := f.hdr.src }
  else if f.hdr.ptype = 6 then
    (match f.side with
     | some (_, b) => s.sidebandItem f.hdr.src f.hdr.bindIdx (bodyNat b 0 1) (bits (bodyNat b 1 1) 0 1 == 1) (bodyNat b 2 4)
     | none => s)
  else match f.tlp with
    | some t => s.fabTlp inPort charge f.hdr t
    | none => s

/-- The record of a packet that came through the fabric, looked up under the active generation. -/
def State.fabRecord (s : State) (inPort charge : Nat) (f : FabPkt) : Pkt :=
  { id := 0, inPort := inPort, charge := charge,
    ord := if f.hdr.ord = 0 then .posted else if f.hdr.ord = 1 then .nonPosted else .completion,
    vh := f.hdr.vh, tc := f.hdr.tc, dest := 255, gen := s.fld F.BND_GEN_STATUS.ACTIVE_GEN, len := f.tlp.elim 0 (·.payload),
    hdrLen := f.tlp.elim 8 (·.hdrLen), stamp := 0, tIn := 0, binding := f.hdr.bindIdx, fab := some f, hops0 := f.hdr.hops,
    dl0 := f.hdr.dl }

/-! ## Flow messages -/

/-- The flow key of a message (R138): source, destination, VH, ORD. -/
def flowFields (src dst vh ord : Nat) : List (Nat × Nat) := [(src, 12), (dst, 12), (vh, 8), (ord, 2)]

/-- Change the context of an index. -/
def State.onFlow (s : State) (i : Nat) (f : FlowCtx → FlowCtx) : State :=
  s.onFab (fun y => { y with flows := y.flows.map (fun (c : FlowCtx) => if c.idx = i then f c else c) })

/-- The context of an index. -/
def State.flow (s : State) (i : Nat) : Option FlowCtx := s.fab.flows.find? (fun (c : FlowCtx) => c.idx == i)

/-- The context of a flow key. -/
def State.flowOf (s : State) (src vh ord : Nat) : Option FlowCtx :=
  s.fab.flows.find? (fun (c : FlowCtx) => c.src == src && c.vh == vh && c.ord == ord)

/-- Show the contexts in use and their high-water mark. -/
def State.showFlows (s : State) : State :=
  (s.setFld F.BND_FAB_FLOWS_USED.USED 0 s.fab.flows.length).mark F.BND_FAB_FLOWS_HWM.HWM s.fab.flows.length

/-- Send FLOW_ACK with the current EXPECT (R155). -/
def State.flowAck (s : State) (i : Nat) : State :=
  match s.flow i with
  | none => s
  | some c =>
    let s1 := (s.wheyRouted (s.message 0x28 c.src (flowFields c.src s.ownFeid c.vh c.ord ++ [(c.expect, 16)]))).1
    (s1.onFlow i (fun c => { c with acked := c.expect, delivered := 0 })).disarm .flowAck i

/-- A context has delivered a packet: FLOW_ACK after 64, else within 1.00 µs (R155). -/
def State.flowCount (s : State) (i : Nat) : State :=
  let s1 := s.onFlow i (fun c => { c with delivered := c.delivered + 1 })
  match s1.flow i with
  | some c => if 64 ≤ c.delivered then s1.flowAck i else if s1.running .flowAck i then s1 else s1.arm .flowAck i 1000
  | none => s1

/-! ## The resequencer -/

/-- What a held packet was charged backs the packet it becomes. -/
def Grant.refund (g : Grant) (k : Pkt) : Grant :=
  if g.port = k.inPort && g.cls = k.charge then
    { g with heads := g.heads + 1, bytes := g.bytes + k.len, res := addP g.res k.chg.res, shr := addP g.shr k.chg.shr,
             esc := addP g.esc k.chg.esc }
  else g

/-- Hand a held packet on to the egress scheduler. -/
def State.flowDeliver (s : State) (i id : Nat) : State :=
  match s.pkt id with
  | none => s
  | some k =>
    let s1 := (s.freePkts (fun k => k.id == id)).onChurn (fun y => { y with grants := y.grants.map (fun (g : Grant) => g.refund k) })
    (s1.deliverItem k.inPort k.charge (k.fab.getD {})).flowCount i

/-- The fabric header of a packet. -/
def State.hdrOf (s : State) (id : Nat) : FabHdr := ((s.pkt id).bind (·.fab)).elim {} (·.hdr)

/-- EXPECT has passed L (R156). -/
def FlowCtx.passed (c : FlowCtx) : Bool := let d := seqDist c.closeSeq c.expect; 1 ≤ d && d ≤ 32767

/-- Remove a packet from what a context holds. -/
def FlowCtx.without (c : FlowCtx) (id : Nat) : FlowCtx := { c with held := c.held.filter (fun (h : HeldSeq) => h.pkt != id) }

/-- A context takes an OPEN packet of sequence S (R154, R156): EXPECT = S + 1, the packet is delivered, FLOW_GRANT goes to the
source. -/
def State.flowArm (s : State) (i id : Nat) : State :=
  let h := s.hdrOf id
  let s1 := s.onFlow i (fun c => { c.without id with closing := false, expect := seqNext h.fseq })
  let s2 := s1.flowDeliver i id
  (s2.wheyRouted (s2.message 0x26 h.src (flowFields h.src s2.ownFeid h.vh h.ord ++ [(h.fseq, 16)]))).1

/-- A sequenced packet meets the window of its context (Table 5.12). -/
def State.flowWindow (s : State) (i id : Nat) : State :=
  match s.flow i with
  | none => s
  | some c =>
    let h := s.hdrOf id
    let d := seqDist c.expect h.fseq
    if d < 512 then
      if c.held.any (fun (x : HeldSeq) => !x.waits && x.fseq == h.fseq) then
        (s.freePkts (fun k => k.id == id)).bump R.BND_FAB_RESEQ_DUP_CNT
      else
        let s1 := s.onFlow i (fun c => { c with held := c.held ++ [{ fseq := h.fseq, pkt := id, since := s.now }] })
        if s1.running .skew i then s1 else s1.arm .skew i (10 * s1.fld F.BND_FAB_RESEQ_CFG.SKEW)
    else if d ≤ 32767 || !h.redir then ((s.bump R.BND_FAB_RESEQ_LATE_CNT).raise F.BND_FAB_EVT.RESEQ_LATE).pathLoss id 10
    else (s.freePkts (fun k => k.id == id)).bump R.BND_FAB_RESEQ_DUP_CNT

/-- One delivery a context can make now, if any: the packet at EXPECT; else, when nothing stands in the window and EXPECT has
passed L where it closes, the first packet that waits its turn (R153, R156). -/
def State.flowOnce (s : State) (i : Nat) : Option State :=
  match s.flow i with
  | none => none
  | some c =>
    match c.held.find? (fun (h : HeldSeq) => !h.waits && h.fseq == c.expect) with
    | some h => some ((s.onFlow i (fun c => { c.without h.pkt with expect := seqNext c.expect })).flowDeliver i h.pkt)
    | none =>
      match c.held.find? (fun (h : HeldSeq) => h.waits) with
      | none => none
      | some h =>
        let f := s.hdrOf h.pkt
        if !c.closing && h.fseq != 0 && !f.opn then some ((s.onFlow i (fun c => c.without h.pkt)).flowWindow i h.pkt)
        else if c.held.any (fun (x : HeldSeq) => !x.waits) || (c.closing && !c.passed) then none
        else if f.opn && h.fseq != 0 then some (s.flowArm i h.pkt)
        else some ((s.onFlow i (fun c => c.without h.pkt)).flowDeliver i h.pkt)

/-- Every delivery a context can make now. -/
def State.flowRun (i : Nat) : Nat → State → State
  | 0, s => s
  | n + 1, s => match s.flowOnce i with | some s1 => State.flowRun i n s1 | none => s

/-- After a context changes: deliveries, the hole timer of the FSEQ it misses while it holds packets, those that wait for it to close
among them, and its end when it closes (R156, R157). -/
def State.flowSettle (s : State) (i : Nat) : State :=
  let before := (s.flow i).elim 0 (·.expect)
  let s1 := State.flowRun i (2 * ((s.flow i).elim 0 (fun c => c.held.length)) + 2) s
  match s1.flow i with
  | none => s1
  | some c =>
    if c.closing && c.held.isEmpty && c.passed then
      ((((s1.onFab (fun y => { y with flows := y.flows.filter (fun (x : FlowCtx) => x.idx != i) })).showFlows).disarm .hole i).disarm
        .skew i).disarm .flowAck i
    else if !c.held.isEmpty then
      (if s1.running .hole i && before = c.expect then s1
       else s1.arm .hole i (us (10 * s1.fld F.BND_FAB_RESEQ_CFG.HOLE)))
    else s1.disarm .hole i

/-- The lowest free context, of 4,096 (R153). -/
def State.freeFlow (s : State) : Option Nat :=
  if 4096 ≤ s.fab.flows.length then none
  else (List.range (s.fab.flows.length + 1)).find? (fun i => !s.fab.flows.any (fun (c : FlowCtx) => c.idx == i))

/-- A packet for this device meets its flow (R153, R154, R156). -/
def State.flowArrive (s : State) (inPort charge : Nat) (f : FabPkt) : State :=
  let h := f.hdr
  match s.flowOf h.src h.vh h.ord with
  | none =>
    if h.opn && h.fseq != 0 then
      match s.freeFlow with
      | some i =>
        let c : FlowCtx := { idx := i, closing := false, src := h.src, vh := h.vh, ord := h.ord, expect := seqNext h.fseq,
                             closeSeq := 0, held := [], acked := seqNext h.fseq, delivered := 0 }
        let s1 := (s.onFab (fun y => { y with flows := y.flows ++ [c] })).showFlows
        let s2 := (s1.deliverItem inPort charge f).flowCount i
        (s2.wheyRouted (s2.message 0x26 h.src (flowFields h.src s2.ownFeid h.vh h.ord ++ [(h.fseq, 16)]))).1
      | none =>
        let s1 := (s.deliverItem inPort charge f).bump R.BND_FAB_FLOW_DENY_CNT
        (s1.wheyRouted (s1.message 0x27 h.src (flowFields h.src s1.ownFeid h.vh h.ord))).1
    else s.deliverItem inPort charge f
  | some c =>
    let id := s.churn.nextId
    let s1 := s.store { s.fabRecord inPort charge f with held := true }
    let behind := c.held.any (fun (x : HeldSeq) => x.waits && (s.hdrOf x.pkt).opn)
    if h.opn || h.fseq = 0 || (h.pin && (c.closing || behind)) then
      (s1.onFlow c.idx (fun c => { c with
        held := c.held ++ [{ fseq := h.fseq, pkt := id, since := s.now, waits := true }] })).flowSettle c.idx
    else (s1.flowWindow c.idx id).flowSettle c.idx

/-! ## Groups and transit -/

/-- Copies of a group packet (R148): one multicast packet for the live slots of the group's entry and the local ports of
BND_GROUP. -/
def State.groupRx (s : State) (inPort charge : Nat) (f : FabPkt) : State :=
  let h := f.hdr
  let r := s.routeOf h.dst
  if !routeValid r || routeType r ≠ 2 then
    ((s.bump R.BND_FAB_UNREACH_CNT).raise F.BND_FAB_EVT.UNREACH).journal 0x0407 { port := inPort, feid := h.src }
  else
    let g := h.dst - 0xC00
    let far := decide (s.fld F.BND_FAB_CFG.HOP_LIMIT < h.hops + 1)
    let live := s.candidates r false
    let slots := if far then [] else s.candidates r h.dl
    let out := (slots.filterMap (fun j => s.portOfLink (slotOf r j))).foldl (fun (b : BitVec 144) p => b ||| portBit p) 0
    -- Local ports of the group whose link stands; never the ingress port (R82, R83).
    let here := (portsIn (BitVec.ofNat 144 (ef (s.bnd.active.entry .group g) 0 144))).filter s.linkUp
    let set := (here.foldl (fun (b : BitVec 144) p => b ||| portBit p) out) &&& ~~~(portBit inPort)
    let lose (s : State) (cnt : RegDesc) (evt : Fld) : State := ((s.bump cnt).raise evt).journal 0x0407 { port := inPort, feid := h.src }
    -- Copies that HOP_LIMIT or a dateline stops are lost, counted once for the packet (R140, R160, notes/assumptions/63).
    let s1 :=
      if far && live != [] then lose s R.BND_FAB_HOP_LIMIT_CNT F.BND_FAB_EVT.HOP_LIMIT
      else if !far && slots.length < live.length then lose s R.BND_FAB_DATELINE_BLOCK_CNT F.BND_FAB_EVT.DATELINE_BLOCK
      else s
    if set = 0 then s1
    else
      let id := s1.churn.nextId
      -- A group packet is pinned, and a change of its entry holds it as any other (R148, R152).
      let k0 := { s.fabRecord inPort charge f with
        residue := some { residue := set, struck := 0, destSet := set, group := g }, route := r, tlp := f.tlp }
      let wait := s1.pinHolds h.dst k0
      let k := { k0 with held := wait }
      let s2' := (s1.store k).decideSf id (portsIn set)
      let s2 := s2'.whenb wait (fun s =>
        ((s.onFab (fun y => { y with pinHeld := y.pinHeld ++ [(id, h.dst)] })).bump R.BND_FAB_PIN_HOLD_CNT).raise F.BND_FAB_EVT.PIN_HOLD)
      (s2.whenb (s2.fld F.CHN_MC_TIMER.TIMER_US != 0) (fun s => s.arm .residue id (us (s.fld F.CHN_MC_TIMER.TIMER_US)))).poolEvents

/-- The device forwards data: admitted, in FABRIC mode (Table 5.4, R129). -/
def State.fabForwards (s : State) : Bool := s.inFabric && s.flag F.BND_FAB_STATUS.ADMITTED

/-- A packet with a fabric header from a fabric port (R141): here, to a group, or on.  DESIGN CHOICE (notes/assumptions/74): one for this
device's own FEID is delivered here whether or not a valid entry of TYPE 1 stands for it. -/
def State.fabricRx (s : State) (p : Nat) (f : FabPkt) : State :=
  if !s.fabForwards || !s.isFabric p || !s.carries then s
  else
    let h := f.hdr
    let vc := h.ord + 3 * b2n h.dl
    if 0xC00 ≤ h.dst then s.groupRx p vc f
    else if h.dst = s.ownFeid then s.flowArrive p vc f
    else
      let id := s.churn.nextId
      ((s.store { s.fabRecord p vc f with route := s.routeOf h.dst }).sendOn id).poolEvents

end Sys2Proof.Machine
end

