-- ==== Sys2Proof/Machine/Kfl.lean ====
section
/-! DEFINITION. The KFL link controllers (chapter 06): training, recovery, flits out, credits, masking and link death (R150,
R158, R181 to R197). -/

namespace Sys2Proof.Machine

/-! ## A controller -/

/-- The link carries flits: ACTIVE or DRAINING. -/
def State.flits (s : State) (c : Nat) : Bool := s.lst c == 5 || s.lst c == 9

/-- The link index of a controller. -/
def State.linkIdx (s : State) (c : Nat) : Nat := s.linkOf (portOfCtl c)

/-- A KFL port stands at the controller. -/
def State.isKfl (s : State) (c : Nat) : Bool := s.isFabric (portOfCtl c) && s.proto (portOfCtl c) == 2

/-- Send on the link of a controller. -/
def State.out (s : State) (c : Nat) (m : LinkMsg) : State := s.emit (.link (s.linkIdx c) m)

/-- A link message (Table 6.7). -/
def linkWhey (code : Nat) (fields : List (Nat × Nat)) : Whey :=
  { carry := 0, code := code, origin := 0xFFF, dest := 0xFFF, hops := 0, body := packFields fields }

/-- Queue a message at a controller. -/
def State.wheyAt (s : State) (c : Nat) (w : Whey) : State := s.onKfl (fun y => { y with whey := y.whey ++ [(c, w)] })

/-- The messages that wait at a controller. -/
def State.wheyOf (s : State) (c : Nat) : List Whey := (s.kfl.whey.filter (fun e => e.1 == c)).map (·.2)

/-- The logical lanes of a mask. -/
def lanesIn (m : Nat) : List Nat := (List.range 8).filter (fun i => bits m i 1 == 1)

/-- The width code of a number of lanes: 0 x2, 1 x4, 2 x8. -/
def widthCode (n : Nat) : Nat := if n = 8 then 2 else if n = 4 then 1 else 0

/-- The physical lane of a logical lane of a controller (R191). -/
def State.physLane (s : State) (c i : Nat) : Nat :=
  8 * clusterOf (portOfCtl c) + bits (s.rd R.KFL_LANE_MAP c).toNat (3 * i) 3

/-! ## Sequence state (R181) -/

def State.nextTx (s : State) (c : Nat) : Nat := s.fld F.KFL_SEQ_TX.NEXT_TX c
def State.ackLast (s : State) (c : Nat) : Nat := s.fld F.KFL_SEQ_TX.ACK_LAST c
def State.expectRx (s : State) (c : Nat) : Nat := s.fld F.KFL_SEQ_RX.EXPECT_RX c

/-- The outstanding count n. -/
def State.outstanding (s : State) (c : Nat) : Nat := sub12 (s.nextTx c) (s.ackLast c + 1)

/-- Show n. -/
def State.showOut (s : State) (c : Nat) : State := s.setFld F.KFL_REPLAY_STATUS.OUTSTANDING c (s.outstanding c)

/-- The replay time of a link. -/
def State.replayTime (s : State) (c : Nat) : Nat := 250 * s.fld F.KFL_TIMER_A.REPLAY_TO c

/-! ## Credits (R185 to R188) -/

/-- Packets that wait in the Churn for a controller's port, copies of group packets among them, with their headers as they would leave. -/
def State.kflQueued (s : State) (c : Nat) : List FabHdr :=
  let p := portOfCtl c
  let waits (k : Pkt) : Bool := !k.held && !k.readers.contains p && (match k.residue with
    | none => k.dest == p && k.readers.isEmpty
    | some r => r.residue.getLsbD p)
  (s.churn.pkts.filter waits).filterMap (fun (k : Pkt) => (s.fabAt k p).map (·.hdr))

/-- Something waits for credit on a counter. -/
def State.kflWaits (s : State) (c v : Nat) : Bool :=
  if v = 6 then !(s.wheyOf c).isEmpty && s.kflRoom c 6 == 0
  else (s.kflQueued c).any (fun h => vcOf h == v && decide (s.kflRoom c v < s.kflPledged c v + creditsOf h.ilen))

/-- Keep WAITING and the credit timers of a link (R188). -/
def State.kflTimers (s : State) (c : Nat) : State :=
  if s.lst c ≠ 5 then s
  else s.each (List.range 7) (fun s v =>
    let w := s.kflWaits c v
    let s1 := s.setFld F.KFL_CRED_TX.WAITING (7 * c + v) (b2n w)
    if w then (if s1.running .credit (8 * c + v) then s1 else s1.arm .credit (8 * c + v) (us (s1.fld F.KFL_TIMER_B.CREDIT_TO c)))
    else s1.disarm .credit (8 * c + v))

/-- The peer of a link is admitted (R133): it has shown so, or with ADMIT_SELF, under which software answers for the fabric
(DESIGN CHOICE, notes/assumptions/12). -/
def State.peerAdmitted (s : State) (c : Nat) : Bool := s.flag F.BND_FAB_CFG.ADMIT_SELF || s.fab.peerAdm.contains c

/-- A link grants data credit: it is ACTIVE and unmasked, both its ends are admitted, and no fence stops it (R36, R133, R187, Table
7.12). -/
def State.kflGrants (s : State) (c : Nat) : Bool :=
  s.lst c == 5 && s.peerAdmitted c && s.outOfReset (portOfCtl c) && s.linkLive (s.linkIdx c) && s.fabForwards && !s.kfl.frozen && (s.kl c).stopping.isNone

/-- Grant `n` credits on a VC, backed as R77 and R185 state; the receiver never lets more than 2,047 stand (R186). -/
def State.kflGrant (s : State) (c v n : Nat) : State :=
  let p := portOfCtl c
  let j := 7 * c + v
  let open_ := sub12 (s.fld F.KFL_CRED_RX.GRANTED j) (s.fld F.KFL_CRED_RX.CONSUMED j)
  if n = 0 || !s.kflGrants c || 2047 < open_ + n then s
  else
    match s.grantCharge p v (2 * n, n) with
    | none => s
    | some chg =>
      let s1 := s.grantMore p v n (256 * n) chg
      s1.setFld F.KFL_CRED_RX.GRANTED j ((s1.fld F.KFL_CRED_RX.GRANTED j + n) % 4096)

/-- Credits a VC's reserved slice backs now. -/
def State.kflSlice (s : State) (c v : Nat) : Nat := let f := s.resFree (portOfCtl c) v; min f.2 (f.1 / 2)

/-- Each VC starts at its reserved slice (R187). -/
def State.kflStart (s : State) (c : Nat) : State := s.each (List.range 6) (fun s v => s.kflGrant c v (s.kflSlice c v))

/-- A packet that arrives uses its credits (R185, R186). -/
def State.kflConsume (s : State) (c v n : Nat) : State :=
  s.setFld F.KFL_CRED_RX.CONSUMED (7 * c + v) ((s.fld F.KFL_CRED_RX.CONSUMED (7 * c + v) + n) % 4096)

/-- The backing of a VC is what the credit still out needs: what arrived packets did not take returns (R77). -/
def State.kflTrim (s : State) (c v : Nat) : State :=
  let p := portOfCtl c
  let out := sub12 (s.fld F.KFL_CRED_RX.GRANTED (7 * c + v)) (s.fld F.KFL_CRED_RX.CONSUMED (7 * c + v))
  let cut (g : Grant) : Grant :=
    let g1 := { g with heads := min g.heads out, bytes := min g.bytes (256 * out) }
    let need := backing g1.heads g1.bytes
    let r := minP need g1.res
    let e := minP (subP need r) g1.esc
    { g1 with res := r, esc := e, shr := subP (subP need r) e }
  s.onChurn (fun y => { y with grants := y.grants.map (fun (g : Grant) => if g.port = p && g.cls = v then cut g else g) })

/-- Clear sequence and credit state (R193); the whey counter starts at 64 (R187). -/
def State.kflClear (s : State) (c : Nat) : State :=
  let p := portOfCtl c
  let s1 := s.onChurn (fun y => { y with grants := y.grants.filter (fun (g : Grant) => g.port != p) })
  let s2 := ((s1.resetReg R.KFL_SEQ_TX c).resetReg R.KFL_SEQ_RX c).resetReg R.KFL_REPLAY_STATUS c
  let s3 := s2.each (List.range 7) (fun s v =>
    ((s.resetReg R.KFL_CRED_TX (7 * c + v)).resetReg R.KFL_CRED_RX (7 * c + v)).disarm .credit (8 * c + v))
  (s3.setFld F.KFL_CRED_RX.GRANTED (7 * c + 6) 64).disarm .replay c

/-! ## Masking (R150) -/

/-- Links that a lead's record shows up for a member. -/
def State.linksUpOf (s : State) (f : Nat) : Nat := (s.fab.topo.filter (fun e => e.1 / 128 == f && e.2 % 4 == 1)).length

/-- Show the members in BND_FAB_MEMBER (R165). -/
def State.showMembers (s : State) : State :=
  let s1 := s.setFld F.BND_FAB_LEAD_INFO.MEMBERS 0 s.fab.members.length
  s1.each (List.range 64) (fun s m =>
    match s.fab.members[m]? with
    | none => s.resetReg R.BND_FAB_MEMBER m
    | some e => s.wr R.BND_FAB_MEMBER m (BitVec.ofNat 32 (packAt [(0, 12, e.feid), (12, 1, 1), (13, 1, b2n e.elig),
        (14, 1, b2n e.dynamic), (15, 7, s.linksUpOf e.feid)])))

/-- Tell the lead of a link's state: 0 down, 1 up, 2 masked.  The lead records its own links. -/
def State.topoReport (s : State) (l st peer : Nat) : State :=
  if s.fld F.BND_FAB_STATUS.STATE = 5 then
    (s.onFab (fun y => { y with topo := put (128 * s.ownFeid + l) (st + 4 * peer) y.topo })).showMembers
  else if !s.flag F.BND_FAB_STATUS.LEAD_KNOWN then s
  else (s.wheyRouted (s.message 0x25 (s.fld F.BND_FAB_STATUS.LEAD_FEID) [(l, 7), (st, 2), (peer, 12)])).1

/-- Packets queued for a masked link: sprayed ones take another slot, pinned ones are held, group copies are discarded and
counted (R148, R163). -/
def State.leaveLink (s : State) (p : Nat) : State :=
  let groups := s.churn.pkts.filter (fun (k : Pkt) =>
    k.fab.isSome && (match k.residue with | some r => r.residue.getLsbD p && !k.readers.contains p | none => false))
  let s0 := s.each groups (fun s k =>
    (((s.onPkt k.id (fun k => { k with residue := k.residue.map (·.clear p) })).bump R.BND_FAB_UNREACH_CNT).raise
      F.BND_FAB_EVT.UNREACH).journal 0x0407 { port := p })
  let s1 := s0.freePkts (fun k => match k.residue with | some r => r.residue == 0 && k.readers.isEmpty | none => false)
  let mine := s1.churn.pkts.filter (fun (k : Pkt) => k.dest == p && k.fab.isSome && k.residue.isNone && k.readers.isEmpty)
  s1.each mine (fun s k =>
    if k.coming then (s.freePkts (·.id == k.id)).takeBack k none
    else (s.onPkt k.id (fun k => { k with dest := 255 })).sendOn k.id)

/-- Mask a fabric link. -/
def State.maskLink (s : State) (l : Nat) : State :=
  if !s.linkLive l then s
  else
    let s1 := ((s.setLinkLive l false).bump R.BND_FAB_MASK_CNT).raise F.BND_FAB_EVT.HOP_MASKED
    let s2 := match s1.portOfLink l with
      | some p => s1.leaveLink p
      | none => s1
    (s2.topoReport l 2 ((s2.portOfLink l).elim 0 (fun p => (look (controllerOf p) s2.fab.peer).getD 0))).timeUpdate

/-! ## Training (R189 to R191) -/

/-- Fabric ports train: the last of TRANSPARENT, COMPOSED and FABRIC that was entered is not TRANSPARENT (R129, R323). -/
def State.fabTrains (s : State) : Bool :=
  s.mode != .reset && s.mode != .boot && 3 ≤ s.fld F.PWR_MODE_CFG.RESUME_MODE

/-- Our configured width: 1 x4, 2 x8. -/
def State.widthCfg (s : State) (c : Nat) : Nat := if s.fld F.PCL_SLOT_CFG.WIDTH (portOfCtl c) = 4 then 2 else 1

/-- Our RATE_CAP. -/
def State.rateBits (s : State) (c : Nat) : Nat :=
  let m := s.rateCap (portOfCtl c) true
  if 9 ≤ m then 3 else if m = 8 then 1 else 0

/-- The block a lane sends now (Table 6.10).  In a recovery, step 2 or 4 runs only on lanes whose receiver fails; the others stay in step
1 meanwhile (R192). -/
def State.ktsBlock (s : State) (c i : Nat) : Kts :=
  let k := s.kl c
  { lane := i, phase := if s.lst c = 6 && (k.phase == 1 || k.phase == 3) && bits k.ownOk i 1 == 1 then 0 else k.phase, rateCap := s.rateBits c, rateNow := s.fld F.KFL_LINK_STATUS.RATE_224 c, widthCfg := s.widthCfg c,
    laneOk := k.ownOk, eqDone := bits k.ownOk i 1 == 1, reqTog := bits k.reqTog i 1,
    ffeReq := ((look i k.reqs).elim 0 (·.toNat)), appTog := bits k.appTog i 1, reqRej := bits k.rejected i 1,
    ffeNow := (s.rd R.PCL_LANE_TXEQ (s.physLane c i)).toNat, serial := Config.serial.toNat }

/-- Lanes that train: all that are configured; in a recovery those of the current width, or of the full width where it runs toward
that (R192, R196). -/
def State.trainLanes (s : State) (c : Nat) : List Nat :=
  let active := s.fld F.KFL_LINK_STATUS.LANES_ACTIVE c
  if s.lst c = 6 then lanesIn (if (s.kl c).toFull then Nat.lor active (s.kl c).fullMask else active)
  else List.range (4 * s.widthCfg c)

/-- Send a training block on a logical lane: a recovery runs in PAM4 throughout (R189, R192). -/
def State.ktsSend (s : State) (c i : Nat) (b : Kts) : State :=
  s.out c (.kts i (ktsLevels (b.phase != 0 || s.lst c == 6) b))

/-- Each lane sends its block. -/
def State.ktsOut (s : State) (c : Nat) : State :=
  let s1 := s.each (s.trainLanes c) (fun s i => s.ktsSend c i (s.ktsBlock c i))
  s1.onKl c (fun k => { k with blocks := k.blocks + 1 })

/-- Logical lane `i` of a link is carried on lane `l` of its port (R191). -/
def State.laneAt (s : State) (c i l : Nat) : State :=
  s.wr R.KFL_LANE_MAP c (BitVec.ofNat 32 (setBits (s.rd R.KFL_LANE_MAP c).toNat (3 * i) 3 (firstLane (portOfCtl c) % 8 + l)))

/-- Training starts (Table 6.11, step 1), at 64 GBd. -/
def State.kflTrain (s : State) (c : Nat) : State :=
  let p := portOfCtl c
  if !s.isKfl c || !s.mayTrain p || !s.fabTrains || s.rateBits c = 0 then s
  else
    let s1 := s.onKl c (fun k => { lastBusy := s.now, token := k.token })
    let s2 := ((s1.setFld F.KFL_LINK_STATUS.LSTATE c 1).setFld F.KFL_LINK_STATUS.RATE_224 c 0).setFld F.KFL_LINK_STATUS.DEGRADED c 0
    let s3 := ((s2.setFld F.PCL_PORT_STATUS.STATE p 2).arm .training c (ms 25)).disarm .trainRetry c
    let s4 := s3.each (List.range 8) (fun s i => s.laneAt c i i)
    (s4.kflClear c).ktsOut c

/-- A link is down and its controller at rest. -/
def State.kflDown (s : State) (c cause : Nat) : State :=
  let s1 := ((s.setFld F.KFL_LINK_STATUS.LSTATE c 0).setFld F.KFL_LINK_STATUS.LANES_ACTIVE c 0).setFld F.KFL_LINK_STATUS.CAUSE c cause
  let s2 := (s1.setFld F.KFL_LINK_STATUS.WIDTH_NOW c 0).setFld F.KFL_LINK_STATUS.RATE_224 c 0
  let s3 := [TimerKind.training, .recovery, .shed, .lp, .kflIdle, .drain].foldl (fun s k => s.disarm k c) s2
  let s4 := s3.each (s3.lanesOf (portOfCtl c)) (fun s l => s.setFld F.PCL_LANE_STATUS.PARKED l 0)
  ((s4.kflClear c).onKl c (fun k => { token := k.token })).onFab (fun y => { y with peerAdm := y.peerAdm.filter (· != c) })

/-- Training has failed (R190): CAUSE 6; retried after 1.00 ms when TRAIN_EN is 1. -/
def State.kflFail (s : State) (c : Nat) (e : Option Fld) : State :=
  let p := portOfCtl c
  let s1 := match e with | some f => s.raise f p | none => s
  let s2 := (s1.kflDown c 6).linkOff p (s1.restState p)
  s2.whenb (s2.flag F.KFL_LINK_CFG.TRAIN_EN c) (fun s => s.arm .trainRetry c (ms 1))

/-- HELLO on a link (Table 5.6); in fabric state OFF none is sent (R129). -/
def State.hello (s : State) (c : Nat) : State :=
  if s.fld F.BND_FAB_STATUS.STATE = 0 then s else
  let lead := if s.flag F.BND_FAB_STATUS.LEAD_KNOWN && s.fab.leadAdmit then s.fld F.BND_FAB_STATUS.LEAD_FEID else 0
  s.wheyAt c (linkWhey 0x20 [(Config.serial.toNat, 64), (s.ownFeid, 12), (s.fld F.BND_FAB_CFG.LEAD_ELIG, 1), (lead, 12),
    (s.fld F.BND_FAB_LEAD_INFO.TERM, 16), (s.linkIdx c, 7)])

/-- Marker set `k` on the active lanes, and the scrambler's new start (R169, R170).  A width change agreed for it takes effect
(Table 6.12, steps 3 and 6). -/
def State.markerSet (s : State) (c k : Nat) : State :=
  let old := s.fld F.KFL_LINK_STATUS.LANES_ACTIVE c
  let m := (s.kl c).maskNext.getD old
  let w := (lanesIn m).length
  let s1 := s.out c (.markers ((lanesIn (Nat.lor old m)).map (fun i => markerLevels i (widthCode w) (k % 256))))
  s1.onKl c (fun x => { x with scr := 0x7FFFFFFF, marker := k, maskNext := none })

/-- The link takes a width: the logical lanes `m` of the full width `full` (R196). -/
def State.kflWidth (s : State) (c m full : Nat) : State :=
  let p := portOfCtl c
  let w := (lanesIn m).length
  let s1 := (s.setFld F.KFL_LINK_STATUS.WIDTH_NOW c (widthCode w)).setFld F.KFL_LINK_STATUS.LANES_ACTIVE c m
  let s2 := (s1.setFld F.PCL_PORT_STATUS.WIDTH_NOW p w).setFld F.PCL_PORT_STATUS.NARROWED p (b2n (m != full))
  let s3 := (s2.each (lanesIn full) (fun s i => s.setFld F.PCL_LANE_STATUS.PARKED (s.physLane c i) (b2n (bits m i 1 == 0)))).onKl c
    (fun k => { k with shedOurs := k.shedOurs && m != full })
  (s3.raise F.PCL_PORT_EVT.WIDTH_CHANGE p).demandStep

/-- LINK_DOWN is sent: the last step of an orderly disable. -/
def State.kflSendDown (s : State) (c : Nat) : State :=
  let reason := (s.kl c).stopping.getD 0
  let s1 := s.onKfl (fun y => { y with whey := (c, linkWhey 0x09 [(reason, 4)]) :: y.whey })
  (s1.onKl c (fun k => { k with downSeq := some 4096 })).arm .drain c (us 10)

/-- The drain of an orderly disable (R195, step 2): for up to 100 µs, or over at once where nothing is outstanding or half sent. -/
def State.kflDrain (s : State) (c : Nat) : State :=
  let s1 := s.setFld F.KFL_LINK_STATUS.LSTATE c 9
  if s1.outstanding c = 0 && (s1.kl c).tx.all (·.sent) then s1.kflSendDown c else s1.arm .drain c (us 100)

/-- TIME_REQ goes every TIME_INTERVAL from now on, when it is enabled (R198). -/
def State.timeStart (s : State) (c : Nat) : State :=
  s.whenb (s.flag F.KFL_LINK_CFG.TIME_REQ_EN c) (fun s => s.arm .timeReq c (ms (s.fld F.KFL_TIMER_C.TIME_INTERVAL c)))

/-- The link reaches ACTIVE (Table 6.11, step 7): fresh after training, or back with its sequence and credit state kept, when
every outstanding flit is replayed before any new one (R192).  An orderly disable that waited for it drains from now on (R195). -/
def State.kflActive (s : State) (c : Nat) : State :=
  let p := portOfCtl c
  let k := s.kl c
  let back := s.lst c = 6
  let s0 := (s.setFld F.KFL_LINK_STATUS.LSTATE c 5).onKl c (fun x => { x with
    maskNext := none, frame := [], frames := 0, marker := 0, realign := false, waking := false, lastBusy := s.now, phase := 0,
    good := 0, blocks := 0, ready := false, toFull := false })
  let s1 := (s0.markerSet c 0).onKl c (fun x => { x with maskNext := k.maskNext })
  if back then
    let s2 := (s1.setFld F.PCL_PORT_STATUS.STATE p 3).disarm .recovery c
    let s3 := (s2.setFld F.PCL_PORT_STATUS.LPSTATE p 0).each k.paused (fun s e => s.arm .credit (8 * c + e.1) e.2)
    let s4 := s3.onKl c (fun x => { x with paused := [], replayNext := if 0 < s3.outstanding c then some ((s3.ackLast c + 1) % 4096) else none })
    let s5 := s4.whenb (0 < s4.outstanding c) (fun s => (s.arm .replay c (s.replayTime c)).setFld F.KFL_REPLAY_STATUS.REPLAYING c 1)
    let s6 := s5.whenb k.waking (fun s => s.timeStart c)
    if k.stopping.isNone then s6
    else if k.downSeq.isNone then s6.kflDrain c
    else s6.setFld F.KFL_LINK_STATUS.LSTATE c 9
  else
    let n := (lanesIn (s1.fld F.KFL_LINK_STATUS.LANES_ACTIVE c)).length
    let rate := if s1.flag F.KFL_LINK_STATUS.RATE_224 c then 9 else 8
    let rev := (List.range 8).any (fun i => s1.physLane c i != firstLane p + i && bits (s1.fld F.KFL_LINK_STATUS.LANES_ACTIVE c) i 1 == 1)
    let s2 := ((s1.linkActive p rate n true false rev).raise F.KFL_LINK_EVT.UP c).disarm .training c
    let s3 := (s2.wr R.KFL_PEER_SERIAL_LO c (BitVec.ofNat 32 k.peerSerial)).wr R.KFL_PEER_SERIAL_HI c (BitVec.ofNat 32 (k.peerSerial / 2 ^ 32))
    let s4 := (s3.setFld F.KFL_LINK_STATUS.PEER_VALID c 1).onKl c (fun x => { x with
      fullMask := s3.fld F.KFL_LINK_STATUS.LANES_ACTIVE c })
    ((s4.hello c).kflStart c).timeStart c

/-- The lanes a link takes of the full width `full`, of those that have passed at both ends (R191). -/
def State.kflTake (s : State) (c full : Nat) : Option Nat :=
  let ok := Nat.land (s.kl c).ownOk (s.kl c).peerOk
  let has (m : Nat) : Bool := Nat.land ok m == m
  if has full then some full
  else if full ≠ 0xFF || !s.flag F.KFL_LINK_CFG.DEGRADE_EN c then none
  else if has 0x0F then some 0x0F else if has 0xF0 then some 0xF0 else none

/-- The width both ends agree (R191): the lanes, or none when training fails. -/
def State.kflAgree (s : State) (c : Nat) : Option Nat :=
  s.kflTake c (if s.widthCfg c = 2 && (s.kl c).peerCfg = 2 then 0xFF else 0x0F)

/-- Enter a training phase.  From PHASE 5 on the partner's marker set 0 may come: the receiver is ready for it. -/
def State.kflPhase (s : State) (c ph : Nat) : State :=
  let st := match ph with | 0 => 1 | 1 => 2 | 2 => 3 | 3 => 2 | _ => 4
  let s0 := s.onKl c (fun k => { k with phase := ph, good := 0, blocks := 0 })
  let s1 := s0.whenb (ph == 5) (fun s => s.onKl c (fun k => { k with
    marks := [], rxFlits := [], rxMask := s.fld F.KFL_LINK_STATUS.LANES_ACTIVE c }))
  (s1.whenb (s1.lst c != 6) (fun s => s.setFld F.KFL_LINK_STATUS.LSTATE c st)).ktsOut c

/-! ## Recovery (R192) -/

/-- Recovery starts: steps 1, 5 and 6 of Table 6.11 at the current rate and width; credit timers pause; a shedding step under
way and a recalibration abort (R64, R200). -/
def State.kflRecover (s : State) (c : Nat) : State :=
  if s.lst c ≠ 5 && s.lst c ≠ 9 then s
  else
    let p := portOfCtl c
    let left := ((List.range 7).filterMap (fun v => (s.timers.find? (fun (t : Timer) => t.kind == .credit && t.idx == 8 * c + v)).map
      (fun t => (v, t.due - s.now))))
    let s1 := s.each (List.range 7) (fun s v => s.disarm .credit (8 * c + v))
    let s2 := s1.onKl c (fun k => { k with phase := 0, good := 0, blocks := 0, paused := left, shed := none, restore := none,
                                           lp := none, maskNext := none, shedAsk := none, replayNext := none, frame := [], ues := [],
                                           sleep := none, rxWidth := none, rxFlits := [], ready := false })
    let s3 := ((s2.setFld F.KFL_LINK_STATUS.LSTATE c 6).setFld F.PCL_PORT_STATUS.STATE p 4).setFld F.KFL_REPLAY_STATUS.REPLAYING c 0
    let s4 := ((s3.disarm .replay c).disarm .shed c).disarm .lp c
    let s5 := ((s4.bump R.KFL_RECOV_CNT c).raise F.KFL_LINK_EVT.RECOVERY c).arm .recovery c (us (s4.fld F.KFL_TIMER_A.RECOV_TO c))
    let s6 := (s5.bump R.PCL_PORT_RECOVERY_CNT p).onChurn (fun y => { y with narrowing := y.narrowing.filter (· != p) })
    (s6.abortRecal p 1).ktsOut c

/-- Leave standby or deep idle (R197): recovery steps 1, 5 and 6 with the retained state.  DEDUCED (notes/assumptions/75): the exit is
no recovery of R192: neither KFL_RECOV_CNT nor the RECOVERY event tells of it. -/
def State.kflWake (s : State) (c : Nat) : State :=
  if s.lst c ≠ 7 && s.lst c ≠ 8 then s
  else
    let p := portOfCtl c
    let s1 := (s.onKl c (fun k => { k with phase := 0, good := 0, blocks := 0, ready := false, waking := true })).setFld F.KFL_LINK_STATUS.LSTATE c 6
    let s2 := (s1.setFld F.PCL_PORT_STATUS.STATE p 4).setFld F.PCL_PORT_STATUS.LPSTATE p 0
    let s3 := (s2.pllUpdate (clusterOf p)).raise F.KFL_LINK_EVT.LP_EXIT c
    (s3.arm .recovery c (us (s3.fld F.KFL_TIMER_A.RECOV_TO c))).ktsOut c

/-- Enter standby (0) or deep idle (1) (R197): no timer runs. -/
def State.kflSleep (s : State) (c st : Nat) : State :=
  let p := portOfCtl c
  let s1 := (s.setFld F.KFL_LINK_STATUS.LSTATE c (7 + st)).setFld F.PCL_PORT_STATUS.STATE p 5
  let s2 := ((s1.setFld F.PCL_PORT_STATUS.LPSTATE p (5 + st)).raise F.KFL_LINK_EVT.LP_ENTER c).onKl c (fun k => { k with lp := none, sleep := none })
  let s3 := [TimerKind.replay, .lp, .kflIdle, .timeReq].foldl (fun s k => s.disarm k c) s2
  let s4 := (s3.out c .idle).pllUpdate (clusterOf p)
  s4.whenb (!(s4.wheyOf c).isEmpty || !(s4.kflQueued c).isEmpty) (fun s => s.kflWake c)

/-! ## Link death (R158, R193) -/

/-- One packet that has begun in no flit of a dead link (R148, R163): a copy of a group packet is discarded and counted, any other takes
the way its recorded result leaves it, without REDIR. -/
def State.unsent (s : State) (k : Pkt) : State :=
  let f := k.fab.getD {}
  if 0xC00 ≤ f.hdr.dst then ((s.bump R.BND_FAB_UNREACH_CNT).raise F.BND_FAB_EVT.UNREACH).journal 0x0407 { vh := k.vh, feid := f.hdr.src }
  else
    let s0 := s.freePkts (fun (x : Pkt) => x.id == k.id)
    let id := s0.churn.nextId
    (s0.store { k with fab := some { f with hdr := { f.hdr with hops := k.hops0, dl := k.dl0 } }, dest := 255, readers := [], sfAt := [] }).sendOn id

/-- One packet of an unacknowledged flit (R158); a copy of a group packet is lost and journalled (R211). -/
def State.redirect (s : State) (k : Pkt) : State :=
  let f := k.fab.getD {}
  if 0xC00 ≤ f.hdr.dst then ((s.bump R.BND_FAB_PIN_DROP_CNT).raise F.BND_FAB_EVT.PIN_DROP).journal 0x0407 { vh := k.vh, feid := f.hdr.src }
  else
  let s0 := s.freePkts (fun (x : Pkt) => x.id == k.id)
  let h := { f.hdr with hops := k.hops0, dl := k.dl0, redir := true }
  let id := s0.churn.nextId
  let s1 := s0.store { k with fab := some { f with hdr := h }, dest := 255, readers := [], sfAt := [] }
  if h.pin then ((s1.bump R.BND_FAB_PIN_DROP_CNT).raise F.BND_FAB_EVT.PIN_DROP).pathLoss id 7
  else match s1.forward k.route h with
    | .hold => s1.pathLoss id 7
    | .slot _ => (s1.bump R.BND_FAB_REDIR_CNT).sendOn id
    | .lose _ _ _ => s1.sendOn id

/-- An orderly disable ends: the port is disabled, and the request that asked for it is answered (R195). -/
def State.kflDisabled (s : State) (c : Nat) : State :=
  let p := portOfCtl c
  let s1 := s.setFld F.PCL_PORT_CTRL.ENABLE p 0
  ((s1.finish 0x020A (s1.linkIdx c) stOk).finish 0x0203 p stOk).linkOff p 0

/-- What becomes of a packet a dead link had taken: a transit packet whose end has still to come is redirected when it has come; one in
no flit leaves another way; one in an unacknowledged flit is redirected (R158, R176). -/
def State.untake (s : State) (t : KflPkt) : State :=
  if t.coming then (s.freePkts (·.id == t.pkt.id)).takeBack t.pkt (if t.lastSeq = 4096 then none else some none)
  else if t.lastSeq = 4096 then s.unsent t.pkt
  else s.redirect t.pkt

/-- A link is broken (R193), with the code of its cause; a port whose orderly disable runs is disabled by it. -/
def State.kflBreak (s : State) (c cause : Nat) : State :=
  if s.lst c = 0 then s
  else
    let p := portOfCtl c
    let k := s.kl c
    let messages := ((k.unacked.map (·.whey)).flatten ++ s.wheyOf c).filter (fun (w : Whey) => w.carry == 2)
    let s1 := ((s.bump R.KFL_BROKEN_CNT c).raise F.KFL_LINK_EVT.BROKEN c).journal 0x0103 { port := p, detail := cause }
    let s2 := s1.kflDown c cause
    let s3 := s2.onKfl (fun y => { y with whey := y.whey.filter (fun e => e.1 != c) })
    let s4 := ((s3.setFld F.PCL_PORT_STATUS.STATE p 4).strikePort p).maskLink (s3.linkIdx c)
    let s5 := s4.linkDown p (if cause = 4 then 5 else 2)
    let s6 := s5.each k.tx State.untake
    let s7 := s6.each messages (fun s w => (s.wheyRouted w).1)
    if cause ≠ 4 && k.stopping.isSome then s7.kflDisabled c
    else s7.whenb (cause != 4 && s7.flag F.KFL_LINK_CFG.TRAIN_EN c) (fun s => s.kflTrain c)

/-- A protocol error (R194); sixteen within 1.00 ms break the link (R193). -/
def State.protoErr (s : State) (c : Nat) : State :=
  let s1 := (s.bump R.KFL_PROTO_ERR_CNT c).raise F.KFL_LINK_EVT.PROTO_ERR c
  let l := s.now :: (s1.kl c).protoErrs.filter (fun t => s.now < t + ms 1)
  let s2 := s1.onKl c (fun k => { k with protoErrs := l })
  if 16 ≤ l.length then s2.kflBreak c 5 else s2

/-! ## Orderly disable (R195) -/

/-- An orderly disable starts, a recalibration under way aborted first (R64): no new packet or message; outstanding flits drain.  A
sleeping link leaves its state first, and one in recovery returns first; a link still in training has nothing to drain. -/
def State.kflDisable (s0 : State) (c reason : Nat) : State :=
  let s := s0.abortRecal (portOfCtl c) 5
  if s.lst c = 0 then s
  else if s.lst c < 5 then s.kflBreak c 4
  else
    let s1 := s.onKl c (fun k => { k with stopping := some reason })
    if s.lst c = 5 || s.lst c = 9 then s1.kflDrain c else s1.kflWake c

/-- The link has stopped transmitting (R195, step 3): packets still unacknowledged are treated under R158, the port is
disabled, and the request that asked for it is answered. -/
def State.kflStop (s : State) (c : Nat) : State :=
  ((s.setFld F.PCL_PORT_CTRL.ENABLE (portOfCtl c) 0).kflBreak c 4).kflDisabled c

/-! ## Flits out (R174 to R177, R181, R183) -/

/-- The counter the next flit carries: one that has not been sent for 9 flits, else the next that has changed, else the
oldest, so that each is sent at least once in every 16 flits (R187). -/
def State.nextCounter (s : State) (c : Nat) : Nat :=
  let k := s.kl c
  let turn := (List.range 7).map (fun i => (k.crNext + i) % 7)
  let age (v : Nat) : Nat := (k.crSent.getD v (0, 0)).2
  let oldest := turn.foldl (fun b v => if age b < age v then v else b) (turn.headD 0)
  if 9 ≤ age oldest then oldest
  else (turn.find? (fun v => (k.crSent.getD v (0, 0)).1 != s.fld F.KFL_CRED_RX.GRANTED (7 * c + v))).getD oldest

/-- Send a flit: its ACK and credit are of this moment, its bytes go into the frame, and a full frame leaves on the lanes
(R166, R183). -/
def State.flitOut (s : State) (c : Nat) (h : FlitHdr) (whey : List Whey) (slots : List (List Byte)) : State :=
  let v := s.nextCounter c
  let g := s.fld F.KFL_CRED_RX.GRANTED (7 * c + v)
  let b := flitBytes { h with ack := sub12 (s.expectRx c) 1, crVc := v, crCum := g } whey slots
  let s1 := s.onKl c (fun k => { k with
    crSent := (List.range 7).map (fun i => if i = v then (g, 0) else let e := k.crSent.getD i (0, 0); (e.1, e.2 + 1))
    crNext := (v + 1) % 7
    sinceIdle := if h.ftype = 0 then 0 else k.sinceIdle + 1
    frameTb := if k.frame.isEmpty then s.tb else k.frameTb
    frame := k.frame ++ [b] })
  let s2 := (s1.out c (.flit b)).stat R.KFL_TX_FLITS_LO R.KFL_TX_FLITS_HI c 1
  let k := s2.kl c
  if k.frame.length < 5 then s2
  else
    let m := s2.fld F.KFL_LINK_STATUS.LANES_ACTIVE c
    let (lanes, scr) := frameLanes k.scr (lanesIn m).length k.frame
    let s3 := (s2.out c (.frame lanes)).onKl c (fun k => { k with frame := [], scr := scr, frames := k.frames + 1 })
    let k := s3.kl c
    if k.frames < markerFrame (k.marker + 1) then s3
    else
      -- Widening waits for every cut-through packet in progress toward the port (R73).
      let wait := (lanesIn (s3.fld F.KFL_LINK_STATUS.LANES_ACTIVE c)).length < (k.maskNext.elim 0 (fun m => (lanesIn m).length)) &&
        s3.cutThroughTo (portOfCtl c)
      let want := if wait then none else k.maskNext
      let s4 := ((s3.onKl c (fun k => { k with maskNext := want })).markerSet c (k.marker + 1)).onKl c (fun x => { x with
        maskNext := if wait then k.maskNext else none })
      match want with
      | none => s4
      | some m =>
        if m = k.fullMask && Nat.land k.locked m ≠ m && s3.fld F.KFL_LINK_STATUS.LANES_ACTIVE c ≠ m then
          (s4.onKl c (fun k => { k with toFull := true })).kflRecover c
        else
          let s5 := s4.kflWidth c m k.fullMask
          s5.raise (if m = k.fullMask then F.KFL_LINK_EVT.RESTORE else F.KFL_LINK_EVT.SHED) c

/-- Take up to `n` slots of the packets a controller has started, in order; the first slot of a packet spends its credits.  Behind a
transit packet whose end has not come no other begins: packets never interleave (R175).  The result: slots, where the first packet to begin begins, and the packets after. -/
def takeSlots (n lseq : Nat) : List KflPkt → List (List Byte) × Option Nat × List KflPkt × List (Nat × Nat)
  | [] => ([], none, [], [])
  | t :: l =>
    if t.slots.isEmpty && t.coming then ([], none, t :: l, [])
    else if n = 0 || t.slots.isEmpty then
      let (a, b, c, d) := takeSlots n lseq l
      (a, b, t :: c, d)
    else
      let first := t.lastSeq == 4096
      let k := min n t.slots.length
      let t1 := { t with slots := t.slots.drop k, lastSeq := lseq }
      let (a, b, c, d) := takeSlots (n - k) lseq l
      (t.slots.take k ++ a, if first then some 0 else b.map (· + k), t1 :: c,
       if first then (t.vc, creditsOf (t.pkt.fab.elim 0 (·.hdr.ilen))) :: d else d)

/-- A TIME message takes the time the first UI of the frame that carries it leaves: that of the frame's first flit slot (R198). -/
def State.stamped (s : State) (c : Nat) (w : Whey) : Whey :=
  let t := (if (s.kl c).frame.isEmpty then s.tb else (s.kl c).frameTb).toNat
  if w.carry = 0 && w.code = 0x07 then { w with body := packFields [(t, 64)] }
  else if w.carry = 0 && w.code = 0x08 then { w with body := w.body.take 16 ++ leBytes 8 t }
  else w

/-- Build a new SEQ flit if anything waits, else send IDLE (R174, R181). -/
def State.newFlit (s : State) (c : Nat) : State :=
  let k := s.kl c
  let idle := (s.flitOut c {} [] []).kflTimers c
  if 2048 ≤ s.outstanding c then idle
  else
    let lseq := s.nextTx c
    let queue := s.wheyOf c
    let may := if k.stopping.isSome then queue.filter (fun w => w.carry == 0 && w.code == 0x09) else queue
    let ws := may.take (min (s.fld F.KFL_LINK_CFG.WHEY_MAX c) (s.kflRoom c 6))
    let n := ws.length
    let (slots, st, tx, spent) := takeSlots (15 - 2 * n) lseq k.tx
    if n = 0 && slots.isEmpty && !k.abortNext then idle
    else
      let start := match st with | some j => 2 * n + j | none => 15
      let out := ws.map (s.stamped c)
      let left := (queue.filter (fun w => !(may.contains w))) ++ may.drop n
      let s1 := s.onKfl (fun y => { y with whey := y.whey.filter (fun e => e.1 != c) ++ left.map (fun w => (c, w)) })
      let down := ws.any (fun w => w.carry == 0 && w.code == 0x09)
      let s2 := s1.onKl c (fun k => { k with
        tx := tx, abortNext := false, lastBusy := s.now, downSeq := if down then some lseq else k.downSeq
        unacked := k.unacked ++ [{ lseq := lseq, whey := out, slots := slots, start := start, abort := k.abortNext }] })
      let s3 := s2.each ((6, n) :: spent) (fun s e =>
        s.setFld F.KFL_CRED_TX.USED (7 * c + e.1) ((s.fld F.KFL_CRED_TX.USED (7 * c + e.1) + e.2) % 4096))
      let s4 := (s3.setFld F.KFL_SEQ_TX.NEXT_TX c ((lseq + 1) % 4096)).showOut c
      let s5 := if s4.running .replay c then s4 else s4.arm .replay c (s4.replayTime c)
      (s5.flitOut c { ftype := 1, lseq := lseq, wheyN := n, dslots := slots.length, start := start, abort := k.abortNext } out
        slots).kflTimers c

/-- Training blocks sent are counted in steps 3 and 6 of Table 6.11: 16 of PHASE 2 each way, and 16 of PHASE 5 after the first received. -/
def State.ktsCounted (s : State) (c : Nat) : State :=
  let k := s.kl c
  if k.phase = 2 && 16 ≤ k.good && 16 ≤ k.blocks then (s.setFld F.KFL_LINK_STATUS.RATE_224 c 1).kflPhase c 3
  else if k.phase = 5 && k.ready && 8 ≤ k.good && 16 ≤ k.blocks then s.kflActive c
  else s

/-- A link trains: its lanes send blocks. -/
def State.training (s : State) (c : Nat) : Bool := (1 ≤ s.lst c && s.lst c ≤ 4) || s.lst c == 6

/-- The next flit of a link (R174, R177, R181, R184), or the next training blocks of one that trains (R189): an IDLE flit when one is due, a replayed copy while a replay runs, else a
new flit.  In standby and deep idle something to send wakes the link (R197). -/
def State.kflNext (s : State) (c : Nat) : State :=
  let k := s.kl c
  if s.lst c = 7 || s.lst c = 8 then
    s.whenb (!(s.wheyOf c).isEmpty || !(s.kflQueued c).isEmpty) (fun s => s.kflWake c)
  else if s.training c then (s.ktsOut c).ktsCounted c
  else if !s.flits c then s
  else if s.fld F.KFL_LINK_CFG.COMP_INTERVAL c ≤ k.sinceIdle + 1 then s.flitOut c {} [] []
  else
    match k.replayNext with
    | none => s.newFlit c
    | some q =>
      match k.unacked.find? (fun (f : KflFlit) => sub12 f.lseq q < sub12 (s.nextTx c) q) with
      | none => ((s.onKl c (fun k => { k with replayNext := none })).setFld F.KFL_REPLAY_STATUS.REPLAYING c 0).newFlit c
      | some f =>
        let s1 := s.onKl c (fun k => { k with replayNext := some ((f.lseq + 1) % 4096) })
        s1.flitOut c { ftype := 1, lseq := f.lseq, wheyN := f.whey.length, dslots := f.slots.length, start := f.start,
                       abort := f.abort, replay := true } f.whey f.slots

/-- The slots of a transit packet that have come by now, its header first as it leaves (R176). -/
def State.slotsCome (s : State) (k : Pkt) (f : FabPkt) : List (List Byte) :=
  leBytes 16 (fabHdrNat f.hdr) :: match (s.kl (controllerOf k.inPort)).rx with
    | none => []
    | some x => slotsOfBytes (x.got.length / 16 - 1) (x.got.drop 16)

/-- A packet the scheduler chose starts on the link (R175): its header and item become slots, of a transit packet whose end has not come
those that have come. -/
def State.kflSend (s : State) (c : Nat) (k : Pkt) : State :=
  match k.fab with
  | none => s
  | some f =>
    let t : KflPkt := { pkt := k, vc := vcOf f.hdr, slots := if k.coming then s.slotsCome k f else pktSlots f, lastSeq := 4096,
                        coming := k.coming }
    s.onKl c (fun x => { x with tx := x.tx ++ [t], lastBusy := s.now })

end Sys2Proof.Machine
end

