-- ==== Sys2Proof/Machine/Recal.lean ====
section
/-! DEFINITION. Recalibration under traffic (R63, R64, Table 2.8) and the shed and restore requests it makes on a KFL link
(R196). -/

namespace Sys2Proof.Machine

/-! ## Shed and restore requests (Table 6.12, steps 1 and 5) -/

/-- The next TOKEN of a link. -/
def State.nextToken (s : State) (c : Nat) : Nat := ((s.kl c).token + 1) % 256

/-- Ask the partner to keep only the logical lanes `m`. -/
def State.askShed (s : State) (c m : Nat) : State :=
  let t := s.nextToken c
  let s1 := s.onKl c (fun k => { k with token := t, shed := some (t, m) })
  ((s1.wheyAt c (linkWhey 0x01 [(m, 8), (t, 8)])).arm .shed c (us 10)).kflWake c

/-- Ask the partner to restore the full width. -/
def State.askRestore (s : State) (c : Nat) : State :=
  let t := s.nextToken c
  let m := (s.kl c).fullMask
  let s1 := s.onKl c (fun k => { k with token := t, restore := some (t, m), locked := s.fld F.KFL_LINK_STATUS.LANES_ACTIVE c })
  (s1.wheyAt c (linkWhey 0x03 [(m, 8), (t, 8)])).arm .shed c (us 10)

/-- The two halves of a mask of logical lanes: lower and upper. -/
def halves (m : Nat) : Nat × Nat :=
  let l := lanesIn m
  let mask (l : List Nat) : Nat := l.foldl (fun a i => a + 2 ^ i) 0
  (mask (l.take (l.length / 2)), mask (l.drop (l.length / 2)))

/-! ## A recalibration -/

/-- A port can lend half its lanes (R63). -/
def State.canBorrow (s : State) (p : Nat) : Bool :=
  if s.proto p = 2 then s.lst (controllerOf p) == 5
  else s.flag F.PCL_PORT_STATUS.FLIT p && s.flag F.PCL_PORT_CTRL.L0P_EN p && 2 ≤ s.fullOf p

/-- Ask for the half of this round: the port is marked store-and-forward from now on (R73); a KFL link asks its partner to keep
the other half. -/
def State.recalAsk (s : State) (p : Nat) : State :=
  let s1 := s.onChurn (fun y => { y with narrowing := p :: y.narrowing.filter (· != p) })
  if s1.proto p ≠ 2 then s1.emit (.link p (.l0p (s1.fullOf p / 2)))
  else
    let h := halves (s1.kl (controllerOf p)).fullMask
    s1.askShed (controllerOf p) (if s1.flag F.PCL_RECAL_STATUS.HALF (clusterOf p) then h.1 else h.2)

/-- A recalibration completes (Table 2.8, step 6). -/
def State.recalDone (s : State) (p : Nat) : State :=
  let c := clusterOf p
  let s1 := ((s.setFld F.PCL_RECAL_STATUS.STATE c 2).bump16 F.PCL_RECAL_STATUS.RECAL_COUNT c 1).setFld F.PCL_CLUSTER_STATUS.RECAL_BUSY c 0
  (s1.raise F.PCL_PORT_EVT.RECAL_DONE p).finish 0x0205 p stOk

/-- A recalibration starts on a port: at once on all lanes of one that is disabled or in TEST (R63), else by halves. -/
def State.recalStart (s : State) (p : Nat) : State :=
  let c := clusterOf p
  let s1 := ((s.setFld F.PCL_RECAL_STATUS.STATE c 1).setFld F.PCL_RECAL_STATUS.SLOT c (p % 4)).setFld F.PCL_RECAL_STATUS.HALF c 0
  let s2 := (s1.setFld F.PCL_RECAL_STATUS.ABORT_CAUSE c 0).setFld F.PCL_CLUSTER_STATUS.RECAL_BUSY c 1
  if s2.linkState p = 0 || s2.linkState p = 6 then s2.recalDone p else s2.recalAsk p

/-- The lanes of one half of a port of `w` lanes. -/
def halfLanes (p w half : Nat) : List Nat := (List.range (w / 2)).map (fun k => firstLane p + (if half = 0 then 0 else w / 2) + k)

/-- A PCI Express port has its width back: the other half is next, or the recalibration is complete. -/
def State.recalNext (s : State) (p : Nat) : State :=
  let c := clusterOf p
  let s1 := s.setFld F.PCL_PORT_STATUS.RECAL_BORROW p 0
  if s1.flag F.PCL_RECAL_STATUS.HALF c then s1.recalDone p else (s1.setFld F.PCL_RECAL_STATUS.HALF c 1).recalAsk p

/-- The width of a PCI Express port changes by L0p to `w` of its `full` lanes, the lanes `parked` parked. -/
def State.l0pTo (s : State) (p w full : Nat) (parked : List Nat) : State :=
  let s1 := (s.setFld F.PCL_PORT_STATUS.WIDTH_NOW p w).setFld F.PCL_PORT_STATUS.NARROWED p (b2n (w < full))
  let s2 := s1.each (s1.lanesOf p) (fun s l => s.setFld F.PCL_LANE_STATUS.PARKED l (b2n (parked.contains l)))
  let s3 := s2.onChurn (fun y => { y with
    narrowing := y.narrowing.filter (· != p), narrowTo := drop p y.narrowTo, widen := drop p y.widen
    fullWidth := if w < full then put p full y.fullWidth else drop p y.fullWidth })
  (s3.raise F.PCL_PORT_EVT.WIDTH_CHANGE p).demandStep

/-- A PCI Express port widens to `w` lanes now: a borrowed half returns, or lanes parked by L0p. -/
def State.widenNow (s : State) (p w : Nat) : State :=
  let full := s.fullOf p
  if s.flag F.PCL_PORT_STATUS.RECAL_BORROW p then (s.l0pTo p full full []).recalNext p
  else s.l0pTo p w full ((s.lanesOf p).drop w)

/-- A PCI Express port is to widen to `w` lanes: it waits for every cut-through packet in progress toward it (R73). -/
def State.widenTo (s : State) (p w : Nat) : State :=
  if s.cutThroughTo p then s.onChurn (fun y => { y with widen := put p w y.widen }) else s.widenNow p w

/-- A packet toward a port has been sent: a widening that waits for it goes on (R73). -/
def State.widenDue (s : State) (p : Nat) : State :=
  match look p s.churn.widen with
  | none => s
  | some w => if s.cutThroughTo p || !s.active p then s else s.widenNow p w

/-- The half of this round of a recalibration is agreed: the port waits for it. -/
def State.recalMine (s : State) (p w : Nat) : Bool :=
  s.recalOn p && !s.flag F.PCL_PORT_STATUS.RECAL_BORROW p && 2 * w == s.fullOf p

/-- A PCI Express port narrows to `w` lanes now: by the half a recalibration borrows, or by L0p. -/
def State.narrowNow (s : State) (p w : Nat) : State :=
  let full := s.fullOf p
  if s.recalMine p w then
    let half := s.fld F.PCL_RECAL_STATUS.HALF (clusterOf p)
    (s.l0pTo p w full (halfLanes p full half)).setFld F.PCL_PORT_STATUS.RECAL_BORROW p 1
  else if s.flag F.PCL_PORT_STATUS.RECAL_BORROW p then
    let kept := (s.lanesOf p).filter (fun l => !s.flag F.PCL_LANE_STATUS.PARKED l)
    s.l0pTo p w full ((s.lanesOf p).filter (fun l => s.flag F.PCL_LANE_STATUS.PARKED l) ++ kept.drop w)
  else s.l0pTo p w full ((s.lanesOf p).drop w)

/-- A PCI Express port is to narrow to `w` lanes: it is store-and-forward from now on, and agrees once every cut-through packet in
progress from it is fully written (R73). -/
def State.narrowTo (s : State) (p w : Nat) : State :=
  if s.cutThroughFrom p then s.onChurn (fun y => { y with
    narrowing := p :: y.narrowing.filter (· != p), narrowTo := put p w y.narrowTo })
  else s.narrowNow p w

/-- Narrowings that wait for packets fully written by now take effect (R73). -/
def State.narrowDue (s : State) : State :=
  s.each s.churn.narrowTo (fun s e =>
    if s.cutThroughFrom e.1 || !s.active e.1 then s
    else (s.onChurn (fun y => { y with narrowTo := drop e.1 y.narrowTo })).narrowNow e.1 e.2)

/-- A width change of a PCI Express port by L0p (R61, R64, R73).  While half its lanes are borrowed a request to widen waits for
the end of the half, which restores the width, and one to narrow further is honoured. -/
def State.l0pWidth (s : State) (p w : Nat) : State :=
  let full := s.fullOf p
  let now := s.fld F.PCL_PORT_STATUS.WIDTH_NOW p
  let borrowed := s.flag F.PCL_PORT_STATUS.RECAL_BORROW p
  let mine := s.recalMine p w
  if !s.active p || s.proto p = 2 || !s.flag F.PCL_PORT_STATUS.FLIT p || !s.flag F.PCL_PORT_CTRL.L0P_EN p || full < 2 ||
      w = 0 || full < w || (w = now && !mine) || !([1, 2, 4, 8, 16].contains w) then s
  else if now < w && !mine then (if borrowed then s else s.widenTo p w)
  else s.narrowTo p w

/-- Calibration of the borrowed half ends (Table 2.8, steps 3 to 6). -/
def State.recalHalf (s : State) (p : Nat) : State :=
  if !s.recalOn p || !s.flag F.PCL_PORT_STATUS.RECAL_BORROW p then s
  else if s.proto p = 2 then s.askRestore (controllerOf p)
  else (s.emit (.link p (.l0p (s.fullOf p)))).widenTo p (s.fullOf p)

/-- A KFL link has shed or restored its lanes for a recalibration at a marker set.  One still shed for a recalibration that has aborted
asks for its lanes back (R64). -/
def State.recalWatch (s : State) (c : Nat) : State :=
  let p := portOfCtl c
  let narrow := s.flag F.PCL_PORT_STATUS.NARROWED p
  let borrowed := s.flag F.PCL_PORT_STATUS.RECAL_BORROW p
  let k := s.kl c
  if s.lst c ≠ 5 then s
  else if !s.recalOn p then
    s.whenb (narrow && k.shedOurs && k.restore.isNone && k.maskNext.isNone) (fun s => s.askRestore c)
  else if narrow && k.shedOurs && !borrowed then
    (s.setFld F.PCL_PORT_STATUS.RECAL_BORROW p 1).onChurn (fun y => { y with narrowing := y.narrowing.filter (· != p) })
  else if !narrow && borrowed then s.recalNext p
  else s

end Sys2Proof.Machine
end

