-- ==== Sys2Proof/Machine/FabMsgs.lean ====
section
/-! DEFINITION. Membership and the messages of the fabric (R131 to R138, R150, R154 to R156), write failure notices and ACU
notices at their receiver (R212 to R214, R422). -/

namespace Sys2Proof.Machine

/-! ## The fabric state of this device (Table 5.4) -/

/-- The fabric state codes. -/
def fsOff : Nat := 0
def fsDiscover : Nat := 1
def fsElect : Nat := 2
def fsJoin : Nat := 3
def fsMember : Nat := 4
def fsLead : Nat := 5
def fsRefused : Nat := 6

/-- The fabric state. -/
def State.fs (s : State) : Nat := s.fld F.BND_FAB_STATUS.STATE

/-- Show whether this device is admitted: by a lead, or with ADMIT_SELF without one, until it leaves FABRIC mode or is refused
(R133). -/
def State.showAdmitted (s : State) : State :=
  s.setFld F.BND_FAB_STATUS.ADMITTED 0
    (b2n (s.fs != fsOff && s.fs != fsRefused && (s.fab.leadAdmit || s.flag F.BND_FAB_CFG.ADMIT_SELF)))

/-- Enter a fabric state. -/
def State.setFs (s : State) (st : Nat) : State := ((s.setFld F.BND_FAB_STATUS.STATE 0 st).showAdmitted).timeUpdate

/-- A lead has admitted this device, or refused it. -/
def State.admitted (s : State) (v : Bool) : State := s.onFab (fun y => { y with leadAdmit := v })

/-- Record the highest TERM heard. -/
def State.heardTerm (s : State) (t : Nat) : State := s.mark F.BND_FAB_LEAD_INFO.TERM t

/-- The lead this device knows. -/
def State.lead (s : State) : Option Nat :=
  if s.flag F.BND_FAB_STATUS.LEAD_KNOWN then some (s.fld F.BND_FAB_STATUS.LEAD_FEID) else none

/-- A lead becomes known, or is lost. -/
def State.setLead (s : State) (l : Option Nat) : State :=
  if s.lead = l then s
  else
    let s1 := (s.setFld F.BND_FAB_STATUS.LEAD_FEID 0 (l.getD 0)).setFld F.BND_FAB_STATUS.LEAD_KNOWN 0 (b2n l.isSome)
    (s1.raise F.BND_FAB_EVT.LEAD_CHANGE).timeUpdate

/-- The controllers of the trained fabric links. -/
def State.trainedCtl (s : State) : List Nat := (List.range 72).filter (fun c => s.isKfl c && s.linkUp (portOfCtl c))

/-- Send HELLO on every trained fabric link. -/
def State.helloAll (s : State) : State := s.each s.trainedCtl (fun s c => s.hello c)

/-- Data credit starts on every link that may grant it (Table 5.5, step 6). -/
def State.grantAll (s : State) : State := s.each s.trainedCtl (fun s c => s.kflStart c)

/-- Ask the lead to be admitted (Table 5.5, step 2); `via` is the link the lead was heard on. -/
def State.join (s : State) (lead : Nat) (via : Option Nat) : State :=
  let s1 := ((s.setFs fsJoin).setLead (some lead)).disarm .settle 0
  let s2 := s1.onFab (fun y => { y with claiming := false })
  (s2.wheyRouted (s2.message 0x23 lead [(Config.serial.toNat, 64), (s2.ownFeid, 12), (s2.fld F.BND_FAB_CFG.LEAD_ELIG, 1)]) via).1

/-- Flood a message of this device. -/
def State.flood (s : State) (code : Nat) (fields : List (Nat × Nat)) : State :=
  s.wheyFlood { carry := 1, code := code, origin := s.ownFeid, dest := 0xFFF, hops := 1, body := packFields fields }

/-- Sequence of this device's floods. -/
def State.nextFlood (s : State) : State := s.onFab (fun y => { y with floodSeq := (y.floodSeq + 1) % 65536 })

/-- The time of SETTLE, and of a heartbeat interval. -/
def State.settleTime (s : State) : Nat := us (100 * s.fld F.BND_FAB_TIMERS.SETTLE)
def State.hbTime (s : State) : Nat := us (100 * s.fld F.BND_FAB_TIMERS.HB)

/-- Enter ELECT: an eligible device floods its claim (R134). -/
def State.elect (s : State) : State :=
  let s1 := (s.setFs fsElect).onFab (fun y => { y with claim := none, claiming := false })
  if !s1.flag F.BND_FAB_CFG.LEAD_ELIG then s1
  else
    let s2 := (s1.onFab (fun y => { y with claiming := true })).nextFlood
    (s2.flood 0x21 [(s2.ownFeid, 12), (Config.serial.toNat, 64), (s2.fld F.BND_FAB_LEAD_INFO.TERM, 16), (s2.fab.floodSeq, 16)]).arm
      .settle 0 s2.settleTime

/-- The lead floods HEARTBEAT (R135). -/
def State.heartbeat (s : State) : State :=
  let s1 := s.nextFlood
  (s1.flood 0x22 [(s1.ownFeid, 12), (s1.fld F.BND_FAB_LEAD_INFO.TERM, 16), (s1.fab.floodSeq, 16),
    (s1.fld F.BND_FAB_LEAD_INFO.MEMBERS, 7)]).arm .heartbeat 0 s1.hbTime

/-- Enter LEAD (R134): TERM is one more than the highest heard, the timebase turns valid (R349), heartbeats start. -/
def State.becomeLead (s : State) : State :=
  let me : Member := { feid := s.ownFeid, serial := Config.serial.toNat, elig := true, dynamic := false, linksUp := 0 }
  let s1 := ((s.admitted true).setFs fsLead).setFld F.BND_FAB_LEAD_INFO.TERM 0 ((s.fld F.BND_FAB_LEAD_INFO.TERM + 1) % 65536)
  let s2 := (s1.setLead (some s1.ownFeid)).tbTrue
  let links := (allPorts.filter s2.isFabric).map (fun p => (128 * s2.ownFeid + s2.linkOf p,
    (if s2.linkLive (s2.linkOf p) then 1 else if s2.linkUp p then 2 else 0) + 4 * (look (controllerOf p) s2.fab.peer).getD 0))
  let s3 := s2.onFab (fun y => { y with claiming := false, members := [me], assigned := [],
                                        topo := links.foldl (fun l e => put e.1 e.2 l) [] })
  (s3.showMembers.helloAll.grantAll).heartbeat

/-- This device stops being lead (R136). -/
def State.yield (s : State) : State :=
  if s.fs ≠ fsLead then s
  else ((s.onFab (fun y => { y with members := [] })).showMembers).disarm .heartbeat 0

/-- This device is refused (R36, R132). -/
def State.refused (s : State) : State :=
  (((s.admitted false).setFs fsRefused).raise F.BND_FAB_EVT.SELF_REFUSED).arm .refused 0 (ms 1000)

/-- Enter FABRIC mode (Table 5.4): DISCOVER. -/
def State.fabEnter (s : State) : State :=
  let f := s.fld F.BND_FAB_CFG.FEID
  let s2 := (s.takeFeid f).setFs fsDiscover
  ((s2.helloAll).grantAll).arm .settle 0 s2.settleTime

/-- Packets that a flow context, a route change or an unreachable destination holds. -/
def State.fabHeld (s : State) : List Nat :=
  ((s.fab.flows.map (fun (c : FlowCtx) => c.held.map (·.pkt))).flatten ++ s.fab.pinHeld.map (·.1)) ++ s.fab.unreach.map (·.1)

/-- Leave FABRIC mode: OFF; flows, what they hold, and membership end. -/
def State.fabLeave (s : State) : State :=
  let held := s.fabHeld
  let s0 := (s.freePkts (fun (k : Pkt) => held.contains k.id)).admitted false
  let s1 := ((s0.yield.setLead none).resetReg R.BND_FAB_STATUS 0).resetReg R.BND_FAB_LEAD_INFO 0
  let s2 := [TimerKind.settle, .heartbeat, .heartbeatLoss, .refused].foldl (fun s k => s.disarm k 0) s1
  let s3 := s2.onFab (fun y => { y with sends := [], flows := [], peerAdm := [], retry := [], members := [], seen := [], claim := none,
                                        claiming := false, relay := [], topo := [], pinSwap := [], pinHeld := [], unreach := [] })
  (s3.showFlows.showMembers).timeUpdate

/-! ## HELLO (R133, R150) -/

/-- A link that is ACTIVE and has exchanged HELLO with its recorded peer unmasks. -/
def State.unmask (s : State) (c : Nat) : State :=
  let l := s.linkIdx c
  if s.lst c ≠ 5 || s.linkLive l then s
  else
    let s1 := (s.setLinkLive l true).topoReport l 1 ((look c s.fab.peer).getD 0)
    let s2 := s1.each (s1.fab.unreach.map (·.1)) (fun s id =>
      match s.pkt id with
      | none => s
      | some k => match s.forward k.route { ((k.fab.getD {}).hdr) with hops := k.hops0, dl := k.dl0 } with
        | .hold => s
        | _ => ((s.onFab (fun y => { y with unreach := y.unreach.filter (fun e => e.1 != id) })).disarm .unreach id).sendOn id)
    (s2.kflStart c).timeUpdate

/-- A device in ELECT joins a lead it hears; one that claims joins only a lower one (R134, R136; notes/assumptions/62). -/
def State.followsLead (s : State) (lead : Nat) : Bool := !s.fab.claiming || decide (lead < s.ownFeid)

/-- HELLO on a controller's link.  One that reports a lead comes from a device that is admitted (notes/assumptions/12). -/
def State.helloRx (s : State) (c : Nat) (b : List Byte) : State :=
  let ws := [64, 12, 1, 12, 16, 7]
  let serial := packed b ws 0
  let feid := packed b ws 1
  let lead := packed b ws 3
  let term := packed b ws 4
  let rec0 := s.fab.hello.find? (fun e => e.1 == c)
  let fresh := rec0 != some (c, feid, serial, lead)
  let s0 := s.onFab (fun y => { y with
    hello := (c, feid, serial, lead) :: y.hello.filter (fun e => e.1 != c)
    peerAdm := if lead = 0 then y.peerAdm else c :: y.peerAdm.filter (· != c) })
  let s1 := (s0.heardTerm term).whenb (lead != 0 && !s.fab.peerAdm.contains c) (fun s => s.kflStart c)
  -- A neighbour that knows no lead is answered with the lead's FEID (Table 5.5).
  let s2 := s1.whenb (fresh || (lead = 0 && s1.lead.isSome && s1.fab.leadAdmit)) (fun s => s.hello c)
  let s3 :=
    if feid = 0 then s2
    else match look c s2.fab.peer with
      | none => (s2.onFab (fun y => { y with peer := put c feid y.peer })).unmask c
      | some f =>
        if f = feid then (s2.onFab (fun y => { y with newPeer := drop c y.newPeer })).unmask c
        else (s2.onFab (fun y => { y with newPeer := put c feid y.newPeer })).topoReport (s2.linkIdx c) 2 feid
  if lead ≠ 0 && (s3.fs = fsDiscover || (s3.fs = fsElect && s3.followsLead lead)) then s3.join lead (some (s3.linkIdx c)) else s3

/-- The recorded peers a commit renews (R150). -/
def State.renewPeers (s : State) : State :=
  let l := s.fab.newPeer
  let s1 := s.onFab (fun y => { y with newPeer := [], peer := l.foldl (fun p e => put e.1 e.2 p) y.peer })
  s1.each l (fun s e => s.unmask e.1)

/-! ## Floods and routed messages (R138) -/

/-- A flood this device has not seen is recorded and forwarded; the first component says it is new. -/
def State.floodRx (s : State) (c : Nat) (w : Whey) (seq : Nat) : Bool × State :=
  if w.origin = s.ownFeid || s.fab.seen.any (fun e => e == (w.origin, w.code, seq)) then (false, s)
  else
    let l := s.linkIdx c
    let s1 := s.onFab (fun y => { y with
      seen := (w.origin, w.code, seq) :: y.seen.take 1023
      relay := put w.origin l y.relay })
    let hops := w.hops + 1
    (true, if s1.fld F.BND_FAB_CFG.HOP_LIMIT < hops then s1 else s1.wheyFlood { w with hops := hops } (some l))

/-- Forward a routed message toward its destination; the link a request came on is where its answer goes (R138). -/
def State.wheyForward (s : State) (c : Nat) (w : Whey) : State :=
  let s1 := s.onFab (fun y => { y with relay := put w.origin (s.linkIdx c) y.relay })
  if s1.fld F.BND_FAB_CFG.HOP_LIMIT < w.hops + 1 then s1
  else (s1.wheyRouted { w with hops := w.hops + 1 } none (some (s1.linkIdx c))).1

/-- A claim this device hears (R134, R136): the lowest is kept; a claimant that hears a lower one gives up, one that hears its own
FEID from a device of a lower serial number is refused, and a lead that hears a lower claim yields. -/
def State.judgeClaim (s : State) (feid serial : Nat) : State :=
  let lower := match s.fab.claim with | none => true | some k => decide (feid < k.1)
  let s1 := s.whenb lower (fun s => s.onFab (fun y => { y with claim := some (feid, serial) }))
  if s1.fab.claiming then
    if feid < s1.ownFeid then (s1.onFab (fun y => { y with claiming := false })).disarm .settle 0
    else if feid = s1.ownFeid && serial < Config.serial.toNat then
      ((s1.onFab (fun y => { y with claiming := false })).disarm .settle 0).refused
    else s1
  else if s1.fs = fsLead && feid < s1.ownFeid then (s1.yield.setLead none).setFs fsJoin
  else s1

/-- LEAD_CLAIM (R132, R134, R136). -/
def State.claimRx (s : State) (c : Nat) (w : Whey) : State :=
  let ws := [12, 64, 16, 16]
  let feid := packed w.body ws 0
  let serial := packed w.body ws 1
  let term := packed w.body ws 2
  let seq := packed w.body ws 3
  let (new, s0) := s.floodRx c w seq
  if !new && feid ≠ s.ownFeid then s else (s0.heardTerm term).judgeClaim feid serial

/-- HEARTBEAT (R135, R136). -/
def State.heartbeatRx (s : State) (c : Nat) (w : Whey) : State :=
  let ws := [12, 16, 16, 7]
  let lead := packed w.body ws 0
  let term := packed w.body ws 1
  let seq := packed w.body ws 2
  if term < s.fld F.BND_FAB_LEAD_INFO.TERM then s
  else
    let (new, s0) := s.floodRx c w seq
    if !new then s
    else
      let s1 := s0.heardTerm term
      let via := some (s1.linkIdx c)
      let miss := s1.fld F.BND_FAB_TIMERS.HB_MISS * s1.hbTime
      if s1.fs = fsLead then (if lead < s1.ownFeid then s1.yield.join lead via else s1)
      else if s1.fs = fsMember then
        match s1.lead with
        | some l => if lead = l then s1.arm .heartbeatLoss 0 miss else if lead < l then s1.join lead via else s1
        | none => s1.join lead via
      else if s1.fs = fsJoin then (if s1.lead = some lead then s1 else s1.join lead via)
      else if s1.fs = fsDiscover || (s1.fs = fsElect && s1.followsLead lead) then s1.join lead via
      else if s1.fs = fsRefused then s1.setLead (some lead)
      else s1

/-! ## Joining (R131 to R133) -/

/-- A JOIN_REPLY seen here tells whether the peer of a serial number is admitted (R36, R133): data credit toward it starts, or stops. -/
def State.peerJudged (s : State) (serial result : Nat) : State :=
  let cs := s.trainedCtl.filter (fun c => (s.rd R.KFL_PEER_SERIAL_LO c).toNat + 2 ^ 32 * (s.rd R.KFL_PEER_SERIAL_HI c).toNat == serial)
  let s1 := s.onFab (fun y => { y with peerAdm := (if result = 0 then cs else []) ++ y.peerAdm.filter (fun c => !cs.contains c) })
  s1.whenb (result == 0) (fun s => s.each cs (fun s c => s.kflStart c))

/-- The reply to a JOIN_REQ, back by the same relay (Table 5.5, step 3): on the link it came on. -/
def State.joinReply (s : State) (c origin serial result feid : Nat) : State :=
  let l := s.linkIdx c
  let w := s.message 0x24 origin [(serial, 64), (result, 2), (feid, 12)]
  let s1 := if s.trainedLinks.contains l then s.wheyOn l w else s.bump R.BND_FAB_WHEY_UNROUTE_CNT
  s1.peerJudged serial result

/-- The lowest free dynamic FEID (R131). -/
def State.freeFeid (s : State) : Nat :=
  ((List.range 0x400).map (0x800 + ·)).find? (fun f =>
    !s.fab.members.any (fun (m : Member) => m.feid == f) && !s.fab.assigned.any (fun e => e.2 == f)) |>.getD 0x800

/-- JOIN_REQ: relayed toward the lead, or judged by it (R36, R131, R132).  DESIGN CHOICE (notes/assumptions/74): a device that presents a
dynamic FEID another member holds is refused as one with a static FEID is. -/
def State.joinRx (s : State) (c : Nat) (w : Whey) : State :=
  let ws := [64, 12, 1]
  let serial := packed w.body ws 0
  let feid := packed w.body ws 1
  let elig := packed w.body ws 2 == 1
  let s0 := s.onFab (fun y => { y with relay := put (4096 + serial) (s.linkIdx c) (put w.origin (s.linkIdx c) y.relay) })
  if s.fs ≠ fsLead || w.dest ≠ s.ownFeid then s0.wheyForward c w
  else
    let members := s0.fab.members
    let holder := members.find? (fun (m : Member) => m.feid == feid && m.serial != serial)
    let known := members.any (fun (m : Member) => m.serial == serial)
    if feid ≠ 0 && holder.isSome then
      let other := holder.elim 0 (·.serial)
      let s1 := ((s0.raise F.BND_FAB_EVT.FEID_DUP).raise F.BND_FAB_EVT.JOIN_REFUSED).journal 0x0405
        { feid := feid, detail := serial + 2 ^ 64 * other }
      s1.joinReply c w.origin serial 2 feid
    else if !known && 64 ≤ members.length then
      ((s0.raise F.BND_FAB_EVT.JOIN_REFUSED).journal 0x0405 { feid := feid, detail := serial }).joinReply c w.origin serial 1 feid
    else
      let given := if feid ≠ 0 then feid else ((s0.fab.assigned.find? (fun e => e.1 == serial)).map (·.2)).getD s0.freeFeid
      let dyn := decide (0x800 ≤ given)
      let m : Member := { feid := given, serial := serial, elig := elig, dynamic := dyn, linksUp := 0 }
      let s1 := s0.onFab (fun y => { y with
        members := y.members.filter (fun (x : Member) => x.serial != serial) ++ [m]
        assigned := if dyn then (serial, given) :: y.assigned.filter (fun e => e.1 != serial) else y.assigned })
      s1.showMembers.joinReply c w.origin serial 0 given

/-- JOIN_REPLY (R133). -/
def State.joinReplyRx (s : State) (c : Nat) (w : Whey) : State :=
  let ws := [64, 2, 12]
  let serial := packed w.body ws 0
  let result := packed w.body ws 1
  let feid := packed w.body ws 2
  if serial ≠ Config.serial.toNat then
    let s1 := s.peerJudged serial result
    match look (4096 + serial) s.fab.relay with
    | some l => if s.fld F.BND_FAB_CFG.HOP_LIMIT < w.hops + 1 then s1 else s1.wheyOn l { w with hops := w.hops + 1 }
    | none => s1.wheyForward c w
  else if s.fs ≠ fsJoin then s
  else if result ≠ 0 then s.refused
  else
    let s1 := s.takeFeid feid
    let s2 := ((s1.admitted true).setFs fsMember).arm .heartbeatLoss 0
      (s1.fld F.BND_FAB_TIMERS.HB_MISS * s1.hbTime)
    let s3 := s2.each (allPorts.filter s2.isFabric) (fun s p =>
      let l := s.linkOf p
      s.topoReport l (if s.linkLive l then 1 else if s.linkUp p then 2 else 0) ((look (controllerOf p) s.fab.peer).getD 0))
    s3.helloAll.grantAll

/-- TOPO_REPORT at the lead (R138). -/
def State.topoRx (s : State) (c : Nat) (w : Whey) : State :=
  if w.dest ≠ s.ownFeid || s.fs ≠ fsLead then s.wheyForward c w
  else
    let ws := [7, 2, 12]
    (s.onFab (fun y => { y with
      topo := put (128 * w.origin + packed w.body ws 0) (packed w.body ws 1 + 4 * packed w.body ws 2) y.topo })).showMembers

/-! ## Flow messages (R154 to R156) -/

/-- The send entry a flow message is about: destination, VH and ORD of its key. -/
def SendEntry.is (e : SendEntry) (dst vh ord : Nat) : Bool := e.dst == dst && e.vh == vh && e.ord == ord

/-- FLOW_GRANT at the source; one for a flow whose entry is gone is answered with FLOW_CLOSE of L = S (R163). -/
def State.grantRx (s : State) (c : Nat) (w : Whey) : State :=
  if w.dest ≠ s.ownFeid then s.wheyForward c w
  else
    let ws := [12, 12, 8, 2, 16]
    let dst := packed w.body ws 1
    let vh := packed w.body ws 2
    let ord := packed w.body ws 3
    let sq := packed w.body ws 4
    if s.fab.sends.any (fun (e : SendEntry) => e.is dst vh ord) then
      (s.onFab (fun y => { y with sends := y.sends.map (fun (e : SendEntry) =>
        if e.is dst vh ord && !e.granted then { e with granted := true, acked := seqNext sq } else e) })).arm .flowIdle
          (flowKey dst vh ord) (us (s.fld F.BND_FAB_RESEQ_CFG.IDLE))
    else (s.wheyRouted (s.message 0x29 dst (flowFields s.ownFeid dst vh ord ++ [(sq, 16)]))).1

/-- FLOW_DENY at the source: the entry is free, the flow stays pinned, and it may ask again after FLOW_RETRY. -/
def State.denyRx (s : State) (c : Nat) (w : Whey) : State :=
  if w.dest ≠ s.ownFeid then s.wheyForward c w
  else
    let ws := [12, 12, 8, 2]
    let dst := packed w.body ws 1
    let vh := packed w.body ws 2
    let ord := packed w.body ws 3
    if !s.fab.sends.any (fun (e : SendEntry) => e.is dst vh ord) then s
    else
      let s1 := s.onFab (fun y => { y with sends := y.sends.filter (fun (e : SendEntry) => !e.is dst vh ord)
                                           retry := y.retry ++ [(dst, vh, ord)] })
      let s2 := ((s1.bump R.BND_FAB_FLOW_PINNED_CNT).raise F.BND_FAB_EVT.FLOW_PINNED).disarm .flowIdle (flowKey dst vh ord)
      s2.arm .flowRetry (flowKey dst vh ord) (us (10 * s2.fld F.BND_FAB_HOLD_CFG.FLOW_RETRY))

/-- FLOW_ACK at the source: the send window moves on (R155). -/
def State.ackRx (s : State) (c : Nat) (w : Whey) : State :=
  if w.dest ≠ s.ownFeid then s.wheyForward c w
  else
    let ws := [12, 12, 8, 2, 16]
    let dst := packed w.body ws 1
    let vh := packed w.body ws 2
    let ord := packed w.body ws 3
    let ex := packed w.body ws 4
    s.onFab (fun y => { y with sends := y.sends.map (fun (e : SendEntry) =>
      if e.is dst vh ord && decide (seqDist e.acked ex ≤ seqDist e.acked e.nextSeq) then { e with acked := ex } else e) })

/-- FLOW_CLOSE at the destination: the context closes (R156). -/
def State.closeRx (s : State) (c : Nat) (w : Whey) : State :=
  if w.dest ≠ s.ownFeid then s.wheyForward c w
  else
    let ws := [12, 12, 8, 2, 16]
    match s.flowOf (packed w.body ws 0) (packed w.body ws 2) (packed w.body ws 3) with
    | none => s
    | some f => (s.onFlow f.idx (fun x => { x with closing := true, closeSeq := packed w.body ws 4 })).flowSettle f.idx

/-! ## Failure and access notices -/

/-- The VH end logs a failure notice: for its binding, or where a commit has removed that, under the index it carries (R214, R223). -/
def State.noticed (s : State) (w : Wfn) : State :=
  match s.vhEndBinding w with
  | some bi => s.logFailure w bi
  | none => s.logFailure w w.bindIdx true

/-- A WFN or WFN_FWD (R212 to R214): logged where the VH end stands, else sent on to the VH end's device. -/
def State.wfnRx (s : State) (c : Nat) (w : Whey) (fwd : Bool) : State :=
  if w.dest ≠ s.ownFeid then
    let (s1, ok) := (s.onFab (fun y => { y with relay := put w.origin (s.linkIdx c) y.relay })).wheyRouted { w with hops := w.hops + 1 } none
        (some (s.linkIdx c))
    if ok && w.hops + 1 ≤ s.fld F.BND_FAB_CFG.HOP_LIMIT then s1
    else ((s.bump R.ERR_WFN_UNDELIV_CNT).raise F.ERR_EVT.WFN_UNDELIV).journal 0x0406 { feid := w.dest }
  else
    let x := wfnOfBody s.ownFeid w.body
    let s1 := s.bump R.ERR_WFN_RX_CNT
    let devEnd := if fwd then none else s1.bindings.find? (fun e =>
      s1.isDeviceEnd e.2 && Bind.remote e.2 == x.bindIdx && Bind.vh e.2 == x.vh)
    match devEnd with
    | some e => if x.dir then s1.sendWfn 0x31 (Bind.feid e.2) x else s1.noticed x
    | none => s1.noticed x

/-- An ACU notice at the VH end (R422). -/
def State.noticeRx (s : State) (c : Nat) (w : Whey) : State :=
  if w.dest ≠ s.ownFeid then
    let (s1, ok) := s.wheyRouted { w with hops := w.hops + 1 } none (some (s.linkIdx c))
    if ok && w.hops + 1 ≤ s.fld F.BND_FAB_CFG.HOP_LIMIT then s1 else s.bump R.ERR_WFN_UNDELIV_CNT
  else
    let ws := [8, 12, 2, 1, 13, 128]
    s.reportBinding 0x0309 (packed w.body ws 1) .completerAbort false (packed w.body ws 5)

/-! ## Timers -/

/-- SETTLE has passed (R134, Table 5.4): a device in DISCOVER elects; a claimant that heard no lower claim leads. -/
def State.settled (s : State) : State :=
  if s.fs = fsDiscover then s.elect else if s.fs = fsElect && s.fab.claiming then s.becomeLead else s

/-- Close the session; its edits are discarded by copying the active bank into the shadow again. -/
def State.closeSession (s : State) : State :=
  let s1 := s.onBnd (fun y => { y with session := none, committing := false, copying := true })
  (((s1.setFld F.BND_GEN_STATUS.SESSION_OPEN 0 0).setFld F.BND_GEN_STATUS.SHADOW_DIRTY 0 0).setFld
    F.BND_GEN_STATUS.SHADOW_READY 0 0).disarm .session 0

/-- The session closes as one whose time is up (R115). -/
def State.timedOut (s : State) : State :=
  ((s.closeSession).setFld F.BND_GEN_STATUS.LAST_COMMIT 0 2).raise F.BND_EVT.SESSION_TIMEOUT

/-- The lead is lost (R135): its edit session closes with its edits discarded; a commit runs to its result first. -/
def State.leadLost (s : State) : State :=
  let old := s.lead
  let s1 := (s.raise F.BND_FAB_EVT.HB_LOST).setLead none
  let held := match s1.bnd.session, old with
    | some e, some l => e.holder == .whey (BitVec.ofNat 12 l)
    | _, _ => false
  let s2 := s1.whenb (held && !s1.bnd.committing) (fun s => s.timedOut)
  s2.elect

/-- A sending flow closes (R156): FLOW_CLOSE with the last FSEQ sent. -/
def State.flowClose (s : State) (key : Nat) : State :=
  match s.fab.sends.find? (fun (e : SendEntry) => flowKey e.dst e.vh e.ord == key) with
  | none => s
  | some e =>
    let last := if e.nextSeq = 1 then 65535 else e.nextSeq - 1
    let s1 := (s.wheyRouted (s.message 0x29 e.dst (flowFields s.ownFeid e.dst e.vh e.ord ++ [(last, 16)]))).1
    s1.onFab (fun y => { y with sends := y.sends.filter (fun (x : SendEntry) => !x.is e.dst e.vh e.ord) })

/-- A missing FSEQ is declared lost (Table 5.12).  DESIGN CHOICE (notes/assumptions/13): the error is reported on the binding of
the first packet held behind it. -/
def State.holeLost (s : State) (i : Nat) : State :=
  match s.flow i with
  | none => s
  | some c =>
    let bi := (((c.held.find? (fun (h : HeldSeq) => !h.waits)).orElse (fun _ => c.held.head?)).map
      (fun h => (s.hdrOf h.pkt).bindIdx)).getD 0xFFF
    let b := s.bind bi
    let detail := leNat (packFields (flowFields c.src s.ownFeid c.vh c.ord ++ [(c.expect, 16)]))
    let s1 := ((s.bump R.BND_FAB_RESEQ_HOLE_CNT).raise F.BND_FAB_EVT.RESEQ_HOLE).journal 0x0402
      { vh := c.vh, binding := bi, feid := c.src, detail := detail }
    let s2 := s1.whenb (b.valid && !s1.isDeviceEnd b) (fun s => s.reportVdsp b.vh b.vdsp .uncorrectableInternal false)
    (s2.onFlow i (fun c => { c with expect := seqNext c.expect })).flowSettle i

/-- Packets held longer than SKEW are counted once each (Table 5.12). -/
def State.skewDue (s : State) (i : Nat) : State :=
  match s.flow i with
  | none => s
  | some c =>
    let skew := 10 * s.fld F.BND_FAB_RESEQ_CFG.SKEW
    let late (h : HeldSeq) : Bool := !h.waits && !h.counted && decide (h.since + skew ≤ s.now)
    let s1 := s.each (c.held.filter late) (fun s _ => (s.bump R.BND_FAB_SKEW_EXC_CNT).raise F.BND_FAB_EVT.SKEW_EXC)
    let s2 := s1.onFlow i (fun c => { c with held := c.held.map (fun (h : HeldSeq) => if late h then { h with counted := true } else h) })
    match c.held.find? (fun (h : HeldSeq) => !h.waits && !h.counted && !late h) with
    | some h => s2.arm .skew i (h.since + skew - s.now)
    | none => s2.disarm .skew i

/-- A held packet that still has no live slot becomes a path loss (Table 5.11). -/
def State.unreachDue (s : State) (id : Nat) : State :=
  let s1 := (s.onFab (fun y => { y with unreach := y.unreach.filter (fun e => e.1 != id) })).disarm .unreach id
  if s.fab.unreach.any (fun e => e.1 == id) then
    ((s1.bump R.BND_FAB_UNREACH_CNT).raise F.BND_FAB_EVT.UNREACH).pathLoss id 0
  else s1

/-- Packets toward a FEID that were looked up before its last route change remain (R152). -/
def State.olderToward (s : State) (f gen : Nat) : Bool :=
  s.churn.pkts.any (fun (k : Pkt) => (k.fab.elim false (fun x => x.hdr.dst == f)) && s.olderThan k gen)

/-- The oldest hold of a route change toward a FEID ends (R152): what it held, and no later change holds, leaves in arrival
order. -/
def State.pinRelease (s : State) (f : Nat) : State :=
  match s.fab.pinSwap.find? (fun e => e.1 == f) with
  | none => s
  | some e =>
    if s.now < e.2.1 + us (10 * s.fld F.BND_FAB_HOLD_CFG.PIN_SETTLE) || s.olderToward f e.2.2 then s
    else
      let rest := s.fab.pinSwap.erase e
      let next := rest.find? (fun x => x.1 == f)
      let goes (x : Nat × Nat) : Bool :=
        x.2 == f && next.elim true (fun n => (s.pkt x.1).elim true (fun k => s.olderThan k n.2.2))
      let l := (s.fab.pinHeld.filter goes).map (·.1)
      let s1 := s.onFab (fun y => { y with pinSwap := rest, pinHeld := y.pinHeld.filter (fun x => !goes x) })
      s1.each l (fun s id =>
        if (s.pkt id).elim false (fun k => k.residue.isSome) then s.onPkt id (fun k => { k with held := false }) else s.sendOn id)

end Sys2Proof.Machine
end

