-- ==== Sys2Proof/Machine/Svc.lean ====
section
/-! DEFINITION. The data mover and write tracing (chapter 11): queues and rings (R281, R282), chunks on engines (R283), the
commands of the function interface, and the write-back of bitmap lines (R289 to R291). -/

namespace Sys2Proof.Machine

/-! ## Ownership (R284) -/

/-- How many entries of a map a function holds. -/
def State.heldOf (s : State) (r : RegDesc) (f : Nat) : Nat :=
  (s.regs.filter (fun e => r.base ≤ e.1 && e.1 < r.base + 65536 && bits e.2.toNat 19 1 == 1 && bits e.2.toNat 0 11 == f)).length

/-- A function holds the queue of a local slot; an empty slot ignores writes (R284). -/
def State.hasQueue (s : State) (f q : Nat) : Bool := (s.mapAt R.SVC_QMAP f q).isSome

/-- The state code of a queue: 0 DISABLED, 1 ACTIVE, 2 STOPPING, 3 ERROR. -/
def State.qState (s : State) (i : Nat) : Nat := s.fld F.Q_STATUS.STATE i

/-- The descriptors of a queue in flight, in ring order. -/
def State.descsOf (s : State) (i : Nat) : List DmDesc := s.svc.descs.filter (fun (d : DmDesc) => 256 * d.fn + d.q == i)

/-- Show the descriptors in flight of a queue. -/
def State.showQueue (s : State) (i : Nat) : State := (s.setFld F.Q_STATUS.INFLIGHT i (s.descsOf i).length).showMover

/-- A function runs: its internal binding is BOUND (R277). -/
def State.fnRuns (s : State) (f : Nat) : Option Nat :=
  match s.fnBinding f with
  | some (bi, _) => if s.bindState bi = 1 then some bi else none
  | none => none

/-! ## Requests (R277, R278) -/

/-- A request of a function, routed as one of a function bound in its VH; it carries the function's physical RID. -/
def State.fnRoute (s : State) (bi : Nat) (t0 : Tlp) : State :=
  let b := s.bind bi
  let t := { t0 with rid := BitVec.ofNat 16 b.rid }
  let charge := ordCode t.kind.ord
  let devEnd := s.isDeviceEnd b
  let cid := if devEnd then 0 else s.vdspId b.vh b.vdsp
  if !devEnd && !s.vhActive b.vh then s.blocked 145 b.vh bi t cid
  else if !s.forwards bi then s.refuse 145 b.vh bi t .ur cid
  else if devEnd then s.tunnelUp bi 145 charge t
  else if t.kind.isCxl then
    (if !s.hostOn b.vh (.fn b.vdsp) .busMaster then
       (s.bump R.BND_VH_BLOCKED_CNT b.vh).refuseAt 145 b.vh bi .unsupportedRequest t cid
     else match (s.hdmTarget b.vh t.addr).bind (s.bindingOf b.vh) with
       | some tb => s.issue (s.peerPlan bi tb 145 charge t false true (s.upPolicer b) s.ownFeid) t t.addr (2 ^ 64)
       | none => s.refuse 145 b.vh bi t .ur cid)
  else s.upRequest bi 145 charge t true (s.upPolicer b) s.ownFeid

/-- A function issues a request: while the limit of R419 withholds space it waits, in order. -/
def State.fnRequest (s : State) (bi : Nat) (t : Tlp) : State :=
  if s.svc.spaceWaits.isEmpty && s.innerRoom 145 t.payload then s.fnRoute bi t
  else s.onSvc (fun y => { y with spaceWaits := y.spaceWaits ++ [(bi, t)] })

/-- Requests of functions that waited go on while the limit leaves space (R419). -/
def State.spaceRun : Nat → State → State
  | 0, s => s
  | n + 1, s =>
    match s.svc.spaceWaits with
    | [] => s
    | (bi, t) :: l =>
      if s.innerRoom 145 t.payload then State.spaceRun n ((s.onSvc (fun y => { y with spaceWaits := l })).fnRoute bi t) else s

/-- The host has cleared Bus Master Enable of a function (R105). -/
def State.masterOff (s : State) (bi : Nat) : Bool :=
  let b := s.bind bi
  !s.isDeviceEnd b && !s.hostOn b.vh (.fn b.vdsp) .busMaster

/-- An address of a function lies in a committed HDM decoder of its VH (R277). -/
def State.inHdm (s : State) (bi a : Nat) : Bool :=
  let b := s.bind bi
  !s.isDeviceEnd b && (s.hdmTarget b.vh a).isSome

/-- The bytes of write requests that a state change stored, let wait, or handed to a unit in the core. -/
def wroteBytes (s0 s1 : State) : Nat :=
  let stored := (s1.churn.pkts.filter (fun (k : Pkt) => s0.churn.nextId ≤ k.id && k.inPort == 145 && k.ord != .completion)).map (·.len)
  let waits := (s1.svc.waits.drop s0.svc.waits.length).map (·.tlp.data.length)
  let inner := (s1.svc.inbox.drop s0.svc.inbox.length).map (·.tlp.data.length)
  let space := (s1.svc.spaceWaits.drop s0.svc.spaceWaits.length).map (·.2.data.length)
  (stored ++ waits ++ inner ++ space).foldl (· + ·) 0

/-! ## Descriptors (Table 11.1) -/

def DmDesc.opcode (d : DmDesc) : Nat := bits d.words.toNat 0 8
def DmDesc.fence (d : DmDesc) : Bool := bits d.words.toNat 8 1 == 1
def DmDesc.int (d : DmDesc) : Bool := bits d.words.toNat 9 1 == 1
def DmDesc.quiet (d : DmDesc) : Bool := bits d.words.toNat 10 1 == 1
def DmDesc.flush (d : DmDesc) : Bool := bits d.words.toNat 11 1 == 1
def DmDesc.cmp (d : DmDesc) : Bool := bits d.words.toNat 12 1 == 1
def DmDesc.ro (d : DmDesc) : Bool := bits d.words.toNat 13 1 == 1
def DmDesc.tag (d : DmDesc) : Nat := bits d.words.toNat 16 16
def DmDesc.addrA (d : DmDesc) : Nat := bits d.words.toNat 64 64
def DmDesc.addrB (d : DmDesc) : Nat := bits d.words.toNat 128 64
def DmDesc.aux (d : DmDesc) : Nat := bits d.words.toNat 192 64

/-- The bytes a descriptor works on; a NOP works on none. -/
def DmDesc.len (d : DmDesc) : Nat := if d.opcode = 0 then 0 else bits d.words.toNat 32 32

/-- COPY and COPY_CRC read and write; FILL writes; CHECK reads. -/
def DmDesc.reads (d : DmDesc) : Bool := d.opcode != 2
def DmDesc.writesOut (d : DmDesc) : Bool := d.opcode != 3
def DmDesc.crcs (d : DmDesc) : Bool := d.opcode == 3 || d.opcode == 4

/-- A descriptor no operation of Table 11.1 fits: reserved OPCODE, or LENGTH 0 on a non-NOP. -/
def DmDesc.bad (d : DmDesc) : Bool := 4 < d.opcode || (d.opcode != 0 && d.len == 0)

/-- Source and destination overlap, and the copy must run in descending order (R280). -/
def DmDesc.overlaps (d : DmDesc) : Bool :=
  d.reads && d.writesOut && d.addrA < d.addrB + d.len && d.addrB < d.addrA + d.len
def DmDesc.down (d : DmDesc) : Bool := d.overlaps && d.addrA < d.addrB

/-- Bytes from an address to the next 4 KiB boundary, and from the one before it. -/
def toBound (a : Nat) : Nat := 4096 - a % 4096
def fromBound (a : Nat) : Nat := if a % 4096 = 0 then 4096 else a % 4096

/-- The next chunk of a descriptor: at most 4 KiB that cross no 4 KiB boundary of source or destination (R283). -/
def DmDesc.nextChunk (d : DmDesc) : Nat × Nat :=
  let lim (f : Nat → Nat) (off : Nat) : Nat :=
    min (if d.reads then f (d.addrA + off) else 4096) (if d.writesOut then f (d.addrB + off) else 4096)
  if d.down then
    let top := d.len - d.placed
    let n := min top (lim fromBound top)
    (top - n, n)
  else (d.placed, min (d.len - d.placed) (lim toBound d.placed))

/-- No part of a descriptor is left to place. -/
def DmDesc.allPlaced (d : DmDesc) : Bool := d.status.isSome || d.len ≤ d.placed

/-- The execution of a descriptor has ended: everything is placed and no engine works on it. -/
def State.descEnded (s : State) (d : DmDesc) : Bool := d.allPlaced && !s.svc.chunks.any (fun (c : DmChunk) => c.desc == d.name)

/-- A descriptor may have a chunk placed now: those before it in its queue are placed, a FENCE has none before it, an
overlapping copy has no chunk on an engine, and the queue executes fewer than QUEUE_EXEC_MAX (R281). -/
def State.mayPlace (s : State) (d : DmDesc) : Bool :=
  let mine := s.descsOf (256 * d.fn + d.q)
  let before := mine.takeWhile (·.name != d.name)
  !d.allPlaced && before.all (·.allPlaced) && (!d.fence || before.isEmpty) &&
    !(d.overlaps && s.svc.chunks.any (fun (c : DmChunk) => c.desc == d.name)) &&
    (0 < d.placed || decide ((before.filter (fun d => !s.descEnded d)).length < s.fld F.SVC_CFG.QUEUE_EXEC_MAX))

/-- Change a descriptor in flight. -/
def State.onDesc (s : State) (name : Nat) (f : DmDesc → DmDesc) : State :=
  s.onSvc (fun y => { y with descs := y.descs.map (fun (d : DmDesc) => if d.name = name then f d else d) })

/-! ## Chunks -/

/-- Cut `n` bytes at address `a` into pieces whose size the address decides: offset in the whole, length. -/
def cuts (size : Nat → Nat) : Nat → Nat → Nat → Nat → List (Nat × Nat)
  | 0, _, _, _ => []
  | f + 1, off, a, n =>
    if n = 0 then []
    else
      let k := min n (max 1 (size a))
      (off, k) :: cuts size f (off + k) (a + k) (n - k)

/-- The largest read or write at an address: SVC_CFG's, or what is left of a CXL.mem line (R277, R278). -/
def State.dmSize (s : State) (bi code a : Nat) : Nat := if s.inHdm bi a then 64 - a % 64 else 128 * 2 ^ code

/-- Tags for `n` reads: none is used by a read of the mover that waits or whose tracker entry lives. -/
def State.freshTags (s : State) (n : Nat) : List Nat :=
  let used := ((s.svc.chunks ++ s.svc.own.map (·.part)).map (fun (c : DmChunk) => c.reads.map (·.1))).flatten ++ s.svc.descs.filterMap (·.flushTag) ++
    ((s.bnd.trk.filter (fun (e : TrkEntry) => e.inPort == 145)).map (fun e => e.origTag.toNat))
  (((List.range (n + used.length)).map (fun k => (s.svc.nextTag + k) % 16384)).filter (fun t => !used.contains t)).take n

/-- The PASID a queue attaches. -/
def State.qPasid (s : State) (i : Nat) : Option (BitVec 20) :=
  if s.flag F.Q_CFG.PASID_EN i then some (BitVec.ofNat 20 (s.fld F.Q_PASID.PASID i)) else none

/-- Put a chunk of a descriptor on an engine and issue its reads (R283). -/
def State.placeChunk (s : State) (bi e : Nat) (d : DmDesc) : State :=
  let (off, n) := d.nextChunk
  let ps := if d.reads then cuts (s.dmSize bi (s.fld F.SVC_CFG.MRRS)) (n + 1) 0 (d.addrA + off) n else []
  let tags := s.freshTags ps.length
  let reads := tags.zip ps
  let c : DmChunk := { engine := e, desc := d.name, off := off, len := n, reads := reads.map (fun r => (r.1, r.2.1, r.2.2)),
                       fail := if s.masterOff bi then some 0x09 else none }
  let s1 := s.onSvc (fun y => { y with
    chunks := y.chunks ++ [c], nextTag := (tags.getLast?.getD y.nextTag + 1) % 16384 })
  let s2 := (s1.onDesc d.name (fun d => { d with placed := d.placed + n })).wr R.SVC_ENG_STATUS e (BitVec.ofNat 32 (1 + 4 * d.fn))
  s2.each reads (fun s r =>
    let a := d.addrA + off + r.2.1
    s.fnRequest bi { kind := if s.inHdm bi a then .cxlMemRd else .mrd, addr := a, len := r.2.2, tag := BitVec.ofNat 14 r.1,
                     pasid := s.qPasid (256 * d.fn + d.q) })

/-- Write bytes of a descriptor at an offset of its destination, in writes of at most MPS: the bytes written before one was
refused (R280). -/
def State.writeOut (s : State) (bi : Nat) (d : DmDesc) (off : Nat) (data : List Byte) : State × Nat × Bool :=
  let ps := cuts (s.dmSize bi (s.fld F.SVC_CFG.MPS)) (data.length + 1) 0 (d.addrB + off) data.length
  ps.foldl (fun (x : State × Nat × Bool) p =>
    if x.2.2 then x
    else
      let a := d.addrB + off + p.1
      let cxl := x.1.inHdm bi a
      let t : Tlp := { kind := if cxl then .cxlMemWr else .mwr, addr := a, len := p.2, ro := d.ro,
                       tag := BitVec.ofNat 14 (if cxl then (x.1.freshTags 1).headD 0 else d.name),
                       pasid := x.1.qPasid (256 * d.fn + d.q), data := (data.drop p.1).take p.2 }
      let s1 := x.1.fnRequest bi t
      let ids := (s1.churn.pkts.filter (fun (k : Pkt) => x.1.churn.nextId ≤ k.id && k.inPort == 145)).map (·.id)
      let s2 := s1.onDesc d.name (fun d => { d with writes := d.writes ++ ids })
      if wroteBytes x.1 s1 < p.2 then (s2, x.2.1, true) else (s2, x.2.1 + p.2, false)) (s, 0, false)

/-- The bytes a chunk has read, in address order. -/
def DmChunk.bytes (c : DmChunk) : List Byte :=
  ((c.got.foldl (fun (l : List (Nat × List Byte)) g => put g.1 g.2 l) []).map (·.2)).flatten

/-- A chunk whose reads have ended leaves its engine: it writes, or its failure ends the descriptor (R280, Table 11.3). -/
def State.endChunk (s : State) (bi : Nat) (c : DmChunk) (d : DmDesc) : State :=
  let s1 := (s.onSvc (fun y => { y with chunks := y.chunks.filter (fun (x : DmChunk) => !(x.desc == c.desc && x.off == c.off)) })).engineIdle
    c.engine
  let data := if d.reads then c.bytes
              else (List.range c.len).map (fun j => BitVec.ofNat 8 (d.aux / 2 ^ (8 * ((c.off + j) % 8))))
  let keep (n : Nat) (s : State) : State :=
    (s.onDesc d.name (fun d => { d with
      parts := d.parts ++ [(c.off, n)], source := if d.crcs then d.source ++ [(c.off, data)] else d.source })).stat
      R.SVC_BYTES_LO R.SVC_BYTES_HI 0 n
  let failed (st : Nat) (s : State) : State := s.onDesc d.name (fun d => { d with status := d.status.orElse (fun _ => some st) })
  match c.fail with
  | some st =>
    let s2 := failed st s1
    if d.writesOut then s2 else s2.each c.got (fun s g => s.onDesc d.name (fun d => { d with parts := d.parts ++ [(c.off + g.1, g.2.length)] }))
  | none =>
    if d.writesOut then
      let (s2, n, refused) := s1.writeOut bi d c.off data
      let s3 := keep n s2
      if refused then failed (if s.masterOff bi then 0x09 else 0x06) s3 else s3
    else keep c.len s1

/-- Chunks whose reads have ended leave their engines. -/
def State.endChunks (s : State) : State :=
  s.each (s.svc.chunks.filter (fun (c : DmChunk) => c.reads.isEmpty)) (fun s c =>
    match s.svc.descs.find? (fun (d : DmDesc) => d.name == c.desc) with
    | none => s
    | some d => match s.fnBinding d.fn with
      | none => s
      | some (bi, _) => s.endChunk bi c d)

/-! ## Placement (R283) -/

/-- The token bucket of a function: 64 KiB, refilled at RATE bytes a nanosecond. -/
def State.rateBucket (s : State) (f : Nat) : Bucket :=
  match look f s.svc.buckets with
  | none => ⟨65536, s.tb.toNat⟩
  | some k => ⟨min 65536 (k.tokens + (s.fld F.SVC_FN_CFG.RATE f * (s.tb.toNat - k.last) : Nat)), s.tb.toNat⟩

/-- The cap of a function lets `n` bytes go. -/
def State.rateOk (s : State) (f n : Nat) : Bool := s.fld F.SVC_FN_CFG.RATE f == 0 || decide ((n : Int) ≤ (s.rateBucket f).tokens)

/-- The descriptor a function serves next: round robin over its queues, in ring order within one. -/
def State.nextDesc (s : State) (f : Nat) : Option DmDesc :=
  let l := s.svc.descs.filter (fun (d : DmDesc) => d.fn == f && s.mayPlace d && s.rateOk f d.nextChunk.2)
  let last := (look f s.svc.lastQueue).getD 255
  let pick (m : List DmDesc) : Option DmDesc := m.foldl (fun o d => match o with
    | none => some d
    | some x => if d.q < x.q then some d else some x) none
  (pick (l.filter (fun d => last < d.q))).orElse (fun _ => pick l)

/-- The functions with something to place, in ascending order. -/
def State.readyFns (s : State) : List Nat :=
  ((s.svc.descs.filter (fun (d : DmDesc) => (s.fnRuns d.fn).isSome && (s.nextDesc d.fn).isSome)).foldl
    (fun (l : List (Nat × Unit)) d => put d.fn () l) []).map (·.1)

/-- The function whose turn it is by deficit round robin, and the deficits then (R283). -/
def State.turnOf (s : State) : Option (Nat × List (Nat × Int)) :=
  let l := s.readyFns
  let need (f : Nat) : Int := ((s.nextDesc f).elim 0 (fun d => d.nextChunk.2) : Nat)
  let keep := s.svc.deficit.filter (fun e => l.contains e.1)
  match l.filter (fun f => s.svc.turn ≤ f) ++ l.filter (fun f => f < s.svc.turn) with
  | [] => none
  | f :: rest =>
    let have' (g : Nat) : Int := (look g keep).getD 0
    if f = s.svc.turn && need f ≤ have' f then some (f, put f (have' f - need f) keep)
    else
      let g := if f = s.svc.turn then rest.headD f else f
      some (g, put g (have' g + (s.fld F.SVC_FN_CFG.WEIGHT g * 4096 : Nat) - need g) keep)

/-- The first idle engine. -/
def State.idleEngine (s : State) : Option Nat :=
  (List.range 16).find? (fun e => !s.svc.chunks.any (fun (c : DmChunk) => c.engine == e))

/-- Place chunks while an engine is idle, one is ready, and the limit of R419 leaves space. -/
def State.placeAll : Nat → State → State
  | 0, s => s
  | n + 1, s =>
    match s.idleEngine, s.turnOf with
    | some e, some (f, def') =>
      if !s.svc.spaceWaits.isEmpty || !s.innerRoom 145 0 then s
      else
        match s.nextDesc f, s.fnRuns f with
        | some d, some bi =>
          let k := s.rateBucket f
          let s1 := s.onSvc (fun y => { y with
            deficit := def', turn := f, lastQueue := put f d.q y.lastQueue
            buckets := put f { k with tokens := k.tokens - (d.nextChunk.2 : Nat) } y.buckets })
          State.placeAll n (s1.placeChunk bi e d).endChunks
        | _, _ => s
    | _, _ => s

/-- A queue stops in ERROR with the first STATUS of its descriptors that sends it there (R281, Table 11.3). -/
def errorStatus (st : Nat) : Bool := st != 0x00 && st != 0x01 && st != 0x08

/-! ## MSI-X (R282, R284) -/

/-- Signal a local vector of a function: a masked one becomes pending. -/
def State.signal (s : State) (f v : Nat) : State :=
  if (s.mapAt R.SVC_VMAP f v).isNone then s
  else
    let e := (s.msixEntry f v).toNat
    if bits e 96 1 = 1 then s.pendVector f v
    else match s.fnRuns f with
      | none => s
      | some bi => (s.fnRequest bi { kind := .mwr, addr := bits e 0 64, len := 4, data := leBytes 4 (bits e 64 32) }).emit (.msix f v)

/-- An event of a function's interface, with its event vector. -/
def State.fnEvent (s : State) (f : Nat) (x : Fld) : State :=
  let s1 := s.setFld x f 1
  s1.whenb (s1.flag F.FN_EVT_CFG.INT_EN f) (fun s => s.signal f (s.fld F.FN_EVT_CFG.VECTOR f))

/-- Queues with a failed descriptor go to ERROR. -/
def State.queueErrors (s : State) : State :=
  s.each s.svc.descs (fun s d =>
    let i := 256 * d.fn + d.q
    match d.status with
    | some st =>
      if errorStatus st && !d.told && s.qState i == 1 then
        (((s.onDesc d.name (fun d => { d with told := true })).setFld F.Q_STATUS.STATE i 3).setFld F.Q_STATUS.ERR_CODE i st).fnEvent d.fn
          F.FN_EVT.QUEUE_ERROR
      else s
    | none => s)

/-! ## Completion entries (R279, R281, R282) -/

/-- The CRC over the source bytes of a descriptor, in ascending order (R280). -/
def DmDesc.sourceCrc (d : DmDesc) : Nat :=
  crc64 (((d.source.foldl (fun (l : List (Nat × List Byte)) g => put g.1 g.2 l) []).map (·.2)).flatten)

/-- The final STATUS of an ended descriptor. -/
def DmDesc.final (d : DmDesc) : Nat :=
  match d.status with
  | some st => st
  | none => if d.crcs && d.cmp && d.sourceCrc != d.aux then 0x01 else 0x00

/-- RESULT of a completion entry (Table 11.2). -/
def DmDesc.result (d : DmDesc) : Nat :=
  let st := d.final
  if st = 0x00 || st = 0x01 then (if d.crcs then d.sourceCrc else 0)
  else prefixDone (d.parts.length + 1) 0 d.parts % 2 ^ 32

/-- The writes of a descriptor have left the Churn, and none waits at lookup. -/
def State.writesLeft (s : State) (d : DmDesc) : Bool :=
  !s.churn.pkts.any (fun (k : Pkt) => k.inPort == 145 &&
      (d.writes.contains k.id || (k.ord == .posted && k.tlp.elim false (fun t => t.tag.toNat == d.name % 16384)))) &&
    !s.svc.waits.any (fun (w : TraceWait) => w.inPort == 145 && w.tlp.kind == .mwr && w.tlp.tag.toNat == d.name % 16384) &&
    !s.svc.spaceWaits.any (fun e => e.2.kind == .mwr && e.2.tag.toNat == d.name % 16384)

/-- Signal a queue's vector for its unsignalled entries. -/
def State.signalQueue (s : State) (i : Nat) : State :=
  let s1 := (s.onSvc (fun y => { y with unsignalled := drop i y.unsignalled })).disarm .coalesce i
  s1.whenb (s1.flag F.Q_CFG.INT_EN i) (fun s => s.signal (i / 256) (s.fld F.Q_CFG.VECTOR i))

/-- After an entry: signal at once, or count it toward COAL_CNT and COAL_US (R282). -/
def State.afterEntry (s : State) (i : Nat) (int : Bool) : State :=
  let n := (look i s.svc.unsignalled).getD 0 + 1
  let cnt := s.fld F.Q_INT.COAL_CNT i
  let t := s.fld F.Q_INT.COAL_US i
  if int || cnt ≤ n || t = 0 then s.signalQueue i
  else
    let s1 := s.onSvc (fun y => { y with unsignalled := put i n y.unsignalled })
    if n = 1 then s1.arm .coalesce i (us t) else s1

/-- Write the completion entry of a descriptor, unless QUIET drops it, and count it. -/
def State.writeEntry (s : State) (bi : Nat) (d : DmDesc) : State :=
  let i := 256 * d.fn + d.q
  let st := d.final
  let s1 := s.stat R.SVC_DESC_DONE_LO R.SVC_DESC_DONE_HI 0 1
  let s2 := s1.whenb (st == 0x01) (fun s => s.bump R.SVC_CRC_MISMATCH_CNT)
  let s3 := s2.whenb (st == 0x08) (fun s => s.bump R.SVC_ABORT_CNT)
  let s4 := s3.whenb (errorStatus st) (fun s => s.bump R.SVC_DESC_ERR_CNT)
  if d.quiet && !d.int && st = 0x00 then s4
  else
    let n := 2 ^ s4.fld F.Q_CFG.CPL_LOG2 i
    let t := s4.fld F.Q_CPL_TAIL.TAIL i % n
    let odd := s4.svc.odd.contains i
    let e := d.slot + 2 ^ 16 * d.tag + 2 ^ 32 * st + 2 ^ 48 * b2n (!odd) + 2 ^ 64 * d.result
    let base := s4.pair R.Q_CPL_BASE_LO R.Q_CPL_BASE_HI i / 16 * 16
    let s5 := s4.fnRequest bi { kind := .mwr, addr := base + 16 * t, len := 16, data := leBytes 16 e, pasid := s4.qPasid i }
    let s6 := s5.setFld F.Q_CPL_TAIL.TAIL i ((t + 1) % n)
    let s7 := s6.whenb (t + 1 == n) (fun s => s.onSvc (fun y => { y with
      odd := if odd then y.odd.filter (· != i) else i :: y.odd }))
    s7.afterEntry i d.int

/-- A queue that stops is DISABLED once it has no descriptor in flight (R292). -/
def State.stopQueue (s : State) (i : Nat) : State :=
  if s.qState i = 2 && (s.descsOf i).isEmpty then s.setFld F.Q_STATUS.STATE i 0 else s

/-- Write the entries of a queue's closed descriptors in ring order (R281). -/
def State.writeEntries : Nat → State → Nat → Nat → State
  | 0, s, _, _ => s
  | n + 1, s, bi, i =>
    match s.descsOf i with
    | d :: _ =>
      if d.closed then
        State.writeEntries n ((s.writeEntry bi d).onSvc (fun y => { y with descs := y.descs.filter (fun (x : DmDesc) => x.name != d.name) })) bi i
      else s
    | [] => s

/-! ## The mover's own reads (R278, R281, R289, R291) -/

/-- Issue reads of the mover's own: `ps` are their offsets from `src` and lengths. -/
def State.ownRead (s : State) (bi : Nat) (what : OwnRead) (src : Nat) (ps : List (Nat × Nat)) (be : BitVec 8) (pasid : Option (BitVec 20)) :
    State :=
  let tags := s.freshTags ps.length
  let reads := tags.zip ps
  let o : DmOwn := { what := what, src := src, part := { engine := 16, desc := 0, off := 0, len := 0, reads := reads } }
  let s1 := s.onSvc (fun y => { y with own := y.own ++ [o], nextTag := (tags.getLast?.getD y.nextTag + 1) % 16384 })
  s1.each reads (fun s r =>
    let a := src + r.2.1
    s.fnRequest bi { kind := if s.inHdm bi a then .cxlMemRd else .mrd, addr := a, len := r.2.2, be := be, tag := BitVec.ofNat 14 r.1,
                     pasid := pasid })

/-- A read of the mover's own of a kind is in progress. -/
def State.ownReading (s : State) (p : OwnRead → Bool) : Bool := s.svc.own.any (fun (o : DmOwn) => p o.what)

/-- The bytes a read of the mover's own has brought from an offset on, if it has them all. -/
def DmChunk.bytesAt (c : DmChunk) (off n : Nat) : Option (List Byte) :=
  (List.range n).mapM (fun k => (c.got.find? (fun g => g.1 ≤ off + k && off + k < g.1 + g.2.length)).map (fun g =>
    g.2.getD (off + k - g.1) 0))

/-- The descriptors of a batch have come, or their read failed: those before the first slot it did not bring are in flight, and a failure
is one more, FETCH_FAILED, at that slot (R281, Table 11.3).  A queue that has stopped since takes none. -/
def State.fetched (s : State) (f q slot count : Nat) (c : DmChunk) : State :=
  let i := 256 * f + q
  let n := 2 ^ s.fld F.Q_CFG.DESC_LOG2 i
  match s.fnRuns f with
  | none => s
  | some bi =>
    if s.qState i ≠ 1 then s
    else
      let at_ (j : Nat) : Nat := (slot + j) % n
      let l := ((List.range count).map (fun j => c.bytesAt (32 * at_ j) 32)).takeWhile (·.isSome)
      let ds := (l.zip (List.range l.length)).map (fun e =>
        let d : DmDesc := { fn := f, q := q, slot := at_ e.2, name := s.svc.nextName + e.2, words := BitVec.ofNat 256 (bodyNat (e.1.getD []) 0 32) }
        if d.bad then { d with status := some 0x07 } else d)
      let lost : DmDesc := { fn := f, q := q, slot := at_ l.length, name := s.svc.nextName + l.length, words := 0, status := some 0x0A, closed := true }
      let all := if l.length = count then ds else ds ++ [lost]
      let s1 := (s.onSvc (fun y => { y with descs := y.descs ++ all, nextName := y.nextName + all.length })).setFld F.Q_DESC_HEAD.HEAD i (at_ l.length)
      let s2 := if l.length = count then s1
                else State.writeEntries (all.length + s.svc.descs.length) (s1.bump R.SVC_FETCH_FAIL_CNT).queueErrors bi i
      (s2.stopQueue i).showQueue i

/-- A request that waits for a tracing engine, or behind one that does, looks again in order (R289). -/
def State.resumeWaits (s : State) : State :=
  let l := s.svc.waits
  let s1 := s.onSvc (fun y => { y with waits := [] })
  s1.each l (fun s w =>
    if s.svc.waits.any (fun (x : TraceWait) => x.inPort == w.inPort) && w.cpl || w.stalled && s.traceFull (s.bind w.bi) w.tlp then
      s.onSvc (fun y => { y with waits := y.waits ++ [w] })
    else if w.cpl then s.completion w.inPort w.tlp
    else s.upRequest w.bi w.inPort w.charge w.tlp w.check w.pol w.srcFeid)

/-- A context that stops is OFF once no line of it is cached. -/
def State.traceStop (s : State) (c : Nat) : State :=
  if s.svc.stopping.contains c && s.trcState c == 1 && !s.svc.lines.any (fun (l : TraceLine) => l.ctx == c) then
    (s.onSvc (fun y => { y with stopping := y.stopping.filter (· != c) })).setFld F.SVC_TRC_STATUS.STATE c 0
  else s

/-- The base of a context's buffer. -/
def State.bufBase (s : State) (c b : Nat) : Nat :=
  let i := 8 * s.fld F.SVC_TRC_CFG.OWNER c + s.fld F.SVC_TRC_CFG.SLOT c
  (if b = 0 then s.pair R.TS_BUF0_LO R.TS_BUF0_HI i else s.pair R.TS_BUF1_LO R.TS_BUF1_HI i) / 64 * 64

/-- A cached line is due to be written back: evicted, aged, of the old buffer of a swap, or of a context that stops. -/
def State.lineDue (s : State) (l : TraceLine) : Bool :=
  l.evicted || s.due .traceAge (lineKey l.ctx l.buf l.line) ||
    (s.trcState l.ctx == 2 && l.buf == s.fld F.SVC_TRC_STATUS.ACTIVE_BUF l.ctx) || s.svc.stopping.contains l.ctx

/-- The oldest cached line of a number that is due to be written back. -/
def State.dueLine (s : State) (c b n : Nat) : Option TraceLine :=
  s.svc.lines.find? (fun (l : TraceLine) => l.ctx == c && l.buf == b && l.line == n && s.lineDue l)

/-- The read of a bitmap line has ended: the cached bits go back over what it brought, or the context fails (R289). -/
def State.lineRead (s : State) (c b n : Nat) (data : Option (BitVec 512)) : State :=
  match s.dueLine c b n with
  | none => s
  | some l =>
    let rest := s.svc.lines.filter (fun (x : TraceLine) => x != l)
    let again := rest.any (fun (x : TraceLine) => x.isFor c b n)
    let s0 := (s.onSvc (fun y => { y with lines := rest })).whenb (!again) (fun s => s.disarm .traceAge (lineKey c b n))
    let a := s.bufBase c b + 64 * n
    let s1 := match data, s.fnRuns (s.fld F.SVC_TRC_CFG.OWNER c) with
      | some old, some bi =>
        let t : Tlp := { kind := .mwr, addr := a, len := 64, data := leBytes 64 (old ||| l.bits).toNat }
        let s2 :=
          if s0.isDeviceEnd (s0.bind bi) then s0.tunnelUp bi 145 0 t
          else if s0.masterOff bi then s0.bump R.BND_VH_BLOCKED_CNT (Bind.vh (s0.bind bi))
          else s0.issue { s0.upPlan bi 145 0 t true (s0.upPolicer (s0.bind bi)) s0.ownFeid with bitmap := true } t a (2 ^ 64)
        if wroteBytes s0 s2 < 64 then s2.trcFault c else s2
      | _, _ => s0.trcFault c
    (s1.traceStop c).resumeWaits

/-- The old buffer of a swap is complete: no line of it is cached, and every traced write looked up before instant S has left the Churn
(Table 11.4, step 3). -/
def State.swapReady (s : State) (c first : Nat) : Bool :=
  let old := s.fld F.SVC_TRC_STATUS.ACTIVE_BUF c
  s.trcState c == 2 && !s.svc.lines.any (fun (l : TraceLine) => l.ctx == c && l.buf == old) &&
    !s.svc.traced.any (fun e => e.2 == c && e.1 < first && (s.pkt e.1).isSome)

/-- Swaps whose old buffer is complete read it through the owner, by a zero-length read (Table 11.4, step 4). -/
def State.swapReads (s : State) : State :=
  s.each s.svc.swaps (fun s e =>
    let c := e.1
    if !s.swapReady c e.2 || s.ownReading (· == .swap c) || (look c s.svc.swapRead).isSome then s
    else match s.fnRuns (s.fld F.SVC_TRC_CFG.OWNER c) with
      | none => (s.trcFault c).resumeWaits
      | some bi => s.ownRead bi (.swap c) (s.bufBase c (s.fld F.SVC_TRC_STATUS.ACTIVE_BUF c)) [(0, 1)] 0 none)

/-- The mover's own reads that have ended are acted on; those of the Corber rings are the front end's (R298). -/
def State.ownEnds (s : State) : State :=
  let ended (o : DmOwn) : Bool := o.part.reads.isEmpty && (match o.what with | .ring .. => false | _ => true)
  let l := s.svc.own.filter ended
  (s.onSvc (fun y => { y with own := y.own.filter (fun o => !ended o) })).each l (fun s o =>
    match o.what with
    | .ring .. => s
    | .fetch f q slot count => s.fetched f q slot count o.part
    | .line c b n => s.lineRead c b n (if o.part.fail.isSome then none else (o.part.bytesAt 0 64).map (fun l => BitVec.ofNat 512 (bodyNat l 0 64)))
    | .swap c => s.onSvc (fun y => { y with swapRead := put c o.part.fail.isNone y.swapRead }))

/-- The data mover goes on as far as it can: its own reads that have ended are acted on, chunks that have ended leave, new ones are placed,
and swaps whose old buffer is complete read it. -/
def State.dmRun (s0 : State) : State :=
  let s := if s0.carries then (State.spaceRun s0.svc.spaceWaits.length s0).proxyGo else s0
  if !s.carries then s
  else
    let s1 := s.ownEnds.swapReads
    if s1.svc.descs.isEmpty then s1
    else
      let s2 := s1.endChunks
      let left := (s2.svc.descs.map (fun (d : DmDesc) => d.len - d.placed)).foldl (· + ·) 0
      ((State.placeAll (left + 1) s2).queueErrors).showMover

/-! ## The end of descriptors (R282) -/

/-- An ended descriptor whose writes have left closes; with FLUSH it first reads its last destination (R282). -/
def State.closeDesc (s : State) (bi : Nat) (d : DmDesc) : State :=
  if d.closed || !s.descEnded d || !s.writesLeft d then s
  else if d.flush && d.writesOut && 0 < d.len && d.status.isNone && !d.flushed then
    (if d.flushTag.isSome then s
     else
       let tag := (s.freshTags 1).headD 0
       let s1 := (s.onDesc d.name (fun d => { d with flushTag := some tag })).onSvc (fun y => { y with nextTag := (tag + 1) % 16384 })
       s1.fnRequest bi { kind := .mrd, addr := (d.addrB + d.len - 1) / 4 * 4, len := 1, be := 0, tag := BitVec.ofNat 14 tag,
                         pasid := s1.qPasid (256 * d.fn + d.q) })
  else s.onDesc d.name (fun d => { d with closed := true })

/-- DESC_EXEC_DONE: the parts of a descriptor have ended. -/
def State.descDone (s : State) (f q slot : Nat) : State :=
  let s1 := s.dmRun
  let i := 256 * f + q
  match s1.fnRuns f, (s1.descsOf i).find? (fun (d : DmDesc) => d.slot == slot) with
  | some bi, some d =>
    if !s1.carries then s1
    else
      let s2 := s1.closeDesc bi d
      let s3 := match s2.svc.descs.find? (fun (x : DmDesc) => x.name == d.name) with
        | some d2 => s2.closeDesc bi d2
        | none => s2
      (((State.writeEntries (s3.svc.descs.length) s3.queueErrors bi i).stopQueue i).showQueue i).dmRun
  | _, _ => s1

/-! ## Fetching (R281) -/

/-- Entries of a queue's completion ring that the driver has returned. -/
def State.cplFree (s : State) (i : Nat) : Nat :=
  let n := 2 ^ s.fld F.Q_CFG.CPL_LOG2 i
  (s.fld F.Q_CPL_HEAD.HEAD i + 2 * n - s.fld F.Q_CPL_TAIL.TAIL i % n - 1) % n

/-- Fetch a batch of descriptors (R281): up to `most` that the ring holds, as far as the completion ring has room for their entries and the
device for them, in reads of size code `code`, at most SVC_CFG.MRRS, that cross no 4 KiB boundary (R278).  One batch of a queue is fetched at a time: DESIGN
CHOICE (notes/assumptions/14). -/
def State.descFetch (s : State) (f q most code : Nat) : State :=
  let i := 256 * f + q
  let n := 2 ^ s.fld F.Q_CFG.DESC_LOG2 i
  let h := s.fld F.Q_DESC_HEAD.HEAD i % n
  let waiting := (s.fld F.Q_DESC_TAIL.TAIL i + n - h) % n
  let coming := (s.svc.own.map (fun (o : DmOwn) => match o.what with | .fetch _ _ _ c => c | _ => 0)).foldl (· + ·) 0
  let k := min (min most waiting) (min (s.cplFree i - (s.descsOf i).length) (65536 - s.svc.descs.length - coming))
  match s.fnRuns f with
  | none => s
  | some bi =>
    if !s.carries || s.qState i ≠ 1 || k = 0 || s.ownReading (fun w => match w with | .fetch g r _ _ => g == f && r == q | _ => false) then s
    else
      let base := s.pair R.Q_DESC_BASE_LO R.Q_DESC_BASE_HI i / 64 * 64
      let size (a : Nat) : Nat := min (s.dmSize bi (min code (s.fld F.SVC_CFG.MRRS)) a) (toBound a)
      let k1 := min k (n - h)
      let ps := cuts size (32 * k1) (32 * h) (base + 32 * h) (32 * k1) ++ cuts size (32 * (k - k1)) 0 base (32 * (k - k1))
      (s.ownRead bi (.fetch f q h k) base ps 0xFF (s.qPasid i)).dmRun

/-! ## Queue registers -/

/-- Q_CTRL.ENABLE written 1 (R281, Table 11.7). -/
def State.queueEnable (s : State) (f q : Nat) : State :=
  if !s.hasQueue f q then s
  else
    let i := 256 * f + q
    let s1 := s.setFld F.Q_CTRL.ENABLE i 1
    let sized (n : Nat) : Bool := 6 ≤ n && n ≤ 16
    let ok := sized (s.fld F.Q_CFG.DESC_LOG2 i) && sized (s.fld F.Q_CFG.CPL_LOG2 i) &&
      (!s.flag F.Q_CFG.INT_EN i || (s.mapAt R.SVC_VMAP f (s.fld F.Q_CFG.VECTOR i)).isSome)
    if !ok then (if s.qState i = 0 then s1.setFld F.Q_STATUS.ERR_CODE i 0x07 else s1)
    else if f ≠ 0 && (s.fnRuns f).isNone then s1
    else (s1.setFld F.Q_STATUS.STATE i 1).showMover

/-- Q_CTRL.ENABLE written 0 (Table 11.6). -/
def State.queueDisable (s : State) (f q : Nat) : State :=
  if !s.hasQueue f q then s
  else
    let i := 256 * f + q
    let s1 := s.setFld F.Q_CTRL.ENABLE i 0
    if s1.qState i = 0 then s1 else (((s1.setFld F.Q_STATUS.STATE i 2).stopQueue i).showQueue i)

/-! ## Trace contexts (R287 to R292) -/

/-- The context of a trace slot of a function. -/
def State.ctxOf (s : State) (f t : Nat) : Option Nat := ((s.contextsOf f).find? (fun e => e.2 == t)).map (·.1)

/-- Begin to write back a bitmap line: it is read through the owner function (R289); write-backs of one line follow one another. -/
def State.lineBack (s : State) (c b n : Nat) : State :=
  if (s.dueLine c b n).isNone || s.ownReading (· == .line c b n) then s
  else match s.fnRuns (s.fld F.SVC_TRC_CFG.OWNER c) with
    | none => (s.trcFault c).resumeWaits
    | some bi => (s.ownRead bi (.line c b n) (s.bufBase c b + 64 * n) [(0, 64)] 0xFF none).dmRun

/-- The zero-length read of a swap has ended: the swap does (Table 11.4, step 5), or the context fails. -/
def State.swapDone (s : State) (c : Nat) : State :=
  match look c s.svc.swapRead with
  | none => s
  | some readOk =>
    let s0 := s.onSvc (fun y => { y with swapRead := drop c y.swapRead, swaps := drop c y.swaps })
    if !readOk then (s0.trcFault c).resumeWaits
    else
      let s1 := s0.setFld F.SVC_TRC_STATUS.ACTIVE_BUF c (1 - s.fld F.SVC_TRC_STATUS.ACTIVE_BUF c)
      let s2 := (s1.setFld F.SVC_TRC_STATUS.EPOCH c (s1.fld F.SVC_TRC_STATUS.EPOCH c + 1)).setFld F.SVC_TRC_STATUS.PREV_OOR c
        (s1.fld F.SVC_TRC_STATUS.OUT_OF_RANGE c)
      let s3 := (s2.setFld F.SVC_TRC_STATUS.OUT_OF_RANGE c 0).setFld F.SVC_TRC_STATUS.STATE c 1
      (s3.fnEvent (s3.fld F.SVC_TRC_CFG.OWNER c) F.FN_EVT.TRC_SWAP_DONE).traceStop c

/-- TS_CTRL.ENABLE written 1 (Table 11.7): tracing starts with ACTIVE_BUF 0 and EPOCH 0; ignored while SLOT_VALID is 0. -/
def State.traceEnable (s : State) (f t : Nat) : State :=
  match s.ctxOf f t with
  | none => s
  | some c =>
    let s1 := s.setFld F.TS_CTRL.ENABLE (8 * f + t) 1
    if s.trcState c = 1 || s.trcState c = 2 then s1 else s1.wr R.SVC_TRC_STATUS c 1

/-- TS_CTRL.ENABLE written 0 (Table 11.6): a swap completes first, cached lines are written back, then the context is OFF. -/
def State.traceDisable (s : State) (f t : Nat) : State :=
  match s.ctxOf f t with
  | none => s
  | some c =>
    let s1 := s.setFld F.TS_CTRL.ENABLE (8 * f + t) 0
    if s.trcState c = 3 then s1.setFld F.SVC_TRC_STATUS.STATE c 0
    else if s.trcState c = 0 then s1
    else (s1.onSvc (fun y => { y with stopping := if y.stopping.contains c then y.stopping else c :: y.stopping })).traceStop c

/-- TS_CTRL.SWAP (Table 11.4, steps 1 and 2); ignored while a swap is in progress. -/
def State.traceSwap (s : State) (f t : Nat) : State :=
  match s.ctxOf f t with
  | none => s
  | some c =>
    if s.trcState c = 1 then
      (s.onSvc (fun y => { y with swaps := put c s.churn.nextId y.swaps })).setFld F.SVC_TRC_STATUS.STATE c 2
    else s

/-! ## The commands -/

/-- Q_DESC_TAIL_WRITE (R281): the tail moves; an empty slot ignores it. -/
def execQDescTailWrite (fn : Fin 2048) (q : Fin 256) (tail : BitVec 16) (s : State) : Host.Outcome State Fault Refusal :=
  .next (if s.hasQueue fn q then s.setFld F.Q_DESC_TAIL.TAIL (256 * fn + q) tail.toNat else s)

/-- Q_ENABLE (R281). -/
def execQEnable (fn : Fin 2048) (q : Fin 256) (s : State) : Host.Outcome State Fault Refusal := .next (s.queueEnable fn q)

/-- Q_DISABLE (R292). -/
def execQDisable (fn : Fin 2048) (q : Fin 256) (s : State) : Host.Outcome State Fault Refusal := .next (s.queueDisable fn q)

/-- Q_CPL_HEAD_WRITE (R281): the driver returns entries. -/
def execQCplHeadWrite (fn : Fin 2048) (q : Fin 256) (head : BitVec 16) (s : State) : Host.Outcome State Fault Refusal :=
  .next (if s.hasQueue fn q then s.setFld F.Q_CPL_HEAD.HEAD (256 * fn + q) head.toNat else s)

/-- TS_ENABLE (R291). -/
def execTsEnable (fn : Fin 2048) (slot : Fin 8) (s : State) : Host.Outcome State Fault Refusal := .next (s.traceEnable fn slot)

/-- TS_DISABLE (R292). -/
def execTsDisable (fn : Fin 2048) (slot : Fin 8) (s : State) : Host.Outcome State Fault Refusal := .next (s.traceDisable fn slot)

/-- TS_SWAP (R291). -/
def execTsSwap (fn : Fin 2048) (slot : Fin 8) (s : State) : Host.Outcome State Fault Refusal := .next (s.traceSwap fn slot)

/-- DESC_FETCH (R281): a batch of at most `batch` + 1 descriptors is read, in reads of at most 128 × 2^`size` bytes, or MRRS where that is
less; they come by the completions of the reads.  The rules leave both to the data mover: DESIGN CHOICE (notes/assumptions/14). -/
def execDescFetch (fn : Fin 2048) (q : Fin 256) (batch : Fin 16) (size : Fin 8) (s : State) : Host.Outcome State Fault Refusal :=
  .next (s.descFetch fn q (batch.val + 1) size)

/-- DESC_EXEC_DONE (R282). -/
def execDescExecDone (fn : Fin 2048) (q : Fin 256) (slot : Nat) (s : State) : Host.Outcome State Fault Refusal :=
  .next (s.descDone fn q slot)

/-- MSIX_COALESCE_TIMEOUT (R282). -/
def execMsixCoalesceTimeout (fn : Fin 2048) (q : Fin 256) (s : State) : Host.Outcome State Fault Refusal :=
  .next (if s.due .coalesce (256 * fn + q) then s.signalQueue (256 * fn + q) else s)

/-- The context that a tracing engine serves as its `nth` (R289: context c is served by engine c mod 8). -/
def tracedBy (engine : Fin 8) (nth : Fin 64) : Nat := 8 * nth + engine
/-- TRACE_LINE_WRITEBACK (R289): the line is read, and written back when the completion comes. -/
def execTraceLineWriteback (engine : Fin 8) (nth : Fin 64) (buf : Fin 2) (line : Nat) (s : State) : Host.Outcome State Fault Refusal :=
  .next (s.lineBack (tracedBy engine nth) buf line)

/-- TRACE_SWAP_DONE (R291): the swap's flush read has ended. -/
def execTraceSwapDone (engine : Fin 8) (nth : Fin 64) (s : State) : Host.Outcome State Fault Refusal :=
  .next (s.swapDone (tracedBy engine nth))

end Sys2Proof.Machine
end

