-- ==== Sys2Proof/Machine/Traffic.lean ====
section
/-! DEFINITION. The commands of the data path: reads and errors at an egress port (R69, R234), credit (R77 to R79), multicast
residues (R82 to R86), banks (R87 to R90), policer holds (R228), gates (R239 to R242), the tracker (R208, R209), target error
messages (R205), link errors (class 0x0105) and write failure notices (R213). -/

namespace Sys2Proof.Machine

/-! ## Reads and injected errors (R320) -/

/-- The bridge a packet's words cross on their way in: its ingress side, 0 north to 3 west (Table 1.3). -/
def Pkt.bridge (k : Pkt) : Nat := clusterOf k.inPort / 9

/-- What a read meets: its own errors, or an injected one (Table 12.13). -/
def State.meets (s : State) (k : Pkt) (ecc : ReadEcc) : ReadEcc × State :=
  match ecc with
  | .clean =>
    match k.words.find? (fun w => s.injected 0x0201 w.1), k.words.find? (fun w => s.injected 0x0202 w.1) with
    | some w, _ => (.wordCe ⟨w.1 % 256, Nat.mod_lt _ (by decide)⟩, s.spendInjection 0x0201 w.1)
    | none, some w =>
      (.wordUeBefore ⟨w.1 % 256, Nat.mod_lt _ (by decide)⟩ ⟨w.2 % 8192, Nat.mod_lt _ (by decide)⟩, s.spendInjection 0x0202 w.1)
    | none, none =>
      let b : Fin 4 := ⟨k.bridge % 4, Nat.mod_lt _ (by decide)⟩
      if k.inPort < 144 && s.injected 0x0205 b then (.bridgeCe b, s.spendInjection 0x0205 b)
      else if k.inPort < 144 && s.injected 0x0206 b then (.bridgeUe b, s.spendInjection 0x0206 b)
      else (.clean, s)
  | e => (e, s)

/-! ## Banks that empty (R88 to R90) -/

/-- The opcode of TEST_BANK. -/
def opTestBank : Nat := 0x0A01

/-- The rotation advances to the bank TEST_BANK named, as soon as no step runs (R90): one in service drains, the spare is tested
where it stands. -/
def State.namedStep (s : State) : State :=
  match s.churn.namedTest with
  | none => s
  | some b =>
    let st := s.fld F.CHN_BANK_STATE.STATE b
    if s.fld F.CHN_ROT_STATUS.STEP_STATE ≠ 0 then s
    else if st = 0 then s.rotate (some b)
    else if st = 4 then
      let s1 := (s.setFld F.CHN_BANK_STATE.STATE b 3).setFld F.CHN_ROT_STATUS.SPARE_VALID 0 0
      ((s1.setFld F.CHN_ROT_STATUS.STEP_BANK 0 b).setFld F.CHN_ROT_STATUS.STEP_STATE 0 3).setFld F.CHN_STATUS.ROT_ACTIVE 0 1
    else s

/-- The bank TEST_BANK named has been tested or has failed: the request ends (R90). -/
def State.namedEnd (s : State) (b : Nat) : State :=
  if s.churn.namedTest = some b then
    (((s.onChurn (fun y => { y with namedTest := none })).setFld F.CHN_EVT.ROT_CYCLE 0 0).finish opTestBank b stOk)
  else s.namedStep

/-- A bank that migration has emptied and no read uses any more is tested, or, when it is being retired, FAILED (R88, R89). -/
def State.emptied (s : State) (b : Nat) : State :=
  if 0 < s.wordsLive b || s.churn.pkts.any (fun (k : Pkt) => k.old.any (·.1 == b)) then s
  else if s.churn.retiring.contains b then
    ((s.onChurn (fun y => { y with retiring := y.retiring.filter (· != b) })).failBankR b).namedEnd b
  else (s.setFld F.CHN_BANK_STATE.STATE b 3).setFld F.CHN_ROT_STATUS.STEP_STATE 0 3

/-- Reads have ended: banks whose migration waits for them only are empty (R88). -/
def State.bankEmpty (s : State) : State :=
  s.each ((List.range 256).filter (fun b => s.fld F.CHN_BANK_STATE.STATE b == 2 && !s.running .drainBank b && s.wordsLive b == 0))
    State.emptied

/-! ## Egress (R69, R234, R237, R240) -/

/-- The TLP header a packet is reported by. -/
def Pkt.header (k : Pkt) : Nat := k.tlpOf.elim 0 (·.header)

/-- The binding of a VH a packet leaves through on an edge port, or, of one that leaves through another VH's, its own; a packet on its way
from one fabric port to another is of no binding here (R202). -/
def State.egressBinding (s : State) (k : Pkt) (q : Nat) : Option Nat :=
  if k.residue.isSome then ((s.bindingsOn q).find? (fun e => Bind.vh e.2 == k.vh)).map (·.1)
  else if k.fab.isSome && k.inPort < 144 && s.isFabric k.inPort then none
  else if (s.bind k.binding).valid && (s.bind k.binding).vh == k.vh then some k.binding
  else k.owner

/-- An internal error of a class at the egress function in the owning VH (classes 0x0202 to 0x0204 and 0x0206). -/
def State.reportEgress (s : State) (cls : Nat) (k : Pkt) (q : Nat) : State :=
  if s.isHostEdge q then
    (s.journal cls { vh := k.vh, binding := k.binding, port := q, detail := k.header }).aerLog (.vusp q) .uncorrectableInternal
      false k.header
  else match s.egressBinding k q with
    | some bi => s.reportBinding cls bi .uncorrectableInternal false k.header q
    | none => s.journal cls { vh := k.vh, port := q, detail := k.header }

/-- Kalnum sets EP in a packet it reads (R29, R69). -/
def Pkt.poison (k : Pkt) : Pkt :=
  { k with poisoned := true, tlp := k.tlp.map (fun t => { t with ep := true })
           fab := k.fab.map (fun f => { f with tlp := f.tlp.map (fun t => { t with ep := true }) }) }

/-- A packet starts on a port: its TLP leaves, or a link controller takes it in slots; its read goes on until
EGRESS_READ_DONE. -/
def State.depart (s : State) (q : Nat) (k : Pkt) : State :=
  let s1 := s.onPkt k.id (fun x => { x with readers := q :: x.readers })
  if s.isFabric q then
    match s.fabAt k q with
    | some f => (s1.kflSend (controllerOf q) { k with fab := some f }).flowSent f.hdr
    | none => s1
  else match k.tlpOf with
    | some t => s1.emit (.tlp q t)
    | none => s1

/-- A packet that has sent its header ends early on a port (R74). -/
def State.cutShort (s : State) (q : Nat) (k : Pkt) : State :=
  ((((s.depart q k).stopRead k.id q).readDone k.id q).widenDue q).bankEmpty

/-- A packet whose head record is lost is discarded; a posted write is recorded with REASON 6 (R69, R211, class 0x0204). -/
def State.headLost (s : State) (q : Nat) (k : Pkt) : State :=
  let s1 := ((s.bump R.CHN_HEAD_UE_CNT).raise F.CHN_EVT.HEAD_UE).reportEgress 0x0204 k q
  let multi := k.residue.isSome
  if k.fab.isSome && !multi then (s1.pathLoss k.id 6).dropHolds
  else
    let s2 := (s1.freePkts (·.id == k.id)).dropHolds
    let write := k.tlpOf.elim false (·.kind == .mwr)
    if !write || multi || 4096 ≤ k.binding then s2
    else
      let bi := k.owner.getD k.binding
      s2.failBound bi { k.wfn 6 (s.fromTarget k.inPort (s.bind bi)) with vh := (s2.bind bi).vh }

/-- Read a chosen packet for its port, with what ECC finds on the way (R69). -/
def State.readOut (s : State) (q : Nat) (k : Pkt) (ecc : ReadEcc) : State :=
  match ecc with
  | .clean => s.depart q k
  | .wordCe b => (s.bankCe b).depart q k
  | .headCe => ((s.bump R.CHN_HEAD_CE_CNT).journal 0x0201).depart q k
  | .bridgeCe b => (s.journal 0x0205 { detail := b }).depart q k
  | .wordUeBefore b row => ((s.bankUe b row).reportEgress 0x0202 k q).depart q k.poison
  | .bridgeUe _ => (s.reportEgress 0x0206 k q).depart q k.poison
  | .wordUeAfter b row => ((s.bankUe b row).reportEgress 0x0203 k q).cutShort q k
  | .headUe => s.headLost q k

/-- Traffic leaves on a port: it is ACTIVE, it sends no packet now, and its port shaper has tokens (R238). -/
def State.mayStart (s : State) (q : Nat) : Bool :=
  s.active q && s.outOfReset q && s.mode != .reset && s.mode != .boot && s.shaperOk (.port q) &&
    !s.churn.pkts.any (fun (k : Pkt) => k.readers.contains q)

/-- The scheduler of a port chooses the next packet and starts it (R234, R235 to R238, R240). -/
def State.egress (s : State) (q : Nat) (pc : PartnerCredit) (ecc : ReadEcc) : State :=
  if !s.mayStart q then s
  else
    let go (s : State) (n c : Nat) (k : Pkt) : State :=
      let excess := s.gateFit q c k.tlpBytes == some true
      let s1 := s.chargeStart q n c k
      let s2 := s1.whenb excess (fun s =>
        (((s.bump R.QOS_GATE_OVERRUN_CNT q).bump R.QOS_GATE_OVERRUN_TOTAL).raise F.QOS_EVT.GATE_OVERRUN).onQos (fun y => { y with
          overrun := (q, c, k.id) :: y.overrun.filter (fun e => e.1 != q) }))
      let (e, s3) := s2.meets k ecc
      s3.readOut q k e
    match s.starvedNext q pc with
    | some (n, c, k) =>
      let s1 := ((s.onQos (fun y => { y with starved := y.starved.filter (fun x => !(x == (q, n, c))) })).bump R.QOS_STARVE_CNT).raise
        F.QOS_EVT.STARVE
      go (s1.chargeDeficit n c k) n c k
    | none =>
      match s.schedule q pc with
      | none => s
      | some (n, c, k, qs) => go { s with qos := qs } n c k

/-- A destination has read a packet to its end (R82). -/
def State.egressDone (s : State) (q id : Nat) : State :=
  match s.pkt id with
  | none => s
  | some k =>
    if !k.readers.contains q || k.coming then s
    else
      let n := s.nodeAt k q
      let c := s.clsAt k q
      (((((s.readDone id q).queueEmptied q n c).poolEvents).widenDue q).bankEmpty).dmRun

/-! ## Credit (R77 to R79, R86, R229) -/

/-- Credit of a class of a port is withheld: multicast packets of the port wait for space (R86), or a full policer holds
packets of that class from it (R229). -/
def State.withheld (s : State) (p c : Nat) : Bool :=
  (c % 3 == 0 && s.mcWaits p) ||
    s.qos.holds.any (fun (h : Hold) => s.flag F.QOS_POL_STATUS.FULL h.policer &&
      (s.pkt h.pkt).elim false (fun k => k.inPort == p && ordCode k.ord == c % 3))

/-- The rate at which a port may return credit while pacing (R336) or throttling (R338) holds it back, as a fraction in tenths of Gb/s: of
its own rate a part that keeps admitted accesses at a / 1.15, or THROTTLE_PCT.  A core quadrant throttles every port. -/
def State.pacedRate (s : State) (p : Nat) : Option (Nat × Nat) :=
  let r := s.portRate p
  let a := accessRate s.banksIn s.coreDelay
  let hot (g : Nat) : Bool := s.flag F.PWR_THERM_REG.THROTTLED g
  let slow := if hot (regionOf (clusterOf p)) || [8, 9, 10, 11].any hot then some (r * s.fld F.PWR_THERM_CFG.THROTTLE_PCT, 100) else none
  let pace := if s.flag F.PWR_STATUS.PACING then some (r * a.1 * 3200, a.2 * 115 * s.demand32) else none
  match slow, pace with
  | some x, some y => if x.1 * y.2 ≤ y.1 * x.2 then some x else some y
  | some x, none => some x
  | none, y => y

/-- A port that is held back has returned credit for `h` packets and `d` payload bytes: the next waits until that many bytes pass at its
paced rate.  DESIGN CHOICE (notes/assumptions/78): a header counts 16 bytes, and a KFL credit the 512 bytes it covers. -/
def State.paceTurn (s : State) (p h d : Nat) : State :=
  match s.pacedRate p with
  | none => s
  | some (n, m) =>
    let bytes := if s.proto p = 2 then 512 * h else 16 * h + d
    if n = 0 then s else s.onChurn (fun y => { y with paced := put p (s.now + ceilDiv (bytes * 80 * m) n) y.paced })

/-- Credit of a port waits its turn at the paced rate (R336, R338). -/
def State.paceHolds (s : State) (p : Nat) : Bool :=
  (s.pacedRate p).isSome && (match look p s.churn.paced with
    | some t => decide (s.now < t)
    | none => false)

/-- The arbiter visits one class of a port with credit to return: it grants credit for `h` packets and `d` payload bytes, and the turn
passes on, or withholds it (R77 to R79); pacing lets it wait (R336, R338); a port whose link carries no credit has none to return. -/
def State.creditVisit (s0 : State) (p c h d : Nat) : State :=
  let s := s0.onChurn (fun y => { y with asks := drop (8 * p + c) y.asks })
  if !s.linkUp p || !s.outOfReset p || s.classes p ≤ c || s.kfl.frozen then s
  else if s.paceHolds p then s0
  else
    match if s.withheld p c then none else s.grantCharge p c (s.grantNeed p h d) with
    | none =>
      if s.churn.stalled.contains p then s0
      else (s0.onChurn (fun y => { y with stalled := p :: y.stalled })).bump R.CHN_PORT_STALL_CNT p
    | some chg =>
      let s1 := (s.onChurn (fun y => { y with stalled := y.stalled.filter (· != p), turn := (p + 1) % 144 })).paceTurn p h d
      if s.proto p = 2 then (s1.kflGrant (controllerOf p) c h).poolEvents
      else ((s1.grantMore p c h d chg).emit (.credit p c h d)).poolEvents

/-- The arbiter visits the ports with credit to return in round-robin order (R79). -/
def State.creditRun (s : State) : State :=
  let due := s.churn.asks.filter (fun e => s.churn.turn ≤ e.1 / 8) ++ s.churn.asks.filter (fun e => e.1 / 8 < s.churn.turn)
  s.each due (fun s e => s.creditVisit (e.1 / 8) (e.1 % 8) e.2.1 e.2.2)

/-- Credit for `h` packets and `d` payload bytes of a class of a port is to be returned. -/
def State.creditGrant (s : State) (p c h d : Nat) : State :=
  (s.onChurn (fun y => { y with asks := put (8 * p + c) (h, d) y.asks })).creditRun

/-! ## Policer holds (R228, R229, R244) -/

/-- Meter the head of a policer's hold queue (R228): released with its colour, or held on; the answer says whether it was
released.  A head that waits for a packet of its domain in another policer (R244), or behind an older posted request, is not
metered; a head metered red for the first time is counted. -/
def State.meterHead (s : State) (p : Nat) (np : Bool) : Bool × State :=
  match s.qos.holds.find? (fun (h : Hold) => h.policer == p && h.np == np) with
  | none => (false, s)
  | some h =>
    let older := s.qos.holds.takeWhile (fun (x : Hold) => x.pkt != h.pkt)
    let behind := h.behind.isSome && (s.pkt h.pkt).elim false (fun k => s.qos.holds.any (s.heldBefore p k))
    if behind || (np && older.any (fun (x : Hold) => x.policer == p && !x.np)) then (false, s)
    else match s.pkt h.pkt with
      | none => (true, s.dropHolds)
      | some k =>
        let b := s.policed p k
        match s.meter p b with
        | (.red, s1) =>
          (false, if h.metered then s1
            else (s1.onQos (fun y => { y with holds := y.holds.map (fun (x : Hold) => if x.pkt == k.id then { x with metered := true } else x) })).bump
              R.QOS_POL_RED_CNT p)
        | (c, s1) =>
          let s2 := (s1.countColour p b c).onPkt k.id (fun k => { k with held := false, yellow := c == .yellow })
          let s3 := (s2.onQos (fun y => { y with holds := y.holds.filter (fun (x : Hold) => x.pkt != k.id) })).showHolds p
          (true, s3.goOn k.id)

/-- Meter a hold queue from its head on while packets are released: each is metered on reaching the head (R228). -/
def State.meterHeads (p : Nat) (np : Bool) : Nat → State → State
  | 0, s => s
  | fuel + 1, s =>
    match s.meterHead p np with
    | (true, s1) => State.meterHeads p np fuel s1
    | (false, s1) => s1

/-- The head of a policer's hold queue is metered again, and each later packet as it reaches the head (R228). -/
def State.holdRelease (s : State) (p : Nat) (np : Bool) : State := State.meterHeads p np s.qos.holds.length s

/-! ## Multicast (R83, R84, R86) -/

/-- The destinations of a bitmap that are not being read. -/
def notReading (r : BitVec 144) (readers : List Nat) : BitVec 144 := readers.foldl (fun b q => b &&& ~~~(portBit q)) r

/-- The residue timer of a packet expires (R84, Table 3.9): destinations not yet begun are discarded, counted and
journalled.  The places of GROUP, VH, T_IN and the destinations in DETAIL are a DESIGN CHOICE (notes/assumptions/7). -/
def State.residueTimeout (s : State) (id : Nat) : State :=
  if !s.due .residue id then s
  else
    let s1 := s.disarm .residue id
    match s1.pkt id with
    | none => s1
    | some k => match k.residue with
      | none => s1
      | some r =>
        let gone := notReading r.residue k.readers
        let n := (portsIn gone).length
        if n = 0 then s1
        else
          let s2 := ((s1.bumpBy R.CHN_MC_TIMEOUT_CNT 0 n).raise F.CHN_EVT.MC_TIMEOUT).journal 0x0501
            { vh := k.vh, detail := r.group + 2 ^ 16 * k.vh + 2 ^ 32 * k.tIn + 2 ^ 64 * gone.toNat }
          let s3 := s2.onPkt id (fun k => { k with residue := k.residue.map (fun r => { r with residue := r.residue &&& ~~~gone }) })
          (s3.freePkts (fun k => k.id == id && k.readers.isEmpty)).poolEvents

/-- The sweep of R83: a port whose link does not stand is in no residue. -/
def State.strikeSweep (s : State) : State :=
  let gone := allPorts.filter (fun q => !s.linkUp q && s.churn.pkts.any (fun (k : Pkt) => match k.residue with
    | some r => r.residue.getLsbD q
    | none => false))
  (s.each gone (fun s q => s.strikePort q)).poolEvents

/-! ## Banks (R87 to R90) -/

/-- The rotation goes on to the next bank at its interval (R87, Table 3.10). -/
def State.rotationStep (s : State) : State :=
  if !s.due .rotation 0 then s
  else if !s.rotating || s.churn.namedTest.isSome || s.fld F.CHN_ROT_STATUS.STEP_STATE ≠ 0 then
    s.namedStep.arm .rotation 0 (ms (s.fld F.CHN_ROT_CTRL.INTERVAL_MS))
  else
    let at_ := if s.flag F.CHN_ROT_STATUS.SPARE_VALID then s.fld F.CHN_ROT_STATUS.SPARE_BANK else s.fld F.CHN_ROT_STATUS.STEP_BANK
    let next := s.nextBank at_
    let s1 := s.rotate next
    if s1.fld F.CHN_ROT_STATUS.STEP_STATE = 0 then s
    else
      s1.arm .rotation 0 (ms (s1.fld F.CHN_ROT_CTRL.INTERVAL_MS))

/-- A bank being emptied: DRAINING in a rotation step, or RETIRING. -/
def State.emptying (s : State) (b : Nat) : Bool :=
  let st := s.fld F.CHN_BANK_STATE.STATE b
  st == 1 || st == 5

/-- What is left in a bank after DRAIN_US is migrated (Table 3.10, step 3). -/
def State.drainTimeout (s : State) (b : Nat) : State :=
  if !s.due .drainBank b then s
  else
    let s1 := s.disarm .drainBank b
    if !s1.emptying b then s1
    else
      let s2 := (s1.setFld F.CHN_BANK_STATE.STATE b 2).whenb (s1.fld F.CHN_BANK_STATE.STATE b == 1)
        (fun s => s.setFld F.CHN_ROT_STATUS.STEP_STATE 0 2)
      s2.whenb (0 < s2.wordsLive b) (fun s => s.raise F.CHN_EVT.DRAIN_LATE)

/-- Words of a bank move to free words of banks in service; a read that began before goes on at the old place (R88).  Which words they
become is a free value. -/
def State.migrate (s : State) (b : Nat) : State :=
  let hit := s.churn.pkts.filter (fun (k : Pkt) => k.words.any (·.1 == b))
  let s1 := s.each hit (fun s k => s.onPkt k.id (fun k => { k with
    words := moveWords s.inService s.free b k.words s.taken []
    old := if k.readers.isEmpty then k.old else k.old ++ k.words.filter (·.1 == b)
    oldReaders := if k.readers.isEmpty then k.oldReaders else k.readers }))
  (s1.stat R.CHN_MIG_WORDS_LO R.CHN_MIG_WORDS_HI 0 (s.wordsLive b)).drew

/-- The words of a bank have been copied: once the reads that began before have ended too, it holds none any more (R88). -/
def State.migrated (s : State) (b : Nat) : State :=
  let st := s.fld F.CHN_BANK_STATE.STATE b
  if !(st == 2 || (s.emptying b && s.wordsLive b == 0)) then s
  else (((s.whenb (0 < s.wordsLive b) (fun s => s.migrate b)).disarm .drainBank b).setFld F.CHN_BANK_STATE.STATE b 2).emptied b

/-- A rotation cycle ends with the step of its last bank (CHN_EVT.ROT_CYCLE): the corrected errors of a cycle count anew (R89).
DEDUCED (notes/assumptions/61). -/
def State.cycleEnd (s : State) (b : Nat) : State :=
  if s.churn.namedTest.isNone && (s.nextBank b).elim true (fun n => decide (n ≤ b)) then
    ((s.onChurn (fun y => { y with cycleCe := [] })).bump R.CHN_ROT_CYCLE_CNT).raise F.CHN_EVT.ROT_CYCLE
  else s

/-- A bank that passed its test becomes the spare (Table 3.10, step 5); after a failure, or while a bank is being retired, it
rejoins service (R89), but for one TEST_BANK named (R90). -/
def State.passed (s : State) (b : Nat) : State :=
  if s.churn.namedTest.isNone && !(s.failedBanks == 0 && s.churn.retiring.isEmpty) then
    (s.setFld F.CHN_BANK_STATE.STATE b 0).demandStep
  else ((s.setFld F.CHN_BANK_STATE.STATE b 4).setFld F.CHN_ROT_STATUS.SPARE_BANK 0 b).setFld F.CHN_ROT_STATUS.SPARE_VALID 0 1

/-- The march test of a bank ends (Table 3.10, step 5; R89, R90). -/
def State.bankTested (s : State) (b : Nat) (pass : Bool) : State :=
  if s.fld F.CHN_BANK_STATE.STATE b ≠ 3 then s
  else
    let s0 := (s.setFld F.CHN_ROT_STATUS.STEP_STATE 0 0).setFld F.CHN_STATUS.ROT_ACTIVE 0 0
    let s1 := s0.cycleEnd b
    (if pass then s1.passed b else s1.failBankR b).namedEnd b

/-- The background scrub reads a bank word or a head-store word (R69); with SCRUB_EN 0 it reads nothing.  A head record found
uncorrectable loses its packet. -/
def State.scrub (s : State) (found : ReadEcc) (pkt : Nat) : State :=
  if !s.flag F.CHN_CFG.SCRUB_EN then s
  else match found with
    | .wordCe b => s.bankCe b
    | .wordUeBefore b row => s.bankUe b row
    | .wordUeAfter b row => s.bankUe b row
    | .headCe => (s.bump R.CHN_HEAD_CE_CNT).journal 0x0201
    | .headUe => match s.pkt pkt with
      | some k => s.headLost k.dest k
      | none => ((s.bump R.CHN_HEAD_UE_CNT).raise F.CHN_EVT.HEAD_UE).journal 0x0204
    | _ => s

/-! ## Gates (R239 to R242) -/

/-- A list moves to its next entry; after the last it begins again at entry 0 (R239), also after a timebase step (R242). -/
def State.gateAdvance (s : State) (q : Nat) : State :=
  match look q s.qos.gclRun, look q s.qos.gclNext with
  | some (cycle, base), some t => if s.tb.toNat < t then s else s.showGate q cycle base (cutList cycle (s.operList q))
  | _, _ => s

/-- A pending list becomes operating at its first cycle start (R241). -/
def State.gclSwitch (s : State) (q : Nat) : State :=
  match s.qos.gclPending.find? (fun (g : GclPending) => g.port == q && decide (g.start ≤ s.tb.toNat)) with
    | none => s
    | some g =>
      let rest := s.qos.gclPending.filter (fun (x : GclPending) => x.port != q)
      let keys := (List.range g.entries.length).zip g.entries
      let s1 := s.onQos (fun y => { y with
        gclPending := rest
        gclOper := keys.foldl (fun l e => put (256 * q + e.1) e.2 l) (y.gclOper.filter (fun e => e.1 / 256 != q))
        gclRun := (q, g.cycle, g.base) :: y.gclRun.filter (fun e => e.1 != q) })
      let s2 := (s1.setFld F.QOS_GCL_STATUS.OPER_LAST q (g.entries.length - 1)).setFld F.QOS_GCL_STATUS.OPER_VALID q 1
      let s3 := (s2.setFld F.QOS_GCL_STATUS.CHANGE_PENDING q 0).setFld F.QOS_STATUS.GCL_PENDING 0 (b2n (!rest.isEmpty))
      (s3.raise F.QOS_EVT.GCL_SWITCH).showGate q g.cycle g.base (cutList g.cycle g.entries)

/-- The starvation guard marks a queue whose head is a completion, when it has waited STARVE_US since the oldest packet there
joined and since it was last served (R237).  The head is the one it offers with credit for every class. -/
def State.starve (s : State) (q n c : Nat) : State :=
  let hit := ((s.headOf q n c {}).elim false (·.ord == .completion)) && s.guardDue q n c
  if hit && !s.qos.starved.contains (q, n, c) then s.onQos (fun y => { y with starved := y.starved ++ [(q, n, c)] })
  else s

/-! ## The tracker (R208, R209) -/

/-- The time an entry may stay OPEN: at the end nearer the completer of a remote binding, 12.5 % less (R209). -/
def State.trkLimit (s : State) (e : TrkEntry) : Nat :=
  let t := us (s.fld F.BND_TRK_TIMEOUT.TIMEOUT_US)
  let devEnd := s.isDeviceEnd e.found
  let nearer := e.srcFeid != s.ownFeid && (if e.fromHost then devEnd else !devEnd)
  if nearer then t - t / 8 else t

/-- An OPEN entry is older than its limit; T_ISSUE is the low half of the timebase. -/
def State.overdue (s : State) (e : TrkEntry) : Bool :=
  e.state == .opn && decide (s.trkLimit e ≤ (s.tb.toNat % 2 ^ 32 + 2 ^ 32 - e.tIssue) % 2 ^ 32)

/-- The timeout of an entry (R209, step 4), named by OUT_RID and OUT_TAG. -/
def State.trkTimeout (s : State) (rid : BitVec 16) (tag : BitVec 14) : State :=
  match s.bnd.trk.find? (fun (e : TrkEntry) => e.outRid == rid && e.outTag == tag &&
      (s.overdue e || (e.state == .orphan && decide (s.trkLimit e ≤ (s.tb.toNat % 2 ^ 32 + 2 ^ 32 - e.tIssue) % 2 ^ 32)))) with
  | none => s
  | some e =>
    if e.state = .orphan then s.freeEntries (·.same e)
    else
      let rb : Bind := e.found
      let devEnd := s.isDeviceEnd rb
      let s1 := (s.bump R.ERR_TRK_TIMEOUT_CNT).raise F.ERR_EVT.TRK_TIMEOUT
      let st := if devEnd then .ur else s1.synthStatus e.bound e.vh rb.vdsp
      let s2 := s1.synth e st
      let s3 := if e.bound then s2.reportBinding 0x0301 e.binding .completionTimeout false e.tlp.header
                else s2.journal 0x0301 { detail := e.tlp.header }
      s3.dmRun

/-- Requests that wait for a tracker entry take what is free (R111). -/
def State.entriesFree (s : State) : State := (s.each s.churn.trkWait (fun s id => s.goOn id)).proxyGo

/-- Entries whose quarantine has ended are freed (R208). -/
def State.quarantineEnd (s : State) : State :=
  (s.freeEntries (fun e => e.state == .quarantine && decide (e.quarEnd ≤ s.now))).entriesFree

/-! ## Target error messages (R205) -/

/-- An error message of a target, with what its AER holds (R205).  One of a multi-logical device as a whole goes to the journal and to the
management VH, on the management PF (DEDUCED, notes/assumptions/76). -/
def State.targetError (s : State) (p : Nat) (t : Tlp) (unc cor header : Nat) : State :=
  let sev := some (messageSev t.msgCode)
  match s.classify p t with
  | none =>
    let whole := (s.bindingsOn p).any (fun e => Bind.kind e.2 == 4)
    (s.journal 0x0308 { port := p, detail := t.header, sev := sev }).whenb whole (fun s =>
      s.aerLog .mgmtPf (if messageSev t.msgCode = 1 then .correctedInternal else .uncorrectableInternal) false header)
  | some bi =>
    let b := s.bind bi
    if !s.forwards bi then s.journal 0x0308 { port := p, vh := b.vh, binding := bi, detail := t.header, sev := sev }
    else
      let s1 := s.journal 0x0308 { port := p, vh := b.vh, binding := bi, detail := header, sev := sev }
      if b.isPortKind then s1.targetRequest p t
      else if s1.isDeviceEnd b then s1.tunnelUp bi p 0 t
      else s1.virtualAer bi unc cor header

/-- During a restart of Malacel the messages queue, 256 deep (Table 7.14). -/
def State.targetMessage (s : State) (p : Nat) (t : Tlp) (unc cor header : Nat) : State :=
  if s.flag F.MGT_CRB_STATUS.FW_READY then s.targetError p t unc cor header
  else if s.err.msgQueue.length < 256 then
    s.onErr (fun y => { y with msgQueue := y.msgQueue ++ [(p, t, unc, cor, header)] })
  else s.journal 0x0308 { port := p, detail := t.header, sev := some (messageSev t.msgCode) }

/-! ## Write failure notices (R213) -/

/-- The holdoff of a WFN ends and it leaves. -/
def State.wfnLeave (s : State) (src vh bi reason : Nat) : State :=
  let key := ((src * 256 + vh) * 4096 + bi) * 16 + reason
  if !s.due .wfn key then s
  else
    let mine (w : Wfn) : Bool := w.src == src && w.vh == vh && w.bindIdx == bi && w.reason == reason
    let l := s.err.holdoff.filter mine
    let s1 := (s.onErr (fun y => { y with holdoff := y.holdoff.filter (fun w => !mine w) })).disarm .wfn key
    s1.each l (fun s w => s.wfnSend w)

/-! ## Link errors (R203) -/

/-- The AER status of a link error, and whether it is uncorrectable. -/
def linkErrOf : PcieErr → AerErr × Bool
  | .receiver => (.receiver, false) | .badTlp => (.badTlp, false) | .badDllp => (.badDllp, false)
  | .replayRollover => (.replayRollover, false) | .replayTimer => (.replayTimer, false)
  | .dlProtocol => (.dlProtocol, true) | .fcProtocol => (.fcProtocol, true) | .fec => (.dlProtocol, true)

/-- A PCI Express link of a port enters Recovery (R22, R64): its recalibration aborts. -/
def State.pcieRecover (s : State) (p : Nat) : State :=
  if !s.linkUp p || s.proto p = 2 then s
  else (((s.abortRecal p 1).setFld F.PCL_PORT_STATUS.STATE p 4).setFld F.PCL_PORT_STATUS.LPSTATE p 0).bump R.PCL_PORT_RECOVERY_CNT p

/-- An error of a PCI Express or CXL link (Table 7.2, classes 0x0105 and 0x0106): a FEC error beyond recovery counts, an
uncorrectable one retrains the link, and the function at the port logs it. -/
def State.linkError (s : State) (p : Nat) (e : PcieErr) : State :=
  if !s.linkUp p || s.proto p = 2 then s
  else
    let (a, unc) := linkErrOf e
    let s1 := s.whenb (e == .fec) (fun s => s.bump R.PCL_PORT_FEC_UNCORR_CNT p)
    let b := if s1.isPoolEdge p then s1.portBinding p else none
    let bi := b.elim 0xFFF (·.1)
    let s2 := s1.journal (if unc then 0x0106 else 0x0105) { port := p, binding := bi, vh := b.elim 255 (fun e => Bind.vh e.2) }
    let s3 := if s2.isHostEdge p then s2.aerLog (.vusp p) a false
              else match b with
                | some (_, x) => if s2.isDeviceEnd x then s2 else s2.reportVdsp (Bind.vh x) (Bind.vdsp x) a false
                | none => s2
    s3.whenb unc (fun s => s.pcieRecover p)

/-- A TLP arrives on a port: it uses the link's credit, and an injected link error strikes first (Table 12.13). -/
def State.tlpArrives (s : State) (p : Nat) : State :=
  if s.injected 0x0105 p then (s.spendInjection 0x0105 p).linkError p .badTlp else s

/-! ## Completions and fabric packets -/

/-- A completion from an edge port (R113); one behind a request that waits for a tracing engine waits too (R289), and an
injection of class 0x0301 discards it. -/
def State.completionRx (s : State) (p : Nat) (t : Tlp) : State :=
  if s.mode = .reset || s.mode = .boot || !s.linkUp p || s.isFabric p then s
  else
    let s1 := s.tlpArrives p
    let owner := s1.bnd.trk.find? (fun (e : TrkEntry) => e.state == .opn && e.bound && e.outTag == t.tag &&
      (e.outRid == t.rid || t.kind.isCxl) && s1.injected 0x0301 e.binding)
    match owner with
    | some e => s1.spendInjection 0x0301 e.binding
    | none =>
      if s1.svc.waits.any (fun (w : TraceWait) => w.inPort == p) then
        s1.onSvc (fun y => { y with waits := y.waits ++
          [{ bi := 0xFFF, inPort := p, charge := 2, tlp := t, check := false, pol := none, srcFeid := 0, cpl := true }] })
      else (s1.completion p t).dmRun

/-! ## The commands -/

/-- COMPLETION_RX (R113). -/
def execCompletionRx (port : Fin 144) (t : Tlp) (s : State) : Host.Outcome State Fault Refusal :=
  if t.wellFormed && t.kind.ord == .completion then .next (s.completionRx port t) else .fault .illFormed

/-- TARGET_ERROR_MESSAGE (R205): the message and what the target's AER status and Header Log hold. -/
def execTargetErrorMessage (port : Fin 144) (t : Tlp) (unc cor : BitVec 32) (header : BitVec 128) (s : State) :
    Host.Outcome State Fault Refusal :=
  if !(t.wellFormed && t.kind == .msg) then .fault .illFormed
  else if !s.carries || !s.linkUp port || !s.isPoolEdge port then .next s
  else .next ((s.tlpArrives port).targetMessage port t unc.toNat cor.toNat header.toNat)

/-- FABRIC_PACKET_RX (R141). -/
def execFabricPacketRx (port : Fin 144) (f : FabPkt) (s : State) : Host.Outcome State Fault Refusal :=
  if (f.tlp.elim true (·.wellFormed)) && f.hdr.dst < 4096 && f.hdr.src < 4096 then .next (s.fabricRx port f) else .fault .illFormed

/-- SIDEBAND_ITEM_RX (R144). -/
def execSidebandItemRx (src : Fin 4096) (binding : Fin 4096) (signal : BitVec 8) (level : Bool) (value : BitVec 32) (s : State) :
    Host.Outcome State Fault Refusal := .next (s.sidebandItem src binding signal.toNat level value.toNat)

/-- EGRESS_SELECT (R234): what the partner has credit for, and what ECC finds. -/
def execEgressSelect (port : Fin 144) (credit : PartnerCredit) (ecc : ReadEcc) (s : State) : Host.Outcome State Fault Refusal :=
  .next (s.egress port credit ecc)

/-- EGRESS_READ_DONE (R82). -/
def execEgressReadDone (port : Fin 144) (pkt : Nat) (s : State) : Host.Outcome State Fault Refusal := .next (s.egressDone port pkt)

/-- CREDIT_GRANT (R78): header credits and payload bytes of a class. -/
def execCreditGrant (port : Fin 144) (cls : Fin 6) (heads bytes : BitVec 16) (s : State) : Host.Outcome State Fault Refusal :=
  .next (s.creditGrant port cls heads.toNat bytes.toNat)

/-- TRACKER_ENTRY_AVAILABLE (R111). -/
def execTrackerEntryAvailable (s : State) : Host.Outcome State Fault Refusal := .next s.entriesFree

/-- POLICER_HOLD_RELEASE (R228). -/
def execPolicerHoldRelease (policer : Fin 4096) (nonPosted : Bool) (s : State) : Host.Outcome State Fault Refusal :=
  .next (s.holdRelease policer nonPosted)

/-- MC_STRIKE_SWEEP (R83). -/
def execMcStrikeSweep (s : State) : Host.Outcome State Fault Refusal := .next s.strikeSweep

/-- MC_RESIDUE_TIMEOUT (R84). -/
def execMcResidueTimeout (pkt : Nat) (s : State) : Host.Outcome State Fault Refusal := .next (s.residueTimeout pkt)

/-- MC_RECHARGE (R86). -/
def execMcRecharge (pkt : Nat) (s : State) : Host.Outcome State Fault Refusal := .next (s.recharge pkt).poolEvents

/-- BANK_ROTATION_STEP (R87). -/
def execBankRotationStep (s : State) : Host.Outcome State Fault Refusal := .next s.rotationStep

/-- BANK_DRAIN_TIMEOUT (R87). -/
def execBankDrainTimeout (bank : Fin 256) (s : State) : Host.Outcome State Fault Refusal := .next (s.drainTimeout bank)

/-- BANK_MIGRATION_DONE (R88). -/
def execBankMigrationDone (bank : Fin 256) (s : State) : Host.Outcome State Fault Refusal := .next (s.migrated bank)

/-- BANK_TEST_DONE (R89). -/
def execBankTestDone (bank : Fin 256) (pass : Bool) (s : State) : Host.Outcome State Fault Refusal := .next (s.bankTested bank pass)

/-- BACKGROUND_SCRUB (R69): what the word read shows, and the packet whose head record it is. -/
def execBackgroundScrub (found : ReadEcc) (pkt : Nat) (s : State) : Host.Outcome State Fault Refusal := .next (s.scrub found pkt)

/-- WFN_HOLDOFF_EXPIRY (R213). -/
def execWfnHoldoffExpiry (src : Fin 4096) (vh : BitVec 8) (binding : Fin 4096) (reason : Fin 16) (s : State) :
    Host.Outcome State Fault Refusal := .next (s.wfnLeave src vh.toNat binding reason)

/-- TRACKER_TIMEOUT (R209): the entry, by OUT_RID and OUT_TAG. -/
def execTrackerTimeout (rid : BitVec 16) (tag : BitVec 14) (s : State) : Host.Outcome State Fault Refusal :=
  .next (s.trkTimeout rid tag)

/-- QUARANTINE_END (R208). -/
def execQuarantineEnd (s : State) : Host.Outcome State Fault Refusal := .next s.quarantineEnd

/-- STARVE_GUARD_EXPIRY (R237). -/
def execStarveGuardExpiry (port : Fin 144) (node : Fin 4096) (cls : Fin 8) (s : State) : Host.Outcome State Fault Refusal :=
  .next (s.starve port node cls)

/-- GATE_ENTRY_ADVANCE (R239). -/
def execGateEntryAdvance (port : Fin 144) (s : State) : Host.Outcome State Fault Refusal := .next (s.gateAdvance port)

/-- GCL_SWITCH (R241). -/
def execGclSwitch (port : Fin 144) (s : State) : Host.Outcome State Fault Refusal := .next (s.gclSwitch port)

/-- PCIE_LINK_ERROR (R203). -/
def execPcieLinkError (port : Fin 144) (err : PcieErr) (s : State) : Host.Outcome State Fault Refusal := .next (s.linkError port err)

/-- PCIE_RECOVERY_ENTRY (R64). -/
def execPcieRecoveryEntry (port : Fin 144) (s : State) : Host.Outcome State Fault Refusal := .next (s.pcieRecover port)

end Sys2Proof.Machine
end

