-- ==== Sys2Proof/Machine/HostCmds.lean ====
section
/-! DEFINITION. The commands of a host at its virtual hierarchy: configuration writes (R100), the configuration proxy (R106),
resets (R119 to R123, R418), DPC (R206), orderly unbind (R99), slot power (R355) and the posted-failure log (R216). -/

namespace Sys2Proof.Machine

/-! ## Configuration requests of the host -/

/-- A function of the host view exists (R92, R93): the vUSP, a created vDSP, or a function Malacel synthesises. -/
def State.unitPresent (s : State) (v : Nat) : HostUnit → Bool
  | .vusp => true
  | .vdsp i => i < 64 && (s.vdspPresent v i || (v == s.bnd.mgmtVh && i == 0))
  | .fn i => i < 64 && ((v == s.bnd.mgmtVh && i == 0) ||
      (match s.bindingOf v i with
       | some bi => !Bind.isPortKind (s.bind bi)
       | none => false))

/-- The ID of a function of the host view (R420). -/
def State.unitId (s : State) (v : Nat) : HostUnit → BitVec 16
  | .vusp => s.vuspId v
  | .vdsp i => s.vdspId v i
  | .fn i => s.hostRid v i

/-- The status a configuration request to a function ends with (R220, Table 4.5): retry while SAFE_HOLD or a reset holds it, UR
where nothing answers. -/
def State.cfgStatus (s : State) (v : Nat) (u : HostUnit) : CplStatus :=
  if s.flag F.ERR_STATUS.FENCE && v ≠ s.bnd.mgmtVh then (if u = .vusp then .crs else .ur)
  else if s.flag F.ERR_STATUS.FENCE && !(u = .vusp || u = .vdsp 0 || u = .fn 0) then .ur
  else if !s.unitPresent v u then .ur
  else match u with
    | .fn i => match s.bindingOf v i with
      | some bi =>
        if s.bindState bi = 3 then .crs else if s.forwards bi then .sc else if s.dpcOn v i then s.dpcStatusOf v i else .ur
      | none => .sc
    | _ => .sc

/-- The completer ID of a configuration request that ends with a status (R420): the function's own, or where Kalnum ends the request in its
place that of its vDSP. -/
def State.cfgCompleter (s : State) (v : Nat) (u : HostUnit) (st : CplStatus) : BitVec 16 :=
  match u with
  | .fn i => if st = .sc then s.hostRid v i else s.vdspId v i
  | .vdsp i => if s.unitPresent v u then s.vdspId v i else s.vuspId v
  | .vusp => s.vuspId v

/-- A configuration write of the host: it takes effect at once, in both generations, and its completion returns (R100). -/
def State.cfgWrite (s : State) (v : Nat) (u : HostUnit) (rid : BitVec 16) (tag : BitVec 14) (f : State → State) : State :=
  if !s.isHostEdge v || !s.linkUp v || !s.vhActive v || s.mode = .reset || s.mode = .boot then s
  else
    let st := s.cfgStatus v u
    let s1 := if st = .sc then f s else s
    (s1.own v v 0xFFF (mkCpl { kind := .cfgwr, rid := rid, tag := tag } st (s.cfgCompleter v u st) 4 0)).poolEvents

/-! ## Unbinding (R99) -/

/-- A binding has left UNBINDING: its vDSP is an empty slot. -/
def State.unbound (s : State) (bi : Nat) : State :=
  let b := s.bind bi
  let s1 := ((s.disarm .unbindButton bi).leaveBound bi).setBindState bi 0 0
  if s1.isDeviceEnd b then s1 else s1.showSlot b.vh b.vdsp false false

/-- The vDSP of a binding is gone by surprise: counted and reported, then an empty slot (R99). -/
def State.surpriseRemoved (s : State) (bi : Nat) : State :=
  let b := s.bind bi
  let s1 := (s.bump R.ERR_SURPRISE_DOWN_CNT).raise F.ERR_EVT.SURPRISE_DOWN
  (if s1.isDeviceEnd b then s1 else s1.reportVdsp b.vh b.vdsp .surpriseDown false).unbound bi

/-- A surprise unbind: surprise-down containment of the vDSP, then an empty slot (R99). -/
def State.surpriseUnbind (s : State) (bi : Nat) : State :=
  let b := s.bind bi
  let es := s.bnd.trk.filter (fun (e : TrkEntry) => e.state == .opn && e.bound && e.binding == bi && e.fromHost)
  let s2 := s.each es (fun s e => s.synth e (s.synthStatus (!s.isDeviceEnd b) e.vh b.vdsp))
  (s2.dropWrites bi (fun k => k.dest != b.vh)).surpriseRemoved bi

/-! ## Host-owned fields (R100) -/

/-- A status field a write of 1 clears. -/
def clearsOnOne : HostField → Bool
  | .uncStatus | .corStatus | .attention | .presenceChanged | .dllChanged | .powerFault | .pflLost => true
  | _ => false

/-- A field the host only reads: presence and link as Kalnum shows them, what DPC and AER logged, and the binding's
generation. -/
def hostReadOnly : HostField → Bool
  | .presence | .dllActive | .headerLog | .dpcStatus | .dpcReason | .bindGen => true
  | _ => false

/-- The value a BAR takes: its low bits below the size of the window it maps read 0, and a BAR without a window reads 0 (Table
4.9, R102). -/
def State.barValue (s : State) (v i n value : Nat) : Nat :=
  match s.bindingOf v i with
  | none => if v = s.bnd.mgmtVh && i = 0 && n = 0 then value / pfBar * pfBar else 0
  | some bi => match (s.winsOf (s.bind bi)).find? (fun e => ef e.2 0 2 == 1 && ef e.2 22 3 == n) with
    | some (_, w) => value / winSize w * winSize w
    | none => 0

/-- Indicators and slot limits reach the slot of a port binding: its own guard, or the device end as a privileged message
(R144, R367). -/
def State.slotWrite (s : State) (v i : Nat) (f : HostField) : State :=
  let u := HostUnit.vdsp i
  match s.bindingOf v i with
  | none => s
  | some bi =>
    let b := s.bind bi
    let ind := s.host v u .attnInd + 4 * s.host v u .powerInd
    let lim := s.host v u .powerLimit
    match f, b.kind with
    | .attnInd, 0 | .powerInd, 0 => match s.guardOf b.port with
      | some g => s.gIndicate g (s.host v u .attnInd) (s.host v u .powerInd)
      | none => s
    | .attnInd, 2 | .powerInd, 2 => s.sideband bi 0x13 true ind
    | .powerLimit, 0 => match s.guardOf b.port with
      | some g => s.applyLimit g
      | none => s
    | .powerLimit, 2 => s.sideband bi 0x11 true (decodePower (bits lim 0 8) (bits lim 8 2))
    | _, _ => s

/-- Power Controller Control of a vDSP (R99, R355). -/
def State.powerCtl (s : State) (v i : Nat) (off : Bool) : State :=
  let s1 := s.setHost v (.vdsp i) .powerCtlOff (b2n off)
  match s1.bindingOf v i with
  | none => s1
  | some bi =>
    let b := s1.bind bi
    if s1.bindState bi = 4 then (if off then s1.unbound bi else s1)
    else match s1.guardOf b.port with
      | none => s1
      | some g =>
        if b.kind ≠ 0 || s1.bindState bi ≠ 1 || !s1.flag F.SPG_SLOT_CFG.HOST_PWR g then s1
        else if off then
          (if s1.gState g = gOn || s1.gState g = gRamp || s1.gState g = gProofing then s1.gPowerOff g else s1)
        else s1.gRequest g false

/-- A Secondary Bus Reset or Link Disable on a vDSP resets its binding (Table 4.14). -/
def State.busReset (s : State) (v i : Nat) : State :=
  match s.bindingOf v i with
  | some bi => s.startReset bi false
  | none => s

/-- The host clears DPC Trigger Status: the binding reset runs, and an empty slot shows where a commit removed the binding
(Table 7.3, R207). -/
def State.dpcClear (s : State) (v i : Nat) : State :=
  if !s.dpcOn v i then s
  else
    let s1 := (s.setHost v (.vdsp i) .dpcStatus 0).setHost v (.vdsp i) .dpcReason 0
    match s1.bindingOf v i with
    | none => s1.showSlot v i false false
    | some bi => if s1.bindState bi = 2 && s1.fld F.BND_BIND_STATE.SUSPEND_CAUSE bi = 3 then s1.startReset bi true else s1

/-- A vDSP of a VH has a CXL-capable binding (R126): a CXL port, a logical device, or a binding of another device, whose nature stands there
(DESIGN CHOICE, notes/assumptions/73). -/
def State.cxlCapable (s : State) (v i : Nat) : Bool :=
  match s.bindingOf v i with
  | none => false
  | some bi =>
    let b := s.bind bi
    b.kind = 4 || b.isRemote || (b.kind = 0 && s.proto b.port = 1)

/-- A write of the control of HDM decoder `d` (R126): a commit takes where every target its ways reach names a vDSP with a CXL-capable binding
and the ways are 1, 2, 4, 8 or 16; else the decoder shows an error, not committed. -/
def State.hdmControl (s : State) (v d x : Nat) : State :=
  let c := setBits (x % 2 ^ 64) 10 2 0
  let ways := hdmWays (bits c 4 4)
  let ok := ways ≠ 0 && (List.range ways).all (fun k => s.cxlCapable v (s.hdmEntry v d k))
  s.setHost v .vusp (.hdm (4 * d + 2)) (if bits c 9 1 = 0 then c else if ok then setBits c 10 2 1 else setBits c 10 2 2)

/-- A write of a host-owned field (R100). -/
def State.hostField (s : State) (v : Nat) (u : HostUnit) (f : HostField) (x : Nat) : State :=
  if hostReadOnly f then s
  else match f, u with
    | .pflLost, _ => if x % 2 = 1 then s.setFld F.ERR_PFL_IDX.LOST v 0 else s
    | .pflIntEn, .vdsp _ => s.setHost v .vusp .pflIntEn (x % 2)
    | .pflIndex, .vdsp _ => s.setHost v .vusp .pflIndex (x % 64)
    | .powerCtlOff, .vdsp i => s.powerCtl v i (x % 2 == 1)
    | .secReset, .vdsp i => if x % 2 = 1 then s.busReset v i else s
    | .linkDisable, .vdsp i =>
      let s1 := s.setHost v u .linkDisable (x % 2)
      if x % 2 = 1 then s1.busReset v i else s1
    | .attnInd, .vdsp i => (s.setHost v u f (x % 4)).slotWrite v i f
    | .powerInd, .vdsp i => (s.setHost v u f (x % 4)).slotWrite v i f
    | .powerLimit, .vdsp i => (s.setHost v u f (x % 1024)).slotWrite v i f
    | .aspmControl, .vusp => s.setHost v u f (x % 4)
    | .bar n, .fn i => s.setHost v u f (s.barValue v i n x)
    | .hdm n, .vusp => if n < 64 && n % 4 = 2 then s.hdmControl v (n / 4) x else s.setHost v u f (x % 2 ^ 64)
    | _, _ =>
      if clearsOnOne f then s.setHost v u f (s.host v u f &&& (2 ^ 64 - 1 - x % 2 ^ 64)) else s.setHost v u f (x % 2 ^ 64)

/-! ## The configuration proxy (R106) -/

/-- Words of the configuration space of the management PF and of a data mover VF (R7, R277).  PRESUMED places in the header and in each
capability: the PCI Express Base Specification (notes/assumptions/20).  DESIGN CHOICE: where the capabilities stand
(notes/assumptions/77). -/
def State.internalWord (s : State) (v i off : Nat) : Option Nat :=
  let pf := v == s.bnd.mgmtVh && i == 0
  if !(pf || (match s.bindingOf v i with | some bi => Bind.kind (s.bind bi) == 5 | none => false)) then none
  else match off with
    | 0x00 => some (0x7E1D + 2 ^ 16 * (if pf then 0x028A else 0x028B))
    | 0x08 => some 0x088000A1
    | 0x0C => some 0
    | 0x34 => if pf then none else some 0x40
    | 0x40 => if pf then none else some (0x00FF5011 + 2 ^ 30 * (s.free % 4))
    | 0x44 => if pf then none else some 0x8000
    | 0x48 => if pf then none else some 0xA000
    | 0x50 => if pf then none else some 0x00020010
    | 0x54 => if pf then none else some (2 ^ 28)
    | 0x100 => if pf then some 0x00010010 else none
    | 0x108 => if pf then some 1 else none
    | 0x10C => if pf then some (2047 + 2 ^ 16 * 2047) else none
    | 0x110 => if pf then some 2047 else none
    | 0x114 => if pf then some (1 + 2 ^ 16) else none
    | 0x118 => if pf then some (2 ^ 16 * 0x028B) else none
    | 0x2C => some (s.sec.subsystem.getD 0 0x7E1D + 2 ^ 16 * s.sec.subsystem.getD (if pf then 3 else 4) (if pf then 0x028A else 0x028B))
    | _ => none

/-- What a synthesised function answers to a read: its BARs from the host view, 0 for the Expansion ROM BAR; fields whose value
the target's own chain gives are a free value (notes/assumptions/16). -/
def State.synthRead (s : State) (v i off : Nat) : Nat :=
  if 0x10 ≤ off && off < 0x28 then
    let n := (off - 0x10) / 4
    let own := s.host v (.fn i) (.bar n)
    if n = 0 && (s.internalWord v i 0x44).isSome then own % 2 ^ 32 / 16 * 16 + 4
    else if own = 0 && 0 < n && 2 ^ 32 ≤ s.host v (.fn i) (.bar (n - 1)) then s.host v (.fn i) (.bar (n - 1)) / 2 ^ 32 else own % 2 ^ 32
  else if off = 0x30 then 0
  else if off = 0x04 then s.commandWord v i (s.free % 2 ^ 32)
  else (s.internalWord v i off).getD (s.free % 2 ^ 32)

/-- A write of the words Malacel holds for a synthesised function (Table 4.9): the BARs, and Memory Space Enable and Bus Master Enable. -/
def State.heldWrite (s : State) (v i off w : Nat) : State :=
  if 0x10 ≤ off && off < 0x28 then s.hostField v (.fn i) (.bar ((off - 0x10) / 4)) w
  else if off = 0x04 then (s.setHost v (.fn i) .memEn (bits w 1 1)).setHost v (.fn i) .busMaster (bits w 2 1)
  else s

/-- A word of a synthesised function that this device knows in full; the others hold a free value. -/
def State.knownWord (s : State) (v i off : Nat) : Bool :=
  (0x10 ≤ off && off < 0x28) || off = 0x30 || (off ≠ 0x40 && (s.internalWord v i off).isSome)

/-- A configuration request to a synthesised function (R106): a field Malacel holds is answered, one of a hidden capability reads 0 and
takes no write; one passed through goes to the target with requester 0x00FF, and so does word 0x04, part of which is (Table 4.9). -/
def State.cfgProxy (s : State) (v i off : Nat) (write : Option (BitVec 32)) (field : CfgField) (rid : BitVec 16) (tag : BitVec 14) : State :=
  if !s.isHostEdge v || !s.linkUp v || !s.vhActive v || s.mode = .reset || s.mode = .boot then s
  else
    let u := HostUnit.fn i
    let st := s.cfgStatus v u
    let req : Tlp := { kind := if write.isSome then .cfgwr else .cfgrd, rid := rid, tag := tag }
    let reply (s : State) (st : CplStatus) (data : List Byte) : State :=
      (s.own v v 0xFFF { mkCpl req st (s.cfgCompleter v u st) 4 0 with data := data, len := data.length }).poolEvents
    let far := ((s.bindingOf v i).filter (fun bi => Bind.kind (s.bind bi) != 5)).isSome
    let pass := far && (field = .passed || off = 0x04)
    if st ≠ .sc then reply s st []
    else match write with
      | some w =>
        let s1 := if field = .hidden || (field = .passed && pass && off ≠ 0x04) then s else s.heldWrite v i off w.toNat
        if pass then s1.proxyAsk ⟨v, i, off, write, rid, tag⟩ else reply s1 .sc []
      | none =>
        if pass then s.proxyAsk ⟨v, i, off, write, rid, tag⟩
        else if field = .hidden then reply s .sc (leBytes 4 0)
        else reply (if s.knownWord v i off then s else s.drew) .sc (leBytes 4 (s.synthRead v i off))

/-- No answer of the target in 50.0 ms (R106, class 0x0307). -/
def State.proxyTimeout (s : State) (tag : Nat) : State :=
  if !s.due .proxy tag then s
  else match s.bnd.proxied.find? (fun e => e.1 == tag) with
    | none => s.disarm .proxy tag
    | some (_, v, bi, rid, htag) =>
      let s1 := (s.onBnd (fun y => { y with proxied := y.proxied.filter (fun e => e.1 != tag) })).disarm .proxy tag
      let s2 := s1.onEntries (fun e => e.inPort == 144 && e.outTag.toNat == tag && e.state == .opn)
        (fun e => { e with state := .quarantine, quarEnd := s1.now + s1.quarTime })
      let b := s2.bind bi
      let s3 := (s2.own v v bi (mkCpl { kind := .cfgrd, rid := rid, tag := htag } .ur (s2.vdspId v b.vdsp) 4 0)).bump R.BND_CFG_PROXY_TO_CNT
      ((s3.raise F.BND_EVT.PROXY_TIMEOUT).reportBinding 0x0307 bi .completionTimeout false).poolEvents

/-! ## Resets (R119 to R123, R418) -/

/-- The steps of a VH reset have ended (Table 4.15, step 6): an ACTIVE VH hears what waited for it (Table 7.14). -/
def State.vhReady (s : State) (v : Nat) : State :=
  if !s.bnd.resetting.contains v then s
  else
    let s1 := s.vhResetDone v
    (s1.whenb (s1.vhActive v) (fun s => s.releaseHeld v)).limitsAgain

/-- The reset of a binding reaches its end on the target (Table 4.16): a port has its link again, a function answers 100 ms
after its FLR, a remote port's device end has told of its link; a function without a reset method is BOUND at once (R122). -/
def State.resetReached (s : State) (bi : Nat) (noReset : Bool) : State :=
  let b := s.bind bi
  let start := ((s.timers.find? (fun (t : Timer) => t.kind == .bindReset && t.idx == bi)).map (·.due)).getD 0 - ms 1000
  let fn := b.kind = 1 || b.kind = 3 || b.kind = 4
  if s.bindState bi ≠ 3 then s
  else if (noReset || look bi s.bnd.methods = some 2) && fn then
    ((s.raise F.BND_EVT.NO_RESET).journal 0x0607 { vh := b.vh, binding := bi }).bindingResetDone bi
  else if (b.kind = 0 && !s.linkUp b.port) || b.kind = 2 || (fn && decide (s.now < start + ms 100)) then s
  else s.bindingResetDone bi

/-! ## The commands -/

/-- HOST_CFG_WRITE (R100): a field of a function of VH `vh`, with the requester ID and tag its completion returns to. -/
def execHostCfgWrite (vh : Fin 144) (unit : HostUnit) (field : HostField) (value : BitVec 64) (rid : BitVec 16) (tag : BitVec 14)
    (s : State) : Host.Outcome State Fault Refusal :=
  .next (s.cfgWrite vh unit rid tag (fun s => s.hostField vh unit field value.toNat))

/-- CFG_PROXY_REQUEST (R106): the function behind a vDSP, the offset, the data of a write, and how Table 4.9 treats the field. -/
def execCfgProxyRequest (vh : Fin 144) (vdsp : Fin 64) (offset : BitVec 12) (write : Option (BitVec 32)) (field : CfgField)
    (rid : BitVec 16) (tag : BitVec 14) (s : State) : Host.Outcome State Fault Refusal :=
  .next (s.cfgProxy vh vdsp (offset.toNat / 4 * 4) write field rid tag)

/-- CFG_PROXY_TIMEOUT (R106). -/
def execCfgProxyTimeout (tag : BitVec 14) (s : State) : Host.Outcome State Fault Refusal := .next (s.proxyTimeout tag.toNat)

/-- HOST_FLR_WRITE (R106): below a port binding the device itself is written, and Kalnum takes no part (Table 4.14). -/
def execHostFlrWrite (vh : Fin 144) (vdsp : Fin 64) (rid : BitVec 16) (tag : BitVec 14) (s : State) : Host.Outcome State Fault Refusal :=
  .next (s.cfgWrite vh (.fn vdsp) rid tag (fun s => match s.bindingOf vh vdsp with
    | some bi => s.startReset bi false
    | none => if vh == s.bnd.mgmtVh && vdsp == (0 : Fin 64) then s.dmReset 0 else s))

/-- HOST_POWER_CTRL_WRITE (R355). -/
def execHostPowerCtrlWrite (vh : Fin 144) (vdsp : Fin 64) (off : Bool) (rid : BitVec 16) (tag : BitVec 14) (s : State) :
    Host.Outcome State Fault Refusal := .next (s.cfgWrite vh (.vdsp vdsp) rid tag (fun s => s.powerCtl vh vdsp off))

/-- SECONDARY_BUS_RESET (R119): Secondary Bus Reset, or Link Disable, on a vDSP. -/
def execSecondaryBusReset (vh : Fin 144) (vdsp : Fin 64) (rid : BitVec 16) (tag : BitVec 14) (s : State) :
    Host.Outcome State Fault Refusal := .next (s.cfgWrite vh (.vdsp vdsp) rid tag (fun s => s.busReset vh vdsp))

/-- DPC_SW_TRIGGER (R206).  PRESUMED reason code: the PCI Express Base Specification (notes/assumptions/20). -/
def execDpcSwTrigger (vh : Fin 144) (vdsp : Fin 64) (rid : BitVec 16) (tag : BitVec 14) (s : State) :
    Host.Outcome State Fault Refusal := .next (s.cfgWrite vh (.vdsp vdsp) rid tag (fun s => s.dpcTrigger vh vdsp 3))

/-- DPC_STATUS_CLEAR (R206). -/
def execDpcStatusClear (vh : Fin 144) (vdsp : Fin 64) (rid : BitVec 16) (tag : BitVec 14) (s : State) :
    Host.Outcome State Fault Refusal := .next (s.cfgWrite vh (.vdsp vdsp) rid tag (fun s => s.dpcClear vh vdsp))

/-- The host moves CONS of its VH's posted-failure ring; a value beyond PROD is ignored (R216). -/
def State.pflCons (s : State) (v c : Nat) : State :=
  let prod := s.fld F.ERR_PFL_IDX.PROD v
  let cons := s.fld F.ERR_PFL_IDX.CONS v
  if (prod + 64 - cons) % 64 < (c + 64 - cons) % 64 then s
  else
    let s1 := s.setFld F.ERR_PFL_IDX.CONS v c
    s1.setFld F.ERR_STATUS.PFL_PENDING 0
      (b2n (allPorts.any (fun w => s1.fld F.ERR_PFL_IDX.PROD w != s1.fld F.ERR_PFL_IDX.CONS w)))

/-- PFL_CONS_WRITE (R216). -/
def execPflConsWrite (vh : Fin 144) (vdsp : Fin 64) (cons : Fin 64) (rid : BitVec 16) (tag : BitVec 14) (s : State) :
    Host.Outcome State Fault Refusal := .next (s.cfgWrite vh (.vdsp vdsp) rid tag (fun s => s.pflCons vh cons))

/-- POOL_EDGE_LINK_DOWN (R218): `removed` when the slot's guard reports removal. -/
def execPoolEdgeLinkDown (port : Fin 144) (removed : Bool) (s : State) : Host.Outcome State Fault Refusal :=
  .next (if s.isPoolEdge port && s.linkUp port then (s.poolDown port removed).dmRun else s)

/-- VH_RESET_EVENT (R120): the host-edge link goes down, or is reset while it stays up. -/
def execVhResetEvent (port : Fin 144) (dlDown : Bool) (s : State) : Host.Outcome State Fault Refusal :=
  .next (if s.isHostEdge port && s.linkUp port then (s.hostDown port dlDown).dmRun else s)

/-- VH_RESET_DONE (R120). -/
def execVhResetDone (vh : Fin 144) (s : State) : Host.Outcome State Fault Refusal := .next (s.vhReady vh)

/-- BINDING_RESET_DONE (R418); `noReset` when the function has no method of reset (R122). -/
def execBindingResetDone (binding : Fin 4096) (noReset : Bool) (s : State) : Host.Outcome State Fault Refusal :=
  .next (s.resetReached binding noReset)

/-- BINDING_RESET_TIMEOUT (R418). -/
def execBindingResetTimeout (binding : Fin 4096) (s : State) : Host.Outcome State Fault Refusal :=
  .next (if s.due .bindReset binding && s.bindState binding == 3 then s.bindingResetFailed binding else s)

/-- ORDERLY_UNBIND_TIMEOUT (R99): it continues as a surprise unbind, with a journal entry of class 0x060D. -/
def execOrderlyUnbindTimeout (binding : Fin 4096) (s : State) : Host.Outcome State Fault Refusal :=
  .next (if s.due .unbindButton binding && s.bindState binding == 4 then
      (s.journal 0x060D { vh := Bind.vh (s.bind binding), binding := binding }).surpriseUnbind binding
    else s)

end Sys2Proof.Machine
end

