-- ==== Sys2Proof/Machine/Drowse.lean ====
section
/-! DEFINITION. Mode changes (R321 to R323), and DROWSE: the refuser classes (R328, R329), entry (R330), and the wake (R331,
R332). -/

namespace Sys2Proof.Machine

/-- The opcode of SET_MODE. -/
def opSetMode : Nat := 0x0900

/-! ## Modes -/

/-- Enter a mode; the last of TRANSPARENT, COMPOSED and FABRIC is what a warm reset resumes (R323). -/
def State.enterMode (s : State) (m : Mode) : State :=
  let s1 := { s with mode := m, transition := false }
  let s2 := s1.whenb ([Mode.transparent, .composed, .fabric].contains m) (fun s => s.setFld F.PWR_MODE_CFG.RESUME_MODE 0 m.code)
  (s2.whenb (s.mode != m) (fun s => s.raise F.PWR_EVT.MODE_CHANGE)).idleCheck

/-- The mode DROWSE or MAINTENANCE was entered from. -/
def State.enteredFrom (s : State) : Mode := Mode.ofCode (s.fld F.PWR_STATUS.ENTERED_FROM)

/-- The junction temperature of a region in °C. -/
def State.tempOf (s : State) (g : Nat) : Int := (BitVec.ofNat 9 (s.fld F.PWR_THERM_REG.TEMP g)).toInt

/-- A region at or above WARN_C. -/
def State.warm (s : State) (g : Nat) : Bool := decide ((s.fld F.PWR_THERM_CFG.WARN_C : Int) ≤ s.tempOf g)

/-! ## Refuser classes (Table 13.4) -/

/-- The queues whose status is not DISABLED, as 256 × function + queue. -/
def State.openQueues (s : State) : List Nat := s.regs.filterMap (fun e => R.Q_STATUS.indexAt e.1)

/-- A queue keeps DROWSE away: STOPPING, or ACTIVE with something to do. -/
def State.queueBusy (s : State) (i : Nat) : Bool :=
  let st := s.fld F.Q_STATUS.STATE i
  st == 2 || (st == 1 && (s.svc.descs.any (fun (d : DmDesc) => 256 * d.fn + d.q == i) ||
    s.fld F.Q_DESC_HEAD.HEAD i != s.fld F.Q_DESC_TAIL.TAIL i))

/-- The ID a refuser class records while it holds; a shadow that is not ready has no requester, and a request
proxied over whey no VH of this device: they record index 0 (DESIGN CHOICE, notes/assumptions/18). -/
def State.refuser (s : State) (cls : Nat) : Option Nat :=
  match cls with
  | 1 => s.livePorts.find? (fun p => !s.atRest p)
  | 2 => if s.churn.pkts.isEmpty then none else some 0
  | 3 => if s.bnd.trk.isEmpty then none else 
      some (((List.range 144).find? (fun v => s.bnd.trk.any (fun (e : TrkEntry) => e.vh == v))).getD 0)
  | 4 => (s.openQueues.find? s.queueBusy).map (· / 256)
  | 5 => (s.svc.swaps.map (·.1)).min?
  | 6 => match s.bnd.session with
    | some x => some (s.indexOfReq x.holder)
    | none => if s.flag F.BND_GEN_STATUS.SHADOW_READY then none else some 0
  | 7 => (s.crb.outst.find? (fun (o : Outst) => o.accepted && o.opcode != opSetMode)).map (fun o => s.indexOfReq o.req.src)
  | 8 => (List.range 24).find? (fun g => [gDebounce, gProofing, gRamp, gRetry].contains (s.gState g))
  | 9 => if !s.sec.queue.isEmpty || s.flag F.ERR_STATUS.FLASH_PENDING || s.flag F.PWR_STATUS.SAG then some 0 else none
  | 10 => allPorts.find? (fun p => s.flag F.QOS_GCL_CTRL.GATE_EN p)
  | 12 => (List.range 12).find? s.warm
  | _ => none

/-- The first refuser class that holds, in code order. -/
def State.firstRefuser (s : State) : Option (Nat × Nat) :=
  (List.range 13).findSome? (fun c => (s.refuser c).map (fun i => (c, i)))

/-! ## Entry (R328 to R330) -/

/-- Entry is over without DROWSE: the mode stands, and an accepted SET_MODE ends with BUSY. -/
def State.drowseOff (s : State) (detail : Nat) : State :=
  let s1 := ({ s with transition := false }.onPwr (fun y => { y with drowse := .none })).disarm .drowseWait 0
  (s1.finishAny opSetMode stBusy detail).idleCheck

/-- Entry is refused by a class (R329). -/
def State.drowseRefuse (s : State) (cls id : Nat) : State :=
  let f := if cls % 2 = 1 then F.PWR_DROWSE_REFUSE_CNT.ODD else F.PWR_DROWSE_REFUSE_CNT.EVEN
  let s1 := (s.bump16 f ((cls - 1) / 2) 1).setFld F.PWR_DROWSE_LAST_REFUSER.CLASS 0 cls
  let s2 := (s1.setFld F.PWR_DROWSE_LAST_REFUSER.ID 0 id).setFld F.PWR_DROWSE_LAST_REFUSER.VALID 0 1
  (s2.raise F.PWR_EVT.DROWSE_REFUSED).drowseOff (cls * 4096 + id)

/-- Entry is asked for, by SET_MODE or by itself: Kalnum waits for the refuser classes to clear (R328). -/
def State.drowseAsk (s : State) : State :=
  ({ s with transition := true }.onPwr (fun y => { y with drowse := .waiting })).arm .drowseWait 0
    (ms (s.fld F.PWR_DROWSE_CFG.ENTRY_WAIT_MS))

/-- Accepted entry goes on: with every trace line written back and no request of the policy waiting, 0.55 V is requested (R330,
steps 2 to 4). -/
def State.drowseLower (s : State) : State :=
  if s.pwr.drowse = .lowering && s.svc.lines.isEmpty && s.churn.pkts.isEmpty && s.pwr.avs.isNone then
    (s.onPwr (fun y => { y with drowseMv := s.coreMv })).requestVoltage 550 .drowse false
  else s

/-- The wait for the refuser classes ends: entry goes on when none holds, and is refused by the first when the time is over
(R328). -/
def State.drowseWaitEnd (s : State) : State :=
  match s.pwr.drowse with
  | .lowering => s.drowseLower
  | .waiting =>
    (match s.firstRefuser with
     | some (c, i) => if s.due .drowseWait 0 then s.drowseRefuse c i else s
     | none =>
       let s1 := (s.disarm .drowseWait 0).onPwr (fun y => { y with drowse := .lowering })
       let s2 := s1.onSvc (fun y => { y with lines := y.lines.map (fun (l : TraceLine) => { l with evicted := true }) })
       s2.drowseLower)
  | _ => s

/-- The regulator has acknowledged 0.55 V: DROWSE stands, and SET_MODE ends now over a transport that needs no link to wake (R330,
step 5). -/
def State.drowseIn (s : State) : State :=
  let from_ := s.mode.code
  let s1 := (s.setFld F.PWR_STATUS.ENTERED_FROM 0 from_).bump R.PWR_DROWSE_ENTRY_CNT
  let s2 := (s1.enterMode .drowse).onPwr (fun y => { y with drowse := .asleep })
  let w := s2.fld F.PWR_DROWSE_CFG.WAKE_TIMER_MS
  let s3 := s2.whenb (w != 0) (fun s => s.arm .wake 0 (ms w))
  let direct (o : Outst) : Bool := o.opcode == opSetMode && o.accepted &&
    (match o.req.src with | .mctp m _ => m.val != 0 | _ => false)
  if s3.crb.outst.any direct then s3.finishAny opSetMode stOk else s3

/-! ## Wake (R331, R332) -/

/-- Record a wake source. -/
def State.wakeRecord (s : State) (src id : Nat) : State :=
  let w := BitVec.ofNat 32 (src + 16 * (id % 4096) + 65536)
  (s.wr R.PWR_WAKE_SRC 0 w).wr R.PWR_AUX_WAKE 0 w

/-- A wake source fires: in DROWSE the wake starts; during accepted entry, entry is abandoned and the voltage before it requested
again in place of 0.55 V (Table 13.7). -/
def State.wakeBy (s : State) (src id : Nat) : State :=
  if !(src == 4 || src == 8 || bits (s.rd R.PWR_WAKE_EN).toNat src 1 == 1) then s
  else match s.pwr.drowse with
    | .lowering =>
      let asked := match s.pwr.avs with | some (.drowse, _, _) => true | _ => false
      let s1 := (s.wakeRecord src id).whenb asked (fun s =>
        ((s.onPwr (fun y => { y with avs := none })).requestVoltage s.pwr.drowseMv .policy true))
      s1.drowseOff 0
    | .asleep =>
      let s1 := (s.wakeRecord src id).disarm .wake 0
      ({ s1 with transition := true }.onPwr (fun y => { y with drowse := .waking, wake := some (src, id, s.now) })).requestVoltage s1.pwr.drowseMv .wake true
    | .waking =>
      (match s.pwr.wake with
       | some (a, _, t) =>
         if t = s.now && src < a then
           (s.wakeRecord src id).onPwr (fun y => { y with wake := some (src, id, t) })
         else s
       | none => s)
    | _ => s

/-- The wake completes (R331, steps 2 and 3); one the regulator delayed is journalled with the delay, and a fatal fault that started it
enters SAFE_HOLD (Table 13.7). -/
def State.wakeDone (s : State) (late : Bool) : State :=
  let t := s.pwr.wake.elim 0 (fun w => s.now - w.2.2)
  let s1 := (s.onPwr (fun y => { y with drowse := .none, wake := none })).enterMode s.enteredFrom
  let s2 := s1.whenb late (fun s => (s.raise F.PWR_EVT.AVS_FAULT).journal 0x060B { detail := t })
  let s3 := (s2.raise F.PWR_EVT.WAKE).finishAny opSetMode stOk
  match s3.pwr.fatalWait with
  | none => s3
  | some (cls, kind, idx) => (s3.onPwr (fun y => { y with fatalWait := none })).safeHold cls kind idx

/-- A fatal fault enters SAFE_HOLD; in DROWSE the wake runs first (Table 13.7), at the voltage in force before it. -/
def State.fatal (s : State) (cls kind idx : Nat) : State :=
  if s.mode ≠ .drowse then s.safeHold cls kind idx
  else
    let s1 := s.onPwr (fun y => { y with fatalWait := some (cls, kind, idx) })
    if s1.pwr.drowse ≠ .asleep then s1
    else
      let s2 := { s1 with transition := true }.disarm .wake 0
      (s2.onPwr (fun y => { y with drowse := .waking })).requestVoltage s2.pwr.drowseMv .wake true

/-! ## The core regulator (R333) -/

/-- Send the core request again. -/
def State.avsAgain (s : State) (n : Nat) (d : Nat) : State :=
  match s.pwr.avs with
  | some (u, up, _) =>
    ((s.onPwr (fun y => { y with avs := some (u, up, n) })).emit (.avs 0 (s.fld F.PWR_VCORE.REQ_MV))).arm .avs 0 d
  | none => s

/-- No core request waits any more. -/
def State.avsOver (s : State) : State :=
  (((s.onPwr (fun y => { y with avs := none })).disarm .avs 0).setFld F.PWR_VCORE.PENDING 0 0).setFld F.PWR_STATUS.AVS_PENDING 0 0

/-- VDD_SDS is asked for during BOOT, 0.85 V. -/
def State.requestSds (s : State) : State :=
  let s1 := (s.setFld F.PWR_VSDS.REQ_MV 0 850).setFld F.PWR_VSDS.PENDING 0 1
  ((s1.onPwr (fun y => { y with sds := some 0 })).emit (.avs 1 850)).arm .avs 1 (us (s.fld F.PWR_VPOL_TIME.AVS_ACK_US))

/-- A request is acknowledged, on AVS0 or AVS1; AVS_FAULT ends with it (DESIGN CHOICE, notes/assumptions/18). -/
def State.avsAck (s : State) (bus : Nat) : State :=
  if bus = 0 then
    match s.pwr.avs with
    | none => s
    | some (u, _, _) =>
      let late := s.flag F.PWR_STATUS.AVS_FAULT
      let s1 := s.avsOver.setFld F.PWR_VCORE.ACK_MV 0 (s.fld F.PWR_VCORE.REQ_MV)
      let s2 := (s1.setFld F.PWR_STATUS.AVS_FAULT 0 0).raise F.PWR_EVT.VOLT_CHANGE
      match u with
      | .policy => ((s2.vpol false).pace).drowseLower
      | .drowse => s2.drowseIn
      | .wake => s2.wakeDone late
  else if s.pwr.sds.isNone then s
  else
    let s1 := (s.onPwr (fun y => { y with sds := none })).disarm .avs 1
    (s1.setFld F.PWR_VSDS.ACK_MV 0 (s1.fld F.PWR_VSDS.REQ_MV)).setFld F.PWR_VSDS.PENDING 0 0

/-- No acknowledgement came within AVS_ACK_US: the request is sent again up to three times; then AVS_FAULT.  A wake goes on
asking every 1.00 ms (R331), and entry to DROWSE asks once (R330). -/
def State.avsTimeout (s : State) (bus : Nat) : State :=
  let d := us (s.fld F.PWR_VPOL_TIME.AVS_ACK_US)
  let fail (s : State) : State := s.setFld F.PWR_STATUS.AVS_FAULT 0 1
  if !s.due .avs bus then s
  else if bus = 0 then
    match s.pwr.avs with
    | none => s.disarm .avs 0
    | some (.drowse, _, _) => s.avsOver.drowseRefuse 11 0
    | some (.wake, _, n) => if n < 3 then s.avsAgain (n + 1) d else (fail s).avsAgain 4 (ms 1)
    | some (.policy, _, n) =>
      if n < 3 then s.avsAgain (n + 1) d else ((fail s.avsOver).raise F.PWR_EVT.AVS_FAULT).drowseLower
  else match s.pwr.sds with
    | none => s.disarm .avs 1
    | some n =>
      if n < 3 then ((s.onPwr (fun y => { y with sds := some (n + 1) })).emit (.avs 1 850)).arm .avs 1 d
      else (((fail s).raise F.PWR_EVT.AVS_FAULT).onPwr (fun y => { y with sds := none })).disarm .avs 1 |>.setFld F.PWR_VSDS.PENDING 0 0

end Sys2Proof.Machine
end

