-- ==== Sys2Proof/Machine/LinkCmds.lean ====
section
/-! DEFINITION. The commands of lanes, ports and clocks (chapter 02; R22, R53 to R64, R405): receiver controls, PRBS, TEST, links
that train and change, low-power states, reference clocks, margining and recalibration. -/

namespace Sys2Proof.Machine

/-! ## Lanes -/

/-- The live port that owns a lane. -/
def State.portOfLane (s : State) (l : Nat) : Option Nat := s.livePorts.find? (fun p => (s.lanesOf p).contains l)

/-- The lane belongs to a port in TEST whose registers can be reached (R58, R65). -/
def State.prbsOn (s : State) (l : Nat) : Bool :=
  match s.portOfLane l with
  | some p => s.linkState p == 6 && s.clockRuns (clusterOf p)
  | none => false

/-- The pattern of a lane runs at its port's MAX_RATE (R58): PRBS13Q at PAM4 rates only. -/
def State.patternRuns (s : State) (l : Nat) : Bool :=
  let pat := s.fld F.PCL_PRBS_CTRL.PATTERN l
  let rate := (s.portOfLane l).elim 0 (fun p => s.fld F.PCL_SLOT_CFG.MAX_RATE p)
  1 ≤ pat && pat ≤ 5 && !(pat == 3 && rate ≤ 5)

/-- The generator of a lane runs (R58). -/
def State.generating (s : State) (l : Nat) : Bool := s.prbsOn l && s.flag F.PCL_PRBS_CTRL.GEN_EN l && s.patternRuns l

/-- The checker of a lane runs (R58): PRBS13Q runs only at PAM4 rates. -/
def State.checking (s : State) (l : Nat) : Bool :=
  s.prbsOn l && s.flag F.PCL_PRBS_CTRL.CHK_EN l && s.patternRuns l

/-- A write of INJ: one bit of the generator's output is inverted (R59). -/
def State.prbsInject (s : State) (l : Nat) : State :=
  if s.generating l then s.emit (.link ((s.portOfLane l).getD 0) (.lane l 0 1)) else s

/-- A write of CLR: the count and OVF become zero; an error of the same cycle counts after it (R59). -/
def State.prbsClear (s : State) (l : Nat) (errored : Bool) : State :=
  if !s.prbsOn l then s
  else
    let n := if errored && s.checking l && s.flag F.PCL_PRBS_STATUS.LOCK l then 1 else 0
    (s.setFld F.PCL_PRBS_ERR.ERR_COUNT l n).setFld F.PCL_PRBS_STATUS.OVF l 0

/-- The checker compares a 64-bit word with `errors` bit errors, or aligns to the pattern (R59). -/
def State.prbsWord (s : State) (l errors : Nat) (aligned : Bool) : State :=
  let run (s : State) (n : Nat) : State := s.onPins (fun y => { y with prbsRun := if n = 0 then drop l y.prbsRun else put l n y.prbsRun })
  if !s.checking l then s
  else if !s.flag F.PCL_PRBS_STATUS.LOCK l then
    if aligned then run (s.setFld F.PCL_PRBS_STATUS.LOCK l 1) 0 else s
  else if errors = 0 then run s 0
  else
    let v := s.fld F.PCL_PRBS_ERR.ERR_COUNT l + errors
    let s1 := (s.setFld F.PCL_PRBS_ERR.ERR_COUNT l (min v 0xFFFFFFFF)).whenb (0xFFFFFFFF ≤ v) (fun s => s.setFld F.PCL_PRBS_STATUS.OVF l 1)
    let n := (look l s1.pins.prbsRun).getD 0 + 1
    if n < 16 then run s1 n
    else run ((s1.setFld F.PCL_PRBS_STATUS.LOCK l 0).setFld F.PCL_PRBS_STATUS.LOCK_LOST l 1) 0

/-- A write of PCL_PORT_CTRL.TEST (R58): it takes effect only while ENABLE is 0.  A port that leaves TEST stops its PRBS. -/
def State.portTest (s : State) (p : Nat) (on : Bool) : State :=
  if !s.live p || !s.clockRuns (clusterOf p) then s
  else
    let s1 := s.setFld F.PCL_PORT_CTRL.TEST p (b2n on)
    if s1.flag F.PCL_PORT_CTRL.ENABLE p then s1
    else if on && s1.linkState p == 0 then (s1.linkOff p 6).pllUpdate (clusterOf p)
    else if !on && s1.linkState p == 6 then
      let s2 := s1.each (s1.lanesOf p) (fun s l => (s.resetReg R.PCL_PRBS_CTRL l).setFld F.PCL_PRBS_STATUS.LOCK l 0)
      (s2.linkOff p 0).pllUpdate (clusterOf p)
    else s1

/-- The value registers of a lane's receiver (R55), in the order CTLE, DFE_A, DFE_B, DFE_C, FLOAT_POS, FLOAT_VAL. -/
def rxRegs : List RegDesc := [R.PCL_LANE_CTLE, R.PCL_LANE_DFE_A, R.PCL_LANE_DFE_B, R.PCL_LANE_DFE_C, R.PCL_LANE_FLOAT_POS, R.PCL_LANE_FLOAT_VAL]

/-- Where the value adaptation holds while FREEZE is set stands in `regs`: the register's offset above 0x20000000. -/
def heldRx (r : RegDesc) (l : Nat) : Nat := 0x20000000 + r.addr l

/-- The bits a field of a register covers. -/
def RegDesc.mask (r : RegDesc) : Nat := r.fields.foldl (fun m f => setBits m f.lo f.width (2 ^ f.width - 1)) 0

/-- The rate code a lane runs at: its port's MAX_RATE in TEST, else the rate it has trained to. -/
def State.laneRate (s : State) (l : Nat) : Nat :=
  (s.portOfLane l).elim 0 (fun p => if s.linkState p = 6 then s.fld F.PCL_SLOT_CFG.MAX_RATE p else s.fld F.PCL_PORT_STATUS.RATE_NOW p)

/-- A value register that the rate holds at zero: the DFE and the floating taps at 2.5 and 5 GT/s (R56). -/
def State.rxZero (s : State) (r : RegDesc) (l : Nat) : Bool :=
  r.base != R.PCL_LANE_CTLE.base && 1 ≤ s.laneRate l && s.laneRate l ≤ 2

/-- The loop of a value register adapts: its own enable is set, and neither FREEZE nor OVERRIDE stops it (R55, Table 2.5). -/
def State.rxAdapts (s : State) (r : RegDesc) (l : Nat) : Bool :=
  let en := if r.base = R.PCL_LANE_CTLE.base then F.PCL_LANE_RXADAPT_CTRL.CTLE_ADAPT_EN
    else if r.base = R.PCL_LANE_FLOAT_POS.base || r.base = R.PCL_LANE_FLOAT_VAL.base then F.PCL_LANE_RXADAPT_CTRL.FLOAT_ADAPT_EN
    else F.PCL_LANE_RXADAPT_CTRL.DFE_ADAPT_EN
  s.flag en l && !s.flag F.PCL_LANE_RXADAPT_CTRL.FREEZE l && !s.flag F.PCL_LANE_RXADAPT_CTRL.OVERRIDE l

/-- Where adaptation stands: 0 where the rate holds it there and in a lane that has not trained, else a free value. -/
def State.rxNow (s : State) (r : RegDesc) (l : Nat) : Nat :=
  if s.rxZero r l || !s.flag F.PCL_LANE_STATUS.ADAPT_CONVERGED l then 0 else Nat.land s.free r.mask

/-- Hold or let go what one value register has reached, after a write of PCL_LANE_RXADAPT_CTRL; `excess` says OVERRIDE stood before. -/
def State.rxHold (s : State) (r : RegDesc) (l : Nat) (excess : Bool) : State :=
  let keep (w : Word) : State := { s with regs := put (heldRx r l) w s.regs }
  if s.rxAdapts r l then { s with regs := drop (heldRx r l) s.regs }
  else if excess then keep (s.rd r l)
  else if (look (heldRx r l) s.regs).isSome then s
  else (keep (BitVec.ofNat 32 (s.rxNow r l))).drew

/-- A write of PCL_LANE_RXADAPT_CTRL (R55): a loop that stops adapting holds the value it has reached, which is a free value; one that
clears OVERRIDE lets adaptation resume from the written values. -/
def State.rxAdapt (s : State) (l v : Nat) : State :=
  if !s.clockRuns (l / 8) then s
  else
    let excess := s.flag F.PCL_LANE_RXADAPT_CTRL.OVERRIDE l
    let s1 := s.wr R.PCL_LANE_RXADAPT_CTRL l (BitVec.ofNat 32 (Nat.land v R.PCL_LANE_RXADAPT_CTRL.mask))
    if s1.flag F.PCL_LANE_RXADAPT_CTRL.OVERRIDE l then s1 else s1.each rxRegs (fun s r => s.rxHold r l excess)

/-! ## Links that train and change -/

/-- A six-tap setting a KFL partner may ask for (R54): the magnitudes of the coefficients sum to 63. -/
def ffeKfl (w : Nat) : Bool :=
  let mag (lo n : Nat) : Nat := let x := bits w lo n; if x < 2 ^ (n - 1) then x else 2 ^ n - x
  mag 0 4 + mag 4 5 + mag 9 6 + bits w 15 6 + mag 21 6 + mag 27 5 == 63

/-- Coefficients a PCI Express or CXL partner asked for (R54).  PRESUMED (notes/assumptions/20): the rules of the PCI Express Base Specification for
FS 63 and LF 21. -/
def ffeAllowed (w : Nat) : Bool :=
  let sg (lo n : Nat) : Int := let x := bits w lo n; if x < 2 ^ (n - 1) then x else (x : Int) - 2 ^ n
  let c0 := bits w 15 6
  let a := (sg 9 6).natAbs
  let b := (sg 21 6).natAbs
  sg 0 4 == 0 && sg 4 5 == 0 && sg 27 5 == 0 && a + b + c0 == 63 && a ≤ 15 && 21 ≤ (c0 : Int) - a - b

/-- The transmit settings that training leaves, by port lane: one that breaks the rules leaves the one before (R54). -/
def State.txSettings (s : State) (p : Nat) (ffe : List (Nat × Word)) : State :=
  s.each ffe (fun s e =>
    s.whenb (e.1 < (s.lanesOf p).length && ffeAllowed e.2.toNat) (fun s => s.wr R.PCL_LANE_TXEQ (firstLane p + e.1) e.2))

/-- A link that stayed up returns to ACTIVE at a rate and width (R22, R51, R64). -/
def State.linkBack (s : State) (p rate width : Nat) (cxlNeg : Bool) : State :=
  if s.proto p = 2 || !(s.linkState p = 3 || s.linkState p = 4) || rate = 0 || s.rateCap p (s.flag F.PCL_PORT_STATUS.FLIT p) < rate ||
      width = 0 || (s.lanesOf p).length < width then s
  else
    let r0 := s.fld F.PCL_PORT_STATUS.RATE_NOW p
    let w0 := s.fld F.PCL_PORT_STATUS.WIDTH_NOW p
    let cxl := s.proto p == 1 && cxlNeg
    let s1 := ((s.abortRecal p 1).setFld F.PCL_PORT_STATUS.STATE p 3).setFld F.PCL_PORT_STATUS.RATE_NOW p rate
    let s2 := (s1.setFld F.PCL_PORT_STATUS.WIDTH_NOW p width).setFld F.PCL_PORT_STATUS.CXL_ACTIVE p (b2n (cxl && (rate == 5 || rate == 6)))
    let s3 := s2.whenb (rate ≠ r0) (fun s => s.raise F.PCL_PORT_EVT.RATE_CHANGE p)
    let s4 := s3.whenb (width ≠ w0) (fun s =>
      ((((s.setFld F.PCL_PORT_STATUS.NARROWED p 0).each (s.lanesOf p) (fun s l => s.setFld F.PCL_LANE_STATUS.PARKED l 0)).onChurn
        (fun y => { y with narrowTo := drop p y.narrowTo, widen := drop p y.widen, fullWidth := drop p y.fullWidth })).raise F.PCL_PORT_EVT.WIDTH_CHANGE p))
    (s4.whenb (cxl && rate < 5) (fun s => s.cxlLow p)).demandStep

/-- A port's link reaches ACTIVE: from training, or back from Recovery. -/
def State.linkUpAt (s : State) (p rate width : Nat) (flit cxl rev : Bool) (serials : List (Nat × Nat)) (ffe : List (Nat × Word)) : State :=
  if s.mode = .reset || s.mode = .boot then s
  else if s.linkState p = 4 then (s.linkBack p rate width cxl).txSettings p ffe
  else
    let s1 := s.linkTrained p rate width flit cxl rev serials
    if s1.linkUp p && !s.linkUp p then (s1.txSettings p ffe).limitAtLinkUp p else s1

/-! ## Low-power states (R61, R62, R64) -/

/-- The host's ASPM Control allows a state on a host-edge port: bit 0 L0s, bit 1 L1 and its substates (R61).  PRESUMED bits: the PCI
Express Base Specification (notes/assumptions/20). -/
def State.aspmAllows (s : State) (p st : Nat) : Bool :=
  !s.isHostEdge p || bits (s.host p .vusp .aspmControl) (if st = 1 then 0 else 1) 1 == 1

/-- The device end of a remote port binding tells the VH end that CLKREQ of its port, which L1.1 and L1.2 release, has changed (Table
5.9). -/
def State.clkreqTold (s : State) (p : Nat) (level : Bool) : State :=
  match s.portBinding p with
  | some (bi, b) => s.whenb (s.isDeviceEnd b) (fun s => s.sideband bi 6 level 0)
  | none => s

/-- A PCI Express or CXL link enters L0s, L1, L1.1 or L1.2 (codes 1 to 4), where its own enable and the standard's permit it (R61):
`permitted` says the standard's other enables do, and `forced` that a device power-state change requires L1, which asks no ASPM
control. -/
def State.lowPower (s : State) (p st : Nat) (permitted forced : Bool) : State :=
  let own := match st with
    | 1 => s.flag F.PCL_PORT_CTRL.L0S_EN p && s.proto p == 0 && !s.flag F.PCL_PORT_STATUS.FLIT p
    | 2 => s.flag F.PCL_PORT_CTRL.L1_EN p
    | _ => s.flag F.PCL_PORT_CTRL.L1SS_EN p
  let must := forced && 2 ≤ st
  let deeper := s.linkState p == 5 && s.fld F.PCL_PORT_STATUS.LPSTATE p == 2 && 3 ≤ st
  if s.proto p = 2 || !s.linkUp p || st = 0 || 4 < st || !(s.active p || deeper) then s
  else if !(own && (permitted || (must && st == 2)) && (must || s.aspmAllows p st)) then s
  else if s.recalOn p && !must && 2 ≤ st then s
  else
    let s1 := (s.whenb must (fun s => s.abortRecal p 3)).setFld F.PCL_PORT_STATUS.STATE p 5
    ((s1.setFld F.PCL_PORT_STATUS.LPSTATE p st).pllUpdate (clusterOf p)).whenb (3 ≤ st) (fun s => s.clkreqTold p false)

/-- A port leaves a low-power state; a stopped PLL restarts first (R62). -/
def State.lowPowerExit (s : State) (p : Nat) : State :=
  if s.linkState p ≠ 5 then s
  else if s.proto p = 2 then s.kflWake (controllerOf p)
  else
    let s1 := ((s.setFld F.PCL_PORT_STATUS.STATE p 3).setFld F.PCL_PORT_STATUS.LPSTATE p 0).pllUpdate (clusterOf p)
    s1.whenb (3 ≤ s.fld F.PCL_PORT_STATUS.LPSTATE p) (fun s => s.clkreqTold p true)

/-! ## Reference clocks (R53) -/

/-- The input whose clock a cluster runs on (R19, R24): the lower cluster's choice for a pair. -/
def State.refInput (s : State) (c : Nat) : Nat :=
  let l := if s.flag F.PCL_CLUSTER_CFG.PAIR_UPPER c then c - 1 else c
  if s.flag F.PCL_CLUSTER_CFG.REFCLK_SEL l then (clustersOf (regionOf l)).headD l else l

/-- The selected clock of a cluster is there. -/
def State.refPresent (s : State) (c : Nat) : Bool := s.pins.refclk.contains (s.refInput c)

/-- A cluster's clock is lost (R53): its ports stand in DETECT until it returns. -/
def State.clusterDark (s : State) (c : Nat) : State :=
  let ps := (List.range 4).map (fun k => 4 * c + k) |>.filter s.live
  let s1 := s.setFld F.PCL_CLUSTER_STATUS.REFCLK_OK c 0
  let s2 := s1.each ps (fun s p => s.raise F.PCL_PORT_EVT.REFCLK_LOSS p)
  let s3 := s2.each (ps.filter s2.linkUp) (fun s p =>
    let s0 := s.journal 0x0104 { port := p }
    if s0.isPoolEdge p then s0.poolDown p false
    else if s0.isHostEdge p then s0.hostDown p true
    else s0.kflBreak (controllerOf p) 2)
  let s4 := s3.each (ps.filter (fun p => s3.linkState p == 2)) (fun s p =>
    if s.proto p = 2 then s.kflFail (controllerOf p) none else s.linkOff p 1)
  s4.pllUpdate c

/-- A KFL port that is enabled trains when its partner and its clock allow (R190). -/
def State.tryTrain (s : State) (p : Nat) : State :=
  let c := controllerOf p
  if s.isFabric p && s.proto p == 2 && s.lst c == 0 && s.linkState p == 1 then s.kflTrain c else s

/-- A cluster's clock is there: its PLL locks, and its ports may train (R53). -/
def State.clusterLit (s : State) (c : Nat) : State :=
  let ps := (List.range 4).map (fun k => 4 * c + k) |>.filter s.live
  let s1 := ((s.setFld F.PCL_CLUSTER_STATUS.REFCLK_OK c 1).arm .perstOut (1000 + c) (us 100)).pllUpdate c
  s1.each ps (fun s p => s.tryTrain p)

/-- REFCLK_OK follows the inputs, outside RESET. -/
def State.refSense (s : State) : State :=
  if s.mode = .reset then s
  else s.each (List.range 36) (fun s c =>
    let ok := s.flag F.PCL_CLUSTER_STATUS.REFCLK_OK c
    let here := s.refPresent c
    if ok && !here then s.clusterDark c else if !ok && here then s.clusterLit c else s)

/-! ## Margining (R60) -/

/-- The error limit of a lane: what the partner set, the base specification's 4 before (PRESUMED, notes/assumptions/20). -/
def State.marginMax (s : State) (l : Nat) : Nat := (look l s.pins.marginLimit).getD 4

/-- The answer to a margin step, timing (type 3) or voltage (type 4): status 3 where the offset is beyond the steps of Table 2.6, else
the errors counted, a free value, with status 0 once they exceed the lane's limit and margining stops, and 1 or 2 while it runs. -/
def State.marginStep (s : State) (l type payload : Nat) : Nat :=
  let steps := if type = 3 then bits payload 0 6 else bits payload 0 7
  let errs := s.free % 64
  if (if type = 3 then 32 else 64) < steps then 0xC0
  else if s.marginMax l < errs then errs else errs + 0x40 * (1 + s.free / 64 % 2)

/-- The answer to a margining command at the receiver of lane `l`: margin type and payload (Table 2.6).  PRESUMED
(notes/assumptions/20): the commands of the PCI Express Base Specification.  Sampling rates, sample counts, the independent error
sampler bit and the progress of a margin step are free values. -/
def State.marginReply (s : State) (p l type payload : Nat) : Nat × Nat :=
  let w := (s.lanesOf p).length
  match type with
  | 1 => (1, match payload with
      | 0x88 => 0x0F + 16 * (s.free % 2)
      | 0x89 => 64
      | 0x8A => 32
      | 0x8B => 50
      | 0x8C => 15
      | 0x90 => w - 1
      | _ => s.free % 256)
  | 2 => (2, payload)
  | 3 => (3, s.marginStep l 3 payload)
  | 4 => (4, s.marginStep l 4 payload)
  | 7 => (7, payload)
  | n => (n, s.free % 256)

/-- What a margining command leaves of lane `l`: the error limit it sets, 1 to 63 as requested, and whether the lane is being margined
(R60): Go to Normal Settings and errors beyond the limit end it. -/
def State.marginHold (s : State) (l type payload : Nat) : State :=
  let off (s : State) : State := s.onPins (fun y => { y with margining := y.margining.filter (· != l) })
  let on (s : State) : State := s.onPins (fun y => { y with margining := l :: y.margining.filter (· != l) })
  if type = 2 && 0xC0 < payload then s.onPins (fun y => { y with marginLimit := put l (payload % 64) y.marginLimit })
  else if type = 2 && payload = 0x0F then off s
  else if type = 3 || type = 4 then
    (let r := s.marginStep l type payload; if r / 64 = 3 then s else if r / 64 = 0 then off s else on s)
  else s

/-- A partner's margining command on a lane (R60, R64): answered at 16 GT/s and above; while a recalibration has cleared Margining Ready
the partner sees Not Ready. -/
def State.marginCommand (s : State) (p lane type payload : Nat) : State :=
  let l := firstLane p + lane
  if s.proto p = 2 || !s.active p || s.fld F.PCL_PORT_STATUS.RATE_NOW p < 4 || (s.lanesOf p).length ≤ lane then s
  else if s.recalOn p then s.emit (.link p (.lane l 0 0))
  else
    let r := s.marginReply p l type payload
    ((s.marginHold l type payload).emit (.link p (.lane l r.1 r.2))).drew

/-! ## The commands -/

/-- PRBS_INJ (R59). -/
def execPrbsInj (lane : Fin 288) (s : State) : Host.Outcome State Fault Refusal := .next (s.prbsInject lane)

/-- PRBS_CLR (R59): whether an error arrives in the same cycle. -/
def execPrbsClr (lane : Fin 288) (errored : Bool) (s : State) : Host.Outcome State Fault Refusal := .next (s.prbsClear lane errored)

/-- PORT_TEST_WRITE (R58). -/
def execPortTestWrite (port : Fin 144) (on : Bool) (s : State) : Host.Outcome State Fault Refusal := .next (s.portTest port on)

/-- RXADAPT_CTRL_WRITE (R55). -/
def execRxadaptCtrlWrite (lane : Fin 288) (value : BitVec 32) (s : State) : Host.Outcome State Fault Refusal :=
  .next (s.rxAdapt lane value.toNat)

/-- LINK_UP (R22): rate code, width, FLIT mode, CXL negotiated, lanes reversed; the serial numbers Malacel reads (R365) and the
transmit settings left by training (R54). -/
def execLinkUp (port : Fin 144) (rate : Fin 8) (width : Fin 17) (flit cxl rev : Bool) (serials : List (Nat × Nat))
    (ffe : List (Nat × BitVec 32)) (s : State) : Host.Outcome State Fault Refusal :=
  .next (s.linkUpAt port rate width flit cxl rev serials ffe).dmRun

/-- RATE_CHANGE (R22): the rate the link returns at, and whether CXL was negotiated (R51). -/
def execRateChange (port : Fin 144) (rate : Fin 8) (cxl : Bool) (s : State) : Host.Outcome State Fault Refusal :=
  .next (s.linkBack port rate (s.fld F.PCL_PORT_STATUS.WIDTH_NOW port) cxl)

/-- L0P_WIDTH_REQUEST (R73). -/
def execL0pWidthRequest (port : Fin 144) (width : Fin 17) (s : State) : Host.Outcome State Fault Refusal := .next (s.l0pWidth port width)

/-- ASPM_L1_ENTRY (R61): the state by its LPSTATE code. -/
def execAspmL1Entry (port : Fin 144) (lpstate : Fin 5) (permitted forced : Bool) (s : State) : Host.Outcome State Fault Refusal :=
  .next (s.lowPower port lpstate permitted forced)

/-- LOW_POWER_EXIT (R62); from L1.2 it wakes Kalnum (Table 13.5). -/
def execLowPowerExit (port : Fin 144) (s : State) : Host.Outcome State Fault Refusal :=
  let l12 := s.linkState port == 5 && s.fld F.PCL_PORT_STATUS.LPSTATE port == 4
  .next ((s.lowPowerExit port).whenb l12 (fun s => s.wakeBy 1 port))

/-- REFCLK_LOSS (R53): the input whose clock is lost. -/
def execRefclkLoss (cluster : Fin 36) (s : State) : Host.Outcome State Fault Refusal :=
  .next ((s.onPins (fun y => { y with refclk := y.refclk.filter (· != cluster.val) })).refSense).dmRun

/-- REFCLK_RETURN (R53). -/
def execRefclkReturn (cluster : Fin 36) (s : State) : Host.Outcome State Fault Refusal :=
  .next (s.onPins (fun y => { y with refclk := cluster.val :: y.refclk.filter (· != cluster.val) })).refSense

/-- MARGIN_COMMAND_RX (R60): port lane, margin type and payload. -/
def execMarginCommandRx (port : Fin 144) (lane : Fin 16) (type : Fin 8) (payload : BitVec 8) (s : State) :
    Host.Outcome State Fault Refusal := .next (s.marginCommand port lane type payload.toNat)

/-- The steps that MARGIN reports of the lanes it names: what the receiver reached, never beyond the STEPS asked for. -/
def State.marginSteps (s : State) (p : Nat) (steps : List Byte) : List Byte :=
  match s.crb.outst.find? (fun (o : Outst) => o.opcode == 0x0206 && o.req.object == p) with
  | none => steps
  | some o => (steps.take ((List.range 16).filter (fun i => bits (bodyNat o.req.body 0 2) i 1 == 1)).length).map (fun b =>
      if bodyNat o.req.body 4 1 < b.toNat then BitVec.ofNat 8 (bodyNat o.req.body 4 1) else b)

/-- MARGIN_DONE (R60): the steps reached on each lane named, in lane order, which the final reply of MARGIN carries a byte each (DESIGN
CHOICE, notes/assumptions/7). -/
def execMarginDone (port : Fin 144) (steps : List (BitVec 8)) (s : State) : Host.Outcome State Fault Refusal :=
  .next (s.finish 0x0206 port stOk 0 (s.marginSteps port steps))

/-- RECAL_HALF_DONE (R63). -/
def execRecalHalfDone (port : Fin 144) (s : State) : Host.Outcome State Fault Refusal := .next (s.recalHalf port)

/-- CDR_LOCK_LOSS (R192): an active lane of a KFL link. -/
def execCdrLockLoss (lane : Fin 288) (s : State) : Host.Outcome State Fault Refusal :=
  let s1 := s.setFld F.PCL_LANE_STATUS.CDR_LOCK lane 0
  .next (match s1.portOfLane lane with
    | some p =>
      let active := (lanesIn (s1.fld F.KFL_LINK_STATUS.LANES_ACTIVE (controllerOf p))).any (fun i => s1.physLane (controllerOf p) i == lane.val)
      if s1.proto p == 2 && active then s1.kflRecover (controllerOf p) else s1
    | none => s)

/-- PRBS_CHECKER_WORD (R59): bit errors of a 64-bit word, and whether the checker has aligned to the pattern. -/
def execPrbsCheckerWord (lane : Fin 288) (errors : Fin 65) (aligned : Bool) (s : State) : Host.Outcome State Fault Refusal :=
  .next (s.prbsWord lane errors aligned)

/-- PERST_OUT_N_RELEASE (R405). -/
def execPerstOutNRelease (port : Fin 144) (s : State) : Host.Outcome State Fault Refusal :=
  .next (if s.mayReleasePerst port then (s.releasePerst port).disarm .perstOut port else s)

end Sys2Proof.Machine
end

