-- ==== Sys2Proof/Machine/Session.lean ====
section
/-! DEFINITION. Edit sessions, commits and the generation swap (R114 to R118): validation of the shadow (R95 to R97, R109, R110,
R116, R151, R232, R262), what a swap does to bindings (R99), routes (R150, R152) and nodes (R244), and quiesce (R117). -/

namespace Sys2Proof.Machine

/-! ## Sessions (R115) -/

/-- The holder used its session: the 10.0 s count again. -/
def State.useSession (s : State) : State :=
  (s.onBnd (fun y => { y with session := y.session.map (fun (x : Session) => { x with lastUse := s.now }) })).arm .session 0 (ms 10000)

/-- The session timer expires (R115); a commit in progress runs to its result first (Table 4.13). -/
def State.sessionTimeout (s : State) : State :=
  if !s.due .session 0 || s.bnd.session.isNone || s.bnd.committing then s
  else s.timedOut

/-- The shadow has been copied (R117). -/
def State.copyDone (s : State) : State :=
  if !s.bnd.copying then s
  else (s.onBnd (fun y => { y with shadow := y.active, copying := false })).setFld F.BND_GEN_STATUS.SHADOW_READY 0 1

/-! ## Validation (R116).  An entry that fails several checks is reported with the lowest REASON, and entries are judged in the
order of TABLE and index (DESIGN CHOICE, notes/assumptions/17) -/

/-- The first of a list of checks that fails. -/
def firstFail : List (Bool × Nat) → Option Nat
  | [] => none
  | (ok, r) :: l => if ok then firstFail l else some r

/-- The valid binding entries of the shadow. -/
def State.newBinds (s : State) : List (Nat × Bind) := s.bnd.shadow.bind.filter (fun e => Bind.valid e.2)

/-- The remote pairs that need a proxy RID: device-end function and LD entries (Table 4.1). -/
def State.pairsOf (s : State) (l : List (Nat × Bind)) : List (Nat × Nat) :=
  (l.filter (fun e => s.isDeviceEnd e.2 && Bind.kind e.2 != 0)).foldl (fun a e =>
    if a.contains (Bind.feid e.2, Bind.vh e.2) then a else a ++ [(Bind.feid e.2, Bind.vh e.2)]) []

/-- Proxy RIDs for remote pairs (Table 4.1). -/
def proxyCount : Nat := 0xFE - 0x90 + 1

/-- A window of a binding in the shadow. -/
def State.newWin (s : State) (w : Nat) : BitVec 512 := s.bnd.shadow.entry .win w

/-- The windows of a binding in the shadow. -/
def newWins (b : Bind) : List Nat := (List.range b.winCount).map (b.winFirst + ·)

/-- Two ranges of addresses overlap. -/
def meetAt (a n b m : Nat) : Bool := a < b + m && b < a + n

/-- Two bindings have the same target: the function, the logical device, or a port and anything on it (R96). -/
def sameTarget (a b : Bind) : Bool :=
  if a.isRemote || b.isRemote then a.isRemote && b.isRemote && a.feid == b.feid && a.remote == b.remote
  else if a.kind == 0 || b.kind == 0 then a.port == b.port
  else if a.kind == 4 || b.kind == 4 then a.kind == b.kind && a.port == b.port && a.ldId == b.ldId
  else a.rid == b.rid

/-- Bindings `a` and `b` are of one VH and have their windows in the address space of one target (R116). -/
def sameSpace (a b : Bind) : Bool :=
  a.vh == b.vh && (if a.isRemote then b.isRemote && a.feid == b.feid && a.remote == b.remote else !b.isRemote && a.port == b.port)

/-- BAR window `i` of binding `b` overlaps another BAR window of the VH in the address space of one target (R116). -/
def State.winMeets (s : State) (b : Bind) (i : Nat) : Bool :=
  (newWins b).contains i && s.newBinds.any (fun e => sameSpace b e.2 && (newWins e.2).any (fun j => i != j &&
    meetAt (winDevBase (s.newWin i)) (winPhys (s.newWin i)) (winDevBase (s.newWin j)) (winPhys (s.newWin j))))

/-- The window of index `w` belongs to binding `i`. -/
def State.ownWin (s : State) (i w : Nat) : Bool := ef (s.newWin w) 0 2 == 1 && winBinding (s.newWin w) == i

/-- What fails in a binding entry. -/
def State.checkBind (s : State) (i : Nat) (b : Bind) : Option Nat :=
  let others := s.newBinds.filter (fun e => e.1 != i)
  let local_ := !b.isRemote && b.kind != 5
  let devEnd := s.isDeviceEnd b
  let vh := !devEnd
  firstFail [
    ((b.kind == 5 && b.port == 145) || b.isRemote || (local_ && s.isPoolEdge b.port), 1),
    (!vh || s.isHostEdge b.vh, 1),
    (!vh || ef (s.bnd.shadow.entry .vdsp (64 * b.vh + b.vdsp)) 0 1 == 1, 3),
    ((newWins b).all (s.ownWin i), 3),
    (b.winCount ≤ 8 && b.winFirst + b.winCount ≤ 16384 && b.vh ≤ 143, 4),
    (!vh || others.all (fun e => s.isDeviceEnd e.2 || !(Bind.vh e.2 == b.vh && Bind.vdsp e.2 == b.vdsp)), 4),
    (others.all (fun e => !sameTarget b e.2), 4),
    ((!b.identity || b.isPortKind) && (!b.idePass || (b.identity && b.isPortKind)), 5),
    (!(devEnd && b.kind != 0) || ((s.pairsOf s.newBinds).take proxyCount).contains (b.feid, b.vh), 6),
    (b.kind ≤ 5, 9),
    (s.inFabric || (!b.isRemote && (b.feid == 0 || b.feid == s.heldFeid)), 10)]

/-- What fails in a vDSP entry. -/
def State.checkVdsp (s : State) (i : Nat) (e : BitVec 512) : Option Nat :=
  let b := s.bnd.shadow.entry .bind (ef e 2 12)
  firstFail [(ef e 0 2 != 2, 3), (ef e 0 2 != 3 || (Bind.valid b && Bind.vh b == i / 64 && Bind.vdsp b == i % 64), 3)]

/-- What fails in a window entry. -/
def State.checkWin (s : State) (i : Nat) (e : BitVec 512) : Option Nat :=
  if ef e 0 1 = 0 then none
  else
    let b := s.bnd.shadow.entry .bind (winBinding e)
    let n := ef e 25 6
    firstFail [
      (Bind.valid b && (ef e 1 1 == 1 || Bind.vh b == ef e 2 8), 3),
      (ef e 1 1 == 0 || ef e 34 12 == 0xFFF || Bind.valid (s.bnd.shadow.entry .bind (ef e 34 12)), 3),
      (ef e 1 1 == 1 || !s.winMeets b i, 2),
      (12 ≤ n && n ≤ 52 && 4 ≤ ef e 180 6 && ef e 180 6 ≤ n && winDevBase e % 2 ^ n == 0, 7)]

/-- What fails in an ID entry. -/
def State.checkId (s : State) (e : BitVec 512) : Option Nat :=
  let b := s.bnd.shadow.entry .bind (ef e 9 12)
  firstFail [(ef e 0 1 == 0 || (Bind.valid b && Bind.vh b == ef e 1 8), 3)]

/-- What fails in an ACU rule (R262). -/
def checkAcu (e : BitVec 512) : Option Nat :=
  firstFail [(ef e 0 1 == 0 || (ef e 64 58 ≤ ef e 128 58 && ef e 1 2 != 3 && !(ef e 1 2 == 1 && 143 < ef e 3 12)), 8)]

/-- What fails in a route entry (R151). -/
def State.checkRoute (s : State) (f : Nat) (e : BitVec 512) : Option Nat :=
  let r := e.toNat
  let slots := (slotsOf r).map (slotOf r)
  firstFail [
    (!routeValid r || (!(routeType r == 0 && slots.isEmpty) && slots.all (fun l => (s.portOfLink l).isSome) &&
      bits r 6 4 ≤ s.fld F.BND_FAB_CFG.HOP_LIMIT && !(routeType r == 1 && f != s.heldFeid) &&
      !(routeType r == 2 && !(0xC00 ≤ f && f ≤ 0xFFE))), 8),
    (routeType r != 3 && routeSpray r != 3, 9)]

/-- The port a node is attached to in the shadow (R231). -/
def State.newAttach (s : State) (n : Nat) : Option Nat :=
  if n < 144 then some n else
    let e := s.bnd.shadow.entry .attach n
    if ef e 8 1 = 1 then some (ef e 0 8) else none

/-- What fails in a binding's SUBSCRIBER (R232). -/
def State.checkNode (s : State) (b : Bind) : Option Nat :=
  firstFail [(b.isRemote || b.subscriber < 144 || s.newAttach b.subscriber == some b.port, 8)]

/-- What fails in an ATTACH entry. -/
def checkAttach (e : BitVec 512) : Option Nat := firstFail [(ef e 8 1 == 0 || ef e 0 8 ≤ 143, 8)]

/-- What fails in a port-map entry. -/
def State.checkMap (s : State) (i : Nat) (e : BitVec 512) : Option Nat :=
  firstFail [(ef e 0 1 == 0 || s.newAttach (ef e 1 12) == some (i / 144), 8)]

/-- The first entry of a table that fails, with its reason: its own checks, and then reserved bits. -/
def firstEntry (t : Table) (code : Nat) (check : Nat → BitVec 512 → Option Nat) : List (Nat × BitVec 512) → Option (Nat × Nat × Nat)
  | [] => none
  | (i, e) :: l =>
    match check i e with
    | some r => some (code, i, r)
    | none => if t.clean e then firstEntry t code check l else some (code, i, 9)

/-- Validate the shadow: TABLE, INDEX and REASON of the first failing entry (R116). -/
def State.validate (s : State) : Option (Nat × Nat × Nat) :=
  let b := s.bnd.shadow
  (firstEntry .bind 0 (fun i e => if Bind.valid e then s.checkBind i e else none) b.bind).orElse fun _ =>
  (firstEntry .vdsp 1 s.checkVdsp b.vdsp).orElse fun _ =>
  (firstEntry .win 2 s.checkWin b.win).orElse fun _ =>
  (firstEntry .id 3 (fun _ e => s.checkId e) b.id).orElse fun _ =>
  (firstEntry .acu 4 (fun _ e => checkAcu e) b.acu).orElse fun _ =>
  (firstEntry .route 5 s.checkRoute b.route).orElse fun _ =>
  (firstEntry .group 5 (fun _ _ => none) b.group).orElse fun _ =>
  (firstEntry .bind 6 (fun _ e => if Bind.valid e then s.checkNode e else none) b.bind).orElse fun _ =>
  (firstEntry .attach 6 (fun _ e => checkAttach e) b.attach).orElse fun _ =>
  firstEntry .portmap 6 s.checkMap b.portmap

/-! ## The swap -/

/-- Two entries stand for the same binding: the same vDSP and the same target. -/
def sameBinding (a b : Bind) : Bool :=
  a.kind == b.kind && a.vh == b.vh && a.vdsp == b.vdsp && a.port == b.port && a.rid == b.rid && a.ldId == b.ldId &&
    a.feid == b.feid && a.remote == b.remote

/-- Bindings of the active bank that the shadow drops. -/
def State.removed (s : State) : List (Nat × Bind) :=
  s.bindings.filter (fun e => let n : Bind := s.bnd.shadow.entry .bind e.1; !(Bind.valid n && sameBinding n e.2))

/-- Bindings that the shadow adds. -/
def State.added (s : State) : List (Nat × Bind) :=
  s.newBinds.filter (fun e => let o : Bind := s.bind e.1; !(Bind.valid o && sameBinding o e.2))

/-- A commit removes a binding that is UNBINDING and whose host has not powered the slot off (Table 4.13). -/
def State.unbindBusy (s : State) : Bool := s.removed.any (fun e => s.bindState e.1 == 4)

/-- A binding out of service leaves its vDSP: the record is dropped, and the vDSP is an empty slot, under DPC once its host clears the
status (Table 4.13, R207). -/
def State.dropRecord (s : State) (e : Nat × Bind) : State :=
  let b : Bind := e.2
  if !s.isDeviceEnd b && s.hostOn b.vh (.vdsp b.vdsp) .dpcStatus then (s.leaveBound e.1).setBindState e.1 0 0
  else s.unbound e.1

/-- A binding leaves with its entry (Table 4.13, notes/assumptions/15): one that carries traffic as a surprise unbind, another
becomes an empty slot.  Its tracker entries and packets end under what their lookups recorded. -/
def State.takeOut (s : State) (e : Nat × Bind) : State :=
  let st := s.bindState e.1
  -- A VH end that is gone no longer holds PERST_OUT_N of the port.
  let s := s.whenb (s.isDeviceEnd e.2) (fun s => s.onPins (fun y => { y with farPerst := y.farPerst.filter (· != Bind.port e.2) }))
  if st = 0 then s
  else if st = 1 || st = 3 then s.surpriseRemoved e.1
  else s.dropRecord e

/-- A binding whose vDSP no longer names it starts to unbind (R99). -/
def State.startUnbind (s : State) (e : Nat × Bind) : State :=
  let b : Bind := e.2
  let v := s.bnd.active.entry .vdsp (64 * b.vh + b.vdsp)
  if s.isDeviceEnd b || ef v 0 2 = 3 then s
  else if s.bindState e.1 = 2 then s.dropRecord e
  else if s.bindState e.1 ≠ 1 then s
  else if b.surprise then s.surpriseUnbind e.1
  else
    let s1 := (s.setBindState e.1 4 0).setHost b.vh (.vdsp b.vdsp) .attention 1
    ((s1.emit (.hostIrq b.vh b.vdsp)).leaveBound e.1).arm .unbindButton e.1 (ms 5000)

/-- A binding comes into being (R99): BOUND, with presence shown at once and the link once its target answers; a device end
tells its VH end. -/
def State.putIn (s : State) (e : Nat × Bind) : State :=
  let b : Bind := e.2
  let up := b.kind == 5 || (!b.isRemote && s.linkUp b.port)
  let s0 := s.onSpg (fun y => { y with telem := drop e.1 y.telem })
  let s1 := (s0.setBindState e.1 1 0).cfgReady e.1 up
  if s1.isDeviceEnd b then
    let s2 := match s1.guardOfBinding e.1 with
      | some g => s1.onGuard g (fun y => { y with farLimit := none })
      | none => s1
    (s2.sideband e.1 1 true 0).sideband e.1 7 up 0
  else (s1.setHost b.vh (.vdsp b.vdsp) .bindGen (s1.fld F.BND_GEN_STATUS.ACTIVE_GEN)).showSlot b.vh b.vdsp true up

/-- The vDSPs whose binding a swap changes show the new generation as BIND_GEN (Table 4.10). -/
def State.bindGens (s : State) (old : Bank) : State :=
  let is_ := ((old.bind ++ s.bnd.active.bind).map (·.1)).eraseDups.filter (fun i => old.entry .bind i != s.bnd.active.entry .bind i)
  let ends := is_.flatMap (fun i => [old.entry .bind i, s.bnd.active.entry .bind i].filter (fun (b : Bind) => b.valid && !s.isDeviceEnd b))
  s.each ends (fun s b => s.setHost (Bind.vh b) (.vdsp (Bind.vdsp b)) .bindGen (s.fld F.BND_GEN_STATUS.ACTIVE_GEN))

/-- Allocate and free the proxy RIDs of remote pairs (Table 4.1). -/
def State.proxyUpdate (s : State) : State :=
  let want := s.pairsOf s.bindings
  let kept := s.bnd.proxies.filter (fun e => want.contains (e.2.1, e.2.2))
  let add (l : List (Nat × Nat × Nat)) (p : Nat × Nat) : List (Nat × Nat × Nat) :=
    if l.any (fun e => e.2 == p) then l
    else match ((List.range proxyCount).map (0x90 + ·)).find? (fun r => !l.any (fun e => e.1 == r)) with
      | some r => l ++ [(r, p.1, p.2)]
      | none => l
  s.onBnd (fun y => { y with proxies := want.foldl add kept })

/-- Route entries whose slots or datelines a swap changes hold pinned packets (R152). -/
def State.pinUpdate (s : State) (old : Bank) : State :=
  let key (r : Nat) : Nat := bits r 0 3 + 8 * (bits r 16 64)
  let fs := ((old.route ++ s.bnd.active.route).map (·.1)).foldl (fun a f => if a.contains f then a else a ++ [f]) []
  let changed := fs.filter (fun f => key (old.entry .route f).toNat != key (s.bnd.active.entry .route f).toNat)
  if !s.inFabric then s
  else s.each changed (fun s f =>
    (s.onFab (fun y => { y with pinSwap := y.pinSwap ++ [(f, s.now, s.fld F.BND_GEN_STATUS.ACTIVE_GEN)] })).arm .pin f (us (10 * s.fld F.BND_FAB_HOLD_CFG.PIN_SETTLE)))

/-- Nodes whose ATTACH changed serve their queues at the old port until they are empty (R244). -/
def State.nodeUpdate (s : State) (old : Bank) : State :=
  let ns := ((old.attach ++ s.bnd.active.attach).map (·.1)).foldl (fun a f => if a.contains f || f < 144 then a else a ++ [f]) []
  let moved := ns.filterMap (fun n =>
    let o := old.entry .attach n
    let w := s.bnd.active.entry .attach n
    let q := ef o 0 8
    if ef o 8 1 = 1 && ef w 0 9 != ef o 0 9 && s.churn.pkts.any (fun (k : Pkt) => k.waitsAt q && s.nodeAt k q == n) then some (n, q) else none)
  s.onQos (fun y => { y with oldPort := y.oldPort.filter (fun e => !moved.contains e) ++ moved })

/-- Packets and tracker entries looked up under an older generation than the active one. -/
def State.older (s : State) : Nat :=
  let g := s.fld F.BND_GEN_STATUS.ACTIVE_GEN
  (s.churn.pkts.filter (fun (k : Pkt) => k.gen != g)).length +
    (s.bnd.trk.filter (fun (e : TrkEntry) => e.state != .quarantine && e.gen != g % 256)).length

/-- The generation swap (R114, R117): the banks exchange at one instant, and what depends on them follows. -/
def State.swap (s : State) : State :=
  let old := s.bnd.active
  let gone := s.removed
  let new := s.added
  let s1 := s.each gone (fun s e => s.takeOut e)
  let s2 := s1.onBnd (fun y => { y with active := s.bnd.shadow, shadow := old, session := none, committing := false, copying := true })
  let g := (s.fld F.BND_GEN_STATUS.ACTIVE_GEN + 1) % 65536
  let s3 := ((s2.setFld F.BND_GEN_STATUS.ACTIVE_GEN 0 g).setFld F.BND_GEN_STATUS.SHADOW_READY 0 0).setFld F.BND_GEN_STATUS.SESSION_OPEN 0 0
  let s4 := ((s3.setFld F.BND_GEN_STATUS.SHADOW_DIRTY 0 0).setFld F.BND_GEN_STATUS.LAST_COMMIT 0 0).disarm .session 0
  let s5 := (s4.proxyUpdate).each new (fun s e => s.putIn e)
  let s6 := s5.each s5.bindings (fun s e => s.startUnbind e)
  let s7 := (((s6.bindGens old).pinUpdate old).nodeUpdate old).renewPeers
  let s8 := (((s7.timeUpdate).dropHolds).limitsAgain).raise F.BND_EVT.COMMIT_DONE
  s8.setFld F.BND_GEN_STATUS.QUIESCED 0 (b2n (s8.older == 0))

/-- Serial numbers read at commit go into the entries of new bindings (Table 4.3). -/
def State.readSerials (s : State) (serials : List (Nat × BitVec 64)) : State :=
  let new := s.added
  s.each (serials.filter (fun e => new.any (·.1 == e.1))) (fun s e =>
    let b := s.bnd.shadow.entry .bind e.1
    s.onBnd (fun y => { y with shadow := y.shadow.write .bind e.1 (BitVec.ofNat 512 (setBits b.toNat 128 64 e.2.toNat)) }))

/-- How the targets of new bindings are reset, as Malacel read it (R122). -/
def State.readMethods (s : State) (methods : List (Nat × Fin 3)) : State :=
  let new := s.added
  let is_ (i : Nat) : Bool := new.any (·.1 == i)
  s.onBnd (fun y => { y with
    methods := y.methods.filter (fun e => !is_ e.1) ++
      (methods.filter (fun e => is_ e.1 && e.2 != 0)).map (fun e => (e.1, e.2.val)) })

/-- The opcode of COMMIT and of QUIESCE. -/
def opCommit : Nat := 0x0301
def opQuiesce : Nat := 0x0303

/-- The commit that runs is that of a Bind vPPB or Unbind vPPB (R299): no COMMIT is outstanding, and its session ends with it. -/
def State.unasked (s : State) : Bool := !s.crb.outst.any (fun (o : Outst) => o.accepted && o.opcode == opCommit)

/-- Validation of a commit ends (R116): the banks swap, or the commit is rejected and the session stays open. -/
def State.commitEnd (s : State) (serials : List (Nat × BitVec 64)) (methods : List (Nat × Fin 3)) : State :=
  if !s.bnd.committing then s
  else
    let open_ (s : State) : State := (s.onBnd (fun y => { y with committing := false })).useSession
    match s.validate with
    | some (t, i, r) =>
      let word := t + 2 ^ 4 * i + 2 ^ 20 * r
      let s1 := ((open_ s).wr R.BND_GEN_REJECT 0 (BitVec.ofNat 32 word)).setFld F.BND_GEN_STATUS.LAST_COMMIT 0 1
      let (st, d) := if r = 5 then (stUnsupported, 0) else if r = 6 then (stResource, 6) else (stParam, 0xFFFF)
      let s2 := (s1.raise F.BND_EVT.COMMIT_REJECT).finishAny opCommit st d (leBytes 4 word)
      s2.whenb s.unasked State.closeSession
    | none =>
      if s.unbindBusy then ((open_ s).finishAny opCommit stBusy 2).whenb s.unasked State.closeSession
      else
        let s1 := ((s.readSerials serials).readMethods methods).swap
        (s1.finishAny opCommit stOk 0 (leBytes 4 (s1.fld F.BND_GEN_STATUS.ACTIVE_GEN))).dmRun

/-! ## Quiesce (R117) -/

/-- The count has reached 0: BND_EVT.QUIESCED, and the end of a quiesce that waits. -/
def State.quiesced (s : State) : State :=
  if s.older ≠ 0 then s
  else
    let s1 := s.whenb (!s.flag F.BND_GEN_STATUS.QUIESCED) (fun s => (s.setFld F.BND_GEN_STATUS.QUIESCED 0 1).raise F.BND_EVT.QUIESCED)
    ({ s1 with timers := s1.timers.filter (fun (t : Timer) => t.kind != TimerKind.quiesce) }).finishAny opQuiesce stOk 0 (leBytes 4 0)

/-- The key of the timer of a request: its requester and TAG. -/
def State.reqKey (s : State) (src : Requester) (tag : BitVec 16) : Nat := tag.toNat + 65536 * s.indexOfReq src

/-- The limits of quiesces that wait have passed: each ends with BUSY. -/
def State.quiesceLimit (s : State) : State :=
  if s.older = 0 then s.quiesced
  else
    let late (o : Outst) : Bool := o.opcode == opQuiesce && s.due .quiesce (s.reqKey o.req.src o.req.tag)
    let s1 := s.finishIf late stBusy 2 (leBytes 4 s.older)
    { s1 with timers := s1.timers.filter (fun (t : Timer) => !(t.kind == TimerKind.quiesce && t.due ≤ s.now)) }

/-! ## The commands -/

/-- SESSION_TIMEOUT (R115). -/
def execSessionTimeout (s : State) : Host.Outcome State Fault Refusal := .next s.sessionTimeout

/-- COMMIT_VALIDATED (R116): what was `found` at the targets of new bindings, by their indexes: the serial number read there, and how the
target is reset: 0 FLR, 1 D3hot to D0, 2 not at all (R122). -/
def execCommitValidated (found : List (Nat × BitVec 64 × Fin 3)) (s : State) : Host.Outcome State Fault Refusal :=
  .next (s.commitEnd (found.map (fun e => (e.1, e.2.1))) (found.map (fun e => (e.1, e.2.2))))

/-- SHADOW_COPY_DONE (R117). -/
def execShadowCopyDone (s : State) : Host.Outcome State Fault Refusal := .next s.copyDone

/-- QUIESCE_DONE (R117). -/
def execQuiesceDone (s : State) : Host.Outcome State Fault Refusal := .next s.quiesced

/-- QUIESCE_LIMIT (R117). -/
def execQuiesceLimit (s : State) : Host.Outcome State Fault Refusal := .next s.quiesceLimit

end Sys2Proof.Machine
end

