-- ==== Sys2Proof/Machine/Power.lean ====
section
/-! DEFINITION. The commands of power and time (chapter 13): DROWSE and the core regulator (R328 to R336), telemetry (R337),
thermal limits (R338), the supply sag (R339, R340), crossings (R341 to R345), the timebase (R347, R348), the core delay
(R31); and the watchdogs (R219). -/

namespace Sys2Proof.Machine

/-! ## Watchdogs (Table 7.11) -/

/-- LAST_KIND and LAST_INDEX of a unit. -/
def watchCode : WatchUnit → Nat × Nat
  | .crossing c => (1, c)
  | .bridge b => (2, b)
  | .lookup => (3, 0)
  | .arbiter => (4, 0)
  | .tracker i => (5, i)
  | .reseq => (6, 0)
  | .scheduler => (7, 0)
  | .engine e => (8, e)
  | .malacel => (9, 0)

/-- Firings of a unit within a time. -/
def State.firedIn (s : State) (kind idx span : Nat) : Nat :=
  (s.err.firings.filter (fun f => f.1 == kind && f.2.1 == idx && decide (s.now < f.2.2 + span))).length

/-- Record a firing. -/
def State.fired (s : State) (u : WatchUnit) : State :=
  let c := watchCode u
  let s1 := s.onErr (fun y => { y with firings := (c.1, c.2, s.now) :: y.firings.filter (fun f => decide (s.now < f.2.2 + ms 60000)) })
  let s2 := ((s1.bump R.ERR_WDOG_CNT).setFld F.ERR_WDOG_STATUS.LAST_KIND 0 c.1).setFld F.ERR_WDOG_STATUS.LAST_INDEX 0 c.2
  (s2.setFld F.ERR_WDOG_STATUS.MAL_RECENT 0 (min 3 (s2.firedIn 9 0 (ms 60000)))).raise F.ERR_EVT.WDOG

/-- Malacel restarts: every request that waits for its answer hears BUSY, DETAIL 0xFFFE, and an open session closes (Table 12.8);
entry to DROWSE that was not accepted ends; its copy of the timebase reads as invalid (R40). -/
def State.malacelRestart (s : State) : State :=
  let s1 := (s.setFld F.MGT_CRB_STATUS.FW_READY 0 0).setFld F.PWR_XD_STATUS.TB_VALID 36 0
  let out := s1.crb.outst
  let wait := s1.crb.ordered ++ s1.crb.drowseHeld ++ s1.crb.forwarded.map (fun (f : Forwarded) => (f.opcode, f.req))
  let s2 := s1.onCrb (fun c => { c with outst := [], ordered := [], drowseHeld := [], forwarded := [] })
  let s3 := s2.each (out.filter (fun (o : Outst) => !o.discard)) (fun s o => s.replyNow o.opcode o.req o.accepted stBusy 0xFFFE [])
  let s4 := s3.each wait (fun s e => s.replyNow e.1 e.2 false stBusy 0xFFFE [])
  let s5 := s4.whenb s4.bnd.session.isSome (fun s => s.closeSession)
  s5.whenb (s5.pwr.drowse == .waiting || s5.pwr.drowse == .lowering) (fun s => s.drowseOff 0)

/-- A port stops with surprise-down containment. -/
def State.portGone (s : State) (p : Nat) : State :=
  let s1 := s.setFld F.PCL_PORT_CTRL.ENABLE p 0
  if s1.isPoolEdge p then s1.poolDown p false
  else if s1.isHostEdge p then s1.hostDown p true
  else s1.kflBreak (controllerOf p) 4

/-- A cluster's crossing watchdog fires: its pointers resynchronise and its ports enter Recovery; the third firing in 1.00 s
disables the ports. -/
def State.crossingFired (s : State) (c : Nat) : State :=
  let ps := (List.range 4).map (fun k => 4 * c + k) |>.filter s.live
  let s1 := (s.spendInjection 0x0602 c).bump R.PWR_XD_RESYNC_CNT c
  if 3 ≤ s1.firedIn 1 c (ms 1000) then
    (s1.each ps (fun s p => (s.journal 0x0602 { port := p }).portGone p)).onErr (fun y => { y with
      firings := y.firings.filter (fun f => !(f.1 == 1 && f.2.1 == c)) })
  else s1.each ps (fun s p =>
    let s2 := (s.journal 0x0602 { port := p }).pcieRecover p
    let s3 := s2.whenb (s2.proto p == 2) (fun s => s.kflRecover (controllerOf p))
    s3.each (s3.bindingsOn p) (fun s e =>
      if s.isDeviceEnd e.2 then s else s.reportVdsp (Bind.vh e.2) (Bind.vdsp e.2) .surpriseDown false))

/-- A watchdog fires (R219). -/
def State.watchdog (s : State) (u : WatchUnit) : State :=
  if s.mode = .reset then s
  else
    let s1 := s.fired u
    let c := watchCode u
    match u with
    | .crossing k => s1.crossingFired k
    | .engine e => s1.engineReset e
    | .malacel =>
      let s2 := (s1.spendInjection 0x0604 0).journal 0x0604 {}
      if 3 ≤ s2.firedIn 9 0 (ms 60000) && s2.mode != .safeHold then s2.malacelRestart.fatal 0x0604 9 0
      else s2.malacelRestart
    | _ => if s1.mode = .safeHold then s1 else s1.fatal 0x0603 c.1 c.2

/-! ## Core delay, temperature, telemetry -/

/-- The largest of a list, with its place: the first of equals. -/
def largest : List Nat → Nat × Nat
  | [] => (0, 0)
  | x :: l => let r := largest l; if l.isEmpty || r.1 ≤ x then (x, 0) else (r.1, r.2 + 1)

/-- New replica readings: Q0 to Q3, then the bridges north, east, south and west (R31). -/
def State.delayUpdate (s : State) (l : List Nat) : State :=
  if s.mode = .reset || s.mode = .drowse || l.length ≠ 8 then s
  else
    let m := largest l
    let s1 := (s.onPwr (fun y => { y with replicas := l })).setFld F.PWR_CORE_DELAY.CORE_DELAY_FACTOR 0 m.1
    ((s1.setFld F.PWR_CORE_DELAY.SOURCE 0 m.2).setFld F.PWR_CORE_DELAY.VALID 0 1).demandStep

/-- A region's temperature changes its alarm and its throttling (R338), and one at WARN_C wakes Kalnum (Table 13.5). -/
def State.tempSample (s : State) (g : Nat) (t : Int) : State :=
  if s.mode = .reset then s
  else
    let hyst := (s.fld F.PWR_THERM_CFG.HYST_C : Int)
    let next (was : Bool) (limit : Nat) : Bool := if was then decide ((limit : Int) - hyst < t) else decide ((limit : Int) ≤ t)
    let warn := next (s.flag F.PWR_THERM_REG.WARN g) (s.fld F.PWR_THERM_CFG.WARN_C)
    let thr := next (s.flag F.PWR_THERM_REG.THROTTLED g) (s.fld F.PWR_THERM_CFG.THROTTLE_C)
    let s1 := s.setFld F.PWR_THERM_REG.TEMP g (BitVec.ofInt 9 t).toNat
    let s2 := (s1.setFld F.PWR_THERM_REG.WARN g (b2n warn)).setFld F.PWR_THERM_REG.THROTTLED g (b2n thr)
    let s3 := s2.setFld F.PWR_STATUS.THROTTLING 0 (b2n ((List.range 12).any (fun r => s2.flag F.PWR_THERM_REG.THROTTLED r)))
    let s4 := s3.whenb (warn && !s.flag F.PWR_THERM_REG.WARN g) (fun s => s.raise F.PWR_EVT.THERM_WARN)
    let s5 := s4.whenb (thr && !s.flag F.PWR_THERM_REG.THROTTLED g) (fun s => s.raise F.PWR_EVT.THERM_THROTTLE)
    s5.whenb (s5.warm g) (fun s => s.wakeBy 8 g)

/-- The listed regulators are read (R337): READ_VOUT, READ_IOUT and READ_TEMPERATURE_1 of each, by rail. -/
def State.pmbusPoll (s : State) (l : List (Nat × Nat × Nat × Nat)) : State :=
  if s.mode = .reset || s.mode = .boot then s
  else
    let s1 := s.each s.pwr.regulators (fun s r => ((s.emit (.pmbus r.addr 0x8B)).emit (.pmbus r.addr 0x8C)).emit (.pmbus r.addr 0x8D))
    s1.onPwr (fun y => { y with regulators := y.regulators.map (fun (r : Regulator) =>
      match l.find? (fun e => e.1 == r.rail) with
      | some (_, v, i, t) => { r with vout := v % 65536, iout := i % 65536, temp := t % 65536 }
      | none => r) })

/-! ## Supply sag (R339, R340, R381) -/

/-- The open image's write stops whole: it stays WRITING with a record that it was fenced, and an FW_FINISH that runs ends with
FENCED. -/
def State.fenceImage (s : State) : State :=
  let i := s.fld F.SEC_IMAGE_STATE.OPEN
  if i = 3 then s
  else
    let s1 := s.onSec (fun y => { y with queue := [], finishing := none, fenced := i :: y.fenced.filter (· != i) })
    let s2 := (s1.setFld F.SEC_IMAGE_STATE.WRITE_FENCED 0 1).setFld F.SEC_IMAGE_STATE.QUEUE_KIB 0 0
    ((s2.raise F.SEC_EVT.WRITE_FENCED).journal 0x0608).finishAny 0x0807 stFenced

/-- The sag is in force. -/
def State.sagOn (s : State) : State :=
  if s.flag F.PWR_STATUS.SAG then s
  else
    let s1 := (s.setFld F.PWR_STATUS.SAG 0 1).setFld F.PWR_STATUS.NV_FENCED 0 1
    ((s1.bump R.PWR_SAG_CNT).raise F.PWR_EVT.SAG_START).fenceImage

/-- VDD_IO falls below 1.71 V or PWR_WARN_N asserts; in RESET and BOOT the firmware records it once it runs (Table 16.12). -/
def State.sagStart (s : State) : State :=
  let s1 := s.onPins (fun y => { y with sag := true })
  if s1.mode = .reset || s1.mode = .boot then s1 else s1.sagOn

/-- The supply has been good for CLEAR_MS: the fence opens and held commits are retried. -/
def State.sagEnd (s : State) : State :=
  let s1 := s.onPins (fun y => { y with sag := false })
  if !s1.flag F.PWR_STATUS.SAG then s1
  else
    let held := s1.err.flashHeld
    let s2 := ((s1.setFld F.PWR_STATUS.SAG 0 0).setFld F.PWR_STATUS.NV_FENCED 0 0).raise F.PWR_EVT.SAG_END
    let s3 := (s2.onErr (fun y => { y with flashHeld := [] })).setFld F.ERR_STATUS.FLASH_PENDING 0 0
    s3.each held (fun s e => s.flashFatal e)

/-! ## Timebase (R346 to R348) -/

/-- A write of PWR_TB_SET_HI steps the timebase to _HI and _LO (R347). -/
def State.tbSet (s : State) (hi : Word) : State :=
  let s1 := s.wr R.PWR_TB_SET_HI 0 hi
  (s1.tbStep (BitVec.ofNat 64 (hi.toNat * 2 ^ 32 + (s1.rd R.PWR_TB_SET_LO).toNat))).tbTrue

/-- The offset of an edge from the nearest second. -/
def ppsOffset (t : Nat) : Int := let r := t % 1000000000; if r ≤ 500000000 then (r : Int) else (r : Int) - 1000000000

/-- An edge on PPS_IN (R348): with three offsets within 100 ns of each other the lock sets; under SRC 1, or SRC 3 with the lock,
the timebase is corrected. -/
def State.ppsEdge (s : State) : State :=
  if s.mode = .reset then s
  else
    let d := ppsOffset s.tb.toNat
    let l := (d :: s.pwr.ppsOffsets).take 3
    let near := l.length == 3 && l.all (fun a => l.all (fun b => decide ((a - b).natAbs ≤ 100)))
    let s1 := ((s.onPwr (fun y => { y with ppsOffsets := l })).arm .pps 0 (ms 2000)).wr R.PWR_TB_OFFSET 0 (BitVec.ofInt 32 d)
    let s2 := s1.whenb (near && !s1.flag F.PWR_TB_STATUS.PPS_LOCK) (fun s => ((s.setFld F.PWR_TB_STATUS.PPS_LOCK 0 1).tbTrue).timeUpdate)
    let src := s2.fld F.PWR_TB_CFG.SRC
    if src = 1 || (src = 3 && s2.flag F.PWR_TB_STATUS.PPS_LOCK) then
      (s2.tbCorrect (-d)).wr R.PWR_TB_OFFSET 0 (BitVec.ofInt 32 d)
    else s2

/-- 2.00 s have passed without an edge (R348). -/
def State.ppsLost (s : State) : State :=
  if !s.due .pps 0 then s
  else
    let s1 := (s.disarm .pps 0).onPwr (fun y => { y with ppsOffsets := [] })
    if s1.flag F.PWR_TB_STATUS.PPS_LOCK then
      ((s1.setFld F.PWR_TB_STATUS.PPS_LOCK 0 0).raise F.PWR_EVT.PPS_LOST).timeUpdate
    else s1

/-! ## Crossings (R342 to R345).  A channel's key is 64 × domain + channel -/

/-- A write of a value channel: into HOLD when it is free, else into NEXT, over a value that has not crossed. -/
def State.valueWrite (s : State) (d k : Nat) (w : Word) : State :=
  let v := (look k s.pwr.values).getD {}
  let set (v : ValueChan) (s : State) : State := s.onPwr (fun y => { y with values := put k v y.values })
  match v.hold, v.next with
  | none, _ => set { v with hold := some w } s
  | some _, none => set { v with next := some w } s
  | some _, some _ => set { v with next := some w } (s.bump16 F.PWR_XD_SUPERSEDED.COUNT d 1)

/-- A domain that keeps a copy of the timebase (R40): every one but the timebase's own, 37. -/
def keepsTime (d : Nat) : Bool := d != 37

/-- A value transfer, with the values the source wrote until its acknowledgement: HOLD crosses, and NEXT moves to HOLD (R343).  The
timebase crosses on channel 0 (DESIGN CHOICE, notes/assumptions/66), and with it a domain's copy turns valid (R40). -/
def State.valueTransfer (s : State) (d k : Nat) (written : List Word) : State :=
  let s0 := s.each written (fun s w => s.valueWrite d k w)
  let s1 := s0.whenb (k % 64 == 0 && keepsTime d && !s0.flag F.PWR_XD_STATUS.IN_RESET d) (fun s => s.setFld F.PWR_XD_STATUS.TB_VALID d 1)
  s1.onPwr (fun y => { y with values := alter k (fun (v : ValueChan) =>
    { hold := v.next, next := none, dest := v.hold <|> v.dest }) y.values })

/-- Pulses added to a pending count: at 65,535 it stops and sets OVF (R344). -/
def EventChan.add (e : EventChan) (n : Nat) : EventChan :=
  { e with pend := min 65535 (e.pend + n), ovf := e.ovf || decide (65535 ≤ e.pend + n) }

/-- PWR_XD_EVT.PEND of a domain: the largest pending count. -/
def State.showPend (s : State) (d : Nat) : State :=
  s.setFld F.PWR_XD_EVT.PEND d
    (((s.pwr.events.filter (fun e => e.1 / 64 == d)).map (fun e => e.2.pend)).foldl max 0)

/-- PWR_XD_EVT.OVF of a domain is set. -/
def State.xdOvf (s : State) (d : Nat) : State :=
  if s.flag F.PWR_XD_EVT.OVF d then s else (s.setFld F.PWR_XD_EVT.OVF d 1).raise F.PWR_EVT.XING_OVF

/-- An event transfer: the pulses of before its start cross with OVF, and those during it stay for the next (R344). -/
def State.eventTransfer (s : State) (d k before during : Nat) : State :=
  let e := ((look k s.pwr.events).getD {}).add before
  let s1 := s.onPwr (fun y => { y with
    events := put k (({ pend := 0, ovf := false, counted := e.counted + e.pend } : EventChan).add during) y.events })
  (s1.whenb e.ovf (fun s => s.xdOvf d)).showPend d

/-- A queue transfer: entries that arrived join the queue, and the one at its head crosses (R342). -/
def State.queueTransfer (s : State) (k : Nat) (arrivals : List Word) : State :=
  let q := (look k s.pwr.queues).getD {}
  s.onPwr (fun y => { y with queues := put k (match q.entries ++ arrivals with
    | [] => { q with entries := [] }
    | w :: l => { entries := l, crossed := some w }) y.queues })

/-- The channels of a domain resynchronise (R345): queue entries that had not crossed are dropped; a source that was reset loses
its values and its pending counts, and otherwise every value is sent again.  A domain's copy of the timebase stays invalid until its
first transfer after this (R40). -/
def State.resync (s : State) (d : Nat) (sourceReset : Bool) : State :=
  let mine {α : Type} (f : α → α) (l : List (Nat × α)) : List (Nat × α) :=
    l.map (fun e => if e.1 / 64 == d then (e.1, f e.2) else e)
  let s1 := s.onPwr (fun y => { y with
    queues := mine (fun (q : QueueChan) => { q with entries := [] }) y.queues
    values := mine (fun (v : ValueChan) =>
      if sourceReset then { v with hold := none, next := none }
      else { hold := none, next := none, dest := v.next <|> v.hold <|> v.dest }) y.values
    events := if sourceReset then mine (fun (e : EventChan) => { e with pend := 0, ovf := false }) y.events else y.events })
  let s2 := ((s1.whenb sourceReset (fun s => s.xdOvf d)).showPend d).bump R.PWR_XD_RESYNC_CNT d
  (s2.setFld F.PWR_XD_STATUS.IN_RESET d 0).setFld F.PWR_XD_STATUS.TB_VALID d 0

/-! ## The commands -/

/-- PWR_TB_SET (R347). -/
def execPwrTbSet (hi : BitVec 32) (s : State) : Host.Outcome State Fault Refusal := .next (s.tbSet hi)

/-- WATCHDOG_FIRE (R219). -/
def execWatchdogFire (u : WatchUnit) (s : State) : Host.Outcome State Fault Refusal := .next (s.watchdog u).dmRun

/-- REGION_TEMP_SAMPLE (R338). -/
def execRegionTempSample (region : Fin 12) (temp : BitVec 9) (s : State) : Host.Outcome State Fault Refusal :=
  .next (s.tempSample region temp.toInt)

/-- DROWSE_AUTO_IDLE (R328). -/
def execDrowseAutoIdle (s : State) : Host.Outcome State Fault Refusal :=
  .next (if s.due .autoIdle 0 && s.idleCheck.running .autoIdle 0 && !s.transition then (s.disarm .autoIdle 0).drowseAsk else s)

/-- DROWSE_ENTRY_WAIT_END (R328). -/
def execDrowseEntryWaitEnd (s : State) : Host.Outcome State Fault Refusal := .next s.drowseWaitEnd

/-- DROWSE_WAKE_SOURCE (R331): the sources that fire in one instant, by code and ID; the lowest code is recorded (R332). -/
def execDrowseWakeSource (sources : List (Fin 11 × BitVec 12)) (s : State) : Host.Outcome State Fault Refusal :=
  let l := sources.filter (fun e => e.1.val != 0 && e.1.val != 9 && (e.1.val != 7 || (look e.2.toNat s.pins.gpio).elim false (fun g => g.1 == 3)))
  .next (s.each ((List.range 11).flatMap (fun c => l.filter (fun e => e.1.val == c))) (fun s e => s.wakeBy e.1 e.2.toNat))

/-- DROWSE_WAKE_TIMER (R331). -/
def execDrowseWakeTimer (s : State) : Host.Outcome State Fault Refusal :=
  .next (if s.due .wake 0 then (s.disarm .wake 0).wakeBy 6 0 else s)

/-- AVS_ACK (R333): bus AVS0 or AVS1. -/
def execAvsAck (bus : Fin 2) (s : State) : Host.Outcome State Fault Refusal := .next (s.avsAck bus)

/-- AVS_ACK_TIMEOUT (R333). -/
def execAvsAckTimeout (bus : Fin 2) (s : State) : Host.Outcome State Fault Refusal := .next (s.avsTimeout bus)

/-- VPOL_INTERVAL (R335). -/
def execVpolInterval (s : State) : Host.Outcome State Fault Refusal := .next (s.vpol true).pace

/-- PMBUS_POLL (R337): rail, READ_VOUT, READ_IOUT, READ_TEMPERATURE_1. -/
def execPmbusPoll (readings : List (Nat × Nat × Nat × Nat)) (s : State) : Host.Outcome State Fault Refusal :=
  .next (s.pmbusPoll readings)

/-- SAG_START (R339). -/
def execSagStart (s : State) : Host.Outcome State Fault Refusal := .next s.sagStart

/-- SAG_CLEAR_EXPIRY (R340). -/
def execSagClearExpiry (s : State) : Host.Outcome State Fault Refusal := .next s.sagEnd

/-- PPS_EDGE (R348). -/
def execPpsEdge (s : State) : Host.Outcome State Fault Refusal := .next s.ppsEdge

/-- PPS_LOST (R348). -/
def execPpsLost (s : State) : Host.Outcome State Fault Refusal := .next s.ppsLost

/-- CORE_DELAY_UPDATE (R31). -/
def execCoreDelayUpdate (q0 q1 q2 q3 north east south west : BitVec 16) (s : State) : Host.Outcome State Fault Refusal :=
  .next (s.delayUpdate ([q0, q1, q2, q3, north, east, south, west].map (·.toNat)))

/-- VALUE_TRANSFER (R343). -/
def execValueTransfer (domain : Fin 40) (channel : Fin 64) (written : List (BitVec 32)) (s : State) :
    Host.Outcome State Fault Refusal := .next (s.valueTransfer domain (64 * domain + channel) written)

/-- EVENT_TRANSFER (R344): pulses before the transfer starts, and from that instant on. -/
def execEventTransfer (domain : Fin 40) (channel : Fin 64) (before during : Nat) (s : State) :
    Host.Outcome State Fault Refusal := .next (s.eventTransfer domain (64 * domain + channel) before during)

/-- QUEUE_TRANSFER (R342). -/
def execQueueTransfer (domain : Fin 40) (channel : Fin 64) (arrivals : List (BitVec 32)) (s : State) :
    Host.Outcome State Fault Refusal := .next (s.queueTransfer (64 * domain + channel) arrivals)

/-- XD_RESYNC (R345): the side that leaves reset is the channels' source, or the other one. -/
def execXdResync (domain : Fin 40) (sourceReset : Bool) (s : State) : Host.Outcome State Fault Refusal :=
  .next (s.resync domain sourceReset)

end Sys2Proof.Machine
end

