-- ==== Sys2Proof/Machine/SlotCmds.lean ====
section
/-! DEFINITION. The commands of the slot power guards (chapter 14): presence, faults, sense frames and the timers of the guard
state machine. -/

namespace Sys2Proof.Machine

/-- The opcode of SLOT_POWER. -/
def opSlotPower : Nat := 0x0702

/-- The host sees Presence Detect Changed on the vDSP of the slot's port binding; a device end tells its VH end (Table 14.2). -/
def State.gPresence (s : State) (g : Nat) (level : Bool) : State :=
  match s.gBinding g with
  | none => s
  | some (bi, b) => if s.isDeviceEnd b then s.sideband bi 1 level 0 else s.setHost b.vh (.vdsp b.vdsp) .presenceChanged 1

/-- The slot becomes seated: debounce starts, and while the retry timer runs it is a reseat (R353, R361). -/
def State.gSeated (s : State) (g : Nat) : State :=
  let st := s.gState g
  let s1 := (s.onGuard g (fun y => { y with seatedAt := some s.now })).arm .debounce g (ms (s.fld F.SPG_SLOT_TIME.DEBOUNCE_MS g))
  if st = gDisabled then s1
  else if st = gEmpty then s1.gByPresence g
  else if st = gRetry && s1.running .retry g && !s1.due .retry g && !s1.flag F.SPG_SLOT_STATE.RESEAT_IN_RETRY g then
    (((s1.setFld F.SPG_SLOT_STATE.RESEAT_IN_RETRY g 1).gRecord g 0x070A).raise F.SPG_SLOT_EVT.RESEAT g).gPresence g true
  else s1

/-- The slot is no longer seated (R353, R362). -/
def State.gUnseated (s : State) (g : Nat) : State :=
  let st := s.gState g
  let s1 := ((s.onGuard g (fun y => { y with seatedAt := none })).setFld F.SPG_SLOT_STATE.CONFIRMED g 0).disarm .debounce g
  if s1.powered g then
    (((s1.bump R.SPG_SLOT_REMOVE_CNT g).raise F.SPG_SLOT_EVT.REMOVED g).gFault g 0x0709).gPresence g false
  else if st = gDebounce || st = gReadyOff then (s1.gSet g gEmpty).gLapse g 7
  else s1

/-- A presence pin changes. -/
def State.presence (s : State) (g : Nat) (l d : Bool) : State :=
  let was := s.seated g
  let s1 := (s.setFld F.SPG_SLOT_STATE.PRSNT_L g (b2n l)).setFld F.SPG_SLOT_STATE.PRSNT_S g (b2n d)
  let s2 := if was && !(l && d) then s1.gUnseated g else if !was && l && d then s1.gSeated g else s1
  s2.wakeBy 3 g

/-- The slot has stayed seated for DEBOUNCE_MS: it is confirmed. -/
def State.gConfirm (s : State) (g : Nat) : State :=
  if !s.due .debounce g || !s.seated g then s
  else
    let s1 := ((s.disarm .debounce g).setFld F.SPG_SLOT_STATE.CONFIRMED g 1).raise F.SPG_SLOT_EVT.CONFIRMED g
    if s1.gState g = gDebounce then s1.gReady g else s1.gLeaveRetry g

/-- The guard went to RETRY for a removal in this very instant. -/
def State.gJustRemoved (s : State) (g : Nat) : Bool :=
  s.gState g == gRetry && s.fld F.SPG_SLOT_FAULT.CLASS g == 9 &&
    s.timers.any (fun (t : Timer) => t.kind == .retry && t.idx == g && t.due == s.now + ms (s.fld F.SPG_SLOT_RETRY.RETRY_MS g))

/-- FAULT_IN_N asserts (R359); with a removal in the same instant it counts as 0x0701 (Table 14.7). -/
def State.gFaultIn (s : State) (g : Nat) : State :=
  let s1 := s.onGuard g (fun y => { y with faultIn := true })
  if s1.mode = .reset then s1
  else (if s1.powered g || s1.gJustRemoved g then s1.gFault g 0x0701 else s1.gRecord g 0x070D).wakeBy 4 g

/-- A sense frame arrives (R360, R366); injections of class 0x0701 and 0x0702 strike here (Table 12.13). -/
def State.senseFrame (s : State) (g : Nat) (f : BitVec 64) : State :=
  if s.mode = .reset || s.gState g = gDisabled then s
  else if !s.goodFrame g f then s.badFrame g
  else if s.injected 0x0701 g && s.powered g then (s.spendInjection 0x0701 g).gFault g 0x0701
  else if s.injected 0x0702 g && s.gState g = gOn then
    let above := s.fld F.SPG_SLOT_ELEC.OC_10MA g * 10 / 4 + 1
    let s1 := s.goodSample g (BitVec.ofNat 64 (setBits f.toNat 48 16 above))
    if s1.gState g = gOn then s1 else s1.spendInjection 0x0702 g
  else s.goodSample g f

/-- RAMP ends RAMP_MS after its entry (R357). -/
def State.gRampEnd (s : State) (g : Nat) : State :=
  if !s.due .ramp g || s.gState g ≠ gRamp then s
  else if 100 * s.fld F.SPG_SLOT_TELEM0.VOUT g < 95 * s.fld F.SPG_SLOT_ELEC.VIN_MV g then (s.disarm .ramp g).gFault g 0x0705
  else
    let s1 := ((s.disarm .ramp g).gSet g gOn).onGuard g (fun y => { y with wanted := false })
    let s2 := (s1.raise F.SPG_SLOT_EVT.POWER_ON g).arm .perst g (ms (s1.fld F.SPG_SLOT_RETRY.PERST_MS g))
    ((s2.arm .slotReport g (ms 10)).disarm .slotRequest g).finish opSlotPower g stOk

/-- PERST_MS after the entry to ON the guard lets the port train (R358); a disabled port keeps PERST_OUT_N low (R405). -/
def State.gPerst (s : State) (g : Nat) : State :=
  if !s.due .perst g || s.gState g ≠ gOn then s
  else
    let p := s.gPort g
    let s1 := (s.disarm .perst g).setFld F.SPG_SLOT_STATE.PERST_REL g 1
    s1.whenb (s1.mayReleasePerst p) (fun s => s.releasePerst p)

/-- The retry timer expires (R361). -/
def State.gRetryEnd (s : State) (g : Nat) : State :=
  if !s.due .retry g || s.gState g ≠ gRetry then s
  else if !s.seated g then (s.disarm .retry g).gSet g gEmpty
  else s.gLeaveRetry g

/-- An orderly power-off switches the slot (R355, step 2). -/
def State.gGateOff (s : State) (g : Nat) : State :=
  if !s.due .powerGate g || !(s.guard g).offing then s
  else ((s.disarm .powerGate g).gSet g gReadyOff).arm .powerOff g (ms 1000)

/-- The device end of a remote port binding reports the slot's power every 10.0 ms while the slot is ON (R368). -/
def State.gReport (s : State) (g : Nat) : State :=
  if s.gState g ≠ gOn || (s.running .slotReport g && !s.due .slotReport g) then s
  else
    let s1 := s.arm .slotReport g (ms 10)
    match s1.gBinding g with
    | some (bi, b) => if s1.isDeviceEnd b then s1.sideband bi 0x10 false (s1.guard g).meanP else s1
    | none => s1

/-! ## The commands -/

/-- PRESENCE_CHANGE (R353). -/
def execPresenceChange (g : Fin 24) (prsntL prsntS : Bool) (s : State) : Host.Outcome State Fault Refusal :=
  .next (s.presence g prsntL prsntS).dmRun

/-- DEBOUNCE_EXPIRY (R353). -/
def execDebounceExpiry (g : Fin 24) (s : State) : Host.Outcome State Fault Refusal := .next (s.gConfirm g)

/-- FAULT_IN_ASSERT (R359). -/
def execFaultInAssert (g : Fin 24) (s : State) : Host.Outcome State Fault Refusal := .next (s.gFaultIn g).dmRun

/-- FAULT_IN_DEASSERT (R361). -/
def execFaultInDeassert (g : Fin 24) (s : State) : Host.Outcome State Fault Refusal :=
  .next ((s.onGuard g (fun y => { y with faultIn := false })).gLeaveRetry g)

/-- SENSE_FRAME_RX (R366). -/
def execSenseFrameRx (g : Fin 24) (frame : BitVec 64) (s : State) : Host.Outcome State Fault Refusal :=
  .next (s.senseFrame g frame).dmRun

/-- PROOFING_TIMEOUT (R356). -/
def execProofingTimeout (g : Fin 24) (s : State) : Host.Outcome State Fault Refusal :=
  .next (if s.due .proofing g && s.gState g = gProofing then s.gFault g 0x0704 else s)

/-- RAMP_END (R357). -/
def execRampEnd (g : Fin 24) (s : State) : Host.Outcome State Fault Refusal := .next (s.gRampEnd g)

/-- PERST_MS_EXPIRY (R358). -/
def execPerstMsExpiry (g : Fin 24) (s : State) : Host.Outcome State Fault Refusal := .next (s.gPerst g)

/-- RETRY_TIMER_EXPIRY (R361). -/
def execRetryTimerExpiry (g : Fin 24) (s : State) : Host.Outcome State Fault Refusal := .next (s.gRetryEnd g)

/-- POWEROFF_GATE_DELAY (R355). -/
def execPoweroffGateDelay (g : Fin 24) (s : State) : Host.Outcome State Fault Refusal := .next (s.gGateOff g)

/-- POWEROFF_TIMEOUT (R355). -/
def execPoweroffTimeout (g : Fin 24) (s : State) : Host.Outcome State Fault Refusal :=
  .next (if s.due .powerOff g && (s.guard g).offing then s.gOffDone g else s)

/-- SLOT_REQUEST_LAPSE (R355). -/
def execSlotRequestLapse (g : Fin 24) (s : State) : Host.Outcome State Fault Refusal :=
  .next (if !s.due .slotRequest g then s
    else if s.gState g = gEmpty || s.gState g = gDebounce then s.gLapseOne g else s.disarm .slotRequest g)

/-- SLOT_POWER_REPORT_TIMER (R368). -/
def execSlotPowerReportTimer (g : Fin 24) (s : State) : Host.Outcome State Fault Refusal := .next (s.gReport g)

end Sys2Proof.Machine
end

