-- ==== Sys2Proof/Machine/Cfg.lean ====
section
/-! DEFINITION. Configuration through Corber and the board record: the ranges of the CO fields (the register tables), the rules of
each group of registers, and what a change of them does (R16, R17, R21, R26, R44 to R48, R75, R76, R80, R112, R129 to R131, R230,
R235, R243, R352, R364). -/

namespace Sys2Proof.Machine

/-! ## Answers -/

/-- What a request comes to: the state after it, and its status, DETAIL and reply data; `after` is what an ACCEPTED operation does
once its first reply has left. -/
structure Ans where
  s : State
  status : Nat := 0
  detail : Nat := 0
  data : List Byte := []
  after : Option (State → State) := none

/-- Done in full. -/
def ok (s : State) (data : List Byte := []) : Ans := { s := s, data := data }

/-- Refused: nothing changes. -/
def no (s : State) (status detail : Nat) (data : List Byte := []) : Ans := { s := s, status := status, detail := detail, data := data }

/-- INVALID_PARAM with the offset of the first bad field; 0xFFFF where none can be named. -/
def bad (s : State) (off : Nat) : Ans := no s stParam off

/-- ACCEPTED: the operation starts once the first reply has left. -/
def started (s : State) (f : State → State) : Ans := { s := s, status := stAccepted, after := some f }

/-! ## Ranges of fields -/

/-- The bits of a register whose fields have certain access codes. -/
def RegDesc.accMask (r : RegDesc) (p : Access → Bool) : Nat :=
  r.fields.foldl (fun m f => if p f.acc then setBits m f.lo f.width (2 ^ f.width - 1) else m) 0

/-- Fields of software's: CO, RW and RWS. -/
def isSet : Access → Bool
  | .rw | .co | .rws => true
  | _ => false

/-- The stated ranges of CO fields that do not use every value of their width. -/
def rangesA : List (Fld × Nat × Nat) := [
  (F.PCL_CLUSTER_CFG.CLK_MODE, 0, 2), (F.PCL_CLUSTER_CFG.CEIL_KFL, 0, 2), (F.PCL_SLOT_CFG.WIDTH, 0, 5), (F.PCL_SLOT_CFG.ROLE, 0, 2),
  (F.PCL_SLOT_CFG.PROTO, 0, 2), (F.PCL_SLOT_CFG.MAX_RATE, 0, 9), (F.PCL_SLOT_CFG.KFL_LINK, 0, 71),
  (F.CHN_MC_CFG.POOL_UNITS, 1, 32), (F.CHN_MC_CFG.HEAD_UNITS, 1, 32), (F.CHN_MC_TIMER.TIMER_US, 0, 100000),
  (F.CHN_ROT_CTRL.INTERVAL_MS, 1, 1000), (F.CHN_ROT_CTRL.DRAIN_US, 1, 255), (F.CHN_ROT_CTRL.CE_LIMIT, 1, 255),
  (F.CHN_PORT_CFG.ALPHA, 0, 5), (F.CHN_PORT_CFG.RT_NS, 1, 16383), (F.BND_TRK_TIMEOUT.TIMEOUT_US, 50, 4000000),
  (F.BND_FAB_CFG.FEID, 0, 0x7FF), (F.BND_FAB_CFG.HOP_LIMIT, 2, 15), (F.BND_FAB_TIMERS.HB, 1, 1000), (F.BND_FAB_TIMERS.HB_MISS, 2, 15),
  (F.BND_FAB_TIMERS.SETTLE, 1, 1000), (F.BND_FAB_RESEQ_CFG.SKEW, 10, 4000), (F.BND_FAB_RESEQ_CFG.HOLE, 1, 1023),
  (F.BND_FAB_RESEQ_CFG.IDLE, 1, 255), (F.BND_FAB_HOLD_CFG.UNREACH_HOLD, 1, 1000), (F.BND_FAB_HOLD_CFG.PIN_SETTLE, 1, 1000),
  (F.BND_FAB_HOLD_CFG.FLOW_RETRY, 1, 63), (F.KFL_LINK_CFG.COMP_INTERVAL, 128, 4095), (F.KFL_LINK_CFG.WHEY_MAX, 1, 3),
  (F.KFL_LINK_CFG.FEC_UE_LIMIT, 1, 63), (F.KFL_TIMER_A.REPLAY_TO, 1, 256), (F.KFL_TIMER_A.REPLAY_NUM, 1, 15),
  (F.KFL_TIMER_A.RECOV_TO, 20, 1000), (F.KFL_TIMER_B.CREDIT_TO, 5, 10000), (F.KFL_TIMER_C.STBY_IDLE, 1, 1000),
  (F.KFL_TIMER_C.DEEP_IDLE, 1, 1000), (F.KFL_TIMER_C.TIME_INTERVAL, 1, 255), (F.ERR_CFG.COALESCE_MS, 1, 255),
  (F.ERR_CFG.WFN_HOLDOFF_US, 1, 255), (F.ERR_WDOG_CFG.XING_US, 1, 255), (F.ERR_WDOG_CFG.CORE_US, 5, 255),
  (F.ERR_WDOG_CFG.DM_100US, 1, 255), (F.ERR_WDOG_CFG.MAL_10MS, 5, 255)]

/-- More ranges. -/
def rangesB : List (Fld × Nat × Nat) := [
  (F.QOS_PORT_CFG.STARVE_US, 1, 255), (F.QOS_PORT_RATE.RATE, 0, 2048000), (F.QOS_PORT_BURST.SIZE, 4224, 16777215),
  (F.QOS_GCL_CYCLE.CYCLE_NS, 1000, 1000000000), (F.QOS_POL_CFG.HOLD_MAX, 1, 65535), (F.QOS_POL_CIR.RATE, 0, 2048000),
  (F.QOS_POL_PIR.RATE, 1, 2048000), (F.QOS_POL_CBS.SIZE, 4224, 16777215), (F.QOS_POL_PBS.SIZE, 4224, 16777215),
  (F.QOS_NODE_CFG.WEIGHT, 1, 1023), (F.QOS_NODE_RATE.RATE, 0, 2048000), (F.QOS_NODE_BURST.SIZE, 4224, 16777215),
  (F.QOS_NODE_CS_RATE.RATE, 0, 2048000), (F.QOS_SQ_CFG.WEIGHT, 1, 1023), (F.QOS_SQ_RATE.RATE, 0, 2048000),
  (F.QOS_SQ_BURST.SIZE, 4224, 16777215), (F.QOS_SQ_CS_RATE.RATE, 0, 2048000), (F.SVC_CFG.MPS, 0, 5), (F.SVC_CFG.MRRS, 0, 5),
  (F.SVC_CFG.QUEUE_EXEC_MAX, 1, 255), (F.SVC_CFG.TRC_AGE_US, 1, 255), (F.SVC_FN_CFG.WEIGHT, 1, 1023), (F.SVC_FN_CFG.RATE, 0, 800),
  (F.PWR_VPOL_CFG.VMIN_MV, 600, 850), (F.PWR_VPOL_CFG.VMAX_MV, 600, 850), (F.PWR_VPOL_CFG.DOWN_HOLD, 1, 15),
  (F.PWR_VPOL_TIME.INTERVAL_US, 10, 1000), (F.PWR_VPOL_TIME.STEP_MV, 1, 15), (F.PWR_VPOL_TIME.AVS_ACK_US, 10, 1000),
  (F.PWR_SAG_CFG.CLEAR_MS, 1, 255), (F.PWR_THERM_CFG.WARN_C, 100, 150), (F.PWR_THERM_CFG.THROTTLE_C, 151, 154),
  (F.PWR_THERM_CFG.THROTTLE_PCT, 10, 100), (F.PWR_THERM_CFG.HYST_C, 1, 15), (F.PWR_DROWSE_CFG.AUTO_IDLE_MS, 1, 255),
  (F.PWR_DROWSE_CFG.ENTRY_WAIT_MS, 1, 127), (F.PWR_TB_CFG.SLEW_PPM, 1, 200), (F.SPG_SLOT_CFG.PORT, 0, 143),
  (F.SPG_SLOT_ELEC.VIN_MV, 1000, 60000), (F.SPG_SLOT_ELEC.OC_10MA, 1, 65535), (F.SPG_SLOT_TIME.DEBOUNCE_MS, 1, 1000),
  (F.SPG_SLOT_TIME.PROOF_MS, 1, 255), (F.SPG_SLOT_TIME.RAMP_MS, 1, 63), (F.SPG_SLOT_TIME.OC_US, 1, 255),
  (F.SPG_SLOT_RETRY.RETRY_MS, 100, 60000), (F.SPG_SLOT_RETRY.PERST_MS, 1, 255), (F.SPG_SLOT_RETRY.DVDT, 1, 255),
  (F.SPG_SLOT_THERM.TMAX_C, 0, 200), (F.SPG_SLOT_MODEL.RTH, 1, 1023), (F.SPG_SLOT_MODEL.TAU_MS, 1, 1023), (F.SPG_SLOT_MODEL.RDS, 1, 255)]

/-- The lowest bit of the first field of a register whose value in a word is out of its range. -/
def rangeFault (r : RegDesc) (w : Nat) : Option Nat :=
  let mine := (rangesA ++ rangesB).filter (fun e => e.1.reg.base == r.base)
  let out := mine.filter (fun e => let v := bits w e.1.lo e.1.width; v < e.2.1 || e.2.2 < v)
  let start := if r.base = R.PWR_MODE_CFG.base && !([2, 3, 4, 6].contains (bits w 0 3)) then [0] else []
  (start ++ out.map (·.1.lo)).min?

/-! ## Groups of configuration registers -/

/-- The registers that one opcode sets together. -/
inductive CfgGroup where
  | cluster (c : Nat)
  | role (p : Nat)
  | link (p : Nat)
  | kfl (c : Nat)
  | pool (p : Nat)
  | churn
  | rotation
  | vhTags (v : Nat)
  | fabric
  | policer (p : Nat)
  | node (n : Nat)
  | queue (k : Nat)
  | shaper (q : Nat)
  | slot (g : Nat)
  | slotCap (g : Nat)
  | power
  | time
  | plain
  deriving DecidableEq, Repr

/-! ### Shapes of clusters (R44 to R48) -/

/-- Where a x16 pair may start (Table 2.2). -/
def pairStart (c : Nat) : Bool := [0, 1, 2, 3, 5, 6, 7].contains (c % 9)

/-- The roles and protocols a port of a width may have (R45, R46), and where. -/
def roleOk (slot width role proto : Nat) : Bool :=
  (role != 2 || proto == 2) && (proto != 2 || role == 2) &&
  (proto != 2 || (width == 4 && slot == 0) || (width == 3 && (slot == 0 || slot == 2))) && (proto != 1 || 3 ≤ width)

/-- The highest rate code that a cluster's ceilings allow a protocol; 0 where there is no ceiling for it. -/
def ceilCode (proto ceilPcie ceilKfl : Nat) : Nat := if proto = 2 then (if ceilKfl = 0 then 0 else 7 + ceilKfl) else ceilPcie

/-- A slot's maximum rate does not exceed the cluster's ceiling for its protocol, and is a rate of that protocol where the slot holds
a port (R47, Table 2.3). -/
def capOk (holds : Bool) (proto maxRate ceilPcie ceilKfl : Nat) : Bool :=
  maxRate ≤ ceilCode proto ceilPcie ceilKfl && (!holds || (if proto = 2 then 8 else 1) ≤ maxRate)

/-- The first slot of a cluster whose setting breaks R44 to R48. -/
def State.shapeFault (s : State) (c : Nat) : Option Nat :=
  let w (k : Nat) : Nat := s.fld F.PCL_SLOT_CFG.WIDTH (4 * c + k)
  (List.range 4).find? (fun k =>
    let p := 4 * c + k
    let clear (l : List Nat) : Bool := l.all (fun j => w j == 0)
    let fits : Bool := match w k with
      | 0 | 1 | 2 => true
      | 3 => (k == 0 || k == 2) && clear [k + 1]
      | 4 => k == 0 && clear [1, 2, 3]
      | 5 => k == 0 && clear [1, 2, 3] && pairStart c && !s.flag F.PCL_CLUSTER_CFG.PAIR_LOWER (c + 1)
      | _ => false
    !fits || (w k != 0 && !roleOk k (w k) (s.role p) (s.proto p)) ||
      !capOk (w k != 0) (s.proto p) (s.fld F.PCL_SLOT_CFG.MAX_RATE p) (s.fld F.PCL_CLUSTER_CFG.CEIL_PCIE c) (s.fld F.PCL_CLUSTER_CFG.CEIL_KFL c))

/-- The clusters a change of cluster `c` touches: its pair too. -/
def State.pairOf (s t : State) (c : Nat) : List Nat :=
  if s.flag F.PCL_CLUSTER_CFG.PAIR_LOWER c || t.fld F.PCL_SLOT_CFG.WIDTH (4 * c) == 5 then [c, c + 1] else [c]

/-- The ports of clusters. -/
def portsOf (l : List Nat) : List Nat := (l.map (fun c => (List.range 4).map (4 * c + ·))).flatten

/-- The fabric port, other than `p`, that holds the link index of `p` (R17). -/
def State.indexHolder (s : State) (p : Nat) : Option Nat :=
  if !s.isFabric p then none
  else allPorts.find? (fun q => q != p && s.isFabric q && s.linkOf q == s.linkOf p)

/-- A role change of a host-edge port whose VH is not DOWN (R129). -/
def State.rootBusy (s t : State) (p : Nat) : Bool :=
  s.isHostEdge p && !t.isHostEdge p && s.fld F.BND_VH_STATUS.STATE p != 0

/-! ### Parameter rules: the packet offset of the first bad field -/

/-- Total of the guaranteed tracker entries (R112). -/
def State.tagMins (s : State) : Nat := ((List.range 144).map (fun v => s.fld F.BND_VH_TAGS.MIN v)).sum

/-- The rule of a group that a setting breaks, as the offset in the packet of the first bad field; `s` holds the setting in force
and `t` the one asked for. -/
def State.paramFault (s t : State) : CfgGroup → Option Nat
  | .cluster c =>
    if s.flag F.PCL_CLUSTER_CFG.PAIR_UPPER c then some 16 else (t.shapeFault c).map (fun k => 20 + 4 * k)
  | .role p =>
    let c := clusterOf p
    let moved := (s.proto p == 2) != (t.proto p == 2)
    let ceil := if t.proto p = 2 then t.fld F.PCL_CLUSTER_CFG.CEIL_KFL c else t.fld F.PCL_CLUSTER_CFG.CEIL_PCIE c
    if !roleOk (p % 4) (t.fld F.PCL_SLOT_CFG.WIDTH p) (t.role p) (t.proto p) then some 16
    else if moved && ceil = 0 then some 17 else none
  | .pool p =>
    let n := t.classes p
    if t.flag F.CHN_PORT_CFG.AUTO_RES p then none
    else if t.fld F.CHN_PORT_RES.RES_CURDS p < n * maxPacketCurds then some 20
    else if t.fld F.CHN_PORT_RES.RES_HEADS p < n then some 22 else none
  | .churn =>
    let n := t.livePorts.length
    if t.fld F.CHN_ESC_CFG.ESC_CURDS < 16 * n then some 20 else if t.fld F.CHN_ESC_CFG.ESC_HEADS < 2 * n then some 22 else none
  | .vhTags v => if t.fld F.BND_VH_TAGS.MAX v < t.fld F.BND_VH_TAGS.MIN v then some 16 else none
  | .fabric => if t.flag F.BND_FAB_CFG.LEAD_ELIG && t.fld F.BND_FAB_CFG.FEID == 0 then some 16 else none
  | .policer p =>
    if t.fld F.QOS_POL_PIR.RATE p < t.fld F.QOS_POL_CIR.RATE p then some 20
    else if t.fld F.QOS_POL_PBS.SIZE p < t.fld F.QOS_POL_CBS.SIZE p then some 28 else none
  | .power => if t.fld F.PWR_VPOL_CFG.VMAX_MV < t.fld F.PWR_VPOL_CFG.VMIN_MV then some 17 else none
  | .slot g =>
    let p := t.gPort g
    let taken := (List.range 24).any (fun h => h != g && t.flag F.SPG_SLOT_CFG.ENABLE h && t.gPort h == p)
    let cool := t.fld F.SPG_SLOT_THERM.COOL_C g
    let warm := t.fld F.SPG_SLOT_THERM.WARM_C g
    let hot := t.fld F.SPG_SLOT_THERM.HOT_C g
    if !t.live p || t.role p != 1 || (t.flag F.SPG_SLOT_CFG.ENABLE g && taken) then some 16
    else if !(cool < warm && warm ≤ hot && hot < t.fld F.SPG_SLOT_THERM.TMAX_C g) then some 32
    else if t.flag F.SPG_SLOT_CFG.TEMP_MODE g && cool ≤ 10 * t.fld F.SPG_SLOT_MODEL.T_AMB g then some 35 else none
  | _ => none

/-! ### State preconditions -/

/-- The shared pool a setting leaves is below the minimum of R75, and lower than before. -/
def State.starves (s t : State) : Bool :=
  let a := sharedOf s.banksIn s.reservedPools s.escPool s.mcPool
  let b := sharedOf t.banksIn t.reservedPools t.escPool t.mcPool
  (decide (b.1 < sharedMin.1) && decide (b.1 < a.1)) || (decide (b.2 < sharedMin.2) && decide (b.2 < a.2))

/-- A port's pool setting as it takes effect: with AUTO_RES set the reserved pool in force stays (R76). -/
def State.poolTaken (s t : State) (p : Nat) : State :=
  if t.flag F.CHN_PORT_CFG.AUTO_RES p then { t with regs := (s.wr R.CHN_PORT_CFG p (t.rd R.CHN_PORT_CFG p)).regs } else t

/-- The state precondition a setting fails: status and DETAIL. -/
def State.preFault (s t : State) : CfgGroup → Option (Nat × Nat)
  | .cluster c =>
    let ps := portsOf (s.pairOf t c)
    if ps.any (fun p => (s.live p && s.linkState p != 0) || s.rootBusy t p) then some (stBusy, 2)
    else ((List.range 4).findSome? (fun k => t.indexHolder (4 * c + k))).map (fun q => (stConflict, 0x8000 + q))
  | .role p =>
    let u := if t.isFabric p && !s.isFabric p then t.setFld F.PCL_SLOT_CFG.KFL_LINK p (p / 2) else t
    if s.linkState p != 0 || s.rootBusy t p then some (stBusy, 2) else (u.indexHolder p).map (fun q => (stConflict, 0x8000 + q))
  | .link p =>
    if s.linkState p != 0 then some (stBusy, 2) else (t.indexHolder p).map (fun q => (stConflict, 0x8000 + q))
  | .pool p => if s.starves (s.poolTaken t p) then some (stResource, 7) else none
  | .churn => if s.starves t then some (stResource, 7) else none
  | .vhTags _ => if 131072 < t.tagMins then some (stResource, 2) else none
  | .fabric =>
    let moved := s.fld F.BND_FAB_CFG.FEID != t.fld F.BND_FAB_CFG.FEID || s.fld F.BND_FAB_CFG.LEAD_ELIG != t.fld F.BND_FAB_CFG.LEAD_ELIG
    if moved && s.fld F.BND_FAB_STATUS.STATE != 0 then some (stBusy, 2) else none
  | .slot g =>
    let moved := s.gPort g != t.gPort g || s.fld F.SPG_SLOT_ELEC.VIN_MV g != t.fld F.SPG_SLOT_ELEC.VIN_MV g ||
      s.fld F.SPG_SLOT_CFG.TEMP_MODE g != t.fld F.SPG_SLOT_CFG.TEMP_MODE g
    if moved && !([gDisabled, gEmpty, gReadyOff, gLockout].contains (s.gState g)) then some (stBusy, 2) else none
  | _ => none

/-! ### What a change does -/

/-- A cluster returns to the default shape, every port of it disabled (R48, R49). -/
def State.defaultShape (s : State) (c : Nat) : State :=
  let s1 := (s.resetReg R.PCL_CLUSTER_CFG c).each (List.range 4) (fun s k =>
    (s.resetReg R.PCL_SLOT_CFG (4 * c + k)).setFld F.PCL_PORT_CTRL.ENABLE (4 * c + k) 0)
  s1.showLive c

/-- A new shape of a cluster takes effect: pairs form or dissolve (R48, R24), and a change of bifurcation leaves every port of the
new shape disabled (R21), a recalibration under way aborted first (R64). -/
def State.reshape (s t : State) (c : Nat) : State :=
  let wide := t.fld F.PCL_SLOT_CFG.WIDTH (4 * c) == 5
  let was := s.flag F.PCL_CLUSTER_CFG.PAIR_LOWER c
  let moved := (List.range 4).any (fun k => s.fld F.PCL_SLOT_CFG.WIDTH (4 * c + k) != t.fld F.PCL_SLOT_CFG.WIDTH (4 * c + k))
  let t1 := t.setFld F.PCL_CLUSTER_CFG.PAIR_LOWER c (b2n wide)
  let t2 := t1.whenb (was && !wide) (fun t => t.defaultShape (c + 1))
  let t3 := t2.whenb wide (fun t =>
    let u := ((t.setFld F.PCL_CLUSTER_CFG.PAIR_UPPER (c + 1) 1).setFld F.PCL_CLUSTER_CFG.CEIL_PCIE (c + 1)
      (t.fld F.PCL_CLUSTER_CFG.CEIL_PCIE c)).setFld F.PCL_CLUSTER_CFG.CEIL_KFL (c + 1) (t.fld F.PCL_CLUSTER_CFG.CEIL_KFL c)
    (u.each (List.range 4) (fun u k => (u.wr R.PCL_SLOT_CFG (4 * (c + 1) + k) 6).setFld F.PCL_PORT_CTRL.ENABLE (4 * (c + 1) + k) 0)).showLive
      (c + 1))
  let t4 := t3.whenb moved (fun t => t.each (List.range 4) (fun t k => (t.abortRecal (4 * c + k) 5).setFld F.PCL_PORT_CTRL.ENABLE (4 * c + k) 0))
  ((t4.showLive c).refSense).gateUpdate (regionOf c)

/-- A bucket whose setting has changed is set as R243 states. -/
def State.rebucket (s t : State) (b : BucketId) (init : Bool) : State :=
  t.reconfigure b (s.bucketCfg b) (s.bucket b).tokens init

/-- A policer switched off releases what it holds at once, in hold order, as green (Table 8.2). -/
def State.policerOff (s : State) (p : Nat) : State :=
  let ids := (s.qos.holds.filter (fun (h : Hold) => h.policer == p)).map (·.pkt)
  let s1 := (s.onQos (fun y => { y with holds := y.holds.filter (fun (h : Hold) => h.policer != p) })).showHolds p
  s1.each ids (fun s id => (s.onPkt id (fun k => { k with held := false, yellow := false })).goOn id)

/-- A guard's setting takes effect (R352, R354). -/
def State.reslot (s t : State) (g : Nat) : State :=
  let was := s.flag F.SPG_SLOT_CFG.ENABLE g
  let now := t.flag F.SPG_SLOT_CFG.ENABLE g
  let moved := s.gPort g != t.gPort g
  -- A port that a guard now supervises has no link and no PERST_OUT_N release while the guard is not ON (R358).
  let hold (u : State) : State := u.whenb (u.gState g != gOn) (fun u => (u.assertPerst (u.gPort g)).gDropLink g false)
  if now && !was then hold (((t.gSet g gEmpty).gByPresence g).applyLimit g)
  else if was && !now then
    let on := t.powered g
    let t1 := (t.onGuard g (fun y => { y with wanted := false, asks := [], offing := false })).gSet g gDisabled
    let t2 := t1.each [.proofing, .ramp, .perst, .retry, .powerGate, .powerOff, .slotRequest] (fun t k => t.disarm k g)
    (t2.finish opSlotPower g stBusy 2).whenb on (fun t => t.gDropLink g false)
  else (t.whenb (now && moved) hold).applyLimit g

/-- Reports held for a VH that ceases to exist are dropped (Table 7.14): its port is no longer a live host-edge port. -/
def State.dropReports (s : State) : State := s.onErr (fun y => { y with held := y.held.filter (fun (h : HeldReport) => s.isHostEdge h.vh) })

/-- The effects of a change from the setting in `s` to the one in `t`. -/
def State.takeEffect (s t : State) : CfgGroup → State
  | .cluster c => (s.reshape t c).dropReports
  | .role p =>
    let t1 := t.whenb (t.isFabric p && !s.isFabric p) (fun t => t.setFld F.PCL_SLOT_CFG.KFL_LINK p (p / 2))
    let c := clusterOf p
    let t2 := t1.whenb ((s.proto p == 2) != (t.proto p == 2)) (fun t =>
      t.setFld F.PCL_SLOT_CFG.MAX_RATE p
        (if t.proto p = 2 then 7 + t.fld F.PCL_CLUSTER_CFG.CEIL_KFL c else t.fld F.PCL_CLUSTER_CFG.CEIL_PCIE c))
    (t2.whenb ((s.role p == 0) != (t.role p == 0)) (fun t => t.onPins (fun y => { y with released := y.released.filter (· != p) }))).dropReports
  | .kfl c =>
    let on := t.flag F.KFL_LINK_CFG.TIME_REQ_EN c
    let t1 := if on && !s.flag F.KFL_LINK_CFG.TIME_REQ_EN c && !s.asleep c then t.arm .timeReq c (ms (t.fld F.KFL_TIMER_C.TIME_INTERVAL c))
              else if on then t else t.disarm .timeReq c
    t1.timeUpdate
  | .pool p => s.poolTaken t p
  | .rotation =>
    if t.flag F.CHN_ROT_CTRL.ENABLE && !s.flag F.CHN_ROT_CTRL.ENABLE then t.arm .rotation 0 (ms (t.fld F.CHN_ROT_CTRL.INTERVAL_MS)) else t
  | .policer p =>
    let t1 := s.rebucket t (.polC p) (t.flag F.QOS_POL_CBS.TOK_INIT p)
    let t2 := (s.rebucket t1 (.polP p) (t.flag F.QOS_POL_PBS.TOK_INIT p)).showHolds p
    t2.whenb (s.flag F.QOS_POL_CFG.ENABLE p && !t.flag F.QOS_POL_CFG.ENABLE p) (fun t => t.policerOff p)
  | .node n =>
    let t1 := s.rebucket t (.node n) (t.flag F.QOS_NODE_BURST.TOK_INIT n)
    s.rebucket t1 (.nodeCs n) false
  | .queue k =>
    let t1 := s.rebucket t (.sq k) (t.flag F.QOS_SQ_BURST.TOK_INIT k)
    s.rebucket t1 (.sqCs k) false
  | .shaper q => s.rebucket t (.port q) (t.flag F.QOS_PORT_BURST.TOK_INIT q)
  | .slot g => s.reslot t g
  | .slotCap g => t.applyLimit g
  | .fabric =>
    let t1 := t.showAdmitted
    t1.whenb (t1.fabForwards && !s.fabForwards) (fun t => t.grantAll)
  | .power => t.idleCheck
  | .time => t.timeUpdate
  | _ => t

/-! ## Setting words -/

/-- Write the fields of software's of one register. -/
def State.setWord (s : State) (r : RegDesc) (i w : Nat) : State :=
  let m := r.accMask isSet
  s.wr r i (BitVec.ofNat 32 (((s.rd r i).toNat &&& (0xFFFFFFFF - m)) + (w &&& m)))

/-- The first word of a list out of its ranges, as its packet offset. -/
def wordsFault : List (RegDesc × Nat × Nat) → Nat → Option Nat
  | [], _ => none
  | (r, _, w) :: l, off => match rangeFault r w with
    | some b => some (off + b / 8)
    | none => wordsFault l (off + 4)

/-- Go from the setting in `s` to the one in `t`: rules, then preconditions (R417), then the effects of the change; a setting that
equals the one in force changes nothing. -/
def State.change (s t : State) (g : CfgGroup) : Ans :=
  if t.regs = s.regs then ok s
  else match s.paramFault t g with
    | some d => bad s d
    | none => match s.preFault t g with
      | some (st, d) => no s st d
      | none => ok (s.takeEffect t g)

/-- Set the words of a group: words that equal those in force change nothing (R21, R417); else their ranges are checked first. -/
def State.setCfg (s : State) (g : CfgGroup) (ws : List (RegDesc × Nat × Nat)) : Ans :=
  let t := s.each ws (fun s e => s.setWord e.1 e.2.1 e.2.2)
  if t.regs = s.regs then ok s
  else match wordsFault ws 16 with
    | some d => bad s d
    | none => s.change t g

end Sys2Proof.Machine
end

