-- ==== Sys2Proof/Machine/Flash.lean ====
section
/-! DEFINITION. The flash (R373), boot control copies (R374), firmware images and their checks (R375, R376), and the measurements
(Table 15.8). -/

namespace Sys2Proof.Machine

/-! ## Bytes (Table 15.1).  A byte that is not listed is erased -/

/-- What an erased byte reads as. -/
def erasedByte : Byte := 0xFF

/-- The byte at an offset of flash. -/
def State.flashByte (s : State) (a : Nat) : Byte := (look a s.sec.flash).getD erasedByte

/-- `n` bytes of flash. -/
def State.flashBytes (s : State) (a n : Nat) : List Byte := (List.range n).map (fun i => s.flashByte (a + i))

/-- The canonical form of the flash: offsets rise, and no byte that reads as erased is listed. -/
def Memory.wf (l : List Host.Cell) : Bool := rising l && l.all (fun c => c.2 != erasedByte)

/-- Store a byte; one that reads as erased is not listed. -/
def putByte (a : Nat) (b : Byte) (l : List Host.Cell) : List Host.Cell := if b = erasedByte then drop a l else put a b l

/-- Store bytes from an offset on. -/
def putBytes : List Byte → Nat → List Host.Cell → List Host.Cell
  | [], _, l => l
  | v :: b, a, l => putBytes b (a + 1) (putByte a v l)

/-- Program bytes from an offset on. -/
def State.flashProgram (s : State) (a : Nat) (b : List Byte) : State :=
  (s.onSec (fun y => { y with flash := putBytes b a y.flash })).emit (.flash 1 a b.length)

/-- Bytes of a range go back to erased. -/
def eraseBytes (a n : Nat) (l : List Host.Cell) : List Host.Cell := l.filter (fun e => !(a ≤ e.1 && e.1 < a + n))

/-- Erase a range of whole sectors. -/
def State.flashErase (s : State) (a n : Nat) : State :=
  (s.onSec (fun y => { y with flash := eraseBytes a n y.flash })).emit (.flash 0 a n)

/-- The erase sector. -/
def sector : Nat := 65536

/-- Where the board configuration record stands, and its region's size. -/
def recordBase : Nat := 0x20000

/-- Where an image slot stands, and its size. -/
def slotBase (i : Nat) : Nat := 0x100000 + 0x800000 * i
def slotSize : Nat := 0x800000

/-! ## Boot control copies (R374) -/

/-- The MAGIC of a boot control copy. -/
def bootMagic : Nat := 0x4B424331

/-- The 64 bytes of a boot control copy (Table 15.2). -/
def BootCopy.bytes (c : BootCopy) : List Byte :=
  let b := leBytes 4 bootMagic ++ leBytes 4 c.seq ++ leBytes 1 c.preferred ++ leBytes 1 c.stateA ++ leBytes 1 c.stateB ++
    List.replicate 45 (0 : Byte)
  b ++ leBytes 8 (crc64 b)

/-- The boot control copy in a sector, if it is valid. -/
def State.bootCopy (s : State) (k : Nat) : Option BootCopy :=
  let b := s.flashBytes (sector * k) 64
  if bodyNat b 0 4 = bootMagic && bodyNat b 56 8 = crc64 (b.take 56) then
    some { seq := bodyNat b 4 4, preferred := bodyNat b 8 1 % 2, stateA := bodyNat b 9 1 % 4, stateB := bodyNat b 10 1 % 4 }
  else none

/-- SEQ `a` precedes `b`, modulo 2^32. -/
def seqBefore (a b : Nat) : Bool := let d := (b + 2 ^ 32 - a % 2 ^ 32) % 2 ^ 32; 1 ≤ d && d < 2 ^ 31

/-- The copy that governs, and where it stands. -/
def State.governing (s : State) : Option (Nat × BootCopy) :=
  match s.bootCopy 0, s.bootCopy 1 with
  | some a, some b => if seqBefore a.seq b.seq then some (1, b) else some (0, a)
  | some a, none => some (0, a)
  | none, some b => some (1, b)
  | none, none => none

/-- What governs the boot; with no valid copy PREFERRED is A and both images are WRITTEN. -/
def State.boot (s : State) : BootCopy := match s.governing with
  | some (_, c) => c
  | none => { seq := 0, preferred := 0, stateA := 2, stateB := 2 }

/-- The state of an image: 0 EMPTY, 1 WRITING, 2 WRITTEN, 3 VERIFIED. -/
def State.imageState (s : State) (i : Nat) : Nat := if i = 0 then s.boot.stateA else s.boot.stateB

/-- SEC_IMAGE_STATE shows what governs. -/
def State.showBoot (s : State) : State :=
  let c := s.boot
  ((s.setFld F.SEC_IMAGE_STATE.STATE_A 0 c.stateA).setFld F.SEC_IMAGE_STATE.STATE_B 0 c.stateB).setFld F.SEC_IMAGE_STATE.PREFERRED 0 c.preferred

/-- Update the boot control block: the copy that does not govern takes the next SEQ (R374). -/
def State.setBoot (s : State) (f : BootCopy → BootCopy) : State :=
  let k := match s.governing with
    | some (k, _) => 1 - k
    | none => 0
  let c := { f s.boot with seq := (s.boot.seq + 1) % 2 ^ 32 }
  (((s.flashErase (sector * k) sector).flashProgram (sector * k) c.bytes)).showBoot

/-- Set the state of an image. -/
def State.setImage (s : State) (i st : Nat) : State :=
  s.setBoot (fun c => if i = 0 then { c with stateA := st } else { c with stateB := st })

/-! ## Images (R375, R376) -/

/-- The header of an image slot. -/
def State.header (s : State) (i : Nat) : List Byte := s.flashBytes (slotBase i) 256

/-- Every byte of a range is 0. -/
def zeroRange (b : List Byte) (i n : Nat) : Bool := ((b.drop i).take n).all (· == 0)

/-- MAGIC, HDR_VERSION, FLAGS, lengths, offsets and reserved bytes are as Table 15.4 states. -/
def headerOk (h : List Byte) : Bool :=
  let len := bodyNat h 16 4
  let load := bodyNat h 20 4
  bodyNat h 0 4 == 0x4B494D47 && bodyNat h 4 2 == 1 && bodyNat h 6 2 == 0 && zeroRange h 13 3 && zeroRange h 31 1 && zeroRange h 80 176 &&
    4096 ≤ len && len ≤ 6291456 && len % 4096 == 0 && load % 4096 == 0 && load + len ≤ 6291456 && bodyNat h 24 4 < len

/-- Treind's keys in an object stand at `k`: their hashes, and the two signatures over `m`, in the order of Table 15.5 with the
codes given. -/
def keysFail (rsa slh m rsaSig slhSig : List Byte) (codes : Nat × Nat × Nat × Nat) : Option Nat :=
  if Config.sha384 rsa != Config.keyHashRsa then some codes.1
  else if Config.sha384 slh != Config.keyHashSlh then some codes.2.1
  else if !Config.rsaVerify rsa m rsaSig then some codes.2.2.1
  else if !Config.slhVerify slh m slhSig then some codes.2.2.2
  else none

/-- The result code of an image (Table 15.5): the first check that fails. -/
def State.imageResult (s : State) (i : Nat) (readOk : Bool) : Nat :=
  let h := s.header i
  let b := slotBase i
  if !readOk then 10
  else if !headerOk h then 2
  else match keysFail (s.flashBytes (b + 0x100) 388) (s.flashBytes (b + 0x300) 48) h (s.flashBytes (b + 0x340) 384)
      (s.flashBytes (b + 0x4C0) 16224) (3, 4, 5, 6) with
    | some r => r
    | none =>
      if Config.sha384 (s.flashBytes (b + 0x5000) (bodyNat h 16 4)) != (h.drop 32).take 48 then 7
      else if bodyNat h 12 1 < s.sec.floor then 8
      else if !(bodyNat h 28 2 == 0x288 && bodyNat h 30 1 ≤ 0xA1) then 9
      else 1

/-- The SVN in the header of an image. -/
def State.imageSvn (s : State) (i : Nat) : Nat := bodyNat (s.header i) 12 1

/-- IMAGE_VERSION of an image; 0 if its header cannot be read as one (SEC_FW_VERSION). -/
def State.imageVersion (s : State) (i : Nat) : Nat := if headerOk (s.header i) then bodyNat (s.header i) 8 4 else 0

/-! ## Measurements (Table 15.8) -/

/-- The image that runs: 0 A, 1 B, 3 none. -/
def State.runningImage (s : State) : Nat := s.fld F.SEC_BOOT_STATUS.RUNNING

/-- LC_IDENTITY_LOCKED and KEYS_FUSED, as manufacture leaves them (R371, R373). -/
def lifecycle : Nat := 3

/-- The content of a measurement block. -/
def State.measure (s : State) (i : Nat) : List Byte :=
  match i with
  | 1 => Config.romHash
  | 2 => s.sec.imageHash
  | 3 => leBytes 1 (s.fld F.SEC_SVN.RUNNING_SVN) ++ leBytes 1 s.sec.floor ++ leBytes 1 s.runningImage ++
      leBytes 1 (s.fld F.SEC_BOOT_STATUS.FALLBACK)
  | 4 => s.sec.boardHash
  | 5 => leBytes 1 s.mode.code ++ leBytes 1 (s.fld F.DBG_STATUS.UNLOCKED) ++ leBytes 1 (bits lifecycle 1 1) ++
      leBytes 2 (min 0xFFFF s.sec.unlocks)
  | _ => []

/-- A fresh SEC_DBG_NONCE (R387): eight free words. -/
def State.newNonce (s : State) : State :=
  s.each (List.range 8) (fun s w => (s.wr R.SEC_DBG_NONCE w (BitVec.ofNat 32 s.free)).drew)

end Sys2Proof.Machine
end

