-- ==== Sys2Proof/Machine/View.lean ====
section
/-! DEFINITION. What a read of the register network shows (R9 to R12, R65, R312 to R317): registers whose value follows from the
rest of the state, table windows (R127, R246, R275), logs (R215, R221), MSI-X tables (R284), latches and high-water marks. -/

namespace Sys2Proof.Machine

/-! ## Where an offset is held -/

/-- The place in `regs` of the register at a BAR0 offset: a KFL register belongs to the controller of the port that holds the link
index, and the PF function interface is function 0's (Tables 0.13, 6.14, 11.8). -/
def State.placeOf (s : State) (off : Nat) : Option Nat :=
  if 0x2300000 ≤ off && off < 0x2310000 then some (off - 0x2300000 + 0x10000000)
  else if 0x800000 ≤ off && off < 0x920000 then
    (s.portOfLink ((off - 0x800000) / 0x4000)).map (fun p => 0x800000 + 0x4000 * controllerOf p + off % 0x4000)
  else some off

/-! ## Computed registers -/

/-- The port a node is attached to. -/
def State.nodePort (s : State) (n : Nat) : Option Nat :=
  let e := s.bnd.active.entry .attach n
  (s.oldPortOf n).orElse (fun _ => if ef e 8 1 = 1 then some (ef e 0 8) else none)

/-- The packets of a node, or of one class of it, that wait at its port. -/
def State.waitingIn (s : State) (n : Nat) (c : Option Nat) : List Pkt :=
  match s.nodePort n with
  | none => []
  | some q => s.churn.pkts.filter (fun (k : Pkt) => k.waitsAt q && s.nodeAt k q == n && (match c with
    | none => true
    | some x => s.clsAt k q == x))

/-- Credit below 0 of a credit shaper that is on. -/
def State.negative (s : State) (b : BucketId) : Bool := (s.bucketCfg b).1 != 0 && decide ((s.bucket b).tokens < 0)

/-- QOS_NODE_STATUS of a node. -/
def State.nodeStatus (s : State) (n : Nat) : Nat :=
  let l := s.waitingIn n none
  let q := (s.nodePort n).getD 0
  let ready := s.flag F.QOS_NODE_CFG.ENABLE n && s.shaperOk (.node n) && s.shaperOk (.nodeCs n) && !(s.eligibleQueues q n {}).isEmpty
  b2n (!l.isEmpty) + 2 * b2n ready + 4 * b2n (s.negative (.node n)) + 8 * b2n (s.negative (.nodeCs n)) +
    16 * b2n (!l.isEmpty && l.all (fun k => !s.gateOpen q (s.clsAt k q))) + 32 * b2n (s.oldPortOf n).isSome

/-- QOS_SQ_STATUS of a queue. -/
def State.queueStatus (s : State) (k8 : Nat) : Nat :=
  let n := k8 / 8
  let c := k8 % 8
  let q := (s.nodePort n).getD 0
  b2n (!(s.waitingIn n (some c)).isEmpty) + 2 * b2n ((s.eligibleQueues q n {}).any (·.idx == c)) + 4 * b2n (s.negative (.sq k8)) +
    8 * b2n (s.negative (.sqCs k8)) + 16 * b2n (!s.gateOpen q c) + 32 * b2n (s.oldPortOf n).isSome

/-- A vector of a function is named by one of its enabled queues (R284). -/
def State.vectorUsed (s : State) (f v : Nat) : Bool :=
  (List.range 256).any (fun q => s.hasQueue f q && s.qState (256 * f + q) != 0 && s.fld F.Q_CFG.VECTOR (256 * f + q) == v)

/-- The clock of a crossing's domain runs (Table 1.6). -/
def State.domainRuns (s : State) (d : Nat) : Bool :=
  if d < 36 then s.clockRuns d else if d < 39 then s.mode != .reset else s.free % 2 == 1

/-- TS_STATUS of a slot: the status of the context assigned to it. -/
def State.slotStatus (s : State) (i : Nat) : Nat :=
  match (s.contextsOf (i / 8)).find? (fun e => e.2 == i % 8) with
  | some (c, _) => (s.rd R.SVC_TRC_STATUS c).toNat % 2 ^ 32 - bits (s.rd R.SVC_TRC_STATUS c).toNat 15 1 * 2 ^ 15 + 2 ^ 15
  | none => 0

/-- PCL_LANE_STATUS: who owns the lane; EYE of a lane that has trained is a free value (notes/assumptions/3). -/
def State.laneStatus (s : State) (l v : Nat) : Nat :=
  let own := s.portOfLane l
  let v1 := setBits (setBits v 4 2 ((own.getD 0) % 4)) 6 1 (b2n own.isSome)
  if s.flag F.PCL_LANE_STATUS.ADAPT_CONVERGED l then setBits v1 8 7 s.free else v1

/-- A receiver's value register (R55, R56): the values written while OVERRIDE is set, those held while the loop does not adapt, and
otherwise where adaptation stands. -/
def State.rxValue (s : State) (r : RegDesc) (l v : Nat) : Nat :=
  if s.rxZero r l then 0
  else if s.flag F.PCL_LANE_RXADAPT_CTRL.OVERRIDE l then v
  else match look (heldRx r l) s.regs with
    | some w => w.toNat
    | none => s.rxNow r l

/-- PCL registers as they are read (R58, R65). -/
def State.showPcl (s : State) (r : RegDesc) (i v : Nat) : Nat :=
  if [R.PCL_CLUSTER_ID.base, R.PCL_CLUSTER_CFG.base, R.PCL_SLOT_CFG.base, R.PCL_CLUSTER_STATUS.base].contains r.base then v
  else if !s.clockRuns (if r.count = 288 then i / 8 else if r.count = 144 then clusterOf i else i) then 0
  else if r.base = R.PCL_LANE_STATUS.base then s.laneStatus i v
  else if r.base = R.PCL_PRBS_CTRL.base then (if s.prbsOn i then v else 0)
  else if rxRegs.any (·.base == r.base) then s.rxValue r i v
  else v

/-- CHN registers as they are read. -/
def State.showChn (s : State) (r : RegDesc) (i v : Nat) : Nat :=
  if r.base = R.CHN_POOL_FREE.base then s.sharedFree.1
  else if r.base = R.CHN_HEAD_FREE.base then s.sharedFree.2
  else if r.base = R.CHN_SHARED_SIZE.base then s.sharedSize.1
  else if r.base = R.CHN_SHARED_HEADS.base then s.sharedSize.2
  else if r.base = R.CHN_ESC_FREE.base then s.escFree.1 + 2 ^ 16 * s.escFree.2
  else if r.base = R.CHN_MC_FREE.base then s.mcFree.1
  else if r.base = R.CHN_MC_HEADS_FREE.base then s.mcFree.2
  else if r.base = R.CHN_PORT_HELD.base then (s.sharedHeld i).1
  else if r.base = R.CHN_PORT_HELD_H.base then (s.sharedHeld i).2
  else if r.base = R.CHN_BANK_STATE.base then
    setBits v 5 14 ((s.churn.pkts.map (fun (k : Pkt) => (k.words.filter (·.1 == i)).length)).sum)
  else v

/-- BND registers as they are read. -/
def State.showBnd (s : State) (r : RegDesc) (i v : Nat) : Nat :=
  if r.base = R.BND_GEN_OLDER.base then s.older
  else if r.base = R.BND_TRK_USED.base then s.trkUsed
  else if r.base = R.BND_VH_TRK_USED.base then s.vhUsed i
  else if r.base = R.BND_VH_STATUS.base then
    let l := (List.range 64).filter (fun k => s.vdspPresent i k)
    let bound := l.filter (fun k => (s.bindingOf i k).any (fun b => s.bindState b == 1))
    setBits (setBits (setBits v 2 1 (b2n (s.bnd.mgmtVh == i))) 3 7 l.length) 10 7 bound.length
  else if r.base = R.BND_BIND_STATE.base then
    let n := (s.bnd.trk.filter (fun (e : TrkEntry) => e.bound && e.binding == i)).length
    setBits v 16 16 (min 0xFFFF n)
  else if r.base = R.BND_FAB_SENDS_USED.base then s.fab.sends.length
  else v

/-- SVC and function registers as they are read (R284). -/
def State.showSvc (s : State) (r : RegDesc) (i v : Nat) : Nat :=
  let held (f : Nat) : Nat := s.heldOf R.SVC_QMAP f + 2 ^ 16 * s.heldOf R.SVC_VMAP f
  let used (m : RegDesc) : Nat := (s.regs.filter (fun e => m.base ≤ e.1 && e.1 < m.base + 65536 && bits e.2.toNat 19 1 == 1)).length
  if r.base = R.SVC_FREE.base then (16384 - used R.SVC_QMAP) + 2 ^ 16 * (16384 - used R.SVC_VMAP)
  else if r.base = R.SVC_FN_RES.base || r.base = R.FN_INFO.base then held i
  else if r.base = R.SVC_QMAP.base then
    setBits v 20 1 (b2n (bits v 19 1 == 1 && s.qState (256 * bits v 0 11 + bits v 11 8) != 0))
  else if r.base = R.SVC_VMAP.base then setBits v 20 1 (b2n (bits v 19 1 == 1 && s.vectorUsed (bits v 0 11) (bits v 11 8)))
  else if r.base = R.TS_STATUS.base then s.slotStatus i
  else if 0x10000000 ≤ r.addr i && (r.addr i - 0x10000000) % 0x10000 < 0x4000 && !s.hasQueue (i / 256) (i % 256) then 0
  else v

/-- The binding tables are locked to the debug port (R270): in COMPOSED and FABRIC, or in DROWSE entered from them, while no token
unlock is in force (R272). -/
def State.bndLocked (s : State) : Bool :=
  let m := if s.mode = .drowse then Mode.ofCode (s.fld F.PWR_STATUS.ENTERED_FROM) else s.mode
  (m == .composed || m == .fabric) && !s.flag F.DBG_STATUS.UNLOCKED

/-- SEC, MGT and PWR registers as they are read. -/
def State.showCore (s : State) (r : RegDesc) (i v : Nat) : Nat :=
  if r.base = R.MGT_MODE.base then s.mode.code + 8 * b2n s.transition
  else if r.base = R.MGT_SERIAL_LO.base then Config.serial.toNat % 2 ^ 32
  else if r.base = R.MGT_SERIAL_HI.base then Config.serial.toNat / 2 ^ 32
  else if r.base = R.PWR_TB_LO.base then s.tb.toNat % 2 ^ 32
  else if r.base = R.PWR_TB_HI.base then s.tb.toNat / 2 ^ 32
  else if r.base = R.PWR_XD_STATUS.base then setBits v 0 1 (b2n (s.domainRuns i))
  else if r.base = R.DBG_STATUS.base then setBits v 5 1 (b2n s.bndLocked)
  else if r.base = R.SEC_SVN.base then setBits v 0 7 s.sec.floor
  else if r.base = R.SEC_FW_VERSION_A.base then s.imageVersion 0
  else if r.base = R.SEC_FW_VERSION_B.base then s.imageVersion 1
  else if r.base = R.SEC_LIFECYCLE.base then lifecycle
  else if r.base = R.SEC_FUSE_KEYHASH_RSA.base then bodyNat Config.keyHashRsa (4 * i) 4
  else if r.base = R.SEC_FUSE_KEYHASH_SLH.base then bodyNat Config.keyHashSlh (4 * i) 4
  else if r.base = R.SEC_MEAS.base then bodyNat (s.measure (i / 12 + 1)) (4 * (i % 12)) 4
  else if r.base = R.SEC_FW_PROGRESS.base then s.sec.programmed / 1024
  else v

/-- QOS and ACU registers as they are read. -/
def State.showQos (s : State) (r : RegDesc) (i v : Nat) : Nat :=
  if r.base = R.QOS_NODE_STATUS.base then s.nodeStatus i
  else if r.base = R.QOS_SQ_STATUS.base then s.queueStatus i
  else if r.base = R.QOS_GCL_STATUS.base then
    setBits v 18 8 (((List.range 8).map (fun c => 2 ^ c * b2n (s.gateOpen i c))).foldl (· + ·) 0)
  else if r.base = R.ACU_STATUS.base then setBits v 0 14 (s.bnd.active.acu.filter (fun e => ef e.2 0 1 == 1)).length
  else v

/-- SPG registers as they are read: FAULTS_60S counts the faults of the last 60.0 s (R363), and PERST_REL is the level of the port's
PERST_OUT_N (R405). -/
def State.showSpg (s : State) (r : RegDesc) (i v : Nat) : Nat :=
  if r.base = R.SPG_SLOT_STATE.base then
    setBits (setBits v 12 2 (min 3 (s.gRecent i).length)) 9 1 (b2n (bits v 9 1 == 1 && s.pins.released.contains (s.gPort i)))
  else v

/-- The fields of a register that a write only triggers: they read 0 (Table 0.11). -/
def RegDesc.woMask (r : RegDesc) : Nat := r.accMask (fun a => a == .wo)

/-- The value a read of instance `i` of a register shows. -/
def State.shown (s : State) (r : RegDesc) (i : Nat) : Word :=
  let v := (s.rd r i).toNat
  let a := r.base
  let x := if a < 0x400000 then s.showCore r i v
    else if a < 0x800000 then s.showPcl r i v
    else if a < 0x1000000 then v
    else if a < 0x1400000 then s.showChn r i v
    else if a < 0x1800000 then s.showBnd r i v
    else if a < 0x2000000 then s.showQos r i v
    else if a < 0x2400000 || 0x10000000 ≤ a then s.showSvc r i v
    else if a < 0x2800000 then s.showSpg r i v
    else v
  BitVec.ofNat 32 (x - Nat.land x r.woMask)

/-! ## Windows -/

/-- The table, index and byte of the entry a BAR0 offset falls in. -/
def windowAt (off : Nat) : Option (Table × Nat × Nat) :=
  ([.bind, .vdsp, .win, .id, .acu, .route, .group, .attach, .portmap] : List Table).findSome? (fun t =>
    let d := off - t.base
    if t.base ≤ off && d < t.count * t.stride && d % t.stride < t.size then some (t, d / t.stride, d % t.stride) else none)

/-- The bank the windows read (R127). -/
def State.viewBank (s : State) : Bank := if s.flag F.BND_GEN_CTRL.VIEW_SHADOW then s.bnd.shadow else s.bnd.active

/-- The 32 bytes of a posted-failure log entry (Table 7.8). -/
def PflEntry.bytes (e : PflEntry) : List Byte :=
  leBytes 32 (e.addr + 2 ^ 64 * e.len + 2 ^ 77 * b2n e.dir + 2 ^ 78 * b2n e.addrKind + 2 ^ 79 + 2 ^ 80 * e.binding + 2 ^ 92 * e.failFeid +
    2 ^ 104 * e.reason + 2 ^ 108 * e.count + 2 ^ 128 * e.requester + 2 ^ 160 * e.time + 2 ^ 224 * e.tFail)

/-- The 16 bytes of a flow context (BND_FLOW). -/
def FlowCtx.bytes (f : FlowCtx) : List Byte :=
  leBytes 16 ((if f.closing then 2 else 1) + 2 ^ 2 * f.src + 2 ^ 14 * f.vh + 2 ^ 22 * f.ord + 2 ^ 24 * f.expect + 2 ^ 40 * f.closeSeq +
    2 ^ 56 * f.held.length + 2 ^ 66 * f.acked)

/-- The bytes of flow context `i`; one that is free reads 0. -/
def State.flowBytes (s : State) (i : Nat) : List Byte :=
  match s.fab.flows.find? (fun (f : FlowCtx) => f.idx == i) with
  | some f => f.bytes
  | none => List.replicate 16 0

/-- The bytes of a posted-failure ring entry. -/
def State.pflBytes (s : State) (v e : Nat) : List Byte :=
  match look (64 * v + e) s.err.pfl with
  | some x => x.bytes
  | none => List.replicate 32 0

/-- The bytes of a place of the journal ring. -/
def State.journalBytes (s : State) (i : Nat) : List Byte :=
  match s.err.journal.find? (fun (j : JournalEntry) => j.idx == i) with
  | some j => j.bytes
  | none => List.replicate 64 0

/-- The MSI-X table entry of a function; one without a vector is masked and otherwise 0 (R284). -/
def State.msixShown (s : State) (f v : Nat) : BitVec 128 :=
  if (s.mapAt R.SVC_VMAP f v).isSome then s.msixEntry f v else BitVec.ofNat 128 (2 ^ 96)

/-- What stands at an offset that no register of `allRegs` occupies: windows, and 0 where there is nothing (R11). -/
def State.windowWord (s : State) (off : Nat) : Nat :=
  match windowAt off with
  | some (t, i, b) => bits (s.viewBank.entry t i).toNat (8 * (b / 4 * 4)) 32
  | none =>
    if 0x1740000 ≤ off && off < 0x1750000 then bodyNat (s.flowBytes ((off - 0x1740000) / 16)) (off % 16 / 4 * 4) 4
    else if 0x1840000 ≤ off && off < 0x1864000 then ((look ((off - 0x1840000) / 4) s.qos.gclAdmin).getD 0xFFFFFFFF).toNat
    else if 0x1880000 ≤ off && off < 0x18A4000 then ((look ((off - 0x1880000) / 4) s.qos.gclOper).getD 0).toNat
    else if 0x2A00000 ≤ off && off < 0x2A48000 then
      bodyNat (s.pflBytes ((off - 0x2A00000) / 0x800) (off % 0x800 / 32)) (off % 32 / 4 * 4) 4
    else if 0x2C00000 ≤ off && off < 0x2C40000 then bodyNat (s.journalBytes ((off - 0x2C00000) / 64)) (off % 64 / 4 * 4) 4
    else if 0x10000000 ≤ off && off < 0x18000000 then
      let f := (off - 0x10000000) / 0x10000
      let d := off % 0x10000
      if 0x8000 ≤ d && d < 0x9000 then bits (s.msixShown f ((d - 0x8000) / 16)).toNat (8 * (d % 16 / 4 * 4)) 32
      else if 0xA000 ≤ d && d < 0xA020 then
        ((List.range 32).filter (fun b => s.svc.pba.contains (256 * f + 32 * ((d - 0xA000) / 4) + b))).foldl (fun x b => x + 2 ^ b) 0
      else 0
    else 0

/-- The register and instance at a BAR0 offset. -/
def State.regAtOff (s : State) (off : Nat) : Option (RegDesc × Nat) := (s.placeOf off).bind findReg

/-- The word at a BAR0 offset, without the effects of a read. -/
def State.peek (s : State) (off : Nat) : Word :=
  match s.placeOf off with
  | none => 0
  | some a => match findReg a with
    | some (r, i) => s.shown r i
    | none => BitVec.ofNat 32 (s.windowWord a)

/-! ## Reads with their effects (R315, R317) -/

/-- A value some bits of which are free values takes one. -/
def drawsOn (r : RegDesc) : Bool :=
  r.base == R.PCL_LANE_STATUS.base || r.base == R.PWR_XD_STATUS.base || rxRegs.any (·.base == r.base)

/-- The `_LO` halves that latch their `_HI`: statistics counters and the timebase. -/
def isLow (r : RegDesc) : Bool := r.kind == .statLo || r.base == R.PWR_TB_LO.base

/-- The `_HI` halves that a latch serves. -/
def isHigh (r : RegDesc) : Bool := r.kind == .statHi || r.base == R.PWR_TB_HI.base

/-- Read the word at a BAR0 offset: a `_LO` half latches its `_HI`, a `_HI` half returns its latch, and a high-water mark is
cleared by its own read. -/
def State.readWord (s : State) (off : Nat) : Word × State :=
  match s.regAtOff off with
  | none => (s.peek off, s)
  | some (r, i) =>
    let v := s.shown r i
    let a := r.addr i
    if isLow r then (v, { s with latches := put (a + 4) (s.peek (off + 4)) s.latches })
    else if isHigh r then ((look a s.latches).getD v, s)
    else if r.kind = .hwm then (v, s.resetReg r i)
    else (v, s.whenb (drawsOn r) State.drew)

/-- Read consecutive words. -/
def State.readWords : Nat → State → Nat → List Byte × State
  | 0, s, _ => ([], s)
  | n + 1, s, off =>
    let (v, s1) := s.readWord off
    let (l, s2) := State.readWords n s1 (off + 4)
    (leBytes 4 v.toNat ++ l, s2)

/-- The bytes of registers as they are read, in the order given. -/
def State.regBytes (s : State) (l : List (RegDesc × Nat)) : List Byte := (l.map (fun e => leBytes 4 (s.shown e.1 e.2).toNat)).flatten

end Sys2Proof.Machine
end

