-- ==== Sys2Proof/Machine/CrbBase.lean ====
section
/-! DEFINITION. What the opcodes of Corber share (R295, R309): the row of Table 12.6 an opcode has, the fields of a body, and the
objects a request names.  Each body field starts on a byte boundary and takes the bytes its width needs (DESIGN CHOICE,
notes/assumptions/22). -/

namespace Sys2Proof.Machine

/-- A row of Table 12.6: opcode, whether it is a change, whether the DK-96 form has it, whether it needs MAINTENANCE, the body
lengths it allows, and what it does. -/
structure OpInfo where
  code : Nat
  change : Bool := true
  d96 : Bool := false
  m : Bool := false
  len : Nat → Bool
  run : CrbReq → State → Ans

/-- The group of an opcode (R301). -/
def OpInfo.group (o : OpInfo) : Nat := o.code / 256

/-- A body of exactly `n` bytes. -/
def size (n : Nat) : Nat → Bool := fun k => k == n

/-- A body of 1 to `n` items of `w` bytes after `h` bytes. -/
def items (h w n : Nat) : Nat → Bool := fun k => h + w ≤ k && k ≤ h + w * n && (k - h) % w == 0

/-- The packet offset of byte `i` of a body. -/
def at16 (i : Nat) : Nat := 16 + i

/-- The packet offset of OBJECT. -/
def objOff : Nat := 8

/-- Answer with the words of registers. -/
def State.showRegs (s : State) (l : List (RegDesc × Nat)) : Ans := ok s (s.regBytes l)

/-- Check the fields of a body in order; each with its packet offset. -/
def fields (s : State) (l : List (Bool × Nat)) (f : Ans) : Ans :=
  match l.find? (fun e => !e.1) with
  | some e => bad s e.2
  | none => f

end Sys2Proof.Machine

namespace Sys2Proof

open Machine

/-- The number in bytes `i` to `i + n - 1` of a body. -/
def CrbReq.num (q : CrbReq) (i n : Nat) : Nat := bodyNat q.body i n

/-- Run an opcode that names a live port (R16). -/
def CrbReq.port (q : CrbReq) (s : State) (f : Nat → Ans) : Ans :=
  if q.object < 144 && s.live q.object then f q.object else bad s objOff

/-- Run an opcode that names one of `n` objects. -/
def CrbReq.obj (q : CrbReq) (n : Nat) (s : State) (f : Nat → Ans) : Ans := if q.object < n then f q.object else bad s objOff

/-- Run an opcode that names a link index some port holds: the link's controller. -/
def CrbReq.link (q : CrbReq) (s : State) (f : Nat → Ans) : Ans :=
  match (if q.object < 72 then s.portOfLink q.object else none) with
  | some p => f (controllerOf p)
  | none => bad s objOff

/-- Set registers from the words of a body, in order. -/
def CrbReq.set (q : CrbReq) (s : State) (g : CfgGroup) (l : List (RegDesc × Nat)) : Ans :=
  s.setCfg g ((List.range l.length).map (fun k =>
    let e := l.getD k (R.MGT_IDENT, 0)
    (e.1, e.2, q.num (4 * k) 4)))

/-- A field of `w` bits at byte `i` of a body that takes `n` bytes holds no bit above them. -/
def CrbReq.fits (q : CrbReq) (i n w : Nat) : Bool := q.num i n < 2 ^ w

end Sys2Proof
end

