-- ==== Sys2Proof/Machine/CrbPorts.lean ====
section
/-! DEFINITION. Corber groups 0x01 (device), in part, and 0x02 (ports and lanes) of Table 12.6. -/

namespace Sys2Proof.Machine

/-! ## Group 0x01 -/

/-- GET_INFO: serial, MGT_IDENT, die IDs, firmware versions, mode. -/
def opGetInfo : OpInfo where
  code := 0x0100
  change := false
  d96 := true
  len := size 0
  run := fun _ s => ok s (leBytes 8 Config.serial.toNat ++ leBytes 4 (s.rd R.MGT_IDENT).toNat ++
    ((List.range 5).map (fun i => leBytes 4 (Config.dieId (Fin.ofNat 5 i)).toNat)).flatten ++
    leBytes 4 (s.imageVersion 0) ++ leBytes 4 (s.imageVersion 1) ++ leBytes 1 s.mode.code)

/-- GET_MODE. -/
def opGetMode : OpInfo where
  code := 0x0101
  change := false
  d96 := true
  len := size 0
  run := fun _ s => s.showRegs [(R.MGT_MODE, 0)]

/-- ECHO. -/
def opEcho : OpInfo where
  code := 0x0102
  change := false
  len := fun n => n ≤ 4076
  run := fun q s => ok s q.body

/-- The bytes of BAR0. -/
def barSize : Nat := 0x4000000

/-- READ_REG. -/
def opReadReg : OpInfo where
  code := 0x0103
  change := false
  d96 := true
  len := size 6
  run := fun q s =>
    let off := q.num 0 4
    let n := q.num 4 2
    fields s [(off % 4 == 0 && off < barSize, at16 0), (1 ≤ n && n ≤ 256 && off + 4 * n ≤ barSize, at16 4)]
      (let r := State.readWords n s off; ok r.2 r.1)

/-- GET_TIMEBASE. -/
def opGetTimebase : OpInfo where
  code := 0x010A
  change := false
  len := size 0
  run := fun _ s => ok s (leBytes 8 s.tb.toNat ++ leBytes 1 (b2n s.tbValid))

/-- The most subscribers a device has, the rings among them (R297). -/
def maxSubs : Nat := 8

/-- SUBSCRIBE (R297): the rings are subscriber 0, others the lowest free index from 1. -/
def opSubscribe : OpInfo where
  code := 0x0108
  len := size 3
  run := fun q s =>
    let mine := s.crb.subs.find? (fun (b : Subscriber) => b.src == q.src)
    let free := (List.range maxSubs).find? (fun i => 0 < i && !s.crb.subs.any (·.idx == i))
    let place := if q.src = .rings then some 0 else (mine.map (·.idx)).orElse (fun _ => free)
    fields s [(q.fits 0 2 12, at16 0), (q.fits 2 1 2, at16 2)] (match place with
      | none => no s stResource 8
      | some i =>
        let b : Subscriber := { idx := i, src := q.src, mask := q.num 0 2, minSev := q.num 2 1 }
        ok (s.onCrb (fun y => { y with subs := y.subs.filter (fun (x : Subscriber) => x.src != q.src) ++ [b] })) (leBytes 1 i))

/-- UNSUBSCRIBE. -/
def opUnsubscribe : OpInfo where
  code := 0x0109
  len := size 0
  run := fun q s => ok (s.onCrb (fun y => { y with subs := y.subs.filter (fun (x : Subscriber) => x.src != q.src) }))

/-- SET_CHURN (R75, R80, R86). -/
def opSetChurn : OpInfo where
  code := 0x010B
  len := size 20
  run := fun q s => q.set s .churn [(R.CHN_CFG, 0), (R.CHN_ESC_CFG, 0), (R.CHN_MC_CFG, 0), (R.CHN_MC_TIMER, 0), (R.CHN_POOL_WM, 0)]

/-- SET_ROTATION (R87). -/
def opSetRotation : OpInfo where
  code := 0x010C
  len := size 4
  run := fun q s => q.set s .rotation [(R.CHN_ROT_CTRL, 0)]

/-! ## Group 0x02 -/

/-- GET_PORT. -/
def opGetPort : OpInfo where
  code := 0x0200
  change := false
  d96 := true
  len := size 0
  run := fun q s => q.port s (fun p => s.showRegs [(R.PCL_PORT_STATUS, p), (R.PCL_PORT_EVT, p), (R.CHN_PORT_HELD, p)])

/-- The five words of a cluster. -/
def clusterRegs (c : Nat) : List (RegDesc × Nat) := (R.PCL_CLUSTER_CFG, c) :: (List.range 4).map (fun k => (R.PCL_SLOT_CFG, 4 * c + k))

/-- SET_CLUSTER (R17, R19 to R24, R44 to R48).  A change of bifurcation aborts a recalibration under way before R21 answers BUSY (R64,
notes/assumptions/67). -/
def opSetCluster : OpInfo where
  code := 0x0201
  len := size 20
  run := fun q s => q.obj 36 s (fun c =>
    let a := q.set s (.cluster c) (clusterRegs c)
    let moves := (List.range 4).any (fun k => bits (q.num (4 + 4 * k) 4) 0 3 != s.fld F.PCL_SLOT_CFG.WIDTH (4 * c + k))
    if a.status = stBusy && moves then { a with s := s.each (List.range 4) (fun s k => s.abortRecal (4 * c + k) 5) } else a)

/-- GET_CLUSTER. -/
def opGetCluster : OpInfo where
  code := 0x0202
  change := false
  len := size 0
  run := fun q s => q.obj 36 s (fun c => s.showRegs (clusterRegs c ++ [(R.PCL_CLUSTER_STATUS, c)]))

/-- The composition is fixed: TRANSPARENT, and MAINTENANCE entered from it (R94). -/
def State.fixedBinds (s : State) : Bool :=
  s.mode == .transparent || (s.mode == .maintenance && s.enteredFrom == .transparent)

/-- Enable a live port (R22, R26): an open gate first, then DETECT; a guarded slot that is on releases its PERST_OUT_N (R358), and a
KFL port trains.  Fabric ports stay disabled under the fixed composition (R129). -/
def State.enablePort (s : State) (p : Nat) : State :=
  let c := clusterOf p
  let s1 := s.setFld F.PCL_PORT_CTRL.ENABLE p 1
  let idle := s1.linkState p = 0 || s1.linkState p = 6
  if !idle || (s1.isFabric p && s1.fixedBinds) then s1
  else
    let s2 := s1.whenb (s1.flag F.PCL_CLUSTER_STATUS.REGION_GATED c) (fun s => s.setGate (regionOf c) false)
    let s3 := (s2.linkOff p 1).pllUpdate c
    (s3.whenb ((s3.guardOf p).isSome && s3.mayReleasePerst p) (fun s => s.releasePerst p)).tryTrain p

/-- Disable a live port, a recalibration under way aborted first (R64): a fabric link by orderly disable (R195), a pool-edge link with
its slots shown inactive, a host edge with the reset of its VH (R119).  A port in TEST is disabled and stays there.  DESIGN CHOICE
(notes/assumptions/67): a port whose TEST stands at 1 when ENABLE is cleared is DISABLED until TEST is written again. -/
def State.disablePort (s : State) (p : Nat) : State :=
  let s1 := (s.abortRecal p 5).setFld F.PCL_PORT_CTRL.ENABLE p 0
  let off (s : State) : State := (s.linkOff p 0).pllUpdate (clusterOf p)
  if s1.linkState p = 0 || s1.linkState p = 6 then s1
  else if s1.isFabric p then (if s1.lst (controllerOf p) = 0 then off s1 else s1.kflDisable (controllerOf p) 0)
  else if s1.isHostEdge p then
    (if s1.linkUp p then s1.hostDown p true else off s1)
  else
    let bs := (s1.bindingsOn p).filter (fun e => Bind.kind e.2 == 0 && !s1.isDeviceEnd e.2)
    let s2 := ((s1.linkDown p 5).assertPerst p)
    s2.each bs (fun s e => s.showSlot (Bind.vh e.2) (Bind.vdsp e.2) true false)

/-- PORT_ENABLE (R16, R26). -/
def opPortEnable : OpInfo where
  code := 0x0203
  d96 := true
  len := size 1
  run := fun q s => q.port s (fun p => fields s [(q.fits 0 1 1, at16 0)]
    (ok (if q.num 0 1 = 1 then s.enablePort p else s.disablePort p)))

/-- SET_ROLE (R17, R45, R46, R129). -/
def opSetRole : OpInfo where
  code := 0x0204
  len := size 2
  run := fun q s => q.port s (fun p => fields s [(q.num 0 1 ≤ 2, at16 0), (q.num 1 1 ≤ 2, at16 1)]
    (s.change ((s.setFld F.PCL_SLOT_CFG.ROLE p (q.num 0 1)).setFld F.PCL_SLOT_CFG.PROTO p (q.num 1 1)) (.role p)))

/-- An operation of the partner's on a link is in flight: a shed or restore we agreed to whose marker set has not passed (R162,
R196). -/
def State.peerActs (s : State) (c : Nat) : Bool :=
  (s.kl c).maskNext.isSome && !(s.kl c).shedOurs && (s.kl c).shed.isNone && (s.kl c).restore.isNone

/-- The FEID of the partner of a link, as HELLO told. -/
def State.peerFeid (s : State) (c : Nat) : Nat := (look c s.fab.peer).getD 0

/-- An operation of this device on a link yields to the partner's (R162): it is counted. -/
def State.yields (s : State) : State := (s.bump R.BND_FAB_PEER_AUTH_CNT).raise F.BND_FAB_EVT.PEER_AUTHORITY

/-- An operation of the partner's on a link is in flight and holds authority over this device's: the partner has the lower FEID
(R162). -/
def State.peerHolds (s : State) (c : Nat) : Bool :=
  let f := s.peerFeid c
  s.peerActs c && f != 0 && (s.ownFeid == 0 || f < s.ownFeid)

/-- RECALIBRATE (R63, R64). -/
def opRecalibrate : OpInfo where
  code := 0x0205
  len := size 0
  run := fun q s => q.port s (fun p =>
    let st := s.linkState p
    let c := controllerOf p
    if s.proto p = 2 && s.peerHolds c then no s.yields stPeer (s.peerFeid c)
    else if s.flag F.PCL_CLUSTER_STATUS.RECAL_BUSY (clusterOf p) then no s stBusy 2
    else if st = 0 || st = 6 then ok (s.recalStart p)
    else if !s.active p then no s stBusy 2
    else if s.canBorrow p then started s (fun s => s.recalStart p)
    else no s stTraffic s.livePorts.length)

/-- MARGIN (R60, Table 2.6): the lanes of the port, the axis, the direction, the steps and the error limit. -/
def opMargin : OpInfo where
  code := 0x0206
  len := size 6
  run := fun q s => q.port s (fun p =>
    let lanes := (s.lanesOf p).length
    let volt := q.num 2 1 = 1
    fields s [(q.num 0 2 != 0 && q.num 0 2 < 2 ^ lanes, at16 0), (q.fits 2 1 1, at16 2), (q.fits 3 1 1, at16 3),
        (1 ≤ q.num 4 1 && q.num 4 1 ≤ (if volt then 64 else 32), at16 4), (1 ≤ q.num 5 1 && q.num 5 1 ≤ 63, at16 5)]
      (if !s.active p then no s stBusy 2 else started s id))

/-- GET_LANE. -/
def opGetLane : OpInfo where
  code := 0x0207
  change := false
  len := size 0
  run := fun q s => q.obj 288 s (fun l =>
    ok (s.each (List.range 9) (fun s _ => s.drew)) (((R.PCL_LANE_STATUS :: R.PCL_LANE_TXEQ :: R.PCL_LANE_RXADAPT_CTRL :: rxRegs).zip
      (List.range 9)).map (fun e => leBytes 4 ((s.each (List.range e.2) (fun s _ => s.drew)).shown e.1 l).toNat)).flatten)

/-- SET_LINK_INDEX (R17). -/
def opSetLinkIndex : OpInfo where
  code := 0x0208
  len := size 1
  run := fun q s => q.port s (fun p =>
    if !s.isFabric p then bad s objOff
    else fields s [(q.num 0 1 ≤ 71, at16 0)] (s.change (s.setFld F.PCL_SLOT_CFG.KFL_LINK p (q.num 0 1)) (.link p)))

/-- SET_KFL (R201). -/
def opSetKfl : OpInfo where
  code := 0x0209
  len := size 16
  run := fun q s => q.link s (fun c =>
    q.set s (.kfl c) [(R.KFL_LINK_CFG, c), (R.KFL_TIMER_A, c), (R.KFL_TIMER_B, c), (R.KFL_TIMER_C, c)])

/-- KFL_DISABLE (R162, R195). -/
def opKflDisable : OpInfo where
  code := 0x020A
  len := size 0
  run := fun q s => q.link s (fun c =>
    let f := s.peerFeid c
    if s.peerHolds c then no s.yields stPeer f
    else if (s.kl c).stopping.isSome then no s stBusy 2
    else if 5 ≤ s.lst c then started s (fun s => s.kflDisable c 0)
    else ok ((s.setFld F.PCL_PORT_CTRL.ENABLE (portOfCtl c) 0).kflStop c))

/-- GET_KFL. -/
def opGetKfl : OpInfo where
  code := 0x020B
  change := false
  len := size 0
  run := fun q s => q.link s (fun c => s.showRegs ([(R.KFL_LINK_STATUS, c), (R.KFL_SEQ_TX, c), (R.KFL_SEQ_RX, c), (R.KFL_REPLAY_STATUS, c)] ++
    (List.range 7).map (fun v => (R.KFL_CRED_TX, 7 * c + v)) ++ (List.range 7).map (fun v => (R.KFL_CRED_RX, 7 * c + v)) ++
    [(R.KFL_PEER_SERIAL_LO, c), (R.KFL_PEER_SERIAL_HI, c)]))

/-- SET_PORT_POOL (R75, R76). -/
def opSetPortPool : OpInfo where
  code := 0x020C
  len := size 8
  run := fun q s => q.port s (fun p => q.set s (.pool p) [(R.CHN_PORT_CFG, p), (R.CHN_PORT_RES, p)])

end Sys2Proof.Machine
end

