-- ==== Sys2Proof/Machine/CrbBind.lean ====
section
/-! DEFINITION. Corber group 0x03 (bindings) of Table 12.6: sessions and edits of the shadow (R115, R307, R310), quiesce (R117),
bindings (R418), VHs (R92, R112), and the CXL FM API (R299). -/

namespace Sys2Proof.Machine

/-! ## Sessions -/

/-- DETAIL of a CONFLICT that no session holder causes.  DESIGN CHOICE (notes/assumptions/7). -/
def noHolder : Nat := 0xFFFF

/-- Open a session for a requester. -/
def State.openSession (s : State) (r : Requester) : State :=
  let s1 := s.onBnd (fun y => { y with session := some { holder := r, lastUse := s.now } })
  ((s1.setFld F.BND_GEN_STATUS.SESSION_OPEN 0 1).setFld F.BND_GEN_STATUS.SHADOW_DIRTY 0 0).useSession

/-- SESSION_OPEN (R115). -/
def opSessionOpen : OpInfo where
  code := 0x0300
  len := size 0
  run := fun q s => match s.bnd.session with
    | some x => no s stConflict (s.indexOfReq x.holder)
    | none =>
      if !s.flag F.BND_GEN_STATUS.SHADOW_READY then no s stBusy 3
      else ok (s.openSession q.src) (leBytes 4 (s.fld F.BND_GEN_STATUS.ACTIVE_GEN))

/-- Run what only the holder of the open session may do (R307); a commit that runs must end first. -/
def State.held (s : State) (r : Requester) (f : Ans) : Ans :=
  match s.bnd.session with
  | none => no s stConflict noHolder
  | some x => if x.holder != r then no s stConflict (s.indexOfReq x.holder)
    else if s.bnd.committing then no s stBusy 2 else f

/-- COMMIT (R116). -/
def opCommitInfo : OpInfo where
  code := opCommit
  len := size 0
  run := fun q s => s.held q.src (started s (fun s => s.onBnd (fun y => { y with committing := true })))

/-- SESSION_ABORT. -/
def opSessionAbort : OpInfo where
  code := 0x0302
  len := size 0
  run := fun q s => s.held q.src (ok s.closeSession)

/-- QUIESCE (R117). -/
def opQuiesceInfo : OpInfo where
  code := opQuiesce
  len := size 4
  run := fun q s => fields s [(1000 ≤ q.num 0 4 && q.num 0 4 ≤ 10000000, at16 0)]
    (if s.older = 0 then ok s
     else started s (fun s => s.arm .quiesce (s.reqKey q.src q.tag) (us (q.num 0 4))))

/-! ## Entries (R310) -/

/-- The lowest reserved bit an entry sets. -/
def Table.firstReserved (t : Table) (e : BitVec 512) : Option Nat :=
  ((t.reserved.map (fun r => (List.range r.2).map (r.1 + ·))).flatten).find? (fun b => ef e b 1 == 1)

/-- The requester may edit routes and groups (R151): no lead is known, it is the lead's fabric manager, or the lead itself. -/
def State.mayRoute (s : State) (r : Requester) : Bool :=
  if !s.flag F.BND_FAB_STATUS.LEAD_KNOWN then true
  else
    let lead := s.fld F.BND_FAB_STATUS.LEAD_FEID
    match r with
    | .whey f => f.toNat == lead
    | _ => s.ownFeid == lead && lead != 0

/-- The number in a body as an entry of a table. -/
def CrbEntry (b : List Byte) (i : Nat) (t : Table) : BitVec 512 := BitVec.ofNat 512 (bodyNat b i t.size)

/-- WRITE_ENTRY (R115, R151, R310). -/
def opWriteEntry : OpInfo where
  code := 0x0304
  len := fun n => 5 ≤ n && n ≤ 65
  run := fun q s => match Table.ofCode (q.num 0 1) with
    | none => bad s (at16 0)
    | some t =>
      let e := CrbEntry q.body 1 t
      fields s [(q.body.length == 1 + t.size, 4), (q.object < t.count && !(t == .attach && q.object < 144), objOff),
          ((t.firstReserved e).isNone, at16 (1 + ((t.firstReserved e).getD 0) / 8))]
        (if s.fixedBinds && q.num 0 1 ≤ 3 then no s stUnsupported 0
         else if (t == .route || t == .group) && !s.mayRoute q.src then no s stAuth 3
         else s.held q.src (ok (s.writeShadow t q.object e)))

/-- READ_ENTRY. -/
def opReadEntry : OpInfo where
  code := 0x0305
  change := false
  len := size 2
  run := fun q s => match Table.ofCode (q.num 0 1) with
    | none => bad s (at16 0)
    | some t =>
      fields s [(q.object < t.count, objOff), (q.num 1 1 ≤ 1, at16 1)]
        (ok s (leBytes t.size ((if q.num 1 1 = 1 then s.bnd.shadow else s.bnd.active).entry t q.object).toNat))

/-- Put a binding and its vDSP into the shadow: the vDSP is present and bound (Table 4.4). -/
def State.shadowBind (s : State) (i : Nat) (b : Bind) : State :=
  (s.writeShadow .bind i b).writeShadow .vdsp (64 * b.vh + b.vdsp) (BitVec.ofNat 512 (3 + 4 * i))

/-- BIND (R310). -/
def opBind : OpInfo where
  code := 0x0306
  len := size 66
  run := fun q s => q.obj 4096 s (fun i =>
    let e : Bind := CrbEntry q.body 2 .bind
    fields s [(q.num 0 1 ≤ 143, at16 0), (q.num 1 1 ≤ 63, at16 1), (e.vh == q.num 0 1, at16 2), (e.vdsp == q.num 1 1, at16 3),
        ((Table.bind.firstReserved e).isNone, at16 (2 + ((Table.bind.firstReserved e).getD 0) / 8))]
      (if s.fixedBinds then no s stUnsupported 0 else s.held q.src (ok (s.shadowBind i e))))

/-- Release a binding's vDSP in the shadow and note how it is to unbind (R99, notes/assumptions/15). -/
def State.shadowUnbind (s : State) (i mode : Nat) : State :=
  let b : Bind := s.bnd.shadow.entry .bind i
  let v := s.bnd.shadow.entry .vdsp (64 * b.vh + b.vdsp)
  (s.writeShadow .bind i (BitVec.ofNat 512 (setBits b.toNat 107 1 mode))).writeShadow .vdsp (64 * b.vh + b.vdsp)
    (BitVec.ofNat 512 (setBits v.toNat 1 1 0))

/-- UNBIND (R99). -/
def opUnbind : OpInfo where
  code := 0x0307
  len := size 1
  run := fun q s => q.obj 4096 s (fun i =>
    let b : Bind := s.bnd.shadow.entry .bind i
    fields s [(q.fits 0 1 1, at16 0), (b.valid, objOff)]
      (if s.fixedBinds then no s stUnsupported 0 else s.held q.src (ok (s.shadowUnbind i (q.num 0 1)))))

/-! ## Bindings -/

/-- The slot guard of a binding is in LOCKOUT. -/
def State.bindLocked (s : State) (i : Nat) : Bool :=
  let b := s.bind i
  !b.isRemote && (match s.guardOf b.port with
    | some g => s.gState g == gLockout
    | none => false)

/-- RESUME_BINDING (R418). -/
def opResumeBinding : OpInfo where
  code := 0x0308
  len := size 0
  run := fun q s => q.obj 4096 s (fun i =>
    if s.bindState i ≠ 2 then bad s objOff
    else if s.bindLocked i then no s stLocked 2
    else if s.fld F.BND_BIND_STATE.SUSPEND_CAUSE i = 3 then no s stBusy 2
    else started s (fun s => s.startReset i true))

/-- RESET_BINDING (Table 4.16). -/
def opResetBinding : OpInfo where
  code := 0x0309
  len := size 0
  run := fun q s => q.obj 4096 s (fun i =>
    if !Bind.valid (s.bind i) || s.bindState i = 0 then bad s objOff
    else if s.bindState i = 2 || s.bindState i = 4 then no s stBusy 2
    else started s (fun s => s.startReset i false))

/-- GET_BINDING. -/
def opGetBinding : OpInfo where
  code := 0x030A
  change := false
  len := size 0
  run := fun q s => q.obj 4096 s (fun i => ok s (s.regBytes [(R.BND_BIND_STATE, i)] ++ leBytes 64 (s.bind i).toNat))

/-! ## Virtual hierarchies -/

/-- SET_VH_TAGS (R112). -/
def opSetVhTags : OpInfo where
  code := 0x030B
  len := size 4
  run := fun q s => q.obj 144 s (fun v => q.set s (.vhTags v) [(R.BND_VH_TAGS, v)])

/-- SET_MGMT_VH (R92): both VHs must be DOWN. -/
def opSetMgmtVh : OpInfo where
  code := 0x030C
  len := size 0
  run := fun q s => q.obj 144 s (fun v =>
    if v = s.bnd.mgmtVh then ok s
    else if !(s.live v && s.isHostEdge v) then bad s objOff
    else if s.fld F.BND_VH_STATUS.STATE v != 0 || s.fld F.BND_VH_STATUS.STATE s.bnd.mgmtVh != 0 then no s stBusy 2
    else ok (s.onBnd (fun y => { y with mgmtVh := v })))

/-- SET_TRK_TIMEOUT. -/
def opSetTrkTimeout : OpInfo where
  code := 0x030D
  len := size 4
  run := fun q s => q.set s .plain [(R.BND_TRK_TIMEOUT, 0)]

/-- GET_VH. -/
def opGetVh : OpInfo where
  code := 0x030E
  change := false
  len := size 0
  run := fun q s => q.obj 144 s (fun v =>
    s.showRegs [(R.BND_VH_STATUS, v), (R.BND_VH_TRK_USED, v), (R.BND_VH_BLOCKED_CNT, v), (R.BND_VH_RESET_CNT, v)])

/-! ## CXL FM API (R299).  PRESUMED (notes/assumptions/20): the message header, return codes and the payloads of Bind vPPB and Unbind
vPPB of CXL 3.1; the payloads of the other responses are free values -/

/-- Return codes. -/
def fmSuccess : Nat := 0
def fmStarted : Nat := 1
def fmInvalid : Nat := 2
def fmUnsupported : Nat := 3
def fmInternal : Nat := 4
def fmBusy : Nat := 6

/-- The return code a Corber status maps to. -/
def fmCode (st : Nat) : Nat :=
  if st = stOk then fmSuccess else if st = stAccepted then fmStarted else if st = stParam then fmInvalid
  else if st = stUnsupported then fmUnsupported else if st = stBusy || st = stConflict || st = stPeer then fmBusy else fmInternal

/-- A response: the header with its return code, and the payload. -/
def fmResponse (req : List Byte) (code : Nat) (payload : List Byte) : List Byte :=
  leBytes 1 1 ++ (req.drop 1).take 1 ++ leBytes 1 0 ++ (req.drop 3).take 2 ++ leBytes 3 payload.length ++ leBytes 2 code ++ leBytes 2 0 ++
    payload

/-- A session of one edit, then its commit. -/
def State.oneEdit (s : State) (r : Requester) (edit : State → State) : Ans :=
  if s.fixedBinds then no s stUnsupported 0
  else match s.bnd.session with
    | some x => no s stConflict (s.indexOfReq x.holder)
    | none =>
      if !s.flag F.BND_GEN_STATUS.SHADOW_READY then no s stBusy 3
      else { s := (edit (s.openSession r)).onBnd (fun y => { y with committing := true }), status := stAccepted }

/-- Bind vPPB: VCS, vPPB, physical port, LD-ID (0xFFFF none). -/
def State.fmBind (s : State) (r : Requester) (p : List Byte) : Ans :=
  let v := bodyNat p 0 1
  let i := bodyNat p 1 1
  let port := bodyNat p 2 1
  let ld := bodyNat p 4 2
  match (List.range 4096).find? (fun k => !Bind.valid (s.bnd.shadow.entry .bind k)) with
  | none => no s stResource 1
  | some k =>
    if 143 < v || 63 < i || !s.live port || !(ld < 16 || ld = 0xFFFF) then bad s (at16 0)
    else s.oneEdit r (fun s => s.shadowBind k (BitVec.ofNat 512 (1 + 2 * (if ld = 0xFFFF then 0 else 4) + 2 ^ 4 * v + 2 ^ 12 * i + 2 ^ 18 * port +
      (if ld = 0xFFFF then 0 else 2 ^ 42 * ld))))

/-- Unbind vPPB: VCS, vPPB, option (2 a surprise removal). -/
def State.fmUnbind (s : State) (r : Requester) (p : List Byte) : Ans :=
  let e := s.bnd.shadow.entry .vdsp (64 * bodyNat p 0 1 + bodyNat p 1 1)
  if 143 < bodyNat p 0 1 || 63 < bodyNat p 1 1 || ef e 0 2 ≠ 3 then bad s (at16 0)
  else s.oneEdit r (fun s => s.shadowUnbind (ef e 2 12) (b2n (bodyNat p 2 1 == 2)))

/-- What a request of the FM API comes to, and its response. -/
def State.fmApi (s : State) (r : Requester) (req : List Byte) : State × List Byte :=
  let op := bodyNat req 3 2
  let pay := req.drop 12
  if op = 0x5201 then let a := s.fmBind r pay; (a.s, fmResponse req (fmCode a.status) [])
  else if op = 0x5202 then let a := s.fmUnbind r pay; (a.s, fmResponse req (fmCode a.status) [])
  else if [0x51, 0x52, 0x53].contains (op / 256) then (s, fmResponse req fmSuccess (Config.fmPayload req))
  else (s, fmResponse req fmUnsupported [])

/-- CXL_FM (R299). -/
def opCxlFm : OpInfo where
  code := 0x030F
  len := fun n => 12 ≤ n && n ≤ 4080
  run := fun q s => let a := s.fmApi q.src q.body; ok a.1 a.2

end Sys2Proof.Machine
end

