-- ==== Sys2Proof/Machine/CrbQos.lean ====
section
/-! DEFINITION. Corber groups 0x04 (fabric), 0x05 (traffic control) and 0x06 (access checks) of Table 12.6. -/

namespace Sys2Proof.Machine

/-! ## Group 0x04 -/

/-- SET_FABRIC (R131). -/
def opSetFabric : OpInfo where
  code := 0x0400
  len := size 4
  run := fun q s => q.set s .fabric [(R.BND_FAB_CFG, 0)]

/-- What GET_FABRIC tells of a link index: LSTATE, the peer FEID, and a byte of 0 (notes/assumptions/22). -/
def State.linkInfo (s : State) (l : Nat) : List Byte :=
  match s.portOfLink l with
  | some p => leBytes 1 (s.lst (controllerOf p)) ++ leBytes 2 (s.peerFeid (controllerOf p)) ++ leBytes 1 0
  | none => leBytes 4 0

/-- GET_FABRIC. -/
def opGetFabric : OpInfo where
  code := 0x0401
  change := false
  len := size 0
  run := fun _ s => ok s (s.regBytes [(R.BND_FAB_STATUS, 0), (R.BND_FAB_LEAD_INFO, 0), (R.BND_FAB_LINK_LIVE0, 0), (R.BND_FAB_LINK_LIVE1, 0),
    (R.BND_FAB_LINK_LIVE2, 0)] ++ ((List.range 72).map s.linkInfo).flatten)

/-- GET_MEMBERS: the lead only. -/
def opGetMembers : OpInfo where
  code := 0x0402
  change := false
  len := size 0
  run := fun _ s =>
    if s.fs = fsLead then s.showRegs ((List.range 64).map (fun m => (R.BND_FAB_MEMBER, m))) else no s stUnsupported 0

/-- SET_FAB_TIMERS. -/
def opSetFabTimers : OpInfo where
  code := 0x0403
  len := size 12
  run := fun q s => q.set s .plain [(R.BND_FAB_TIMERS, 0), (R.BND_FAB_RESEQ_CFG, 0), (R.BND_FAB_HOLD_CFG, 0)]

/-- GET_FLOW. -/
def opGetFlow : OpInfo where
  code := 0x0404
  change := false
  len := size 0
  run := fun q s => q.obj 4096 s (fun i => ok s (s.flowBytes i))

/-! ## Group 0x05 -/

/-- SET_POLICER (R230, R243). -/
def opSetPolicer : OpInfo where
  code := 0x0500
  d96 := true
  len := size 20
  run := fun q s => q.obj 4096 s (fun p => q.set s (.policer p)
    [(R.QOS_POL_CFG, p), (R.QOS_POL_CIR, p), (R.QOS_POL_PIR, p), (R.QOS_POL_CBS, p), (R.QOS_POL_PBS, p)])

/-- GET_POLICER. -/
def opGetPolicer : OpInfo where
  code := 0x0501
  change := false
  d96 := true
  len := size 0
  run := fun q s => q.obj 4096 s (fun p => s.showRegs [(R.QOS_POL_STATUS, p), (R.QOS_POL_RED_CNT, p), (R.QOS_POL_HOLD_FULL_CNT, p),
    (R.QOS_POL_GREEN_LO, p), (R.QOS_POL_GREEN_HI, p), (R.QOS_POL_YELLOW_LO, p), (R.QOS_POL_YELLOW_HI, p)])

/-- SET_NODE (R243). -/
def opSetNode : OpInfo where
  code := 0x0502
  d96 := true
  len := size 24
  run := fun q s => q.obj 4096 s (fun n => q.set s (.node n)
    [(R.QOS_NODE_CFG, n), (R.QOS_NODE_TCMAP, n), (R.QOS_NODE_RATE, n), (R.QOS_NODE_BURST, n), (R.QOS_NODE_CS_RATE, n), (R.QOS_NODE_CS_HI, n)])

/-- SET_QUEUE (R243). -/
def opSetQueue : OpInfo where
  code := 0x0503
  len := size 20
  run := fun q s => q.obj 32768 s (fun k => q.set s (.queue k)
    [(R.QOS_SQ_CFG, k), (R.QOS_SQ_RATE, k), (R.QOS_SQ_BURST, k), (R.QOS_SQ_CS_RATE, k), (R.QOS_SQ_CS_HI, k)])

/-- SET_PORT_SHAPER (R243). -/
def opSetPortShaper : OpInfo where
  code := 0x0504
  len := size 12
  run := fun q s => q.port s (fun p => q.set s (.shaper p) [(R.QOS_PORT_CFG, p), (R.QOS_PORT_RATE, p), (R.QOS_PORT_BURST, p)])

/-- Write administrative gate entries of a port from entry `f` on (R241); an entry at its reset value is not listed. -/
def State.writeGcl (s : State) (p f : Nat) (ws : List Nat) : State :=
  s.each (ws.zip (List.range ws.length)) (fun s e =>
    let k := 256 * p + f + e.2
    s.onQos (fun y => { y with gclAdmin := if e.1 = 0xFFFFFFFF then drop k y.gclAdmin else put k (BitVec.ofNat 32 e.1) y.gclAdmin }))

/-- WRITE_GCL (R241). -/
def opWriteGcl : OpInfo where
  code := 0x0505
  len := items 1 4 256
  run := fun q s => q.port s (fun p =>
    let n := (q.body.length - 1) / 4
    fields s [(q.num 0 1 + n ≤ 256, at16 0)]
      (ok (s.writeGcl p (q.num 0 1) ((List.range n).map (fun k => q.num (1 + 4 * k) 4)))))

/-- GCL_CHANGE (R241): nothing changes when the list is refused. -/
def opGclChange : OpInfo where
  code := 0x0506
  len := size 14
  run := fun q s => q.port s (fun p =>
    fields s [(1000 ≤ q.num 0 4 && q.num 0 4 ≤ 1000000000, at16 0), (q.fits 13 1 1, at16 13)]
      (let s1 := (s.setFld F.QOS_GCL_CYCLE.CYCLE_NS p (q.num 0 4)).wr R.QOS_GCL_BASE_LO p (BitVec.ofNat 32 (q.num 4 4))
       let s2 := (s1.wr R.QOS_GCL_BASE_HI p (BitVec.ofNat 32 (q.num 8 4))).setFld F.QOS_GCL_CTRL.ADMIN_LAST p (q.num 12 1)
       match (s2.setFld F.QOS_GCL_CTRL.GATE_EN p (q.num 13 1)).gclChange p with
       | some t => ok t
       | none => bad s 0xFFFF))

/-- SET_QOS. -/
def opSetQos : OpInfo where
  code := 0x0507
  len := size 4
  run := fun q s => q.set s .plain [(R.QOS_CFG, 0)]

/-! ## Group 0x06 -/

/-- SET_ACU. -/
def opSetAcu : OpInfo where
  code := 0x0600
  len := size 4
  run := fun q s => q.set s .plain [(R.ACU_CFG, 0)]

/-- GET_VIOLATION (R267, R268). -/
def opGetViolation : OpInfo where
  code := 0x0601
  change := false
  len := size 0
  run := fun _ s => s.showRegs [(R.ACU_FV_INFO, 0), (R.ACU_FV_ADDR_LO, 0), (R.ACU_FV_ADDR_HI, 0), (R.ACU_FV_RULE, 0), (R.ACU_FV_TIME_LO, 0),
    (R.ACU_FV_TIME_HI, 0), (R.ACU_VIOL_CNT, 0)]

/-- Clear the first-violation capture and rearm it (R267). -/
def State.clearCapture (s : State) : State := (s.setFld F.ACU_FV_INFO.VALID 0 0).setFld F.ACU_STATUS.FV_VALID 0 0

/-- CLEAR_VIOLATION (R267). -/
def opClearViolation : OpInfo where
  code := 0x0602
  len := size 0
  run := fun _ s => ok s.clearCapture

end Sys2Proof.Machine
end

