-- ==== Sys2Proof/Machine/CrbSlot.lean ====
section
/-! DEFINITION. Corber group 0x07 (slots) of Table 12.6: the slot power guards (R355, R363, R367, R370). -/

namespace Sys2Proof.Machine

/-- GET_SLOT (R370). -/
def opGetSlot : OpInfo where
  code := 0x0700
  change := false
  len := size 0
  run := fun q s => q.obj 24 s (fun g => s.showRegs [(R.SPG_SLOT_STATE, g), (R.SPG_SLOT_FAULT, g), (R.SPG_SLOT_TELEM0, g),
    (R.SPG_SLOT_TELEM1, g), (R.SPG_SLOT_LIMIT, g), (R.SPG_SLOT_FAULT_CNT, g), (R.SPG_SLOT_REMOVE_CNT, g), (R.SPG_SLOT_SSB_ERR_CNT, g)])

/-- SET_SLOT (R352, R370). -/
def opSetSlot : OpInfo where
  code := 0x0701
  len := size 24
  run := fun q s => q.obj 24 s (fun g => q.set s (.slot g) [(R.SPG_SLOT_CFG, g), (R.SPG_SLOT_ELEC, g), (R.SPG_SLOT_TIME, g),
    (R.SPG_SLOT_RETRY, g), (R.SPG_SLOT_THERM, g), (R.SPG_SLOT_MODEL, g)])

/-- SLOT_POWER with ON 1 (R355); a request in the instant in which RETRY may be left starts an attempt (Table 14.7). -/
def State.slotOn (s : State) (g : Nat) : Ans :=
  let st := s.gState g
  if st = gDisabled then bad s objOff
  else if st = gRetry && !s.gMayLeave g then no s stBusy 6
  else if st = gLockout then no s stLocked 2
  else if st = gOn then ok s
  else started s (fun s => s.gRequest g true)

/-- SLOT_POWER with ON 0 (R355): refused while a binding on the port is BOUND. -/
def State.slotOff (s : State) (g : Nat) : Ans :=
  let st := s.gState g
  if !(st == gProofing || st == gRamp || st == gOn) then ok s
  else if (s.bindingsOn (s.gPort g)).any (fun e => s.bindState e.1 == 1) then no s stBusy 4
  else started s (fun s => if (s.guard g).offing then s else s.gPowerOff g)

/-- SLOT_POWER (R355). -/
def opSlotPowerInfo : OpInfo where
  code := opSlotPower
  len := size 1
  run := fun q s => q.obj 24 s (fun g => fields s [(q.fits 0 1 1, at16 0)] (if q.num 0 1 = 1 then s.slotOn g else s.slotOff g))

/-- CLEAR_LOCKOUT (R363). -/
def opClearLockout : OpInfo where
  code := 0x0703
  len := size 0
  run := fun q s => q.obj 24 s (fun g =>
    if s.gState g ≠ gLockout then bad s objOff
    else
      let s1 := (s.onGuard g (fun y => { y with faults := [], wanted := false, asks := [] })).setFld F.SPG_SLOT_STATE.FAULTS_60S g 0
      ok ((s1.gSet g gEmpty).gByPresence g))

/-- SET_SLOT_CAP (R367). -/
def opSetSlotCap : OpInfo where
  code := 0x0704
  len := size 4
  run := fun q s => q.obj 24 s (fun g => fields s [(q.fits 0 4 24, at16 0)] (q.set s (.slotCap g) [(R.SPG_SLOT_CAP, g)]))

/-- SET_INDICATORS (R367). -/
def opSetIndicators : OpInfo where
  code := 0x0705
  len := size 2
  run := fun q s => q.obj 24 s (fun g => fields s [(q.fits 0 1 2, at16 0), (q.fits 1 1 2, at16 1)]
    (ok (s.gIndicate g (q.num 0 1) (q.num 1 1))))

end Sys2Proof.Machine
end

