-- ==== Sys2Proof/Machine/Board.lean ====
section
/-! DEFINITION. The board configuration record (R414 to R416): its check, which gives the record offset of the first failing byte,
and its application.  Entries are judged against the reset configuration, clusters before the rest, so that no order of entries
matters (DESIGN CHOICE, notes/assumptions/23). -/

namespace Sys2Proof.Machine

/-- An entry of a record: where its header stands, its TYPE and its ELEN. -/
structure BoardEntry where
  off : Nat
  type : Nat
  len : Nat

/-- Where the body of an entry stands. -/
def BoardEntry.body (e : BoardEntry) : Nat := e.off + 4

/-- ELEN of the types of Table 16.14. -/
def boardLen : Nat → Option Nat
  | 1 => some 10 | 2 => some 1 | 3 => some 24 | 4 => some 16 | 5 => some 4 | 6 => some 4 | 7 => some 32 | 8 => some 4 | 9 => some 4
  | _ => none

/-- The first byte of a range that is not 0. -/
def firstNonZero (b : List Byte) (i n : Nat) : Option Nat := ((List.range n).map (i + ·)).find? (fun k => bodyNat b k 1 != 0)

/-- What is wrong with the record header. -/
def headerFault (b : List Byte) : Option Nat :=
  let n := bodyNat b 8 4
  if bodyNat b 0 4 ≠ 0x4B424352 then some 0
  else if bodyNat b 4 2 ≠ 1 then some 4
  else if bodyNat b 6 2 ≠ 0 then some 6
  else if !(32 ≤ n && n ≤ 65536 && n % 4 == 0) then some 8
  else match firstNonZero b 16 8 with
    | some k => some k
    | none => if bodyNat b 24 8 = crc64 (b.take 24 ++ (b.drop 32).take (n - 32)) then none else some 24

/-- The entries from an offset on, and what is wrong with the form of the first bad one. -/
def boardEntries (b : List Byte) (n : Nat) : Nat → Nat → List BoardEntry × Option Nat
  | 0, _ => ([], none)
  | fuel + 1, o =>
    if n ≤ o then ([], none)
    else
      let e : BoardEntry := { off := o, type := bodyNat b o 2, len := bodyNat b (o + 2) 2 }
      let next := e.body + ceilDiv e.len 4 * 4
      let known := 0x8000 ≤ e.type || (boardLen e.type).isSome
      if !known then ([], some o)
      else if n < next || (e.type < 0x8000 && boardLen e.type != some e.len) then ([], some (o + 2))
      else match firstNonZero b (e.body + e.len) (next - e.body - e.len) with
        | some k => ([], some k)
        | none => let r := boardEntries b n fuel next; (e :: r.1, r.2)

/-- The instance an entry is about. -/
def BoardEntry.instance_ (e : BoardEntry) (b : List Byte) : Nat := if [3, 7, 8, 9].contains e.type then bodyNat b e.body 1 else 0

/-- An entry for an instance that an earlier one names. -/
def dupFault (b : List Byte) : List BoardEntry → Option Nat
  | [] => none
  | e :: l =>
    let again := (l.filter (fun x => x.type < 0x8000 && x.type == e.type && x.instance_ b == e.instance_ b)).map (·.body)
    let rest := (dupFault b l).toList
    (again ++ rest).min?

/-- The lowest bit of a word that no field of software's holds. -/
def stray (r : RegDesc) (w : Nat) : Option Nat := (List.range 32).find? (fun b => bits w b 1 == 1 && bits (r.accMask isSet) b 1 == 0)

/-- Set the registers of an entry whose words start at `o`. -/
def State.boardRegs (t : State) (b : List Byte) (o : Nat) (g : CfgGroup) (l : List (RegDesc × Nat)) : State × Option Nat :=
  let ws := (l.zip (List.range l.length)).map (fun e => (e.1.1, e.1.2, bodyNat b (o + 4 * e.2) 4))
  match (ws.zip (List.range ws.length)).findSome? (fun e => (stray e.1.1 e.1.2.2).map (fun k => o + 4 * e.2 + k / 8)) with
  | some k => (t, some k)
  | none =>
    let a := t.setCfg g ws
    if a.status = stOk then (a.s, none)
    else if a.status = stParam && 16 ≤ a.detail && a.detail < 16 + 4 * l.length then (t, some (o + (a.detail - 16)))
    else (t, some (o + 4))

/-- The clusters that the record makes upper halves of pairs. -/
def upperHalves (b : List Byte) (l : List BoardEntry) : List Nat :=
  (l.filter (fun e => e.type == 3 && bits (bodyNat b (e.body + 8) 1) 0 3 == 5)).map (fun e => bodyNat b e.body 1 + 1)

/-- The registers of a guard in a SLOT_GUARD entry. -/
def guardRegs (g : Nat) : List (RegDesc × Nat) := [(R.SPG_SLOT_CFG, g), (R.SPG_SLOT_ELEC, g), (R.SPG_SLOT_TIME, g), (R.SPG_SLOT_RETRY, g),
  (R.SPG_SLOT_THERM, g), (R.SPG_SLOT_MODEL, g)]

/-- Check and set one entry. -/
def State.boardEntry (t : State) (b : List Byte) (upper : List Nat) (e : BoardEntry) : State × Option Nat :=
  let o := e.body
  let i := bodyNat b o 1
  let low (limit : Nat) (f : State × Option Nat) : State × Option Nat :=
    if limit ≤ i then (t, some o) else match firstNonZero b (o + 1) 3 with
      | some k => (t, some k)
      | none => f
  match e.type with
  | 1 => (t.onSec (fun y => { y with subsystem := (List.range 5).map (fun k => bodyNat b (o + 2 * k) 2) }), none)
  | 2 => if [2, 3, 4, 6].contains i then (t.setFld F.PWR_MODE_CFG.START_MODE 0 i, none) else (t, some o)
  | 3 => low 36
      (if upper.contains i then
         match (wordsFault [(R.PCL_CLUSTER_CFG, i, bodyNat b (o + 4) 4)] 0).orElse (fun _ => (stray R.PCL_CLUSTER_CFG (bodyNat b (o + 4) 4)).map (· / 8)) with
         | some k => (t, some (o + 4 + k))
         | none => (t, firstNonZero b (o + 8) 16)
       else
         -- The shapes the record sets at boot take the reset value of ENABLE (R21).
         let r := t.boardRegs b (o + 4) (.cluster i) (clusterRegs i)
         (r.1.each (List.range 4) (fun t k => t.setFld F.PCL_PORT_CTRL.ENABLE (4 * i + k) (b2n (t.live (4 * i + k)))), r.2))
  | 4 => t.boardRegs b o .plain ((List.range 4).map (fun k => (R.MGT_CRB_PERM, k)))
  | 5 => t.boardRegs b o .plain [(R.MGT_MCTP_CFG, 0)]
  | 6 => t.boardRegs b o .fabric [(R.BND_FAB_CFG, 0)]
  | 7 => low 24
      (match t.boardRegs b (o + 4) (.slot i) (guardRegs i) with
       | (u, none) => u.boardRegs b (o + 28) (.slotCap i) [(R.SPG_SLOT_CAP, i)]
       | r => r)
  | 8 =>
    let a := bodyNat b (o + 1) 1
    if 4 < i then (t, some o) else if 128 ≤ a then (t, some (o + 1)) else if bodyNat b (o + 3) 1 ≠ 0 then (t, some (o + 3))
    else (t.onPwr (fun y => { y with regulators := y.regulators ++ [{ rail := i, addr := a, page := bodyNat b (o + 2) 1 }] }), none)
  | 9 =>
    let u := bodyNat b (o + 1) 1
    let arg := bodyNat b (o + 2) 2
    let lamp := u = 1 || u = 2
    if 31 < i then (t, some o)
    else if 5 < u then (t, some (o + 1))
    else if (lamp && (24 ≤ arg || t.pins.gpio.any (fun g => g.2.1 == u && g.2.2 == arg))) || (u = 3 && arg ≠ 0) then (t, some (o + 2))
    else (t.onPins (fun y => { y with gpio := put i (u, arg) y.gpio }), none)
  | _ => (t, none)

/-- Set the entries one after another: the state with all of them, and the offsets where they fail. -/
def State.boardAll (t : State) (b : List Byte) (upper : List Nat) : List BoardEntry → State × List Nat
  | [] => (t, [])
  | e :: l =>
    let r := t.boardEntry b upper e
    let u := r.1.boardAll b upper l
    (u.1, r.2.toList ++ u.2)

/-- Clusters first. -/
def boardOrder (l : List BoardEntry) : List BoardEntry := l.filter (·.type == 3) ++ l.filter (·.type != 3)

/-- The entries of a record. -/
def recordEntries (b : List Byte) : List BoardEntry × Option Nat := boardEntries b (bodyNat b 8 4) 16384 32

/-- Apply the entries of a record. -/
def State.boardApply (s : State) (b : List Byte) : State :=
  let l := (recordEntries b).1
  (s.boardAll b (upperHalves b l) (boardOrder l)).1

/-- The record offset of the first failing byte of a record, none when it is valid (R415). -/
def boardFault (b : List Byte) : Option Nat :=
  match headerFault b with
  | some k => some k
  | none =>
    let r := recordEntries b
    let bad := r.2.toList ++ (dupFault b r.1).toList ++ (State.reset.boardAll b (upperHalves b r.1) (boardOrder r.1)).2
    bad.min?

/-- The flash region reads as erased: there is no record. -/
def State.noRecord (s : State) : Bool := !s.sec.flash.any (fun c => recordBase ≤ c.1 && c.1 < recordBase + 65536)

/-- The record applies at BOOT after a cold reset, whole or not at all (R415). -/
def State.boardAtBoot (s : State) : State :=
  let b := s.flashBytes recordBase 65536
  let hash (l : List Byte) (s : State) : State := s.onSec (fun y => { y with boardHash := Config.sha384 l })
  if s.noRecord then hash [] s
  else match boardFault b with
    | some k => (hash [] s).journal 0x060A { detail := k }
    | none => hash (b.take (bodyNat b 8 4)) (s.boardApply b)

end Sys2Proof.Machine
end

