-- ==== Sys2Proof/Machine/Modes.lean ====
section
/-! DEFINITION. Resets (R326, R327, R402 to R405, R413), boot (R377 to R379), mode changes by SET_MODE (R322, R323), self-test (R318,
R319, R324), and the commands of pins and rails. -/

namespace Sys2Proof.Machine

/-! ## Device resets (R34, R326) -/

/-- A register keeps its value through a device reset: AUX always, COLD through a warm reset (Table 0.12). -/
def keptReg (warm : Bool) (a : Nat) : Bool :=
  match domainAt a with
  | some .aux => true
  | some .cold => warm
  | _ => false

/-- A guard after a reset: its pins, and through a warm one its thermal model (R364) and how long its slot has been seated (R353). -/
def GuardState.afterReset (warm : Bool) (y : GuardState) : GuardState :=
  { faultIn := y.faultIn, rise := if warm then y.rise else 0, seatedAt := if warm then y.seatedAt else none }

/-- What the units hold after a device reset; what the COLD domain holds stays through a warm one. -/
def State.unitsAfter (s : State) (warm : Bool) : State :=
  let keep {α : Type} (a b : α) : α := if warm then a else b
  { regs := s.regs.filter (fun e => keptReg warm e.1)
    now := s.now, drawn := s.drawn, sent := s.sent, pending := s.pending
    tb := keep s.tb 0
    timers := s.timers.filter (fun (t : Timer) => t.kind == .sag || (warm && t.kind == .pps))
    err := { journal := keep s.err.journal [], flashJournal := s.err.flashJournal }
    bnd := keep { active := s.bnd.active, shadow := s.bnd.active, mgmtVh := s.bnd.mgmtVh, proxies := s.bnd.proxies
                  host := s.bnd.host.filter (fun e => hostKept e.1), methods := s.bnd.methods } {}
    fab := { lastFeid := keep s.fab.lastFeid 0 }
    churn := { nextId := s.churn.nextId }
    qos := { gclAdmin := keep s.qos.gclAdmin [] }
    pwr := { ppsOffsets := keep s.pwr.ppsOffsets [], kflRun := keep s.pwr.kflRun 0, regulators := keep s.pwr.regulators []
             gating := keep s.pwr.gating [] }
    spg := { guards := s.spg.guards.map (GuardState.afterReset warm) }
    sec := { flash := s.sec.flash, floor := s.sec.floor, unlocks := keep s.sec.unlocks 0, boardHash := keep s.sec.boardHash []
             subsystem := keep s.sec.subsystem [] }
    pins := { s.pins with released := [], farPerst := [], ppsRose := none, prbsRun := [], gpio := keep s.pins.gpio [] } }

/-- Every PERST_OUT_N that was released is asserted, for 1.00 ms at least (R405), and guards stand as presence gives (R354, Table
13.1). -/
def State.holdSlots (s t : State) : State :=
  let t1 := t.each s.pins.released (fun t p => t.arm .perstOut p (ms 1))
  t1.each (List.range 24) (fun t g =>
    let t2 := (t.setFld F.SPG_SLOT_STATE.PRSNT_L g (s.fld F.SPG_SLOT_STATE.PRSNT_L g)).setFld F.SPG_SLOT_STATE.PRSNT_S g
      (s.fld F.SPG_SLOT_STATE.PRSNT_S g)
    let long := (t2.guard g).seatedAt.any (fun since => since + ms (t2.fld F.SPG_SLOT_TIME.DEBOUNCE_MS g) ≤ t2.now)
    let t3 := t2.setFld F.SPG_SLOT_STATE.CONFIRMED g (b2n long)
    if t3.flag F.SPG_SLOT_CFG.ENABLE g then (t3.gSet g gEmpty).gByPresence g else t3)

/-- A device reset of a kind and cause (Table 13.3): Kalnum is in RESET, with a fresh nonce (R387).  A warm reset loads PWR_WAKE_SRC
from PWR_AUX_WAKE (R332). -/
def State.deviceReset (s : State) (warm : Bool) (cause : Nat) : State :=
  let s1 := s.whenb (warm && s.mode == .drowse) (fun s => s.wr R.PWR_AUX_WAKE 0 (BitVec.ofNat 32 (9 + 65536)))
  let t := (s1.holdSlots (s1.unitsAfter warm)).setFld F.PWR_AUX_STATUS.LAST_RESET 0 cause
  let t1 := t.whenb warm (fun t => (t.wr R.PWR_WAKE_SRC 0 (t.rd R.PWR_AUX_WAKE)).setFld F.PWR_WAKE_SRC.FALLBACK 0 1)
  t1.newNonce

/-- RESET ends once PERST_N is released and every rail is good, and no thermal trip holds it (R327, R402): BOOT, with 0.85 V asked of
VDD_SDS and the boot control block read (Table 15.6). -/
def State.leaveReset (s : State) : State :=
  let y := s.pins
  if s.mode = .reset && !y.perst && !y.tripped && y.aux && y.core && y.sds && y.sdsA && y.io then
    (({ s with mode := .boot }.requestSds).showBoot).refSense
  else s

/-- PERST_N is asserted for 1.00 µs or more (R404); it ends a thermal trip (R327). -/
def State.perstLow (s : State) : State :=
  (s.deviceReset false 1).onPins (fun y => { y with perst := true, tripped := false })

/-- PERST_N is released. -/
def State.perstHigh (s : State) : State := (s.onPins (fun y => { y with perst := false })).leaveReset

/-- VDD_AUX is applied (R326): the AUX domain is cleared, then cold reset. -/
def State.auxOn (s : State) : State :=
  ({ s with regs := [] }.deviceReset false 0).onPins (fun y => { y with aux := true, auxSince := s.now, tripped := false })

/-- VDD_AUX is lost (R413): nothing runs and no slot is powered until it returns. -/
def State.auxOff (s : State) : State :=
  ({ s with regs := [] }.deviceReset false 0).onPins (fun y => { y with aux := false, tripped := false })

/-- VDD_CORE or VDD_IO stays below its limit (Table 13.3); with PERST_N asserted it is part of power-down (R403). -/
def State.railDrop (s : State) (io : Bool) : State :=
  let low (y : PinState) : PinState := if io then { y with io := false } else { y with core := false }
  if s.pins.perst || !s.pins.aux then s.onPins low else (s.deviceReset false 5).onPins low

/-- Every rail is good. -/
def State.railsGood (s : State) : State :=
  (s.onPins (fun y => { y with core := true, sds := true, sdsA := true, io := true })).leaveReset

/-- A rail leaves good without an event of Table 13.3: 0 VDD_CORE, 1 VDD_SDS, 2 VDDA_SDS, 3 VDD_IO.  BOOT goes back to RESET and
waits (R413); no domain is reset but what BOOT had done. -/
def State.railLow (s : State) (rail : Nat) : State :=
  let low (y : PinState) : PinState := match rail with
    | 0 => { y with core := false }
    | 1 => { y with sds := false }
    | 2 => { y with sdsA := false }
    | _ => { y with io := false }
  if s.mode = .boot then
    let kept := s.rd R.PWR_WAKE_SRC
    ((s.deviceReset true (s.fld F.PWR_AUX_STATUS.LAST_RESET)).wr R.PWR_WAKE_SRC 0 kept).onPins low
  else s.onPins low

/-- A sensor reaches 155 °C (R327): RESET is held until PERST_N is asserted or VDD_AUX is lost. -/
def State.thermalTrip (s : State) : State :=
  if !s.pins.aux then s
  else ((s.deviceReset false 4).setFld F.PWR_AUX_STATUS.THERMTRIP_SEEN 0 1).onPins (fun y => { y with tripped := true })

/-! ## Boot (Table 15.6) -/

/-- The result recorded for an image at this BOOT. -/
def State.bootResult (s : State) (i : Nat) : Nat := if i = 0 then s.fld F.SEC_BOOT_STATUS.RESULT_A else s.fld F.SEC_BOOT_STATUS.RESULT_B

/-- The image the boot ROM checks next: the preferred one, then the other. -/
def State.bootNext (s : State) : Option Nat :=
  let p := s.boot.preferred
  if s.bootResult p = 0 then some p
  else if s.bootResult p ≠ 1 && s.bootResult (1 - p) = 0 then some (1 - p) else none

/-- No image passes (Table 13.2, row 4): SAFE_HOLD, the boot ROM answers Corber. -/
def State.romHold (s : State) : State :=
  let s1 := ((s.setFld F.SEC_BOOT_STATUS.ROM_RESIDENT 0 1).setFld F.ERR_STATUS.FENCE 0 1).setFld F.MGT_CRB_STATUS.FW_READY 0 1
  s1.enterMode .safeHold

/-- An image passed: it runs (step 6). -/
def State.bootRun (s : State) (i : Nat) : State :=
  let s1 := (s.setFld F.SEC_BOOT_STATUS.RUNNING 0 i).setFld F.SEC_BOOT_STATUS.FALLBACK 0 (b2n (i != s.boot.preferred))
  (s1.setFld F.SEC_SVN.RUNNING_SVN 0 (s1.imageSvn i)).onSec (fun y => { y with imageHash := Config.sha384 (s1.header i) })

/-- The boot ROM has checked an image (R376): the result, and what follows. -/
def State.bootChecked (s : State) (i : Nat) (readOk : Bool) : State :=
  if s.mode ≠ .boot || s.bootNext ≠ some i then s
  else
    let skipped := s.imageState i ≤ 1
    let r := if skipped then 11 else s.imageResult i readOk
    let s1 := if i = 0 then s.setFld F.SEC_BOOT_STATUS.RESULT_A 0 r else s.setFld F.SEC_BOOT_STATUS.RESULT_B 0 r
    let s2 := s1.whenb (r != 1 && !skipped) (fun s => s.bump R.SEC_IMAGE_FAIL_CNT)
    if r = 1 then s2.bootRun i else if s2.bootNext = none then s2.romHold else s2

/-- The Churn banks have been tested: those in `bad` failed; with none failed the highest is the spare (R87, R89). -/
def State.banksTested (s : State) (bad : List Nat) : State :=
  let s1 := s.each bad (fun s b => if s.fld F.CHN_BANK_STATE.STATE b = 6 then s else s.failBankR b)
  let s2 := s1.whenb bad.isEmpty (fun s =>
    ((s.setFld F.CHN_BANK_STATE.STATE 255 4).setFld F.CHN_ROT_STATUS.SPARE_BANK 0 255).setFld F.CHN_ROT_STATUS.SPARE_VALID 0 1)
  s2.setFld F.CHN_STATUS.INIT_DONE 0 1

/-- The binding entry of vDSP `n` in the fixed composition (R94).  The entry's index is the vDSP's, and its subscriber node the
port's own (DESIGN CHOICE, notes/assumptions/24). -/
def fixedBind (n p : Nat) : Bind := BitVec.ofNat 512 (1 + 2 ^ 12 * n + 2 ^ 18 * p + 2 ^ 95 * p)

/-- Install the fixed composition (R94). -/
def State.fixComposition (s : State) : State :=
  let ps := s.livePorts.filter s.isPoolEdge
  let l := (ps.take 63).zip ((List.range 63).map (· + 1))
  let bank : Bank := { s.bnd.active with
    bind := l.map (fun e => (e.2, fixedBind e.2 e.1))
    vdsp := (0, 1) :: l.map (fun e => (e.2, BitVec.ofNat 512 (3 + 4 * e.2))) }
  let s1 := s.onBnd (fun y => { y with active := bank, shadow := bank })
  s1.each (ps.drop 63) (fun s p => (s.setFld F.PCL_PORT_CTRL.ENABLE p 0).journal 0x0607 { port := p })

/-- The mode BOOT ends in (R323). -/
def State.bootMode (s : State) : Mode :=
  if s.fld F.PWR_AUX_STATUS.LAST_RESET = 3 then Mode.ofCode (s.fld F.PWR_MODE_CFG.RESUME_MODE) else Mode.ofCode (s.fld F.PWR_MODE_CFG.START_MODE)

/-- The enabled live ports look for partners. -/
def State.enableAll (s : State) : State :=
  s.each (s.livePorts.filter (fun p => s.flag F.PCL_PORT_CTRL.ENABLE p)) (fun s p => s.enablePort p)

/-- Firmware is ready (Table 15.6, steps 7 and 8): banks, board record, composition, ports, and the mode. -/
def State.firmwareReady (s : State) (bad : List Nat) : State :=
  if s.mode ≠ .boot || s.runningImage = 3 then s
  else
    let s1 := s.banksTested bad
    if s1.mode = .safeHold then s1.setFld F.MGT_CRB_STATUS.FW_READY 0 1
    else
      let cold := s1.fld F.PWR_AUX_STATUS.LAST_RESET != 3
      let s2 := s1.whenb cold State.boardAtBoot
      let s3 := s2.whenb cold (fun s => s.setFld F.PWR_MODE_CFG.RESUME_MODE 0 2)
      let m := s3.bootMode
      let s4 := s3.whenb (m == .transparent || m == .maintenance) State.fixComposition
      let s5 := s4.whenb (m == .maintenance) (fun s => s.setFld F.PWR_STATUS.ENTERED_FROM 0 2)
      -- The shadow equals the active bank (BND_GEN_STATUS).
      let s5' := (s5.onBnd (fun y => { y with shadow := y.active, copying := false })).setFld F.BND_GEN_STATUS.SHADOW_READY 0 1
      let s6 := (s5'.each (List.range 36) (fun s c => s.showLive c)).each s5'.bindings (fun s e => s.putIn e)
      let s7 := (s6.enterMode m).whenb (m == .fabric) State.fabEnter
      let s8 := (s7.setFld F.MGT_CRB_STATUS.FW_READY 0 1).refSense
      let s9 := (s8.arm .rotation 0 (ms (s8.fld F.CHN_ROT_CTRL.INTERVAL_MS))).whenb (s8.flag F.SEC_BOOT_STATUS.FALLBACK)
        (fun s => s.raise F.SEC_EVT.FALLBACK)
      let s10 := s9.whenb s9.pins.sag State.sagOn
      let s11 := s10.each ((List.range 24).filter (fun g => s10.gState g == gReadyOff)) (fun s g => s.gReady g)
      s11.limitsAgain.enableAll

/-! ## SET_MODE (Table 13.2) -/

/-- No valid binding names a device FEID other than this device's (Table 13.2, row 7). -/
def State.ownOnly (s : State) : Bool := s.bindings.all (fun e => Bind.feid e.2 == 0 || Bind.feid e.2 == s.ownFeid)

/-- MAINTENANCE may be left (row 11). -/
def State.mayLeave (s : State) : Bool := !s.pwr.testing && s.fld F.SEC_IMAGE_STATE.OPEN == 3 && s.sec.finishing.isNone

/-- SET_MODE may go to a mode. -/
def State.mayGo (s : State) (m : Mode) : Bool :=
  let here := if s.mode = .maintenance then s.enteredFrom else s.mode
  let row : Bool := match here, m with
    | .transparent, .composed => true
    | .composed, .fabric => true
    | .fabric, .composed => s.ownOnly
    | _, _ => false
  match s.mode with
  | .transparent | .composed | .fabric => row || m == .drowse || m == .maintenance
  | .maintenance => s.mayLeave && (row || m == here)
  | _ => false

/-- Go to a mode other than DROWSE (Table 13.2). -/
def State.goMode (s : State) (m : Mode) : State :=
  let here := if s.mode = .maintenance then s.enteredFrom else s.mode
  if m = .maintenance then (s.setFld F.PWR_STATUS.ENTERED_FROM 0 s.mode.code).enterMode m
  else
    let s1 := s.whenb (here == .fabric && m != .fabric) State.fabLeave
    let s2 := s1.enterMode m
    let s3 := s2.whenb (m == .fabric && here != .fabric) State.fabEnter
    s3.whenb (here == .transparent && m != .transparent) (fun s =>
      s.each (s.livePorts.filter (fun p => s.isFabric p && s.flag F.PCL_PORT_CTRL.ENABLE p)) (fun s p => s.enablePort p))

/-- SET_MODE (R322, R328), judged in the order of R417. -/
def opSetModeInfo : OpInfo where
  code := opSetMode
  len := size 1
  run := fun q s =>
    let m := Mode.ofCode (q.num 0 1)
    if 7 < q.num 0 1 then bad s (at16 0)
    else if !s.mayGo m then bad s (at16 0)
    else if s.transition then no s stBusy 2
    else if m = .drowse then started s State.drowseAsk
    else started s (fun s => (s.goMode m).finishAny opSetMode stOk)

/-- RESET_DEVICE (Table 13.3): the reply leaves 10.0 µs before the reset. -/
def opResetDevice : OpInfo where
  code := 0x0105
  len := size 1
  run := fun q s =>
    if 1 < q.num 0 1 then bad s (at16 0)
    else { s := s, after := some (fun s => s.arm .deviceReset (q.num 0 1) (us 10)) }

/-- A reset that RESET_DEVICE asked for comes 10.0 µs after its reply (Table 12.6): warm for KIND 0, cold for KIND 1. -/
def State.resetDue (s : State) : State :=
  if s.due .deviceReset 1 then (s.deviceReset false 2).leaveReset
  else if s.due .deviceReset 0 then (s.deviceReset true 3).leaveReset
  else s

/-! ## Self-test (R318, R319, R324) -/

/-- The opcode of SELF_TEST. -/
def opSelfTest : Nat := 0x0A00

/-- The scope of the test that runs. -/
def State.testScope (s : State) : Nat :=
  ((s.crb.outst.find? (fun (o : Outst) => o.accepted && o.opcode == opSelfTest)).map (fun o => bodyNat o.req.body 0 1)).getD 0

/-- A test starts: scopes 0 to 6 disable every port; scopes 0 and 7 skip guards in PROOFING or RAMP. -/
def State.testStarts (s : State) (scope : Nat) : State :=
  let ps := if scope = 7 then [] else s.livePorts.filter (fun p => s.flag F.PCL_PORT_CTRL.ENABLE p)
  let gs := if scope = 0 || scope = 7 then ((List.range 24).map (fun g => (g, s.gState g))).filter (fun e => e.2 == gProofing || e.2 == gRamp) else []
  (s.onPwr (fun y => { y with testing := true, testPorts := ps, testStart := s.now, testSkip := gs })).each ps (fun s p => s.disablePort p)

/-- SELF_TEST (R318). -/
def opSelfTestInfo : OpInfo where
  code := opSelfTest
  len := size 1
  run := fun q s =>
    if 7 < q.num 0 1 then bad s (at16 0)
    else if s.mode ≠ .maintenance then no s stTraffic s.livePorts.length
    else if s.pwr.testing then no s stBusy 2
    else started s (fun s => s.testStarts (q.num 0 1))

/-- A failure of the self-test: KIND, SCOPE, INDEX and INFO (Table 12.12). -/
def failBytes (e : Nat × Nat × Nat × Nat) : List Byte := leBytes 1 e.1 ++ leBytes 1 e.2.1 ++ leBytes 2 e.2.2.1 ++ leBytes 4 e.2.2.2

/-- The test ends with a result: the final reply, and then the ports again.  Guards that were skipped are reported and are no
failures (DESIGN CHOICE, notes/assumptions/25). -/
def State.testEnds (s : State) (result : Nat) (l : List (Nat × Nat × Nat × Nat)) : State :=
  let scope := s.testScope
  let skip := s.pwr.testSkip.map (fun e => (11, 7, e.1, e.2))
  let data := leBytes 1 scope ++ leBytes 1 result ++ leBytes 2 (min 65535 l.length) ++ leBytes 4 ((s.now - s.pwr.testStart) / 1000) ++
    (((l ++ skip).take 64).map failBytes).flatten
  let ps := s.pwr.testPorts
  let s1 := (s.finishAny opSelfTest stOk 0 data).onPwr (fun y => { y with testing := false, testPorts := [], testSkip := [] })
  s1.each ps (fun s p => s.enablePort p)

/-- SELF_TEST_DONE: the failures found, each journalled; failed Churn banks leave service, and the ninth is fatal. -/
def State.testDone (s : State) (l : List (Nat × Nat × Nat × Nat)) : State :=
  if !s.pwr.testing then s
  else
    let fails := l.filter (fun e => 1 ≤ e.1 && e.1 ≤ 10)
    let s1 := s.each fails (fun s e =>
      let s1 := s.journal 0x060C { detail := bodyNat (failBytes e) 0 8 }
      s1.whenb (e.1 == 1 && e.2.2.1 < 256 && s1.fld F.CHN_BANK_STATE.STATE e.2.2.1 != 6) (fun s => s.failBankR e.2.2.1))
    if s1.mode = .safeHold then s1.testEnds 2 fails else s1.testEnds (b2n (!fails.isEmpty)) fails

/-- A fatal fault has ended the test: the final reply follows entry to SAFE_HOLD. -/
def State.testAborted (s : State) : State := if s.pwr.testing && s.mode = .safeHold then s.testEnds 2 [] else s

/-! ## The commands -/

/-- PERST_N_ASSERT (R404). -/
def execPerstNAssert (s : State) : Host.Outcome State Fault Refusal := .next s.perstLow

/-- PERST_N_RELEASE (R402). -/
def execPerstNRelease (s : State) : Host.Outcome State Fault Refusal := .next s.perstHigh

/-- VDD_AUX_APPLIED (R326). -/
def execVddAuxApplied (s : State) : Host.Outcome State Fault Refusal := .next s.auxOn

/-- VDD_AUX_LOST (R413). -/
def execVddAuxLost (s : State) : Host.Outcome State Fault Refusal := .next s.auxOff

/-- RAIL_DROP (R326): of VDD_IO, or of VDD_CORE. -/
def execRailDrop (io : Bool) (s : State) : Host.Outcome State Fault Refusal := .next (s.railDrop io)

/-- RAILS_GOOD (R402). -/
def execRailsGood (s : State) : Host.Outcome State Fault Refusal := .next s.railsGood

/-- RAIL_LEAVES_GOOD (R413). -/
def execRailLeavesGood (rail : Fin 4) (s : State) : Host.Outcome State Fault Refusal := .next (s.railLow rail)

/-- THERMAL_TRIP (R327). -/
def execThermalTrip (s : State) : Host.Outcome State Fault Refusal := .next s.thermalTrip

/-- BOOT_IMAGE_CHECK (R376): the image, and whether flash was read without error. -/
def execBootImageCheck (image : Fin 2) (readOk : Bool) (s : State) : Host.Outcome State Fault Refusal := .next (s.bootChecked image readOk)

/-- BOOT_FIRMWARE_READY (R377): the Churn banks that failed their test. -/
def execBootFirmwareReady (bad : List (Fin 256)) (s : State) : Host.Outcome State Fault Refusal :=
  .next ((s.firmwareReady (bad.map (·.val))).dmRun)

/-- SELF_TEST_DONE (R319): kind, scope, index and information of each failure. -/
def execSelfTestDone (failures : List (Fin 12 × Fin 8 × BitVec 16 × BitVec 32)) (s : State) : Host.Outcome State Fault Refusal :=
  .next (s.testDone (failures.map (fun e => (e.1.val, e.2.1.val, e.2.2.1.toNat, e.2.2.2.toNat))))

end Sys2Proof.Machine
end

