-- ==== Sys2Proof/Machine/CrbTrust.lean ====
section
/-! DEFINITION. Corber group 0x08 (trust and firmware) and the board record of group 0x01: certificates and measurements (R384, R385),
debug tokens (R272, R273, R387), firmware update (R380 to R383), the board record (R416); and the events that end what they start. -/

namespace Sys2Proof.Machine

/-- A write that a supply sag fences: journalled, and nothing else changes (R339). -/
def fenced (s : State) : Ans := no (s.journal 0x0608) stFenced 0

/-! ## Evidence -/

/-- GET_CERT (R384). -/
def opGetCert : OpInfo where
  code := 0x0800
  change := false
  len := size 7
  run := fun q s =>
    let c := Config.certChain (q.num 0 1)
    fields s [(q.fits 0 1 1, at16 0), (q.num 1 4 ≤ c.length, at16 1), (q.num 5 2 ≤ 4076 && q.num 1 4 + q.num 5 2 ≤ c.length, at16 5)]
      (ok s ((c.drop (q.num 1 4)).take (q.num 5 2)))

/-- The measurement bytes of GET_MEASUREMENTS: blocks 1 to 5 one after another (notes/assumptions/22). -/
def State.measureBytes (s : State) : List Byte := ((List.range 5).map (fun i => s.measure (i + 1))).flatten

/-- GET_MEASUREMENTS. -/
def opGetMeasurements : OpInfo where
  code := 0x0801
  change := false
  len := size 6
  run := fun q s =>
    let m := s.measureBytes
    fields s [(q.num 0 4 ≤ m.length, at16 0), (q.num 4 2 ≤ 4076 && q.num 0 4 + q.num 4 2 ≤ m.length, at16 4)]
      (ok s ((m.drop (q.num 0 4)).take (q.num 4 2)))

/-! ## Debug tokens -/

/-- Words of DBG_TOKEN, and words a token takes. -/
def tokenRoom : Nat := 8192
def tokenWords : Nat := 4328

/-- Verification is under way. -/
def State.verifying (s : State) : Bool := s.flag F.DBG_STATUS.VERIFYING

/-- Write words of DBG_TOKEN; a word that is 0 is not listed.  While VERIFYING is 1 they are ignored (Table 10.6). -/
def State.tokenWrite (s : State) (w : Nat) (l : List Nat) : State :=
  if s.verifying then s
  else s.each (l.zip (List.range l.length)) (fun s e => s.onSec (fun y => { y with
    token := if e.1 % 2 ^ 32 = 0 then drop (w + e.2) y.token else put (w + e.2) (BitVec.ofNat 32 e.1) y.token }))

/-- A write of DBG_CTRL.CLR_TOKEN: ignored while VERIFYING is 1. -/
def State.clearToken (s : State) : State := if s.verifying then s else s.onSec (fun y => { y with token := [] })

/-- The bytes of the token in DBG_TOKEN. -/
def State.tokenBytes (s : State) : List Byte :=
  ((List.range tokenWords).map (fun w => leBytes 4 ((look w s.sec.token).getD 0).toNat)).flatten

/-- TOKEN_WRITE. -/
def opTokenWrite : OpInfo where
  code := 0x0802
  len := items 0 4 1020
  run := fun q s =>
    let n := q.body.length / 4
    fields s [(q.object + n ≤ tokenRoom, objOff)]
      (if s.verifying then no s stBusy 2 else ok (s.tokenWrite q.object ((List.range n).map (fun k => q.num (4 * k) 4))))

/-- Start the verification of the token in DBG_TOKEN (R272). -/
def State.verify (s : State) : State := if s.verifying then s else s.setFld F.DBG_STATUS.VERIFYING 0 1

/-- TOKEN_VERIFY. -/
def opTokenVerify : OpInfo where
  code := 0x0803
  len := size 0
  run := fun _ s => if s.verifying then no s stBusy 2 else started s State.verify

/-- A verification ends with a RESULT (R272, R387): the nonce is renewed, and Corber's request answered. -/
def State.verifyEnds (s : State) (r : Nat) : State :=
  let s1 := ((s.setFld F.DBG_STATUS.VERIFYING 0 0).setFld F.DBG_STATUS.RESULT 0 r).newNonce
  s1.finishAny 0x0803 stOk 0 (leBytes 1 r)

/-- End the unlock in force, or abandon the verification under way (R273). -/
def State.relock (s : State) : State :=
  let was := s.verifying || s.flag F.DBG_STATUS.UNLOCKED
  let s1 := s.setFld F.DBG_STATUS.UNLOCKED 0 0
  let s2 := s1.whenb s1.verifying (fun s => s.verifyEnds 7)
  s2.whenb was (fun s => s.raise F.DBG_EVT.RELOCKED)

/-- RELOCK. -/
def opRelock : OpInfo where
  code := 0x0804
  len := size 0
  run := fun _ s => ok s.relock

/-- SEC_DBG_NONCE as bytes. -/
def State.nonceBytes (s : State) : List Byte := ((List.range 8).map (fun w => leBytes 4 (s.rd R.SEC_DBG_NONCE w).toNat)).flatten

/-- A token's form is as Table 15.9 states. -/
def tokenFormOk (b : List Byte) : Bool :=
  bodyNat b 0 4 == 0x4B445431 && bodyNat b 4 2 == 1 && bodyNat b 6 2 ≤ 1 && zeroRange b 17 7 && zeroRange b 56 72

/-- The result of verifying a token (R387): form, RSA key and signature, SLH-DSA key and signature, serial number, conditions. -/
def State.tokenResult (s : State) (b : List Byte) : Nat :=
  let rsa := (b.drop 128).take 388
  let slh := (b.drop 640).take 48
  let m := b.take 128
  if !tokenFormOk b then 5
  else if Config.sha384 rsa != Config.keyHashRsa || !Config.rsaVerify rsa m ((b.drop 704).take 384) then 2
  else if Config.sha384 slh != Config.keyHashSlh || !Config.slhVerify slh m ((b.drop 1088).take 16224) then 3
  else if bodyNat b 8 8 ≠ Config.serial.toNat then 4
  else if bits (bodyNat b 16 1) s.mode.code 1 = 0 || (bodyNat b 6 2 = 1 && (b.drop 24).take 32 != s.nonceBytes) then 6
  else 1

/-- Verification of the token ends (R272). -/
def State.tokenVerified (s : State) : State :=
  if !s.verifying then s
  else
    let r := s.tokenResult s.tokenBytes
    let pass (s : State) : State :=
      let s1 := s.whenb (!s.flag F.DBG_STATUS.UNLOCKED) (fun s => s.onSec (fun y => { y with unlocks := y.unlocks + 1 }))
      (s1.setFld F.DBG_STATUS.UNLOCKED 0 1).raise F.DBG_EVT.UNLOCKED
    let fail (s : State) : State := (s.raise F.DBG_EVT.TOKEN_REJECTED).bump R.SEC_TOKEN_FAIL_CNT
    (if r = 1 then pass s else fail s).verifyEnds r

/-! ## Firmware update (R380 to R383) -/

/-- The image open for writing: 0, 1, or 3 for none. -/
def State.openImage (s : State) : Nat := s.fld F.SEC_IMAGE_STATE.OPEN

/-- Show how full the program queue is. -/
def State.queueBytes (s : State) : Nat := (s.sec.queue.map (fun e => e.2.length)).sum
def State.showFill (s : State) : State := s.setFld F.SEC_IMAGE_STATE.QUEUE_KIB 0 (s.queueBytes / 1024)

/-- FW_BEGIN. -/
def opFwBegin : OpInfo where
  code := 0x0805
  m := true
  len := size 5
  run := fun q s =>
    let i := q.num 0 1
    let n := q.num 1 4
    fields s [(i ≤ 1 && i != s.runningImage, at16 0), (0x6000 ≤ n && n ≤ 0x605000, at16 1), (s.openImage == 3 || s.openImage == i, at16 0)]
      (if s.flag F.PWR_STATUS.SAG then fenced s
       else if s.sec.finishing.isSome then no s stBusy 2
       else
        let s1 := s.onSec (fun y => { y with
          size := n, ranges := [], queue := [], programmed := 0, erased := [], fenced := y.fenced.filter (· != i) })
        ok ((((s1.setImage i 1).setFld F.SEC_IMAGE_STATE.OPEN 0 i).setFld F.SEC_IMAGE_STATE.WRITE_FENCED 0 0).showFill))

/-- Two ranges of bytes overlap. -/
def rangesMeet (a b : Nat × Nat) : Bool := a.1 < b.1 + b.2 && b.1 < a.1 + a.2

/-- FW_WRITE: its bytes are queued. -/
def opFwWrite : OpInfo where
  code := 0x0806
  m := true
  len := fun k => 5 ≤ k && k ≤ 4068
  run := fun q s =>
    let o := q.num 0 4
    let n := q.body.length - 4
    if s.openImage = 3 then bad s 0xFFFF
    else if s.sec.size < o + n || s.sec.ranges.any (rangesMeet (o, n)) then bad s (at16 0)
    else if s.flag F.PWR_STATUS.SAG || s.flag F.SEC_IMAGE_STATE.WRITE_FENCED then fenced s
    else if s.sec.finishing.isSome then no s stBusy 2
    else if 65536 < s.queueBytes + n then no s stBusy 5
    else ok ((s.onSec (fun y => { y with ranges := (o, n) :: y.ranges, queue := y.queue ++ [(o, q.body.drop 4)] })).showFill)

/-- FW_FINISH. -/
def opFwFinish : OpInfo where
  code := 0x0807
  m := true
  len := size 0
  run := fun _ s =>
    let i := s.openImage
    if i = 3 then bad s 0xFFFF
    else if s.flag F.PWR_STATUS.SAG || s.flag F.SEC_IMAGE_STATE.WRITE_FENCED then fenced s
    else if s.sec.finishing.isSome then no s stBusy 2
    else started s (fun s => s.onSec (fun y => { y with finishing := some i }))

/-- FW_SELECT: of the image that runs, the SVN floor rises to its SVN (R383). -/
def opFwSelect : OpInfo where
  code := 0x0808
  m := true
  len := size 1
  run := fun q s =>
    let i := q.num 0 1
    let runs := i = s.runningImage
    let svn := if runs then s.fld F.SEC_SVN.RUNNING_SVN else s.imageSvn i
    fields s [(i ≤ 1 && (runs || s.imageState i == 3) && s.sec.floor ≤ svn, at16 0)]
      (if s.flag F.PWR_STATUS.SAG then fenced s
       else
        let s1 := s.setBoot (fun c => { c with preferred := i })
        ok (s1.whenb (runs && s1.sec.floor < svn) (fun s => (s.onSec (fun y => { y with floor := svn })).raise F.SEC_EVT.FLOOR_RAISED)))

/-- GET_FW: the versions, the states of the boot control block, the running image. -/
def opGetFw : OpInfo where
  code := 0x0809
  change := false
  len := size 0
  run := fun _ s => ok s (leBytes 4 (s.imageVersion 0) ++ leBytes 4 (s.imageVersion 1) ++ leBytes 1 (s.imageState 0) ++
    leBytes 1 (s.imageState 1) ++ leBytes 1 s.runningImage)

/-- Erase the sectors of an image slot that bytes `o` to `o + n - 1` touch and that have not been erased since FW_BEGIN. -/
def State.eraseFor (s : State) (i o n : Nat) : State :=
  let ks := (List.range (ceilDiv (o + n) sector - o / sector)).map (o / sector + ·)
  s.each (ks.filter (fun k => !s.sec.erased.contains k)) (fun s k =>
    (s.flashErase (slotBase i + sector * k) sector).onSec (fun y => { y with erased := k :: y.erased }))

/-- A queued program of image bytes has ended (R380). -/
def State.programmedOne (s : State) : State :=
  let i := s.openImage
  match s.sec.queue with
  | [] => s
  | (o, b) :: l =>
    if i = 3 then s
    else
      let s1 := (s.eraseFor i o b.length).flashProgram (slotBase i + o) b
      (s1.onSec (fun y => { y with queue := l, programmed := y.programmed + b.length })).showFill

/-- A sector of an image slot holds data. -/
def State.holdsData (s : State) (i k : Nat) : Bool :=
  s.sec.flash.any (fun c => slotBase i + sector * k ≤ c.1 && c.1 < slotBase i + sector * (k + 1))

/-- The image has been read back and checked (R380): its state, the result, and the image is closed. -/
def State.fwFinished (s : State) (readOk : Bool) : State :=
  match s.sec.finishing with
  | none => s
  | some i =>
    if !s.sec.queue.isEmpty then s
    else
      let beyond := (List.range 128).filter (fun k => s.sec.size ≤ sector * k && s.holdsData i k)
      let s1 := s.each beyond (fun s k => s.flashErase (slotBase i + sector * k) sector)
      let r := s1.imageResult i readOk
      let s2 := (s1.whenb (r != 1) (fun s => s.bump R.SEC_IMAGE_FAIL_CNT)).setImage i (if r = 1 then 3 else 2)
      let s3 := (s2.onSec (fun y => { y with finishing := none, ranges := [], erased := [] })).setFld F.SEC_IMAGE_STATE.OPEN 0 3
      (s3.raise F.SEC_EVT.FW_FINISHED).finishAny 0x0807 stOk 0 (leBytes 1 r)

/-! ## The board record (R416) -/

/-- GET_BOARD_RECORD. -/
def opGetBoardRecord : OpInfo where
  code := 0x0106
  change := false
  len := size 6
  run := fun q s =>
    fields s [(q.num 0 4 < 65536, at16 0), (q.num 4 2 ≤ 4076 && q.num 0 4 + q.num 4 2 ≤ 65536, at16 4)]
      (ok s (s.flashBytes (recordBase + q.num 0 4) (q.num 4 2)))

/-- How far from offset `c` on the ranges cover every byte. -/
def coverTo (l : List (Nat × Nat)) : Nat → Nat → Nat
  | 0, c => c
  | fuel + 1, c => match l.find? (fun r => r.1 ≤ c && c < r.1 + r.2) with
    | some r => coverTo l fuel (r.1 + r.2)
    | none => c

/-- The first `n` bytes of the staging copy. -/
def State.stagedBytes (s : State) (n : Nat) : List Byte := (List.range n).map (fun k => (look k s.sec.staging).getD 0)

/-- Put bytes into the staging copy; one at OFFSET 0 first clears it. -/
def State.stage (s : State) (o : Nat) (b : List Byte) : State :=
  s.onSec (fun y =>
    let old := if o = 0 then [] else y.staging
    { y with
      staging := (b.zip (List.range b.length)).foldl (fun l e => put (o + e.2) e.1 l) old
      staged := (o, b.length) :: (if o = 0 then [] else y.staged) })

/-- Every byte of the staged record has been written. -/
def State.recordWhole (s : State) : Bool :=
  let c := coverTo s.sec.staged (s.sec.staged.length + 1) 0
  12 ≤ c && bodyNat (s.stagedBytes 12) 8 4 ≤ c

/-- SET_BOARD_RECORD. -/
def opSetBoardRecord : OpInfo where
  code := 0x0107
  m := true
  len := fun k => 5 ≤ k && k ≤ 4068
  run := fun q s =>
    let o := q.num 0 4
    let b := q.body.drop 4
    if 65536 < o + b.length then bad s (at16 0)
    else
      let s1 := s.stage o b
      if !s1.recordWhole then ok s1
      else
        let r := s1.stagedBytes (bodyNat (s1.stagedBytes 12) 8 4)
        let whole := if r.length < 32 then s1.stagedBytes 32 else r
        match boardFault whole with
        | some k => no s1 stParam 0xFFFF (leBytes 4 k)
        | none =>
          if s1.flag F.PWR_STATUS.SAG then fenced s1
          else ok ((s1.flashErase recordBase sector).flashProgram recordBase r)

/-! ## The commands -/

/-- DBG_TOKEN_WRITE (R272): a word of DBG_TOKEN. -/
def execDbgTokenWrite (w : Fin 8192) (value : BitVec 32) (s : State) : Host.Outcome State Fault Refusal := .next (s.tokenWrite w [value.toNat])

/-- DBG_VERIFY (R272). -/
def execDbgVerify (s : State) : Host.Outcome State Fault Refusal := .next s.verify

/-- DBG_RELOCK (R273). -/
def execDbgRelock (s : State) : Host.Outcome State Fault Refusal := .next s.relock

/-- DBG_CLR_TOKEN (R276). -/
def execDbgClrToken (s : State) : Host.Outcome State Fault Refusal := .next s.clearToken

/-- TOKEN_VERIFY_DONE (R272). -/
def execTokenVerifyDone (s : State) : Host.Outcome State Fault Refusal := .next s.tokenVerified

/-- FW_FINISH_DONE (R380): whether flash was read without error. -/
def execFwFinishDone (readOk : Bool) (s : State) : Host.Outcome State Fault Refusal := .next (s.fwFinished readOk)

/-- FLASH_PROGRAM_DONE (R380). -/
def execFlashProgramDone (s : State) : Host.Outcome State Fault Refusal := .next s.programmedOne

end Sys2Proof.Machine
end

