-- ==== Sys2Proof/Machine/CrbPower.lean ====
section
/-! DEFINITION. Corber group 0x09 (power) of Table 12.6: readings (R31, R337), the voltage policy (R333, R335), DROWSE statistics
(R329) and power gating of the rind (R26). -/

namespace Sys2Proof.Machine

/-- The last readings of a rail, as PMBus gives them: READ_VOUT, READ_IOUT, READ_TEMPERATURE_1; 0 for a rail without a regulator. -/
def State.railReading (s : State) (rail : Nat) : List Byte :=
  match s.pwr.regulators.find? (fun (r : Regulator) => r.rail == rail) with
  | some r => leBytes 2 r.vout ++ leBytes 2 r.iout ++ leBytes 2 r.temp
  | none => leBytes 6 0

/-- GET_POWER (R337): the five rails, with a power that is a free value for each, since the number format of a regulator's readings
is its own (notes/assumptions/22), then the region temperatures. -/
def opGetPower : OpInfo where
  code := 0x0901
  change := false
  len := size 0
  run := fun _ s =>
    let r := (List.range 5).foldl (fun (x : List Byte × State) rail =>
      (x.1 ++ x.2.railReading rail ++ leBytes 4 x.2.free, x.2.drew)) ([], s)
    ok r.2 (r.1 ++ s.regBytes ((List.range 12).map (fun g => (R.PWR_THERM_REG, g))))

/-- SET_VOLT_POLICY (R333, R335). -/
def opSetVoltPolicy : OpInfo where
  code := 0x0902
  len := size 8
  run := fun q s => q.set s .power [(R.PWR_VPOL_CFG, 0), (R.PWR_VPOL_TIME, 0)]

/-- GET_DROWSE_STATS (R329). -/
def opGetDrowseStats : OpInfo where
  code := 0x0903
  change := false
  len := size 0
  run := fun _ s => s.showRegs ((List.range 6).map (fun k => (R.PWR_DROWSE_REFUSE_CNT, k)) ++
    [(R.PWR_DROWSE_LAST_REFUSER, 0), (R.PWR_WAKE_SRC, 0)])

/-- SET_GATING (R26): of one of the eight rind regions. -/
def opSetGating : OpInfo where
  code := 0x0904
  len := size 1
  run := fun q s => q.obj 8 s (fun g => fields s [(q.fits 0 1 1, at16 0)]
    (let rest := s.pwr.gating.filter (· != g)
     ok ((s.onPwr (fun y => { y with gating := if q.num 0 1 = 1 then g :: rest else rest })).gateUpdate g)))

/-- GET_CORE_DELAY (R31). -/
def opGetCoreDelay : OpInfo where
  code := 0x0905
  change := false
  len := size 0
  run := fun _ s => ok s (s.regBytes [(R.PWR_CORE_DELAY, 0)] ++ ((List.range 8).map (fun k => leBytes 2 (s.pwr.replicas.getD k 0))).flatten)

end Sys2Proof.Machine
end

