-- ==== Sys2Proof/Machine/CrbTest.lean ====
section
/-! DEFINITION. Corber group 0x0A (test) of Table 12.6: a named bank test (R90), error injection (R320) and the watchdogs. -/

namespace Sys2Proof.Machine

/-- TEST_BANK (R90). -/
def opTestBankInfo : OpInfo where
  code := opTestBank
  len := size 0
  run := fun q s => q.obj 256 s (fun b =>
    if s.fld F.CHN_BANK_STATE.STATE b = 6 then bad s objOff
    else if s.churn.namedTest.isSome then no s stBusy 2
    else started s (fun s => (s.onChurn (fun y => { y with namedTest := some b })).namedStep))

/-- The kind of object an injectable class acts on (Table 12.13): port, bank, bridge, binding, cluster, Malacel, guard. -/
def injectKind (cls : Nat) : Option Nat :=
  match cls with
  | 0x0105 | 0x0106 => some 0
  | 0x0201 | 0x0202 => some 1
  | 0x0205 | 0x0206 => some 2
  | 0x0301 | 0x0401 => some 3
  | 0x0602 => some 4
  | 0x0604 => some 5
  | 0x0701 | 0x0702 => some 6
  | _ => none

/-- The object of an injection exists and is in the state Table 12.13 requires. -/
def State.injectable (s : State) (cls o : Nat) : Bool :=
  match cls with
  | 0x0105 | 0x0106 => o < 144 && s.live o && s.active o
  | 0x0201 | 0x0202 => o < 256 && s.fld F.CHN_BANK_STATE.STATE o == 0
  | 0x0205 | 0x0206 => o < 4
  | 0x0301 | 0x0401 => o < 4096 && s.bindState o == 1
  | 0x0602 => o < 36 && s.clockRuns o
  | 0x0604 => true
  | 0x0701 => o < 24 && s.powered o
  | 0x0702 => o < 24 && s.gState o == gOn
  | _ => false

/-- Arm an injection for 1.00 s; a later one to the same object replaces it (R320). -/
def State.armInjection (s : State) (cls o : Nat) : State :=
  let rest := s.err.armed.filter (fun a => !(injectKind a.1 == injectKind cls && a.2.1 == o))
  s.onErr (fun y => { y with armed := (cls, o, s.now + ms 1000) :: rest })

/-- What an injection that needs no access does once its reply has left: a flow-control error, a crossing watchdog, or Malacel's
heartbeat that stops (Table 12.13). -/
def injectNow (cls o : Nat) : Option (State → State) :=
  match cls with
  | 0x0106 => some (fun s => (s.spendInjection 0x0106 o).linkError o .fcProtocol)
  | 0x0602 => some (fun s => s.watchdog (.crossing ⟨o % 36, Nat.mod_lt _ (by decide)⟩))
  | 0x0604 => some (fun s => s.watchdog .malacel)
  | _ => none

/-- INJECT_ERROR (R320). -/
def opInjectError : OpInfo where
  code := 0x0A02
  m := true
  len := size 2
  run := fun q s =>
    let cls := q.num 0 2
    let o := if cls = 0x0604 then 0 else q.object
    if (injectKind cls).isNone then no s stUnsupported 0
    else if !s.injectable cls o then bad s objOff
    else { ok (s.armInjection cls o) with after := injectNow cls o }

/-- GET_WATCHDOG (R219). -/
def opGetWatchdog : OpInfo where
  code := 0x0A03
  change := false
  len := size 0
  run := fun _ s => s.showRegs [(R.ERR_WDOG_STATUS, 0), (R.ERR_FATAL_CAUSE, 0)]

end Sys2Proof.Machine
end

