-- ==== Sys2Proof/Machine/CrbSvc.lean ====
section
/-! DEFINITION. Corber group 0x0B (service engine) of Table 12.6: queues, vectors and trace contexts move between functions
(R284), shares (R283) and the data mover. -/

namespace Sys2Proof.Machine

/-- The function an entry of SVC_QMAP, SVC_VMAP or SVC_TRC_CFG is assigned to. -/
def State.ownerOf (s : State) (assigned fn : Fld) (i : Nat) : Option Nat := if s.flag assigned i then some (s.fld fn i) else none

/-- Tell the functions that gained or lost a resource (R284). -/
def State.resChange (s : State) (l : List (Option Nat)) : State :=
  s.each (l.filterMap id).eraseDups (fun s f => s.fnEvent f F.FN_EVT.RES_CHANGE)

/-- The queue registers of a local slot take their reset values, and what the mover keeps of it is forgotten (R284). -/
def State.freshQueue (s : State) (f l : Nat) : State :=
  let lo := 0x10000000 + 0x10000 * f + 0x40 * l
  let k := 256 * f + l
  ((s.resetRegs (fun a => lo ≤ a && a < lo + 0x40)).disarm .coalesce k).onSvc (fun y => { y with
    odd := y.odd.filter (· != k)
    unsignalled := drop k y.unsignalled })

/-- The MSI-X entry of a local vector takes its reset value. -/
def State.freshVector (s : State) (f l : Nat) : State :=
  s.onSvc (fun y => { y with msix := drop (256 * f + l) y.msix, pba := y.pba.filter (· != 256 * f + l) })

/-- Queue `i` is held by a function and not DISABLED: it may not move (R284). -/
def State.queueFixed (s : State) (i : Nat) : Bool :=
  s.flag F.SVC_QMAP.ASSIGNED i && s.qState (256 * s.fld F.SVC_QMAP.FN i + s.fld F.SVC_QMAP.LOCAL i) != 0

/-- Vector `i` is named by an enabled queue: it may not move (R284). -/
def State.vectorFixed (s : State) (i : Nat) : Bool :=
  s.flag F.SVC_VMAP.ASSIGNED i && s.vectorUsed (s.fld F.SVC_VMAP.FN i) (s.fld F.SVC_VMAP.LOCAL i)

/-- A map entry gives up what it held. -/
def State.unmap (s : State) (r : RegDesc) (i : Nat) : State := s.wr r i 0

/-- A map entry gives a function a local index. -/
def State.remap (s : State) (r : RegDesc) (i f l : Nat) : State := s.wr r i (BitVec.ofNat 32 (f + 2 ^ 11 * l + 2 ^ 19))

/-- Take queue `i` from the function that holds it (QUEUE_RELEASE). -/
def State.queueRelease (s : State) (i : Nat) : Ans :=
  if !s.flag F.SVC_QMAP.ASSIGNED i then ok s
  else if s.queueFixed i then no s stBusy 2
  else
    let f := s.fld F.SVC_QMAP.FN i
    ok (((s.freshQueue f (s.fld F.SVC_QMAP.LOCAL i)).unmap R.SVC_QMAP i).resChange [some f])

/-- Give queue `i` to a function under a local index (QUEUE_ASSIGN); `fnOff` is the packet offset of FN. -/
def State.queueAssign (s : State) (i f l fnOff : Nat) : Ans :=
  let old := s.ownerOf F.SVC_QMAP.ASSIGNED F.SVC_QMAP.FN i
  if old = some f && s.fld F.SVC_QMAP.LOCAL i = l then ok s
  else if s.hasQueue f l then bad s (fnOff + 2)
  else if old ≠ some f && 256 ≤ s.heldOf R.SVC_QMAP f then bad s fnOff
  else if s.queueFixed i then no s stBusy 2
  else
    let s1 := old.elim s (fun g => s.freshQueue g (s.fld F.SVC_QMAP.LOCAL i))
    ok (((s1.remap R.SVC_QMAP i f l).freshQueue f l).resChange [old, some f])

/-- Take vector `i` from the function that holds it (VECTOR_RELEASE). -/
def State.vectorRelease (s : State) (i : Nat) : Ans :=
  if !s.flag F.SVC_VMAP.ASSIGNED i then ok s
  else if s.vectorFixed i then no s stBusy 2
  else
    let f := s.fld F.SVC_VMAP.FN i
    ok (((s.freshVector f (s.fld F.SVC_VMAP.LOCAL i)).unmap R.SVC_VMAP i).resChange [some f])

/-- Give vector `i` to a function under a local index (VECTOR_ASSIGN). -/
def State.vectorAssign (s : State) (i f l fnOff : Nat) : Ans :=
  let old := s.ownerOf F.SVC_VMAP.ASSIGNED F.SVC_VMAP.FN i
  if old = some f && s.fld F.SVC_VMAP.LOCAL i = l then ok s
  else if (s.mapAt R.SVC_VMAP f l).isSome then bad s (fnOff + 2)
  else if old ≠ some f && 256 ≤ s.heldOf R.SVC_VMAP f then bad s fnOff
  else if s.vectorFixed i then no s stBusy 2
  else
    let s1 := old.elim s (fun g => s.freshVector g (s.fld F.SVC_VMAP.LOCAL i))
    ok (((s1.remap R.SVC_VMAP i f l).freshVector f l).resChange [old, some f])

/-- QUEUE_ASSIGN. -/
def opQueueAssign : OpInfo where
  code := 0x0B00
  len := size 3
  run := fun q s => q.obj 16384 s (fun i => fields s [(q.fits 0 2 11, at16 0)] (s.queueAssign i (q.num 0 2) (q.num 2 1) (at16 0)))

/-- QUEUE_RELEASE. -/
def opQueueRelease : OpInfo where
  code := 0x0B01
  len := size 0
  run := fun q s => q.obj 16384 s s.queueRelease

/-- VECTOR_ASSIGN. -/
def opVectorAssign : OpInfo where
  code := 0x0B02
  len := size 3
  run := fun q s => q.obj 16384 s (fun i => fields s [(q.fits 0 2 11, at16 0)] (s.vectorAssign i (q.num 0 2) (q.num 2 1) (at16 0)))

/-- VECTOR_RELEASE. -/
def opVectorRelease : OpInfo where
  code := 0x0B03
  len := size 0
  run := fun q s => q.obj 16384 s s.vectorRelease

/-- SET_SHARE (R283, R284). -/
def opSetShare : OpInfo where
  code := 0x0B04
  len := size 4
  run := fun q s => q.obj 2048 s (fun f => fields s [(1 ≤ q.num 0 2 && q.fits 0 2 10, at16 0), (q.num 2 2 ≤ 800, at16 2)]
    (ok ((s.setFld F.SVC_FN_CFG.WEIGHT f (q.num 0 2)).setFld F.SVC_FN_CFG.RATE f (q.num 2 2))))

/-- The context that holds a slot of a function, other than `c`. -/
def State.slotHolder (s : State) (f t c : Nat) : Option Nat := ((s.contextsOf f).find? (fun e => e.2 == t && e.1 != c)).map (·.1)

/-- TRACE_ASSIGN (R287): to a slot of a function, with a range. -/
def State.traceAssign (s : State) (c f t base lines : Nat) : Ans :=
  if s.trcState c ≠ 0 then no s stBusy 2
  else if (s.slotHolder f t c).isSome then no s stConflict noHolder
  else
    let old := s.ownerOf F.SVC_TRC_CFG.ASSIGNED F.SVC_TRC_CFG.OWNER c
    let s1 := s.wr R.SVC_TRC_CFG c (BitVec.ofNat 32 (f + 2 ^ 11 * t + 2 ^ 14))
    let s2 := (s1.wr R.SVC_TRC_RANGE_LO c (BitVec.ofNat 32 base)).wr R.SVC_TRC_RANGE_HI c (BitVec.ofNat 32 (base / 2 ^ 32))
    ok ((s2.wr R.SVC_TRC_LINES c (BitVec.ofNat 32 lines)).resChange [old, some f])

/-- TRACE_RELEASE. -/
def State.traceRelease (s : State) (c : Nat) : Ans :=
  if s.trcState c ≠ 0 then no s stBusy 2
  else ok ((s.wr R.SVC_TRC_CFG c 0).resChange [s.ownerOf F.SVC_TRC_CFG.ASSIGNED F.SVC_TRC_CFG.OWNER c])

/-- TRACE_ASSIGN. -/
def opTraceAssign : OpInfo where
  code := 0x0B05
  len := size 14
  run := fun q s => q.obj 512 s (fun c =>
    fields s [(q.fits 0 2 11, at16 0), (q.fits 2 1 3, at16 2), (q.num 3 8 % 0x200000 == 0, at16 3), (1 ≤ q.num 11 3, at16 11)]
      (s.traceAssign c (q.num 0 2) (q.num 2 1) (q.num 3 8) (q.num 11 3)))

/-- TRACE_RELEASE. -/
def opTraceRelease : OpInfo where
  code := 0x0B06
  len := size 0
  run := fun q s => q.obj 512 s s.traceRelease

/-- SET_DM. -/
def opSetDm : OpInfo where
  code := 0x0B07
  len := size 4
  run := fun q s => q.set s .plain [(R.SVC_CFG, 0)]

/-- GET_DM: FN_INFO, then Q_STATUS of each queue held, by local index. -/
def opGetDm : OpInfo where
  code := 0x0B08
  change := false
  len := size 0
  run := fun q s => q.obj 2048 s (fun f =>
    s.showRegs ((R.FN_INFO, f) :: ((List.range 256).filter (s.hasQueue f)).map (fun l => (R.Q_STATUS, 256 * f + l))))

end Sys2Proof.Machine
end

