-- ==== Sys2Proof/Machine/CrbErr.lean ====
section
/-! DEFINITION. Corber group 0x0C (errors) of Table 12.6: the journals (R221, R222), counters (R315, R317), the posted-failure log
(R215) and the ERR settings. -/

namespace Sys2Proof.Machine

/-- The entries of READ_JOURNAL: from the oldest held at or after a JSEQ, at most `n`. -/
def State.journalFrom (s : State) (jseq n : Nat) : List JournalEntry :=
  (s.err.journal.reverse.filter (fun (e : JournalEntry) => decide ((e.jseq + 2 ^ 32 - jseq) % 2 ^ 32 < 2 ^ 31))).take n

/-- READ_JOURNAL. -/
def opReadJournal : OpInfo where
  code := 0x0C00
  change := false
  d96 := true
  len := size 5
  run := fun q s => fields s [(1 ≤ q.num 4 1 && q.num 4 1 ≤ 63, at16 4)]
    (ok s ((s.journalFrom (q.num 0 4) (q.num 4 1)).map (·.bytes)).flatten)

/-- READ_FLASH_JOURNAL: the FATAL entries flash keeps, oldest first. -/
def opReadFlashJournal : OpInfo where
  code := 0x0C01
  change := false
  len := size 0
  run := fun _ s => ok s (s.err.flashJournal.reverse.map (·.bytes)).flatten

/-- The counter at a BAR0 offset: its register, where one begins there. -/
def State.counterAt (s : State) (off : Nat) : Option (RegDesc × Nat) :=
  if off % 4 ≠ 0 then none
  else (s.regAtOff off).bind (fun e => if e.1.kind == .plain || e.1.kind == .statHi then none else some e)

/-- Read one counter whole, without its latch (R317); a high-water mark is cleared by its read (R315). -/
def State.readCounter (s : State) (off : Nat) : List Byte × State :=
  match s.counterAt off with
  | some (r, _) =>
    if r.kind = .hwm then s.readWords 1 off
    else (leBytes 4 (s.peek off).toNat ++ (if r.kind = .statLo then leBytes 4 (s.peek (off + 4)).toNat else []), s)
  | none => ([], s)

/-- Read counters in order. -/
def State.readCounters : List Nat → State → List Byte × State
  | [], s => ([], s)
  | o :: l, s =>
    let (a, s1) := s.readCounter o
    let (b, s2) := State.readCounters l s1
    (a ++ b, s2)

/-- OVF bits `m` of the flag register at address `a` are cleared: with that of ECC_UE the capture of the first uncorrectable error
ends (CHN_ECC_FIRST_UE.VALID, R91). -/
def State.ovfCleared (s : State) (a m : Nat) : State :=
  s.whenb (a == R.CHN_CNT_OVF.base && bits m 5 1 == 1) (fun s => s.setFld F.CHN_ECC_FIRST_UE.VALID 0 0)

/-- Clear one counter: both halves of a pair, and its overflow bit (R315). -/
def State.clearCounter (s : State) (off : Nat) : State :=
  match s.counterAt off with
  | none => s
  | some (r, i) =>
    let s1 := s.resetReg r i
    match r.kind with
    | .sat (some (a, b)) =>
      let w := (regAt s1.regs a 0).toNat
      let v := setBits w b 1 0
      ({ s1 with regs := if v = 0 then drop a s1.regs else put a (BitVec.ofNat 32 v) s1.regs }).ovfCleared a (2 ^ b)
    | .sat none => if r.base = R.PCL_PRBS_ERR.base then s1.setFld F.PCL_PRBS_STATUS.OVF i 0 else s1
    | .statLo => { s1 with regs := drop (r.addr i + 4) s1.regs, latches := drop (r.addr i + 4) s1.latches }
    | _ => s1

/-- The offsets of a counter request. -/
def counterOffsets (q : CrbReq) : List Nat := (List.range (q.body.length / 4)).map (fun k => bodyNat q.body (4 * k) 4)

/-- Run a counter request once every offset has been found to be one of a counter. -/
def onCounters (q : CrbReq) (s : State) (f : List Nat → Ans) : Ans :=
  let l := counterOffsets q
  fields s ((List.range l.length).map (fun k => ((s.counterAt (l.getD k 0)).isSome, at16 (4 * k)))) (f l)

/-- READ_COUNTERS. -/
def opReadCounters : OpInfo where
  code := 0x0C02
  change := false
  d96 := true
  len := items 0 4 256
  run := fun q s => onCounters q s (fun l => let r := State.readCounters l s; ok r.2 r.1)

/-- CLEAR_COUNTERS. -/
def opClearCounters : OpInfo where
  code := 0x0C03
  len := items 0 4 256
  run := fun q s => onCounters q s (fun l => ok (s.each l State.clearCounter))

/-- READ_PFL: entries of a VH's posted-failure ring, then PROD and CONS. -/
def opReadPfl : OpInfo where
  code := 0x0C04
  change := false
  len := size 2
  run := fun q s => q.obj 144 s (fun v => fields s [(q.fits 0 1 6, at16 0), (1 ≤ q.num 1 1 && q.num 1 1 ≤ 64, at16 1)]
    (ok s (((List.range (q.num 1 1)).map (fun k => s.pflBytes v ((q.num 0 1 + k) % 64))).flatten ++
      leBytes 1 (s.fld F.ERR_PFL_IDX.PROD v) ++ leBytes 1 (s.fld F.ERR_PFL_IDX.CONS v))))

/-- SET_ERR: of the device for OBJECT 0xFFFF, of a VH otherwise. -/
def opSetErr : OpInfo where
  code := 0x0C05
  len := fun n => n == 4 || n == 8
  run := fun q s =>
    if q.object = 0xFFFF then
      (if q.body.length ≠ 8 then bad s 4 else q.set s .plain [(R.ERR_CFG, 0), (R.ERR_WDOG_CFG, 0)])
    else q.obj 144 s (fun v => if q.body.length ≠ 4 then bad s 4 else q.set s .plain [(R.ERR_VH_CFG, v)])

end Sys2Proof.Machine
end

