-- ==== Sys2Proof/Machine/Registers.lean ====
section
/-! DEFINITION. Direct accesses to registers (R10 to R12, R115, R311), WRITE_REG, the Corber rings as their registers control them
(R298, R314), and the debug access port (R269 to R271). -/

namespace Sys2Proof.Machine

/-! ## Bits of a word -/

/-- The bits that four byte enables cover. -/
def enabledBits (be : Nat) : Nat := (List.range 4).foldl (fun m k => if bits be k 1 = 1 then setBits m (8 * k) 8 0xFF else m) 0

/-- A word with the bits of `m` taken from `v`. -/
def mergeBits (old v m : Nat) : Nat := old - Nat.land old m + Nat.land v m

/-! ## The rings (R298, R314) -/

/-- Replies that wait go out as far as the reply ring has room, oldest first (R298). -/
def State.flushReplies (s : State) : State :=
  let l := s.crb.heldReplies
  let s1 := (s.onCrb (fun y => { y with heldReplies := [] })).setFld F.MGT_CRB_STATUS.RPL_STALL 0 0
  s1.each l State.toRing

/-- A ring size that is out of range: n runs from 4 to 12. -/
def badLog2 (n : Nat) : Bool := n < 4 || 12 < n

/-- MGT_CRB_CTRL.ENABLE becomes 1: the sizes and bases are read, and subscriber 0 is there while it stays 1. -/
def State.ringEnable (s : State) : State :=
  let s1 := s.setFld F.MGT_CRB_CTRL.ENABLE 0 1
  if badLog2 (s1.fld F.MGT_CRB_CTRL.REQ_LOG2) || badLog2 (s1.fld F.MGT_CRB_CTRL.RPL_LOG2) || badLog2 (s1.fld F.MGT_CRB_CTRL.EVT_LOG2) then
    (s1.setFld F.MGT_CRB_STATUS.STATE 0 2).setFld F.MGT_CRB_STATUS.ERR 0 1
  else
    let b : Subscriber := { idx := 0, src := .rings, mask := 0xFFF, minSev := 0 }
    let s2 := (s1.setFld F.MGT_CRB_STATUS.STATE 0 1).setFld F.MGT_CRB_STATUS.ERR 0 0
    let r : RingSet := {
      req := s1.fld F.MGT_CRB_CTRL.REQ_LOG2, rpl := s1.fld F.MGT_CRB_CTRL.RPL_LOG2, evt := s1.fld F.MGT_CRB_CTRL.EVT_LOG2
      reqBase := s1.pair R.MGT_CRB_REQ_BASE_LO R.MGT_CRB_REQ_BASE_HI 0, rplBase := s1.pair R.MGT_CRB_RPL_BASE_LO R.MGT_CRB_RPL_BASE_HI 0
      evtBase := s1.pair R.MGT_CRB_EVT_BASE_LO R.MGT_CRB_EVT_BASE_HI 0 }
    s2.onCrb (fun y => { y with ringSet := r, subs := b :: y.subs.filter (fun (x : Subscriber) => x.src != .rings) })

/-- MGT_CRB_CTRL.ENABLE becomes 0. -/
def State.ringDisable (s : State) : State :=
  let s1 := (s.setFld F.MGT_CRB_CTRL.ENABLE 0 0).ringsOff
  ((s1.setFld F.MGT_CRB_STATUS.STATE 0 0).setFld F.MGT_CRB_STATUS.ERR 0 0).setFld F.MGT_CRB_STATUS.RPL_STALL 0 0

/-- MGT_CRB_CTRL.RESET: indices go to 0, and the replies of outstanding ring requests are discarded (R314). -/
def State.ringReset (s : State) : State :=
  let s1 := [F.MGT_CRB_REQ_TAIL.IDX, F.MGT_CRB_REQ_HEAD.IDX, F.MGT_CRB_RPL_HEAD.IDX, F.MGT_CRB_RPL_TAIL.IDX, F.MGT_CRB_EVT_HEAD.IDX,
    F.MGT_CRB_EVT_TAIL.IDX].foldl (fun s f => s.setFld f 0 0) s
  (s1.ringsDrop.setFld F.MGT_CRB_STATUS.RPL_STALL 0 0).onCrb (fun y => { y with
    outst := y.outst.map (fun (o : Outst) => if o.req.src = .rings then { o with discard := true } else o) })

/-- A write of the RW fields of MGT_CRB_CTRL. -/
def State.ringCtrl (s : State) (w : Nat) : State :=
  let was := s.flag F.MGT_CRB_CTRL.ENABLE
  let s1 := s.wr R.MGT_CRB_CTRL 0 (BitVec.ofNat 32 (setBits (w - Nat.land w 3) 0 1 (b2n was)))
  if bits w 0 1 = 1 && !was then s1.ringEnable else if bits w 0 1 = 0 && was then s1.ringDisable else s1

/-! ## Fields by their access codes (Table 0.11) -/

/-- The register lies in a cluster domain whose clock is stopped: it ignores writes (R65). -/
def State.stopped (s : State) (r : RegDesc) (i : Nat) : Bool :=
  0x400000 ≤ r.base && r.base < 0x800000 &&
    !([R.PCL_CLUSTER_ID.base, R.PCL_CLUSTER_CFG.base, R.PCL_SLOT_CFG.base, R.PCL_CLUSTER_STATUS.base].contains r.base) &&
    !s.clockRuns (if r.count = 288 then i / 8 else if r.count = 144 then clusterOf i else i)

/-- The register takes writes: a queue slot without a queue does not (R284), nor PCL_PRBS_CTRL outside TEST (R58). -/
def State.takesWrites (s : State) (r : RegDesc) (i : Nat) : Bool :=
  !s.stopped r i && !(0x10000000 ≤ r.base && r.base < 0x10000040 && !s.hasQueue (i / 256) (i % 256)) &&
    !(r.base == R.PCL_PRBS_CTRL.base && !s.prbsOn i)

/-- A write to the RW and RWS fields of a register: `m` the bits written and `w` the word that results. -/
def State.writeRw (s : State) (r : RegDesc) (i m w : Nat) : State :=
  let b := r.base
  let plain := s.wr r i (BitVec.ofNat 32 w)
  if m = 0 then s
  else if b = R.PCL_PORT_CTRL.base then
    let s1 := s.wr r i (BitVec.ofNat 32 (setBits w 7 1 (bits (s.rd r i).toNat 7 1)))
    if bits m 7 1 = 1 then s1.portTest i (bits w 7 1 == 1) else s1
  else if b = R.PCL_LANE_RXADAPT_CTRL.base then s.rxAdapt i w
  else if b = R.PCL_PRBS_CTRL.base then
    let moved := Nat.land (s.rd r i).toNat 0x17 != Nat.land w 0x17
    plain.whenb moved (fun s => s.setFld F.PCL_PRBS_STATUS.LOCK i 0)
  else if b = R.PWR_TB_SET_HI.base then s.tbSet (BitVec.ofNat 32 w)
  else if b = R.Q_CTRL.base then (if bits w 0 1 = 1 then s.queueEnable (i / 256) (i % 256) else s.queueDisable (i / 256) (i % 256))
  else if b = R.TS_CTRL.base then (if bits w 0 1 = 1 then s.traceEnable (i / 8) (i % 8) else s.traceDisable (i / 8) (i % 8))
  else if b = R.MGT_CRB_CTRL.base then s.ringCtrl w
  else if b = R.MGT_CRB_RPL_HEAD.base then plain.flushReplies
  else plain

/-- A write of 1 to W1C fields: `m` the bits cleared. -/
def State.writeW1c (s : State) (r : RegDesc) (i m : Nat) : State :=
  if m = 0 then s
  else if r.base = R.ACU_FV_INFO.base then s.clearCapture
  else let v := (s.rd r i).toNat; (s.wr r i (BitVec.ofNat 32 (v - Nat.land v m))).ovfCleared r.base m

/-- A write to WO fields: `m` the bits written as 1. -/
def State.writeWo (s : State) (r : RegDesc) (i m : Nat) : State :=
  let on (k : Nat) : Bool := bits m k 1 == 1
  let b := r.base
  if m = 0 then s
  else if b = R.PCL_PRBS_CTRL.base then (s.whenb (on 5) (fun s => s.prbsInject i)).whenb (on 6) (fun s => s.prbsClear i false)
  else if b = R.QOS_GCL_CTRL.base then (s.gclChange i).getD s
  else if b = R.DBG_CTRL.base then
    ((s.whenb (on 0) State.verify).whenb (on 1) State.relock).whenb (on 2) State.clearToken
  else if b = R.TS_CTRL.base then s.traceSwap (i / 8) (i % 8)
  else if b = R.MGT_CRB_CTRL.base then s.ringReset
  else s

/-- The fields of a register other than CO take a write of `v` under `m`, each by its code. -/
def State.writeFields (s : State) (r : RegDesc) (i m v : Nat) : State :=
  if !s.takesWrites r i then s
  else
    let rw := Nat.land m (r.accMask (fun a => a == .rw || a == .rws))
    let s1 := s.writeRw r i rw (mergeBits (s.rd r i).toNat v rw)
    let s2 := s1.writeW1c r i (Nat.land (Nat.land m v) (r.accMask (· == .w1c)))
    s2.writeWo r i (Nat.land (Nat.land m v) (r.accMask (· == .wo)))

/-! ## CO fields -/

/-- The group of settings a register belongs to. -/
def cfgOf (r : RegDesc) (i : Nat) : CfgGroup :=
  let isOf (l : List RegDesc) : Bool := l.any (·.base == r.base)
  if isOf [R.PCL_CLUSTER_CFG] then .cluster i
  else if isOf [R.PCL_SLOT_CFG] then .cluster (i / 4)
  else if isOf [R.KFL_LINK_CFG, R.KFL_TIMER_A, R.KFL_TIMER_B, R.KFL_TIMER_C] then .kfl i
  else if isOf [R.CHN_CFG, R.CHN_ESC_CFG, R.CHN_MC_CFG, R.CHN_MC_TIMER, R.CHN_POOL_WM] then .churn
  else if isOf [R.CHN_ROT_CTRL] then .rotation
  else if isOf [R.CHN_PORT_CFG, R.CHN_PORT_RES] then .pool i
  else if isOf [R.BND_VH_TAGS] then .vhTags i
  else if isOf [R.BND_FAB_CFG] then .fabric
  else if isOf [R.QOS_POL_CFG, R.QOS_POL_CIR, R.QOS_POL_PIR, R.QOS_POL_CBS, R.QOS_POL_PBS] then .policer i
  else if isOf [R.QOS_NODE_CFG, R.QOS_NODE_TCMAP, R.QOS_NODE_RATE, R.QOS_NODE_BURST, R.QOS_NODE_CS_RATE, R.QOS_NODE_CS_HI] then .node i
  else if isOf [R.QOS_SQ_CFG, R.QOS_SQ_RATE, R.QOS_SQ_BURST, R.QOS_SQ_CS_RATE, R.QOS_SQ_CS_HI] then .queue i
  else if isOf [R.QOS_PORT_CFG, R.QOS_PORT_RATE, R.QOS_PORT_BURST] then .shaper i
  else if isOf [R.SPG_SLOT_CFG, R.SPG_SLOT_ELEC, R.SPG_SLOT_TIME, R.SPG_SLOT_RETRY, R.SPG_SLOT_THERM, R.SPG_SLOT_MODEL] then .slot i
  else if isOf [R.SPG_SLOT_CAP] then .slotCap i
  else if isOf [R.PWR_VPOL_CFG, R.PWR_VPOL_TIME, R.PWR_DROWSE_CFG] then .power
  else if isOf [R.PWR_TB_CFG] then .time
  else .plain

/-- What a direct change of CO fields to the word `w` does in MAINTENANCE, with no checks (R311). -/
def State.forceCo (s : State) (r : RegDesc) (i w : Nat) : State :=
  let t := s.wr r i (BitVec.ofNat 32 w)
  let b := r.base
  if b = R.PCL_PORT_CTRL.base then
    (if !s.live i then t else if bits w 0 1 = 1 then s.enablePort i else s.disablePort i)
  else if b = R.SVC_QMAP.base then
    let a := s.ownerOf F.SVC_QMAP.ASSIGNED F.SVC_QMAP.FN i
    let z := t.ownerOf F.SVC_QMAP.ASSIGNED F.SVC_QMAP.FN i
    let t1 := a.elim t (fun f => t.freshQueue f (s.fld F.SVC_QMAP.LOCAL i))
    (z.elim t1 (fun f => t1.freshQueue f (t.fld F.SVC_QMAP.LOCAL i))).resChange [a, z]
  else if b = R.SVC_VMAP.base then
    let a := s.ownerOf F.SVC_VMAP.ASSIGNED F.SVC_VMAP.FN i
    let z := t.ownerOf F.SVC_VMAP.ASSIGNED F.SVC_VMAP.FN i
    let t1 := a.elim t (fun f => t.freshVector f (s.fld F.SVC_VMAP.LOCAL i))
    (z.elim t1 (fun f => t1.freshVector f (t.fld F.SVC_VMAP.LOCAL i))).resChange [a, z]
  else if b = R.SVC_TRC_CFG.base then
    t.resChange [s.ownerOf F.SVC_TRC_CFG.ASSIGNED F.SVC_TRC_CFG.OWNER i, t.ownerOf F.SVC_TRC_CFG.ASSIGNED F.SVC_TRC_CFG.OWNER i]
  else s.takeEffect t (cfgOf r i)

/-- The CO bits of a register that a write reaches: the WIDTH of a slot that a pair has taken cannot be written (R48). -/
def State.coMask (s : State) (r : RegDesc) (i : Nat) : Nat :=
  let m := r.accMask (· == .co)
  if r.base = R.PCL_SLOT_CFG.base && s.flag F.PCL_CLUSTER_CFG.PAIR_UPPER (i / 4) then m - Nat.land m 7 else m

/-- A direct write to the CO fields of a register (R12): a change takes effect in MAINTENANCE, and is ignored and logged otherwise. -/
def State.writeCo (s : State) (r : RegDesc) (i m v off : Nat) : State :=
  let cur := (s.rd r i).toNat
  let w := mergeBits cur v (Nat.land m (s.coMask r i))
  if w = cur || s.stopped r i then s
  else if s.mode = .maintenance then s.forceCo r i w
  else s.journal 0x0606 { detail := off }

/-! ## Windows -/

/-- The word of an entry at a byte, with the bits of `m` taken from `v`. -/
def entryWord (e : BitVec 512) (byte m v : Nat) : BitVec 512 :=
  let lo := 8 * (byte / 4 * 4)
  BitVec.ofNat 512 (setBits e.toNat lo 32 (mergeBits (bits e.toNat lo 32) v m))

/-- Only requester 0, the rings of the management PF, holds the open session (R115). -/
def State.ringsHold (s : State) : Bool := s.bnd.session.any (fun x => x.holder == .rings) && !s.bnd.committing

/-- A direct write to a table window (R115): it reaches the shadow only in MAINTENANCE while the rings hold the session; otherwise a
change is ignored and logged.  The attachments of nodes 0 to 143 are RO. -/
def State.writeTable (s : State) (t : Table) (i byte m v off : Nat) : State :=
  if t = .attach && i < 144 then s
  else if s.mode = .maintenance && s.ringsHold then (s.writeShadow t i (entryWord (s.bnd.shadow.entry t i) byte m v)).useSession
  else if entryWord (s.viewBank.entry t i) byte m v = s.viewBank.entry t i then s
  else s.journal 0x0606 { detail := off }

/-- A write to word `k` of an MSI-X entry of a function; one that loses its Mask bit sends what is pending.  A slot without a vector
ignores it (R284). -/
def State.writeMsix (s : State) (f e k m v : Nat) : State :=
  if (s.mapAt R.SVC_VMAP f e).isNone then s
  else
    let m1 := if k = 0 then m - Nat.land m 3 else if k = 3 then Nat.land m 1 else m
    let old := (s.msixEntry f e).toNat
    let new := setBits old (32 * k) 32 (mergeBits (bits old (32 * k) 32) v m1)
    let key := 256 * f + e
    let s1 := s.onSvc (fun y => { y with
      msix := if new = 2 ^ 96 then drop key y.msix else put key (BitVec.ofNat 128 new) y.msix })
    if bits new 96 1 = 0 && s1.svc.pba.contains key then
      (s1.onSvc (fun y => { y with pba := y.pba.filter (· != key) })).signal f e
    else s1

/-- What a direct write does where no register of `allRegs` stands: tables, gate lists, DBG_TOKEN, MSI-X entries; nothing elsewhere
(R11). -/
def State.writeWindow (s : State) (a m v off : Nat) : State :=
  match windowAt a with
  | some (t, i, b) => s.writeTable t i b m v off
  | none =>
    if 0x1840000 ≤ a && a < 0x1864000 then
      let k := (a - 0x1840000) / 4
      let w := mergeBits ((look k s.qos.gclAdmin).getD 0xFFFFFFFF).toNat v m
      if w = ((look k s.qos.gclAdmin).getD 0xFFFFFFFF).toNat then s
      else if s.mode = .maintenance then s.writeGcl (k / 256) (k % 256) [w] else s.journal 0x0606 { detail := off }
    else if 0x3008000 ≤ a && a < 0x3010000 then
      let w := (a - 0x3008000) / 4
      s.tokenWrite w [mergeBits ((look w s.sec.token).getD 0).toNat v m]
    else if 0x10000000 ≤ a && a < 0x18000000 && 0x8000 ≤ a % 0x10000 && a % 0x10000 < 0x9000 then
      s.writeMsix ((a - 0x10000000) / 0x10000) ((a % 0x10000 - 0x8000) / 16) (a % 16 / 4) m v
    else s

/-! ## Direct accesses -/

/-- A direct write of `v` under the bits `m` to the word at storage offset `a`, known outside as `off`.  DESIGN CHOICE
(notes/assumptions/67): in MAINTENANCE the RW, W1C and WO fields act first, with the CO values before the write, and its CO fields
follow. -/
def State.writeAt (s : State) (a off m v : Nat) : State :=
  match findReg a with
  | some (r, i) => (s.writeFields r i m v).writeCo r i m v off
  | none => s.writeWindow a m v off

/-- A direct write through the management PF (R10 to R12). -/
def State.directWrite (s : State) (off m v : Nat) : State :=
  match s.placeOf (off / 4 * 4) with
  | some a => s.writeAt a (off / 4 * 4) m v
  | none => s

/-- The storage offset a function's own interface has (Table 11.7). -/
def fnOffset (f off : Nat) : Nat := 0x10000000 + 0x10000 * f + off % 0x10000

/-- An access of 1 to 4 bytes that crosses a word boundary (R10): its enabled bytes stand in both words in one run. -/
def crossesWord (be : Nat) : Bool :=
  let on := (List.range 8).filter (fun k => bits be k 1 == 1)
  be % 16 != 0 && be / 16 != 0 && on.length ≤ 4 && on.getLastD 0 - on.headD 0 + 1 == on.length

/-- A write access of up to 8 bytes from the word at `off` on, by its byte enables, through the management PF or through the
interface of a function: one word, or a 64-bit access as two, lower address first, each changing only its enabled bytes; one that
crosses a word boundary is an Unsupported Request and changes nothing (R10).  DEDUCED (notes/assumptions/68): which accesses cross. -/
def State.access (s : State) (fn : Option Nat) (off be data : Nat) : State :=
  let one (s : State) (o m v : Nat) : State := match fn with
    | none => s.directWrite o m v
    | some f => s.writeAt (fnOffset f o) o m v
  let o := off / 4 * 4
  if s.mode = .reset then s
  else if be / 16 = 0 then one s o (enabledBits be) (data % 2 ^ 32)
  else if be % 16 = 0 then one s (o + 4) (enabledBits (be / 16)) (data / 2 ^ 32)
  else if !crossesWord be then one (one s o (enabledBits (be % 16)) (data % 2 ^ 32)) (o + 4) (enabledBits (be / 16)) (data / 2 ^ 32)
  else s.aerLog (match fn.bind (fun f => s.fnBinding f) with
    | some (_, b) => .fn (Bind.vh b) (Bind.vdsp b)
    | none => .mgmtPf) .unsupportedRequest true

/-- A direct read of the word at `off`, with its effects. -/
def State.directRead (s : State) (off : Nat) : State :=
  let r := s.readWord (off / 4 * 4)
  r.2.emit (.data r.1.toNat)

/-! ## WRITE_REG (R311) -/

/-- An object a CO register belongs to that must be a live port. -/
def portIndexed (r : RegDesc) : Bool :=
  [R.PCL_PORT_CTRL, R.CHN_PORT_CFG, R.CHN_PORT_RES, R.QOS_PORT_CFG, R.QOS_PORT_RATE, R.QOS_PORT_BURST, R.QOS_GCL_CTRL, R.QOS_GCL_CYCLE,
    R.QOS_GCL_BASE_LO, R.QOS_GCL_BASE_HI].any (·.base == r.base)

/-- The group a change of a slot word belongs to: a role, a link index, or the shape of the cluster. -/
def slotGroup (p cur w : Nat) : CfgGroup :=
  let d := Nat.xor cur w
  if d - Nat.land d 0x78 = 0 then .role p else if d - Nat.land d 0x1F800 = 0 then .link p else .cluster (p / 4)

/-- A change of the CO fields of a register to the word `w`, as the fields' own opcode makes it. -/
def State.askCo (s : State) (r : RegDesc) (i w : Nat) : Ans :=
  let cur := (s.rd r i).toNat
  let t := s.wr r i (BitVec.ofNat 32 w)
  let b := r.base
  if w = cur then ok s
  else if (rangeFault r w).isSome || (portIndexed r && !s.live i) then bad s 0
  else if b = R.PCL_PORT_CTRL.base then ok (if bits w 0 1 = 1 then s.enablePort i else s.disablePort i)
  else if b = R.PCL_SLOT_CFG.base then
    (match slotGroup i cur w with
     | .cluster c => s.change t (.cluster c)
     | .link p => if !s.live p || !s.isFabric p then bad s 0 else s.change t (.link p)
     | g => if !s.live i then bad s 0 else s.change t g)
  else if b = R.SVC_QMAP.base then
    (if bits w 19 1 = 1 then s.queueAssign i (bits w 0 11) (bits w 11 8) 0 else s.queueRelease i)
  else if b = R.SVC_VMAP.base then
    (if bits w 19 1 = 1 then s.vectorAssign i (bits w 0 11) (bits w 11 8) 0 else s.vectorRelease i)
  else if b = R.SVC_TRC_CFG.base then
    (if bits w 14 1 = 0 then s.traceRelease i
     else if s.fld F.SVC_TRC_LINES.LINES i = 0 then bad s 0
     else s.traceAssign i (bits w 0 11) (bits w 11 3) (s.pair R.SVC_TRC_RANGE_LO R.SVC_TRC_RANGE_HI i) (s.fld F.SVC_TRC_LINES.LINES i))
  else if [R.SVC_TRC_RANGE_LO, R.SVC_TRC_RANGE_HI, R.SVC_TRC_LINES].any (·.base == b) then
    (if s.trcState i ≠ 0 then no s stBusy 2 else ok t)
  else s.change t (cfgOf r i)

/-- Bits of a table window: they need the session and write the shadow (R115). -/
def State.askTable (s : State) (q : CrbReq) (t : Table) (i byte m v : Nat) : Ans :=
  let e := entryWord (s.bnd.shadow.entry t i) byte m v
  if (t == .attach && i < 144) || (t.firstReserved e).isSome then bad s 0
  else if s.fixedBinds && [Table.bind, .vdsp, .win, .id].contains t then no s stUnsupported 0
  else if (t == .route || t == .group) && !s.mayRoute q.src then no s stAuth 3
  else s.held q.src (ok (s.writeShadow t i e))

/-- Bits where no register of `allRegs` stands. -/
def State.askWindow (s : State) (q : CrbReq) (a m v : Nat) : Ans :=
  match windowAt a with
  | some (t, i, b) => s.askTable q t i b m v
  | none =>
    if 0x1840000 ≤ a && a < 0x1864000 then
      let k := (a - 0x1840000) / 4
      if !s.live (k / 256) then bad s 0
      else ok (s.writeGcl (k / 256) (k % 256) [mergeBits ((look k s.qos.gclAdmin).getD 0xFFFFFFFF).toNat v m])
    else if (0x3008000 ≤ a && a < 0x3010000) || (0x10000000 ≤ a && 0x8000 ≤ a % 0x10000 && a % 0x10000 < 0x9000) then
      ok (s.writeWindow a m v a)
    else bad s 0

/-- One triple of WRITE_REG. -/
def State.writeTriple (s : State) (q : CrbReq) (off m v : Nat) : Ans :=
  if off % 4 ≠ 0 || barSize ≤ off then bad s 0
  else if m = 0 then ok s
  else match s.placeOf off with
    | none => bad s 0
    | some a => match findReg a with
      | none => s.askWindow q a m v
      | some (r, i) =>
        if m - Nat.land m (r.accMask (· != .ro)) ≠ 0 then bad s 0
        else
          let x := s.askCo r i (mergeBits (s.rd r i).toNat v (Nat.land m (r.accMask (· == .co))))
          if x.status ≠ stOk then x else { x with s := x.s.writeFields r i m v }

/-- The triples in order: all of them, or none with the packet offset of the first that fails. -/
def State.writeTriples (s0 : State) (q : CrbReq) : Nat → Nat → State → Ans
  | 0, _, s => ok s
  | n + 1, k, s =>
    let x := s.writeTriple q (q.num (12 * k) 4) (q.num (12 * k + 4) 4) (q.num (12 * k + 8) 4)
    if x.status ≠ stOk then no s0 x.status (at16 (12 * k)) else State.writeTriples s0 q n (k + 1) x.s

/-- WRITE_REG (R311). -/
def opWriteReg : OpInfo where
  code := 0x0104
  d96 := true
  len := items 0 12 128
  run := fun q s => s.writeTriples q (q.body.length / 12) 0 s

/-! ## The debug access port (R269 to R271) -/

/-- The locked region a debug address falls in (Table 10.4): 0 binding tables, 1 secure SRAM, 2 attestation log, 3 key store. -/
def debugRegion (a : Nat) : Option Nat :=
  if 0x1410000 ≤ a && a < 0x1800000 then some 0
  else if 0x100600000 ≤ a && a < 0x100800000 then some 1
  else if 0x101000000 ≤ a && a < 0x101040000 then some 2
  else if 0x102000000 ≤ a && a < 0x102010000 then some 3
  else none

/-- A region is locked now: the binding tables by mode, the key store always, the others until a token unlocks them. -/
def State.debugLocked (s : State) : Nat → Bool
  | 0 => s.bndLocked
  | 3 => true
  | _ => !s.flag F.DBG_STATUS.UNLOCKED

/-- A debug address of Malacel's memories. -/
def inSram (a : Nat) : Bool :=
  (0x100000000 ≤ a && a < 0x100800000) || (0x101000000 ≤ a && a < 0x101040000) || (0x102000000 ≤ a && a < 0x102010000)

/-- What a debug read returns in place of a locked word. -/
def lockedWord : Nat := 0x0BAD10CC

/-- A debug access meets a locked word (R271): a write is dropped and a read returns 0x0BAD_10CC. -/
def State.lockHit (s : State) (a reg : Nat) (write : Bool) : State :=
  let s1 := s.bump R.DBG_LOCK_VIOL_CNT
  let s2 := s1.whenb (!s1.flag F.DBG_LOCK_FV_INFO.VALID) (fun s =>
    let at_ := b2n (reg == 3 && s.flag F.DBG_STATUS.UNLOCKED)
    let t1 := s.wr R.DBG_LOCK_FV_INFO 0 (BitVec.ofNat 32 (1 + 2 * b2n write + 4 * reg + 16 * at_))
    let t2 := (t1.wr R.DBG_LOCK_FV_ADDR_LO 0 (BitVec.ofNat 32 a)).wr R.DBG_LOCK_FV_ADDR_HI 0 (BitVec.ofNat 32 (a / 2 ^ 32))
    (t2.wr R.DBG_LOCK_FV_TIME_LO 0 (BitVec.ofNat 32 s.tb.toNat)).wr R.DBG_LOCK_FV_TIME_HI 0 (BitVec.ofNat 32 (s.tb.toNat / 2 ^ 32)))
  let s3 := ((s2.setFld F.DBG_STATUS.LAST_LOCKED 0 1).raise F.DBG_EVT.LOCK_HIT).journal 0x0609 { detail := a }
  s3.whenb (!write) (fun s => s.emit (.data lockedWord))

/-- A word access of the debug port (R271); one to the register network wakes Kalnum (Table 13.5).  LAST_LOCKED is told once the
access is done, so that a read of DBG_STATUS shows the access before it. -/
def State.debugAccess (s : State) (addr : Nat) (write : Bool) (v : Nat) : State :=
  let a := addr / 4 * 4
  if s.mode = .reset then s
  else
    let s0 := s.whenb (a < barSize) (fun s => s.wakeBy 10 0)
    match (debugRegion a).filter s0.debugLocked with
    | some reg => s0.lockHit a reg write
    | none =>
      let s1 :=
        if a < barSize then (if write then s0.directWrite a 0xFFFFFFFF v else s0.directRead a)
        else if inSram a then
          (if write then s0.onSec (fun y => { y with sram := put a (BitVec.ofNat 32 v) y.sram })
           else s0.emit (.data ((look a s0.sec.sram).getD (Config.sramWord a)).toNat))
        else if write then s0 else s0.emit (.data 0)
      s1.setFld F.DBG_STATUS.LAST_LOCKED 0 0

/-! ## The commands -/

/-- REGISTER_WRITE (R10 to R12): through the management PF's BAR0, or the interface of a function. -/
def execRegisterWrite (fn : Option (Fin 2048)) (off : BitVec 26) (be : BitVec 8) (data : BitVec 64) (s : State) :
    Host.Outcome State Fault Refusal := .next (s.access (fn.map (·.val)) off.toNat be.toNat data.toNat)

/-- TABLE_WINDOW_WRITE (R115). -/
def execTableWindowWrite (off : BitVec 26) (be : BitVec 4) (value : BitVec 32) (s : State) : Host.Outcome State Fault Refusal :=
  .next (if s.mode = .reset then s else match windowAt (off.toNat / 4 * 4) with
    | some (t, i, b) => s.writeTable t i b (enabledBits be.toNat) value.toNat (off.toNat / 4 * 4)
    | none => s)

/-- COUNTER_LO_READ (R317). -/
def execCounterLoRead (off : BitVec 26) (s : State) : Host.Outcome State Fault Refusal :=
  .next (if s.mode = .reset then s else s.directRead off.toNat)

/-- HWM_READ (R315). -/
def execHwmRead (off : BitVec 26) (s : State) : Host.Outcome State Fault Refusal :=
  .next (if s.mode = .reset then s else s.directRead off.toNat)

/-- QOS_GCL_CHANGE (R241): a list that is refused changes nothing. -/
def execQosGclChange (port : Fin 144) (s : State) : Host.Outcome State Fault Refusal := .next ((s.gclChange port).getD s)

/-- FV_VALID_CLEAR (R267). -/
def execFvValidClear (s : State) : Host.Outcome State Fault Refusal := .next s.clearCapture

/-- DBG_FV_VALID_CLEAR (R271). -/
def execDbgFvValidClear (s : State) : Host.Outcome State Fault Refusal := .next (s.setFld F.DBG_LOCK_FV_INFO.VALID 0 0)

/-- DEBUG_ACCESS (R271). -/
def execDebugAccess (addr : BitVec 36) (write : Bool) (value : BitVec 32) (s : State) : Host.Outcome State Fault Refusal :=
  .next (s.debugAccess addr.toNat write value.toNat)

end Sys2Proof.Machine
end

