-- ==== Sys2Proof/Machine/Spdm.lean ====
section
/-! DEFINITION. The SPDM 1.3 responder (R384 to R386).  PRESUMED (notes/assumptions/20): the layout of the messages, their codes and
error codes, and what a signature covers, as SPDM 1.3 (DSP0274) defines them.  Values that standard leaves to the responder and the
spec does not state are free values. -/

namespace Sys2Proof.Machine

/-- The connection with a requester. -/
def State.conn (s : State) (r : Requester) : SpdmConn := (s.sec.spdm.find? (fun (c : SpdmConn) => c.src == r)).getD { src := r }

/-- Keep a connection. -/
def State.setConn (s : State) (c : SpdmConn) : State :=
  s.onSec (fun y => { y with spdm := c :: y.spdm.filter (fun (x : SpdmConn) => x.src != c.src) })

/-- The header of a message: version, code and two parameters. -/
def spdmHead (version code p1 p2 : Nat) : List Byte := leBytes 1 version ++ leBytes 1 code ++ leBytes 1 p1 ++ leBytes 1 p2

/-- An ERROR response. -/
def spdmError (code data : Nat) (ext : List Byte) : List Byte := spdmHead 0x13 0x7F code data ++ ext

/-- Error codes. -/
def seInvalid : Nat := 0x01
def seUnexpected : Nat := 0x04
def seUnsupported : Nat := 0x07
def seVersion : Nat := 0x41
def seNotReady : Nat := 0x42

/-- Answer with an error. -/
def State.spdmRefuse (s : State) (code data : Nat) : State × List Byte := (s, spdmError code data [])

/-- GET_VERSION: 1.3 only; the connection starts anew. -/
def State.spdmVersion (s : State) (r : Requester) (m : List Byte) : State × List Byte :=
  let a := spdmHead 0x10 0x04 0 0 ++ leBytes 1 0 ++ leBytes 1 1 ++ leBytes 2 0x1300
  (s.setConn { src := r, level := 1, vca := m ++ a }, a)

/-- CERT_CAP, CHAL_CAP, and MEAS_CAP with signature. -/
def spdmFlags : Nat := 0x02 + 0x04 + 0x10

/-- GET_CAPABILITIES. -/
def State.spdmCaps (s : State) (r : Requester) (m : List Byte) : State × List Byte :=
  let c := s.conn r
  if c.level ≠ 1 then s.spdmRefuse seUnexpected 0
  else
    let a := spdmHead 0x13 0x61 0 0 ++ leBytes 1 0 ++ leBytes 1 s.free ++ leBytes 2 0 ++ leBytes 4 spdmFlags ++ leBytes 4 s.drew.free ++
      leBytes 4 s.drew.drew.free
    (s.drew.drew.drew.setConn { c with level := 2, vca := c.vca ++ m ++ a }, a)

/-- NEGOTIATE_ALGORITHMS: RSASSA-PSS 3072, SHA-384, and SHA-384 for measurements, as far as the requester offers them. -/
def State.spdmAlgorithms (s : State) (r : Requester) (m : List Byte) : State × List Byte :=
  let c := s.conn r
  if c.level ≠ 2 then s.spdmRefuse seUnexpected 0
  else
    let asym := bits (bodyNat m 8 4) 3 1 * 8
    let hash := bits (bodyNat m 12 4) 1 1 * 2
    let a := spdmHead 0x13 0x63 0 0 ++ leBytes 2 36 ++ leBytes 1 1 ++ leBytes 1 0 ++ leBytes 4 4 ++ leBytes 4 asym ++ leBytes 4 hash ++
      List.replicate 12 (0 : Byte) ++ leBytes 1 0 ++ leBytes 1 0 ++ leBytes 2 0
    (s.setConn { c with level := if asym = 8 && hash = 2 then 3 else 2, vca := c.vca ++ m ++ a }, a)

/-- The RSA chain of slot 0. -/
def slotChain : List Byte := Config.certChain 0

/-- GET_DIGESTS: slot 0 alone. -/
def State.spdmDigests (s : State) (r : Requester) (m : List Byte) : State × List Byte :=
  let c := s.conn r
  if c.level ≠ 3 then s.spdmRefuse seUnexpected 0
  else
    let a := spdmHead 0x13 0x01 1 1 ++ Config.sha384 slotChain
    (s.setConn { c with certs := c.certs ++ m ++ a }, a)

/-- GET_CERTIFICATE of slot 0. -/
def State.spdmCertificate (s : State) (r : Requester) (m : List Byte) : State × List Byte :=
  let c := s.conn r
  let o := bodyNat m 4 2
  if c.level ≠ 3 then s.spdmRefuse seUnexpected 0
  else if bodyNat m 2 1 % 16 ≠ 0 || slotChain.length ≤ o then s.spdmRefuse seInvalid 0
  else
    let p := (slotChain.drop o).take (bodyNat m 6 2)
    let a := spdmHead 0x13 0x02 0 0 ++ leBytes 2 p.length ++ leBytes 2 (slotChain.length - o - p.length) ++ p
    (s.setConn { c with certs := c.certs ++ m ++ a }, a)

/-- 32 bytes of nonce, which are free values, as the bytes and the state after them. -/
def State.spdmNonce (s : State) : List Byte × State :=
  (((List.range 8).map (fun k => leBytes 4 (s.each (List.range k) (fun s _ => s.drew)).free)).flatten,
    s.each (List.range 8) (fun s _ => s.drew))

/-- A measurement block in DMTF form. -/
def blockBytes (i : Nat) (v : List Byte) : List Byte :=
  leBytes 1 i ++ leBytes 1 1 ++ leBytes 2 (3 + v.length) ++ leBytes 1 i ++ leBytes 2 v.length ++ v

/-- Blocks 1 to 5, whole as sent. -/
def State.allBlocks (s : State) : List Byte := ((List.range 5).map (fun k => blockBytes (k + 1) (s.measure (k + 1)))).flatten

/-- CHALLENGE: signed with the RSA identity key. -/
def State.spdmChallenge (s : State) (r : Requester) (m : List Byte) : State × List Byte :=
  let c := s.conn r
  if c.level ≠ 3 then s.spdmRefuse seUnexpected 0
  else if bodyNat m 2 1 % 16 ≠ 0 then s.spdmRefuse seInvalid 0
  else
    let n := s.spdmNonce
    let summary := if bodyNat m 3 1 = 0 then [] else Config.sha384 s.allBlocks
    let a := spdmHead 0x13 0x03 0 1 ++ Config.sha384 slotChain ++ n.1 ++ summary ++ leBytes 2 0 ++ (m.drop 36).take 8
    (n.2.setConn { c with certs := [] }, a ++ Config.rsaSign (c.vca ++ c.certs ++ m ++ a))

/-- Block 0xF0: the counter-signature over the requester's nonce and the other blocks of the response (R386). -/
def counterBlock (nonce others : List Byte) : List Byte :=
  let v := Config.slhSign (Config.sha384 (nonce ++ others))
  leBytes 1 0xF0 ++ leBytes 1 0 ++ leBytes 2 v.length ++ v

/-- The blocks a measurement request asks for: how many, and the record. -/
def State.measureRecord (s : State) (op : Nat) (nonce : List Byte) : Option (Nat × List Byte) :=
  if op = 0 then some (0, [])
  else if op = 0xFF then some (6, s.allBlocks ++ counterBlock nonce s.allBlocks)
  else if op = 0xF0 then some (1, counterBlock nonce [])
  else if op ≤ 5 then some (1, blockBytes op (s.measure op))
  else none

/-- GET_MEASUREMENTS: a response with block 0xF0 is kept until RESPOND_IF_READY; its values are one snapshot. -/
def State.spdmMeasurements (s : State) (r : Requester) (m : List Byte) : State × List Byte :=
  let c := s.conn r
  let signed := bodyNat m 2 1 % 2 = 1
  let op := bodyNat m 3 1
  let nonce := if signed then (m.drop 4).take 32 else []
  let ctx := (m.drop (if signed then 37 else 4)).take 8
  match s.measureRecord op nonce with
  | none => s.spdmRefuse seInvalid 0
  | some (k, rec) =>
    if c.level ≠ 3 then s.spdmRefuse seUnexpected 0
    else if signed && bodyNat m 36 1 % 16 ≠ 0 then s.spdmRefuse seInvalid 0
    else
      let n := s.spdmNonce
      let a := spdmHead 0x13 0x60 (if op = 0 then 6 else 0) 0 ++ leBytes 1 k ++ leBytes 3 rec.length ++ rec ++ n.1 ++ leBytes 2 0 ++ ctx
      let whole := if signed then a ++ Config.rsaSign (c.vca ++ c.meas ++ m ++ a) else a
      let told := (op = 0xFF || op = 5) && s.flag F.DBG_STATUS.UNLOCKED
      let s1 := n.2.whenb told (fun s => s.raise F.SEC_EVT.SPDM_UNLOCK_SEEN)
      let c1 := { c with meas := if signed then [] else c.meas ++ m ++ a }
      if op = 0xFF || op = 0xF0 then
        let t := s1.drew.free % 256
        (s1.drew.drew.drew.setConn { c1 with waiting := some whole, token := t },
          spdmError seNotReady 0 (leBytes 1 s1.free ++ leBytes 1 0xE0 ++ leBytes 1 t ++ leBytes 1 s1.drew.drew.free))
      else (s1.setConn c1, whole)

/-- RESPOND_IF_READY: the response that waits. -/
def State.spdmReady (s : State) (r : Requester) (m : List Byte) : State × List Byte :=
  let c := s.conn r
  match c.waiting with
  | some a => if bodyNat m 2 1 = 0xE0 && bodyNat m 3 1 = c.token then (s.setConn { c with waiting := none }, a) else s.spdmRefuse seInvalid 0
  | none => s.spdmRefuse seUnexpected 0

/-- The response to a request, by its code. -/
def State.spdmAnswer (s : State) (r : Requester) (m : List Byte) : State × List Byte :=
  let code := bodyNat m 1 1
  if code = 0x84 then s.spdmVersion r m
  else if bodyNat m 0 1 ≠ 0x13 then s.spdmRefuse seVersion 0
  else if code = 0xE1 then s.spdmCaps r m
  else if code = 0xE3 then s.spdmAlgorithms r m
  else if code = 0x81 then s.spdmDigests r m
  else if code = 0x82 then s.spdmCertificate r m
  else if code = 0x83 then s.spdmChallenge r m
  else if code = 0xE0 then s.spdmMeasurements r m
  else if code = 0xFF then s.spdmReady r m
  else s.spdmRefuse seUnsupported code

/-- Answer a request at once. -/
def State.spdmNow (s : State) (r : Requester) (m : List Byte) : State :=
  let x := (s.bump R.SEC_SPDM_REQ_CNT).spdmAnswer r m
  x.1.emit (.spdm r x.2)

/-- An MCTP packet to Kalnum's EID wakes it from DROWSE: by SMBus or I3C (Table 13.5, source 5), or by the management VH's host link
(source 1, R299). -/
def State.mctpWake (s : State) (r : Requester) : State :=
  match r with
  | .mctp m _ => if m.val = 0 then s.wakeBy 1 s.bnd.mgmtVh else s.wakeBy 5 (m.val - 1)
  | _ => s

/-- The firmware answers: it is ready, and is not the boot ROM. -/
def State.firmwareUp (s : State) : Bool := s.flag F.MGT_CRB_STATUS.FW_READY && !s.flag F.SEC_BOOT_STATUS.ROM_RESIDENT

/-- A request arrives; in DROWSE it is answered after the wake (Table 15.10).  The responder is firmware: without it nothing answers. -/
def State.spdmRx (s : State) (r : Requester) (m : List Byte) : State :=
  if !s.firmwareUp then s
  else if s.mode = .drowse then (s.onSec (fun y => { y with spdmHeld := y.spdmHeld ++ [(r, m)] })).mctpWake r
  else (s.mctpWake r).spdmNow r m

/-! ## The commands: medium, requester EID, SPDM version, Param1, Param2, and what follows them -/

/-- SPDM_GET_VERSION (R385). -/
def execSpdmGetVersion (medium : Fin 3) (eid version p1 p2 : BitVec 8) (rest : List (BitVec 8)) (s : State) :
    Host.Outcome State Fault Refusal := .next (s.spdmRx (.mctp medium eid) ([version, 0x84, p1, p2] ++ rest))

/-- SPDM_GET_CAPABILITIES (R385). -/
def execSpdmGetCapabilities (medium : Fin 3) (eid version p1 p2 : BitVec 8) (rest : List (BitVec 8)) (s : State) :
    Host.Outcome State Fault Refusal := .next (s.spdmRx (.mctp medium eid) ([version, 0xE1, p1, p2] ++ rest))

/-- SPDM_NEGOTIATE_ALGORITHMS (R385). -/
def execSpdmNegotiateAlgorithms (medium : Fin 3) (eid version p1 p2 : BitVec 8) (rest : List (BitVec 8)) (s : State) :
    Host.Outcome State Fault Refusal := .next (s.spdmRx (.mctp medium eid) ([version, 0xE3, p1, p2] ++ rest))

/-- SPDM_GET_DIGESTS (R385). -/
def execSpdmGetDigests (medium : Fin 3) (eid version p1 p2 : BitVec 8) (rest : List (BitVec 8)) (s : State) :
    Host.Outcome State Fault Refusal := .next (s.spdmRx (.mctp medium eid) ([version, 0x81, p1, p2] ++ rest))

/-- SPDM_GET_CERTIFICATE (R385). -/
def execSpdmGetCertificate (medium : Fin 3) (eid version p1 p2 : BitVec 8) (rest : List (BitVec 8)) (s : State) :
    Host.Outcome State Fault Refusal := .next (s.spdmRx (.mctp medium eid) ([version, 0x82, p1, p2] ++ rest))

/-- SPDM_CHALLENGE (R385). -/
def execSpdmChallenge (medium : Fin 3) (eid version p1 p2 : BitVec 8) (rest : List (BitVec 8)) (s : State) :
    Host.Outcome State Fault Refusal := .next (s.spdmRx (.mctp medium eid) ([version, 0x83, p1, p2] ++ rest))

/-- SPDM_GET_MEASUREMENTS (R386). -/
def execSpdmGetMeasurements (medium : Fin 3) (eid version p1 p2 : BitVec 8) (rest : List (BitVec 8)) (s : State) :
    Host.Outcome State Fault Refusal := .next (s.spdmRx (.mctp medium eid) ([version, 0xE0, p1, p2] ++ rest))

/-- SPDM_RESPOND_IF_READY (R386). -/
def execSpdmRespondIfReady (medium : Fin 3) (eid version p1 p2 : BitVec 8) (rest : List (BitVec 8)) (s : State) :
    Host.Outcome State Fault Refusal := .next (s.spdmRx (.mctp medium eid) ([version, 0xFF, p1, p2] ++ rest))

end Sys2Proof.Machine
end

