-- ==== Sys2Proof/Machine/Corber.lean ====
section
/-! DEFINITION. Corber's front end (R295 to R307): what a request must pass, the order it starts in, its first reply; the transports
(R298 to R300); and what happens while no command waits. -/

namespace Sys2Proof.Machine

/-! ## Opcodes -/

/-- Opcodes, part 1. -/
def ops1 : List OpInfo := [
  opGetInfo, opGetMode, opEcho, opReadReg, opWriteReg, opResetDevice, opGetBoardRecord, opSetBoardRecord, opSubscribe,
  opUnsubscribe, opGetTimebase, opSetChurn, opSetRotation, opGetPort, opSetCluster, opGetCluster, opPortEnable, opSetRole,
  opRecalibrate, opMargin, opGetLane, opSetLinkIndex, opSetKfl, opKflDisable, opGetKfl]

/-- Opcodes, part 2. -/
def ops2 : List OpInfo := [
  opSetPortPool, opSessionOpen, opCommitInfo, opSessionAbort, opQuiesceInfo, opWriteEntry, opReadEntry, opBind, opUnbind,
  opResumeBinding, opResetBinding, opGetBinding, opSetVhTags, opSetMgmtVh, opSetTrkTimeout, opGetVh, opCxlFm, opSetFabric,
  opGetFabric, opGetMembers, opSetFabTimers, opGetFlow, opSetPolicer, opGetPolicer, opSetNode]

/-- Opcodes, part 3. -/
def ops3 : List OpInfo := [
  opSetQueue, opSetPortShaper, opWriteGcl, opGclChange, opSetQos, opSetAcu, opGetViolation, opClearViolation, opGetSlot,
  opSetSlot, opSlotPowerInfo, opClearLockout, opSetSlotCap, opSetIndicators, opGetCert, opGetMeasurements, opTokenWrite,
  opTokenVerify, opRelock, opFwBegin, opFwWrite, opFwFinish, opFwSelect, opGetFw, opSetModeInfo]

/-- Opcodes, part 4. -/
def ops4 : List OpInfo := [
  opGetPower, opSetVoltPolicy, opGetDrowseStats, opSetGating, opGetCoreDelay, opSelfTestInfo, opTestBankInfo,
  opInjectError, opGetWatchdog, opQueueAssign, opQueueRelease, opVectorAssign, opVectorRelease, opSetShare, opTraceAssign,
  opTraceRelease, opSetDm, opGetDm, opReadJournal, opReadFlashJournal, opReadCounters, opClearCounters, opReadPfl,
  opSetErr]

/-- The opcodes of Table 12.6, in order. -/
def allOps : List OpInfo := ops1 ++ ops2 ++ ops3 ++ ops4

/-- The row of Table 12.6 an opcode has. -/
def opOf (code : Nat) : Option OpInfo := allOps.find? (fun o => o.code == code)

/-! ## Requesters (R301) -/

/-- The transport class of a requester in MGT_CRB_PERM; Malacel's own requests pass no transport. -/
def permClass : Requester → Option Nat
  | .rings => some 0
  | .malacel => none
  | .mctp m _ => some (if m.val = 0 then 1 else 2)
  | .whey _ => some 3

/-- The transport of a requester permits a group. -/
def State.permits (s : State) (r : Requester) (group : Nat) : Bool :=
  match permClass r with
  | none => true
  | some t => 1 ≤ group && group ≤ 12 && bits (s.fld F.MGT_CRB_PERM.GROUPS t) (group - 1) 1 == 1

/-- A requester is displaced: its records and its subscription are lost. -/
def State.displace (s : State) (i : Nat) (r : Requester) : State :=
  s.onCrb (fun y => { y with
    reqs := y.reqs.filter (fun e => e.1 != i)
    dups := y.dups.filter (fun (d : DupRec) => d.src != r)
    subs := y.subs.filter (fun (b : Subscriber) => b.src != r) })

/-- The requester idle longest, of those without an index of their own. -/
def idlest : List (Nat × Requester × Nat) → Option (Nat × Requester × Nat)
  | [] => none
  | e :: l => match idlest l with
    | some x => if e.2.2 ≤ x.2.2 then some e else some x
    | none => some e

/-- A request of a requester arrives: the requester is tracked, in place of the one idle longest where 64 are. -/
def State.track (s : State) (r : Requester) : State :=
  let add (s : State) (i : Nat) : State := s.onCrb (fun y => { y with reqs := y.reqs ++ [(i, r, s.now)] })
  match s.crb.reqs.find? (fun e => e.2.1 == r) with
  | some e => s.onCrb (fun y => { y with reqs := y.reqs.map (fun x => if x.1 = e.1 then (x.1, x.2.1, s.now) else x) })
  | none =>
    match (List.range 64).find? (fun i => 2 ≤ i && !s.crb.reqs.any (·.1 == i)) with
    | some i => add s i
    | none => match idlest (s.crb.reqs.filter (fun e => 2 ≤ e.1)) with
      | some (i, x, _) => add (s.displace i x) i
      | none => s

/-! ## What a request must pass (R295, R301, R302, R306) -/

/-- FLAGS of a request (Table 12.2). -/
def flagOrdered (q : CrbReq) : Bool := bits q.flags.toNat 2 1 == 1
def flagFm (q : CrbReq) : Bool := bits q.flags.toNat 3 1 == 1

/-- FM is honoured: it comes from the current lead, or arrives at the lead itself (R301). -/
def State.fmHonoured (s : State) (q : CrbReq) : Bool :=
  let lead := s.fld F.BND_FAB_STATUS.LEAD_FEID
  s.flag F.BND_FAB_STATUS.LEAD_KNOWN &&
    (match q.src with
     | .whey f => f.toNat == lead || s.ownFeid == lead
     | _ => s.ownFeid == lead)

/-- The requests outstanding: what runs, what waits its turn, and what another member has. -/
def State.waitingReqs (s : State) : List CrbReq :=
  s.crb.outst.map (·.req) ++ s.crb.ordered.map (·.2) ++ s.crb.forwarded.map (·.req)

/-- The front end hands requests to Malacel. -/
def State.frontEnd (s : State) : Bool := s.mode != .reset && s.mode != .boot && s.flag F.MGT_CRB_STATUS.FW_READY

/-- The request is for another member of the fabric (Table 12.1). -/
def State.isFar (s : State) (q : CrbReq) : Bool := q.feid.toNat != 0 && q.feid.toNat != s.ownFeid

/-- What the packet, the transport's permissions and the limits refuse, in that order (R417). -/
def State.turnedAway (s : State) (code : Nat) (q : CrbReq) : Option (Nat × Nat) :=
  let mine := s.waitingReqs.filter (fun (x : CrbReq) => x.src == q.src)
  let form := match opOf code with
    | none => true
    | some o => q.dk96 && !o.d96
  if !s.frontEnd then some (stBusy, 0xFFFF)
  else if 4080 < q.length || q.length ≠ q.body.length then some (stParam, 4)
  else if s.isFar q && (s.ownFeid = 0 || (match q.src with | .whey _ => true | _ => false)) then some (stParam, 6)
  else if !s.isFar q && form then some (stUnsupported, 0)
  else if !s.permits q.src (code / 256) || (!s.isFar q && flagFm q && !s.fmHonoured q) then some (stAuth, code / 256)
  else if 64 ≤ mine.length || 256 ≤ s.waitingReqs.length then some (stBusy, 1)
  else if mine.any (fun (x : CrbReq) => x.tag == q.tag) then some (stParam, 2)
  else none

/-- The opcodes the boot ROM answers in SAFE_HOLD without valid firmware (Table 12.5). -/
def romOps : List Nat := [0x0100, 0x0101, 0x0103, 0x0805, 0x0806, 0x0807, 0x0808, 0x0809, 0x0C00, 0x0C01]

/-- What the mode refuses (R306). -/
def State.modeBars (s : State) (o : OpInfo) : Option (Nat × Nat) :=
  let safe := s.mode == .safeHold
  let fw := 0x0805 ≤ o.code && o.code ≤ 0x0808
  let open_ := if s.flag F.SEC_BOOT_STATUS.ROM_RESIDENT then romOps.contains o.code else [1, 8, 9, 10, 12].contains o.group
  if safe && !open_ then some (stLocked, 1)
  else if o.m && s.mode != .maintenance && !(safe && fw) then some (stLocked, 3)
  else none

/-! ## Starting a request (R303 to R305) -/

/-- DETAIL of an ACCEPTED reply: 2.00 ms for a commit, as the worked example of R310 states; otherwise Kalnum's own estimate. -/
def acceptedTime (code : Nat) : Nat := if code = opCommit then 200 else Config.expectedTime code % 65536

/-- What a request comes to: the mode, the length of its body, and then the opcode. -/
def State.judge (s : State) (o : OpInfo) (q : CrbReq) : Ans :=
  match s.modeBars o with
  | some (st, d) => no s st d
  | none => if o.len q.body.length then o.run q s else bad s 4

/-- A request starts: its effect, its record where it is a change, and its first reply; an accepted operation goes on after that
reply. -/
def State.start (s : State) (o : OpInfo) (q : CrbReq) : State :=
  let s0 := s.whenb (s.bnd.session.any (fun x => x.holder == q.src)) State.useSession
  let a := s0.judge o q
  let go : State → State := a.after.getD id
  if a.status = stAccepted then
    let s1 := a.s.onCrb (fun y => { y with outst := y.outst ++ [{ opcode := o.code, req := q, accepted := true }] })
    go (s1.replyNow o.code q false stAccepted (acceptedTime o.code) a.data)
  else
    let s1 := a.s.whenb o.change (fun s => s.record o.code q a.status a.detail)
    go (s1.replyNow o.code q false a.status a.detail a.data)

/-- The object a request names: the group with OBJECT, or the shadow tables (R304). -/
def objectKey (code : Nat) (q : CrbReq) : Nat :=
  if [0x0300, 0x0301, 0x0302, 0x0304, 0x0305, 0x0306, 0x0307].contains code then 0 else 65536 * (code / 256) + q.object + 1

/-- A request may start: an ORDERED one waits for every earlier request of its requester, and any for an earlier one of the same object
that waits (R304). -/
def State.mayBegin (s : State) (before : List (Nat × CrbReq)) (code : Nat) (q : CrbReq) : Bool :=
  !before.any (fun e => objectKey e.1 e.2 == objectKey code q) &&
    !(flagOrdered q && (before.any (fun e => e.2.src == q.src) || s.crb.outst.any (fun (o : Outst) => o.req.src == q.src) ||
      s.crb.forwarded.any (fun (f : Forwarded) => f.req.src == q.src)))

/-- The first waiting request that may start now, with those before it. -/
def State.nextWaiting (s : State) (before : List (Nat × CrbReq)) : List (Nat × CrbReq) → Option (Nat × CrbReq)
  | [] => none
  | e :: l => if s.mayBegin before e.1 e.2 then some e else s.nextWaiting (before ++ [e]) l

/-- Requests that waited start as far as they may, at most `n`. -/
def State.startWaiting : Nat → State → State
  | 0, s => s
  | n + 1, s =>
    match s.nextWaiting [] s.crb.ordered with
    | none => s
    | some e =>
      let s1 := s.onCrb (fun y => { y with ordered := y.ordered.erase e })
      State.startWaiting n (match opOf e.1 with
        | some o => s1.start o e.2
        | none => s1)

/-- Every waiting request that may start does. -/
def State.pump (s : State) : State := State.startWaiting s.crb.ordered.length s

/-- The record a change request matches (R303). -/
def State.recorded (s : State) (code : Nat) (q : CrbReq) : Option DupRec :=
  s.crb.dups.find? (fun (d : DupRec) => d.src == q.src && d.seq == q.seq && d.opcode == code && d.tag == q.tag)

/-- The packet of a request: the 16-byte header of Table 12.1 and the body. -/
def requestPacket (q : CrbReq) (code tag : Nat) : List Byte :=
  leBytes 2 code ++ leBytes 2 tag ++ leBytes 2 q.length ++ leBytes 4 (q.feid.toNat + 2 ^ 16 * q.object) ++ leBytes 2 q.flags.toNat ++
    leBytes 4 q.seq.toNat ++ q.body

/-- Hand a request to another member of the fabric, as its requester there; it keeps its TAG unless another request to that member has
it (R300). -/
def State.forwardReq (s : State) (code : Nat) (q : CrbReq) : State :=
  let used (t : Nat) : Bool := s.crb.forwarded.any (fun (f : Forwarded) => f.feid == q.feid.toNat && f.msgId == t)
  let tag := if used q.tag.toNat then ((List.range 257).find? (fun t => !used t)).getD 0 else q.tag.toNat
  let s1 := s.onCrb (fun y => { y with forwarded := y.forwarded ++ [{ feid := q.feid.toNat, msgId := tag, req := q, opcode := code }] })
  s1.toWhey q.feid.toNat (requestPacket q code tag)

/-- A request arrives whole (R295): it is refused, forwarded, answered from the record, made to wait, or started. -/
def State.serve (s : State) (code : Nat) (q : CrbReq) : State :=
  let s1 := s.whenb s.frontEnd (fun s => s.track q.src)
  match s1.turnedAway code q with
  | some (st, d) => s1.replyNow code q false st d []
  | none =>
    if s1.isFar q then s1.forwardReq code q
    else match opOf code, s1.recorded code q with
      | none, _ => s1
      | some o, some d =>
        if o.change then (s1.bump R.MGT_CRB_DUP_CNT).sendTo q.src (replyBytes code q false true d.status d.detail [])
        else (s1.start o q).pump
      | some o, none =>
        if s1.mayBegin s1.crb.ordered code q then (s1.start o q).pump
        else s1.onCrb (fun y => { y with ordered := y.ordered ++ [(code, q)] })

/-- The wake that a request's transport brings in DROWSE (Table 12.5): of the management VH's host link, of SMBus or I3C, or of the
fabric link it came on. -/
def State.wakeFor (s : State) (r : Requester) (link : Nat) : State :=
  match r with
  | .mctp m _ => if m.val = 0 then s.wakeBy 1 s.bnd.mgmtVh else s.wakeBy 5 (m.val - 1)
  | .whey _ => s.wakeBy 2 link
  | _ => s.wakeBy 1 s.bnd.mgmtVh

/-- A request arrives; in DROWSE it is held and runs after the wake (R306). -/
def State.arrive (s : State) (code : Nat) (q : CrbReq) (link : Nat := 0) : State :=
  if s.mode = .drowse then
    (s.onCrb (fun y => { y with drowseHeld := y.drowseHeld ++ [(code, q)] })).wakeFor q.src link
  else if s.pwr.drowse = .lowering then (s.wakeFor q.src link).serve code q
  else s.serve code q

/-- The request of a row of Table 12.6. -/
def State.corber (s : State) (o : OpInfo) (q : CrbReq) : State := s.arrive o.code q

/-! ## Packets -/

/-- A packet's header and body (Table 12.1). -/
def parsePacket (src : Requester) (b : List Byte) : Nat × CrbReq :=
  let body := b.drop 16
  let n := bodyNat b 4 2
  (bodyNat b 0 2, {
    src := src, tag := BitVec.ofNat 16 (bodyNat b 2 2), length := n, feid := BitVec.ofNat 12 (bodyNat b 6 2)
    object := bodyNat b 8 2, flags := BitVec.ofNat 16 (bodyNat b 10 2), seq := BitVec.ofNat 32 (bodyNat b 12 4)
    body := body })

/-- A packet in the DK-96 form (R299): it has no flags and addresses this device. -/
def parseDk96 (src : Requester) (b : List Byte) : Nat × CrbReq :=
  (bodyNat b 0 2, {
    src := src, tag := BitVec.ofNat 16 (bodyNat b 2 2), length := bodyNat b 4 2, object := bodyNat b 6 2
    seq := BitVec.ofNat 32 (bodyNat b 8 4), body := b.drop 12, dk96 := true })

/-! ## The rings (R298) -/

/-- A ring read (2) or write (3) failed (MGT_CRB_STATUS.ERR). -/
def State.ringError (s : State) (err : Nat) : State := (s.setFld F.MGT_CRB_STATUS.STATE 0 2).setFld F.MGT_CRB_STATUS.ERR 0 err

/-- The rings run, and Kalnum is awake to serve them. -/
def State.ringsRun (s : State) : Bool := s.fld F.MGT_CRB_STATUS.STATE == 1 && s.mode != .reset && s.mode != .boot && s.mode != .drowse

/-- The runs of host memory that `k` slots of a ring from slot `i` on take: offset in the whole, address and bytes, in requests of at most
`most` bytes that cross no 4 KiB boundary (R278, R298). -/
def State.ringRuns (s : State) (bi most base log2 i n : Nat) : List (Nat × Nat × Nat) :=
  let size (a : Nat) : Nat := min (s.dmSize bi most a) (toBound a)
  let n1 := min n (256 * (2 ^ log2 - i))
  (cuts size n1 0 (base + 256 * i) n1).map (fun r => (r.1, base + 256 * i + r.1, r.2)) ++
    (cuts size (n - n1) n1 base (n - n1)).map (fun r => (r.1, base + (r.1 - n1), r.2))

/-- Write a packet for a ring to host memory, as the management PF (R298). -/
def State.ringWrite (s : State) (o : RingOut) : State :=
  match s.fnRuns 0 with
  | none => s.ringError 3
  | some bi =>
    let rs := s.ringRuns bi (s.fld F.SVC_CFG.MPS) (s.ringBase o.evt) (s.ringLog2 o.evt) o.slot o.bytes.length
    let s1 := s.each rs (fun s r => s.fnRequest bi { kind := .mwr, addr := r.2.1, len := r.2.2, data := (o.bytes.drop r.1).take r.2.2 })
    if wroteBytes s s1 < o.bytes.length then s1.ringError 3 else s1

/-- A write of a packet for a ring: a Memory Write of the management PF to one of its slots. -/
def State.ofRing (s : State) (o : RingOut) (bi : Nat) (t : Tlp) : Bool :=
  let n := 2 ^ s.ringLog2 o.evt
  let base := s.ringBase o.evt
  s.fnRuns 0 == some bi && t.kind == .mwr && inRange t.addr base (256 * n) && decide (((t.addr - base) / 256 + n - o.slot) % n < o.slots)

/-- Every write of a packet for a ring has been sent. -/
def State.ringSent (s : State) (o : RingOut) : Bool :=
  o.issued && !s.svc.spaceWaits.any (fun e => s.ofRing o e.1 e.2) && !s.svc.waits.any (fun (w : TraceWait) => s.ofRing o w.bi w.tlp) &&
    !s.churn.pkts.any (fun (k : Pkt) => k.inPort == 145 && k.tlp.elim false (s.ofRing o k.binding))

/-- The tail of a ring passes a packet whose writes have been sent, and its vector is signalled (R298). -/
def State.ringPass (s : State) (o : RingOut) : State :=
  let t := (o.slot + o.slots) % 2 ^ s.ringLog2 o.evt
  let s1 := s.onCrb (fun y => { y with hostOut := y.hostOut.erase o })
  if o.evt then
    let s2 := s1.setFld F.MGT_CRB_EVT_TAIL.IDX 0 t
    s2.whenb (s2.flag F.MGT_CRB_VEC.EVT_INT_EN) (fun s => s.signal 0 (s.fld F.MGT_CRB_VEC.EVT_VECTOR))
  else
    let s2 := s1.setFld F.MGT_CRB_RPL_TAIL.IDX 0 t
    s2.whenb (s2.flag F.MGT_CRB_VEC.RPL_INT_EN) (fun s => s.signal 0 (s.fld F.MGT_CRB_VEC.RPL_VECTOR))

/-- Packets for the rings are written to host memory in order, and the tails pass those whose writes have been sent (R298). -/
def State.ringGo (s : State) : State :=
  if !s.ringsRun then s
  else
    let s1 := s.each (s.crb.hostOut.filter (fun (o : RingOut) => !o.issued)) (fun s o => if s.ringsRun then s.ringWrite o else s)
    let s2 := s1.onCrb (fun y => { y with hostOut := y.hostOut.map (fun (o : RingOut) => { o with issued := true }) })
    s2.each s2.crb.hostOut (fun s o => if s.ringsRun && s.ringSent o && s.ringTail o.evt == o.slot then s.ringPass o else s)

/-- A packet is taken from the request ring: the head passes its `k` slots (R298). -/
def State.ringTake (s : State) (k : Nat) (pkt : List Byte) : State :=
  let (code, q) := parsePacket .rings pkt
  let s1 := s.setFld F.MGT_CRB_REQ_HEAD.IDX 0 ((s.fld F.MGT_CRB_REQ_HEAD.IDX + k) % 2 ^ s.crb.ringSet.req)
  s1.serve code { q with body := q.body.take q.length }

/-- The slots of the request ring that hold packets (R298). -/
def State.ringWaiting (s : State) : Nat :=
  let n := 2 ^ s.crb.ringSet.req
  (s.fld F.MGT_CRB_REQ_TAIL.IDX + n - s.fld F.MGT_CRB_REQ_HEAD.IDX % n) % n

/-- A read of the request ring is in progress. -/
def State.ringReading (s : State) : Bool := s.ownReading (fun w => match w with | .ring .. => true | _ => false)

/-- Read slots of the request ring from its head on, as the management PF: 16 at most, which hold any packet (R298). -/
def State.ringFetch (s : State) : State :=
  let h := s.fld F.MGT_CRB_REQ_HEAD.IDX % 2 ^ s.crb.ringSet.req
  let n := min s.ringWaiting 16
  if n = 0 || s.ringReading then s
  else match s.fnRuns 0 with
    | none => s.ringError 2
    | some bi =>
      let rs := s.ringRuns bi (s.fld F.SVC_CFG.MRRS) s.crb.ringSet.reqBase s.crb.ringSet.req h (256 * n)
      let s1 := s.onCrb (fun y => { y with ringWait := [] })
      s1.ownRead bi (.ring h n) s.crb.ringSet.reqBase (rs.map (fun r => (r.2.1 - s.crb.ringSet.reqBase, r.2.2))) 0xFF none

/-- A read of the request ring has ended: the slots it brought are there, or the ring is in error. -/
def State.ringEnds (s : State) : State :=
  let ended (o : DmOwn) : Bool := o.part.reads.isEmpty && (match o.what with | .ring .. => true | _ => false)
  let l := s.svc.own.filter ended
  (s.onSvc (fun y => { y with own := y.own.filter (fun o => !ended o) })).each l (fun s o =>
    let slots : Option (List (List Byte)) := match o.what with
      | .ring h n => if o.part.fail.isSome then none
                     else (List.range n).mapM (fun j => o.part.bytesAt (256 * ((h + j) % 2 ^ s.crb.ringSet.req)) 256)
      | _ => none
    match slots with
    | some b => s.onCrb (fun y => { y with ringWait := b })
    | none => s.ringError 2)

/-- Kalnum takes packets while the ring holds some and replies do not wait for space, at most `fuel`: one that the slots read do not
cover is read again, and one that the ring does not cover is taken as far as the ring goes. -/
def State.readRing : Nat → State → State
  | 0, s => s
  | fuel + 1, s =>
    if !s.ringsRun || !s.crb.heldReplies.isEmpty then s
    else match s.crb.ringWait with
      | [] => s.ringFetch
      | slot :: _ =>
        let len := bodyNat slot 4 2
        let k := if 4080 < len then 1 else ringSlots len
        let got := s.crb.ringWait
        if k ≤ got.length || s.ringWaiting ≤ got.length then
          let k1 := min k got.length
          State.readRing fuel ((s.onCrb (fun y => { y with ringWait := got.drop k1 })).ringTake k1 (got.take k1).flatten)
        else s.ringFetch

/-- What waits on the request ring is read; in DROWSE it waits for the wake. -/
def State.drainRing (s : State) : State := let s1 := s.ringEnds; State.readRing (s1.crb.ringWait.length + 1) s1

/-- The tail after a write of MGT_CRB_REQ_TAIL: its two bytes change where their enables are set (R10). -/
def State.reqTail (s : State) (tail : BitVec 12) (be : BitVec 2) : Nat :=
  let old := s.fld F.MGT_CRB_REQ_TAIL.IDX
  (if be.getLsbD 0 then tail.toNat else old) % 256 + 256 * ((if be.getLsbD 1 then tail.toNat else old) / 256)
/-- A write of MGT_CRB_REQ_TAIL: Kalnum reads the packets it makes available. -/
def State.doorbell (s : State) (tail : Nat) : State :=
  if s.mode = .reset then s
  else
    let s1 := s.setFld F.MGT_CRB_REQ_TAIL.IDX 0 (tail % 2 ^ s.crb.ringSet.req)
    if s1.fld F.MGT_CRB_STATUS.STATE ≠ 1 then s1
    else if s1.mode = .drowse then s1.wakeFor .rings 0 else s1.drainRing

/-- A write of MGT_CRB_RPL_HEAD: held replies go out and the reading of requests resumes. -/
def State.replyHead (s : State) (head : Nat) : State :=
  if s.mode = .reset then s
  else ((s.setFld F.MGT_CRB_RPL_HEAD.IDX 0 (head % 2 ^ s.crb.ringSet.rpl)).flushReplies).drainRing

/-! ## MCTP (R299) -/

/-- The medium takes MCTP messages (MGT_MCTP_CFG); the boot ROM serves none over VDM (R378). -/
def State.mctpOn (s : State) (medium : Nat) : Bool :=
  if medium = 0 then s.flag F.MGT_MCTP_CFG.VDM_EN && !s.flag F.SEC_BOOT_STATUS.ROM_RESIDENT else if medium = 2 then s.flag F.MGT_MCTP_CFG.I3C_EN else true

/-- A CXL FM API request (R299): bindings belong to group 3, and the checks of every request of that group apply. -/
def State.fmNow (s : State) (r : Requester) (req : List Byte) : State :=
  let x := if !s.frontEnd then (s, fmResponse req fmBusy [])
    else if !s.permits r 3 || s.mode = .safeHold then (s, fmResponse req fmInternal [])
    else (s.track r).fmApi r req
  x.1.emit (.mctp r ([7] ++ x.2))

/-- Set Endpoint ID of the bus owner (MGT_MCTP_CFG.EID): taken while no static EID stands.  PRESUMED (notes/assumptions/20): the control
message of DSP0236. -/
def State.setEid (s : State) (r : Requester) (b : List Byte) : State :=
  let e := bodyNat b 4 1
  let fixed := s.fld F.MGT_MCTP_CFG.EID
  let good := 8 ≤ e && e < 255
  let s1 := s.whenb (good && fixed = 0) (fun s => s.onCrb (fun y => { y with eid := e }))
  s1.emit (.mctp r ([0, BitVec.ofNat 8 (bodyNat b 1 1 % 32), 1, if good then 0 else 2, if fixed = 0 then 0 else 0x10,
    BitVec.ofNat 8 (if fixed = 0 then s1.crb.eid else fixed), 0]))

/-- A message for Kalnum's EID: native Corber, the DK-96 form, the CXL FM API or SPDM.  The bytes of the vendor ID stand in network
order, as MCTP has them (PRESUMED, notes/assumptions/20). -/
def State.mctpRx (s : State) (m : Fin 3) (eid : BitVec 8) (b : List Byte) : State :=
  let r : Requester := .mctp m eid
  if s.mode = .reset || !s.mctpOn m.val then s
  else if b.take 3 = [0x7E, 0x7E, 0x1D] && bodyNat b 3 1 = 1 && 20 ≤ b.length then
    let p := parsePacket r (b.drop 4); s.arrive p.1 p.2
  else if b.take 3 = [0x7E, 0x7E, 0x1D] && bodyNat b 3 1 = 0 && 16 ≤ b.length then
    let p := parseDk96 r (b.drop 4); s.arrive p.1 p.2
  else if b.take 1 = [0x07] && 13 ≤ b.length then
    (if s.mode = .drowse then (s.onCrb (fun y => { y with fmHeld := y.fmHeld ++ [(r, b.drop 1)] })).wakeFor r 0 else s.fmNow r (b.drop 1))
  else if b.take 1 = [0x05] then s.spdmRx r (b.drop 1)
  else if bodyNat b 0 1 = 0 && bodyNat b 2 1 = 1 && b.length = 5 then (s.mctpWake r).setEid r b
  else s.mctpWake r

/-! ## The whey channel (R300) -/

/-- A reply of another member: it goes to the local requester under the original TAG; a final one ends the request. -/
def State.farReply (s : State) (feid : Nat) (b : List Byte) : State :=
  match s.crb.forwarded.find? (fun (f : Forwarded) => f.feid == feid && f.msgId == bodyNat b 2 2) with
  | none => s
  | some f =>
    let first := bits (bodyNat b 10 2) 1 1 == 0 && bodyNat b 16 2 == stAccepted
    let s1 := if first then s else s.onCrb (fun y => { y with forwarded := y.forwarded.erase f })
    s1.sendTo f.req.src (b.take 2 ++ leBytes 2 f.req.tag.toNat ++ b.drop 4)

/-- A Corber packet is whole: a reply to a request of ours, or a request. -/
def State.wheyPacket (s : State) (origin link : Nat) (b : List Byte) : State :=
  if b.length < 16 then s
  else if bodyNat b 10 2 % 2 = 1 then s.farReply origin b
  else if bodyNat b 0 2 = 0x0CF0 then s
  else let p := parsePacket (.whey (BitVec.ofNat 12 origin)) b; s.arrive p.1 p.2 link

/-- The key of a reassembly's timer. -/
def reasmKey (origin msg : Nat) : Nat := 256 * origin + msg

/-- A reassembly ends. -/
def State.reasmDrop (s : State) (origin msg : Nat) : State :=
  (s.onCrb (fun y => { y with reasm := y.reasm.filter (fun (x : Reasm) => !(x.origin == origin && x.msgId == msg)) })).disarm .reasm
    (reasmKey origin msg)

/-- CRB_FRAG of an origin, with its body. -/
def State.fragRx (s : State) (origin link : Nat) (b : List Byte) : State :=
  let msg := bodyNat b 0 1
  let frag := bodyNat b 1 1
  let last := bits (bodyNat b 2 1) 0 1 == 1
  let n := bits (bodyNat b 2 1) 1 5
  let lose (s : State) : State := (s.reasmDrop origin msg).bump R.MGT_CRB_FRAG_ERR_CNT
  let add (s : State) (old : List Byte) : State :=
    let data := old ++ (b.drop 4).take n
    if last then (s.reasmDrop origin msg).wheyPacket origin link data
    else
      let x : Reasm := { origin := origin, msgId := msg, nextFrag := frag + 1, data := data }
      s.onCrb (fun y => { y with reasm := y.reasm.filter (fun (z : Reasm) => !(z.origin == origin && z.msgId == msg)) ++ [x] })
  match s.crb.reasm.find? (fun (x : Reasm) => x.origin == origin && x.msgId == msg) with
  | some x => if x.nextFrag ≠ frag || n = 0 || 20 < n || b.length ≠ 4 + n then lose s else add s x.data
  | none =>
    if frag ≠ 0 || n = 0 || 20 < n || b.length ≠ 4 + n || 16 ≤ s.crb.reasm.length then s.bump R.MGT_CRB_FRAG_ERR_CNT
    else add (s.arm .reasm (reasmKey origin msg) (ms 1)) []

/-- CRB_ABORT of an origin. -/
def State.abortRx (s : State) (origin msg : Nat) : State := s.reasmDrop origin msg

/-- A reassembly not complete 1.00 ms after its first fragment is discarded and counted. -/
def State.reasmTimeout (s : State) (origin msg : Nat) : State :=
  if s.due .reasm (reasmKey origin msg) && s.crb.reasm.any (fun (x : Reasm) => x.origin == origin && x.msgId == msg) then
    (s.reasmDrop origin msg).bump R.MGT_CRB_FRAG_ERR_CNT
  else s

/-! ## Malacel is ready again (R219) -/

/-- Firmware is ready after a restart: Corber answers again, and the target error messages that queued are handled in order (Table
7.14). -/
def State.malacelReady (s : State) : State :=
  if s.mode = .reset || s.mode = .boot || s.flag F.MGT_CRB_STATUS.FW_READY then s
  else
    let l := s.err.msgQueue
    let s1 := (s.onErr (fun y => { y with msgQueue := [] })).setFld F.MGT_CRB_STATUS.FW_READY 0 1
    (s1.each l (fun s m => s.targetError m.1 m.2.1 m.2.2.1 m.2.2.2.1 m.2.2.2.2)).drainRing

/-! ## What goes on while no command waits (notes/assumptions/1) -/

/-- Requests of every transport that DROWSE held run after the wake. -/
def State.afterWake (s : State) : State :=
  if s.mode = .drowse || s.mode = .reset then s
  else
    let l := s.crb.drowseHeld
    let f := s.crb.fmHeld
    let p := s.sec.spdmHeld
    let s1 := (s.onCrb (fun y => { y with drowseHeld := [], fmHeld := [] })).onSec (fun y => { y with spdmHeld := [] })
    let s2 := s1.each l (fun s e => s.serve e.1 e.2)
    let s3 := s2.each f (fun s e => s.fmNow e.1 e.2)
    s3.each p (fun s e => s.spdmNow e.1 e.2)

/-- Events to subscribers in other members go out over the whey channel (R297, R300). -/
def State.sendOutbox (s : State) : State :=
  let l := s.crb.outbox
  (s.onCrb (fun y => { y with outbox := [] })).each l (fun s e => s.toWhey e.1 e.2)

/-- Waits on conditions inside Kalnum end: entry to DROWSE, a bank named for test, an aborted self-test, requests on the rings and
those that wait their turn, packets for the rings, credit that pacing withheld, and a device reset that a reply went before. -/
def State.settleCore (s : State) : State :=
  let s1 := ((s.sendOutbox.testAborted.namedStep).retireDue).narrowDue
  let s2 := s1.whenb (s1.pwr.drowse == .waiting && s1.firstRefuser.isNone) State.drowseWaitEnd
  let s3 := ((s2.drowseLower).afterWake.drainRing).pump.ringGo
  (s3.creditRun).resetDue

/-! ## The commands -/

/-- CRB_REQ_DOORBELL (R298): a write of MGT_CRB_REQ_TAIL with the enables of its bytes; the packets are read from host memory. -/
def execCrbReqDoorbell (tail : BitVec 12) (be : BitVec 2) (s : State) : Host.Outcome State Fault Refusal :=
  .next (s.doorbell (s.reqTail tail be))

/-- CRB_RPL_HEAD_WRITE (R298). -/
def execCrbRplHeadWrite (head : BitVec 12) (s : State) : Host.Outcome State Fault Refusal := .next (s.replyHead head.toNat)

/-- CRB_RING_ENABLE (R298): a write of MGT_CRB_CTRL with its sizes. -/
def execCrbRingEnable (req rpl evt : Fin 16) (on : Bool) (s : State) : Host.Outcome State Fault Refusal :=
  .next (if s.mode = .reset then s else s.ringCtrl (b2n on + 4 * req + 64 * rpl + 1024 * evt))

/-- CRB_RING_RESET (R314). -/
def execCrbRingReset (s : State) : Host.Outcome State Fault Refusal := .next (if s.mode = .reset then s else s.ringReset)

/-- MCTP_MESSAGE (R299): the medium (0 VDM, 1 SMBus, 2 I3C), the sender's EID, and the message from its type on. -/
def execMctpMessage (medium : Fin 3) (eid : BitVec 8) (bytes : List (BitVec 8)) (s : State) : Host.Outcome State Fault Refusal :=
  .next (s.mctpRx medium eid bytes)

/-- CRB_FRAG (R300). -/
def execCrbFrag (link : Fin 72) (origin : BitVec 12) (body : List (BitVec 8)) (s : State) : Host.Outcome State Fault Refusal :=
  .next (s.fragRx origin.toNat link body)

/-- CRB_ABORT (R300). -/
def execCrbAbort (origin : BitVec 12) (msgId : BitVec 8) (s : State) : Host.Outcome State Fault Refusal :=
  .next (s.abortRx origin.toNat msgId.toNat)

/-- CRB_REASSEMBLY_TIMEOUT (R300). -/
def execCrbReassemblyTimeout (origin : BitVec 12) (msgId : BitVec 8) (s : State) : Host.Outcome State Fault Refusal :=
  .next (s.reasmTimeout origin.toNat msgId.toNat)

/-- MALACEL_READY (R219). -/
def execMalacelReady (s : State) : Host.Outcome State Fault Refusal := .next s.malacelReady

end Sys2Proof.Machine
end

