-- ==== Sys2Proof/Machine/CrbCmds.lean ====
section
/-! DEFINITION. The Corber commands: a request of each opcode of Table 12.6, from any transport (R295 to R309).  Each opcode's own
meaning is its `OpInfo`. -/

namespace Sys2Proof.Machine

/-- GET_INFO (R309). -/
def execGetInfo (q : CrbReq) (s : State) : Host.Outcome State Fault Refusal := .next (s.corber opGetInfo q)

/-- GET_MODE (R309). -/
def execGetMode (q : CrbReq) (s : State) : Host.Outcome State Fault Refusal := .next (s.corber opGetMode q)

/-- ECHO (R309). -/
def execEcho (q : CrbReq) (s : State) : Host.Outcome State Fault Refusal := .next (s.corber opEcho q)

/-- READ_REG (R309). -/
def execReadReg (q : CrbReq) (s : State) : Host.Outcome State Fault Refusal := .next (s.corber opReadReg q)

/-- WRITE_REG (R311). -/
def execWriteReg (q : CrbReq) (s : State) : Host.Outcome State Fault Refusal := .next (s.corber opWriteReg q)

/-- RESET_DEVICE (R326). -/
def execResetDevice (q : CrbReq) (s : State) : Host.Outcome State Fault Refusal := .next (s.corber opResetDevice q)

/-- GET_BOARD_RECORD (R416). -/
def execGetBoardRecord (q : CrbReq) (s : State) : Host.Outcome State Fault Refusal := .next (s.corber opGetBoardRecord q)

/-- SET_BOARD_RECORD (R416). -/
def execSetBoardRecord (q : CrbReq) (s : State) : Host.Outcome State Fault Refusal := .next (s.corber opSetBoardRecord q)

/-- SUBSCRIBE (R297). -/
def execSubscribe (q : CrbReq) (s : State) : Host.Outcome State Fault Refusal := .next (s.corber opSubscribe q)

/-- UNSUBSCRIBE (R297). -/
def execUnsubscribe (q : CrbReq) (s : State) : Host.Outcome State Fault Refusal := .next (s.corber opUnsubscribe q)

/-- GET_TIMEBASE (R346). -/
def execGetTimebase (q : CrbReq) (s : State) : Host.Outcome State Fault Refusal := .next (s.corber opGetTimebase q)

/-- SET_CHURN (R75). -/
def execSetChurn (q : CrbReq) (s : State) : Host.Outcome State Fault Refusal := .next (s.corber opSetChurn q)

/-- SET_ROTATION (R87). -/
def execSetRotation (q : CrbReq) (s : State) : Host.Outcome State Fault Refusal := .next (s.corber opSetRotation q)

/-- GET_PORT (R16). -/
def execGetPort (q : CrbReq) (s : State) : Host.Outcome State Fault Refusal := .next (s.corber opGetPort q)

/-- SET_CLUSTER (R21). -/
def execSetCluster (q : CrbReq) (s : State) : Host.Outcome State Fault Refusal := .next (s.corber opSetCluster q)

/-- GET_CLUSTER (R309). -/
def execGetCluster (q : CrbReq) (s : State) : Host.Outcome State Fault Refusal := .next (s.corber opGetCluster q)

/-- PORT_ENABLE (R26). -/
def execPortEnable (q : CrbReq) (s : State) : Host.Outcome State Fault Refusal := .next (s.corber opPortEnable q)

/-- SET_ROLE (R129). -/
def execSetRole (q : CrbReq) (s : State) : Host.Outcome State Fault Refusal := .next (s.corber opSetRole q)

/-- RECALIBRATE (R63). -/
def execRecalibrate (q : CrbReq) (s : State) : Host.Outcome State Fault Refusal := .next (s.corber opRecalibrate q)

/-- MARGIN (R60). -/
def execMargin (q : CrbReq) (s : State) : Host.Outcome State Fault Refusal := .next (s.corber opMargin q)

/-- GET_LANE (R309). -/
def execGetLane (q : CrbReq) (s : State) : Host.Outcome State Fault Refusal := .next (s.corber opGetLane q)

/-- SET_LINK_INDEX (R17). -/
def execSetLinkIndex (q : CrbReq) (s : State) : Host.Outcome State Fault Refusal := .next (s.corber opSetLinkIndex q)

/-- SET_KFL (R201). -/
def execSetKfl (q : CrbReq) (s : State) : Host.Outcome State Fault Refusal := .next (s.corber opSetKfl q)

/-- KFL_DISABLE (R195). -/
def execKflDisable (q : CrbReq) (s : State) : Host.Outcome State Fault Refusal := .next (s.corber opKflDisable q)

/-- GET_KFL (R309). -/
def execGetKfl (q : CrbReq) (s : State) : Host.Outcome State Fault Refusal := .next (s.corber opGetKfl q)

/-- SET_PORT_POOL (R76). -/
def execSetPortPool (q : CrbReq) (s : State) : Host.Outcome State Fault Refusal := .next (s.corber opSetPortPool q)

/-- SESSION_OPEN (R115). -/
def execSessionOpen (q : CrbReq) (s : State) : Host.Outcome State Fault Refusal := .next (s.corber opSessionOpen q)

/-- COMMIT (R116). -/
def execCommit (q : CrbReq) (s : State) : Host.Outcome State Fault Refusal := .next (s.corber opCommitInfo q)

/-- SESSION_ABORT (R307). -/
def execSessionAbort (q : CrbReq) (s : State) : Host.Outcome State Fault Refusal := .next (s.corber opSessionAbort q)

/-- QUIESCE (R117). -/
def execQuiesce (q : CrbReq) (s : State) : Host.Outcome State Fault Refusal := .next (s.corber opQuiesceInfo q)

/-- WRITE_ENTRY (R310). -/
def execWriteEntry (q : CrbReq) (s : State) : Host.Outcome State Fault Refusal := .next (s.corber opWriteEntry q)

/-- READ_ENTRY (R310). -/
def execReadEntry (q : CrbReq) (s : State) : Host.Outcome State Fault Refusal := .next (s.corber opReadEntry q)

/-- BIND (R310). -/
def execBind (q : CrbReq) (s : State) : Host.Outcome State Fault Refusal := .next (s.corber opBind q)

/-- UNBIND (R99). -/
def execUnbind (q : CrbReq) (s : State) : Host.Outcome State Fault Refusal := .next (s.corber opUnbind q)

/-- RESUME_BINDING (R418). -/
def execResumeBinding (q : CrbReq) (s : State) : Host.Outcome State Fault Refusal := .next (s.corber opResumeBinding q)

/-- RESET_BINDING (R119). -/
def execResetBinding (q : CrbReq) (s : State) : Host.Outcome State Fault Refusal := .next (s.corber opResetBinding q)

/-- GET_BINDING (R98). -/
def execGetBinding (q : CrbReq) (s : State) : Host.Outcome State Fault Refusal := .next (s.corber opGetBinding q)

/-- SET_VH_TAGS (R112). -/
def execSetVhTags (q : CrbReq) (s : State) : Host.Outcome State Fault Refusal := .next (s.corber opSetVhTags q)

/-- SET_MGMT_VH (R92). -/
def execSetMgmtVh (q : CrbReq) (s : State) : Host.Outcome State Fault Refusal := .next (s.corber opSetMgmtVh q)

/-- SET_TRK_TIMEOUT (R113). -/
def execSetTrkTimeout (q : CrbReq) (s : State) : Host.Outcome State Fault Refusal := .next (s.corber opSetTrkTimeout q)

/-- GET_VH (R309). -/
def execGetVh (q : CrbReq) (s : State) : Host.Outcome State Fault Refusal := .next (s.corber opGetVh q)

/-- CXL_FM (R299). -/
def execCxlFm (q : CrbReq) (s : State) : Host.Outcome State Fault Refusal := .next (s.corber opCxlFm q)

/-- SET_FABRIC (R131). -/
def execSetFabric (q : CrbReq) (s : State) : Host.Outcome State Fault Refusal := .next (s.corber opSetFabric q)

/-- GET_FABRIC (R309). -/
def execGetFabric (q : CrbReq) (s : State) : Host.Outcome State Fault Refusal := .next (s.corber opGetFabric q)

/-- GET_MEMBERS (R309). -/
def execGetMembers (q : CrbReq) (s : State) : Host.Outcome State Fault Refusal := .next (s.corber opGetMembers q)

/-- SET_FAB_TIMERS (R165). -/
def execSetFabTimers (q : CrbReq) (s : State) : Host.Outcome State Fault Refusal := .next (s.corber opSetFabTimers q)

/-- GET_FLOW (R309). -/
def execGetFlow (q : CrbReq) (s : State) : Host.Outcome State Fault Refusal := .next (s.corber opGetFlow q)

/-- SET_POLICER (R230). -/
def execSetPolicer (q : CrbReq) (s : State) : Host.Outcome State Fault Refusal := .next (s.corber opSetPolicer q)

/-- GET_POLICER (R309). -/
def execGetPolicer (q : CrbReq) (s : State) : Host.Outcome State Fault Refusal := .next (s.corber opGetPolicer q)

/-- SET_NODE (R234). -/
def execSetNode (q : CrbReq) (s : State) : Host.Outcome State Fault Refusal := .next (s.corber opSetNode q)

/-- SET_QUEUE (R234). -/
def execSetQueue (q : CrbReq) (s : State) : Host.Outcome State Fault Refusal := .next (s.corber opSetQueue q)

/-- SET_PORT_SHAPER (R238). -/
def execSetPortShaper (q : CrbReq) (s : State) : Host.Outcome State Fault Refusal := .next (s.corber opSetPortShaper q)

/-- WRITE_GCL (R241). -/
def execWriteGcl (q : CrbReq) (s : State) : Host.Outcome State Fault Refusal := .next (s.corber opWriteGcl q)

/-- GCL_CHANGE (R241). -/
def execGclChange (q : CrbReq) (s : State) : Host.Outcome State Fault Refusal := .next (s.corber opGclChange q)

/-- SET_QOS (R243). -/
def execSetQos (q : CrbReq) (s : State) : Host.Outcome State Fault Refusal := .next (s.corber opSetQos q)

/-- SET_ACU (R262). -/
def execSetAcu (q : CrbReq) (s : State) : Host.Outcome State Fault Refusal := .next (s.corber opSetAcu q)

/-- GET_VIOLATION (R267). -/
def execGetViolation (q : CrbReq) (s : State) : Host.Outcome State Fault Refusal := .next (s.corber opGetViolation q)

/-- CLEAR_VIOLATION (R267). -/
def execClearViolation (q : CrbReq) (s : State) : Host.Outcome State Fault Refusal := .next (s.corber opClearViolation q)

/-- GET_SLOT (R370). -/
def execGetSlot (q : CrbReq) (s : State) : Host.Outcome State Fault Refusal := .next (s.corber opGetSlot q)

/-- SET_SLOT (R370). -/
def execSetSlot (q : CrbReq) (s : State) : Host.Outcome State Fault Refusal := .next (s.corber opSetSlot q)

/-- SLOT_POWER (R355). -/
def execSlotPower (q : CrbReq) (s : State) : Host.Outcome State Fault Refusal := .next (s.corber opSlotPowerInfo q)

/-- CLEAR_LOCKOUT (R363). -/
def execClearLockout (q : CrbReq) (s : State) : Host.Outcome State Fault Refusal := .next (s.corber opClearLockout q)

/-- SET_SLOT_CAP (R367). -/
def execSetSlotCap (q : CrbReq) (s : State) : Host.Outcome State Fault Refusal := .next (s.corber opSetSlotCap q)

/-- SET_INDICATORS (R367). -/
def execSetIndicators (q : CrbReq) (s : State) : Host.Outcome State Fault Refusal := .next (s.corber opSetIndicators q)

/-- GET_CERT (R384). -/
def execGetCert (q : CrbReq) (s : State) : Host.Outcome State Fault Refusal := .next (s.corber opGetCert q)

/-- GET_MEASUREMENTS (R385). -/
def execGetMeasurements (q : CrbReq) (s : State) : Host.Outcome State Fault Refusal := .next (s.corber opGetMeasurements q)

/-- TOKEN_WRITE (R387). -/
def execTokenWrite (q : CrbReq) (s : State) : Host.Outcome State Fault Refusal := .next (s.corber opTokenWrite q)

/-- TOKEN_VERIFY (R272). -/
def execTokenVerify (q : CrbReq) (s : State) : Host.Outcome State Fault Refusal := .next (s.corber opTokenVerify q)

/-- RELOCK (R273). -/
def execRelock (q : CrbReq) (s : State) : Host.Outcome State Fault Refusal := .next (s.corber opRelock q)

/-- FW_BEGIN (R380). -/
def execFwBegin (q : CrbReq) (s : State) : Host.Outcome State Fault Refusal := .next (s.corber opFwBegin q)

/-- FW_WRITE (R380). -/
def execFwWrite (q : CrbReq) (s : State) : Host.Outcome State Fault Refusal := .next (s.corber opFwWrite q)

/-- FW_FINISH (R380). -/
def execFwFinish (q : CrbReq) (s : State) : Host.Outcome State Fault Refusal := .next (s.corber opFwFinish q)

/-- FW_SELECT (R383). -/
def execFwSelect (q : CrbReq) (s : State) : Host.Outcome State Fault Refusal := .next (s.corber opFwSelect q)

/-- GET_FW (R309). -/
def execGetFw (q : CrbReq) (s : State) : Host.Outcome State Fault Refusal := .next (s.corber opGetFw q)

/-- SET_MODE (R322). -/
def execSetMode (q : CrbReq) (s : State) : Host.Outcome State Fault Refusal := .next (s.corber opSetModeInfo q)

/-- GET_POWER (R337). -/
def execGetPower (q : CrbReq) (s : State) : Host.Outcome State Fault Refusal := .next (s.corber opGetPower q)

/-- SET_VOLT_POLICY (R335). -/
def execSetVoltPolicy (q : CrbReq) (s : State) : Host.Outcome State Fault Refusal := .next (s.corber opSetVoltPolicy q)

/-- GET_DROWSE_STATS (R329). -/
def execGetDrowseStats (q : CrbReq) (s : State) : Host.Outcome State Fault Refusal := .next (s.corber opGetDrowseStats q)

/-- SET_GATING (R26). -/
def execSetGating (q : CrbReq) (s : State) : Host.Outcome State Fault Refusal := .next (s.corber opSetGating q)

/-- GET_CORE_DELAY (R31). -/
def execGetCoreDelay (q : CrbReq) (s : State) : Host.Outcome State Fault Refusal := .next (s.corber opGetCoreDelay q)

/-- SELF_TEST (R318). -/
def execSelfTest (q : CrbReq) (s : State) : Host.Outcome State Fault Refusal := .next (s.corber opSelfTestInfo q)

/-- TEST_BANK (R90). -/
def execTestBank (q : CrbReq) (s : State) : Host.Outcome State Fault Refusal := .next (s.corber opTestBankInfo q)

/-- INJECT_ERROR (R320). -/
def execInjectError (q : CrbReq) (s : State) : Host.Outcome State Fault Refusal := .next (s.corber opInjectError q)

/-- GET_WATCHDOG (R309). -/
def execGetWatchdog (q : CrbReq) (s : State) : Host.Outcome State Fault Refusal := .next (s.corber opGetWatchdog q)

/-- QUEUE_ASSIGN (R284). -/
def execQueueAssign (q : CrbReq) (s : State) : Host.Outcome State Fault Refusal := .next (s.corber opQueueAssign q)

/-- QUEUE_RELEASE (R284). -/
def execQueueRelease (q : CrbReq) (s : State) : Host.Outcome State Fault Refusal := .next (s.corber opQueueRelease q)

/-- VECTOR_ASSIGN (R284). -/
def execVectorAssign (q : CrbReq) (s : State) : Host.Outcome State Fault Refusal := .next (s.corber opVectorAssign q)

/-- VECTOR_RELEASE (R284). -/
def execVectorRelease (q : CrbReq) (s : State) : Host.Outcome State Fault Refusal := .next (s.corber opVectorRelease q)

/-- SET_SHARE (R283). -/
def execSetShare (q : CrbReq) (s : State) : Host.Outcome State Fault Refusal := .next (s.corber opSetShare q)

/-- TRACE_ASSIGN (R288). -/
def execTraceAssign (q : CrbReq) (s : State) : Host.Outcome State Fault Refusal := .next (s.corber opTraceAssign q)

/-- TRACE_RELEASE (R288). -/
def execTraceRelease (q : CrbReq) (s : State) : Host.Outcome State Fault Refusal := .next (s.corber opTraceRelease q)

/-- SET_DM (R278). -/
def execSetDm (q : CrbReq) (s : State) : Host.Outcome State Fault Refusal := .next (s.corber opSetDm q)

/-- GET_DM (R309). -/
def execGetDm (q : CrbReq) (s : State) : Host.Outcome State Fault Refusal := .next (s.corber opGetDm q)

/-- READ_JOURNAL (R221). -/
def execReadJournal (q : CrbReq) (s : State) : Host.Outcome State Fault Refusal := .next (s.corber opReadJournal q)

/-- READ_FLASH_JOURNAL (R222). -/
def execReadFlashJournal (q : CrbReq) (s : State) : Host.Outcome State Fault Refusal := .next (s.corber opReadFlashJournal q)

/-- READ_COUNTERS (R317). -/
def execReadCounters (q : CrbReq) (s : State) : Host.Outcome State Fault Refusal := .next (s.corber opReadCounters q)

/-- CLEAR_COUNTERS (R316). -/
def execClearCounters (q : CrbReq) (s : State) : Host.Outcome State Fault Refusal := .next (s.corber opClearCounters q)

/-- READ_PFL (R215). -/
def execReadPfl (q : CrbReq) (s : State) : Host.Outcome State Fault Refusal := .next (s.corber opReadPfl q)

/-- SET_ERR (R224). -/
def execSetErr (q : CrbReq) (s : State) : Host.Outcome State Fault Refusal := .next (s.corber opSetErr q)

end Sys2Proof.Machine
end

