-- ==== Sys2Proof/Machine/KflCmds.lean ====
section
/-! DEFINITION. The commands of a KFL link (chapter 06): flits and markers in and out, training blocks, timers, lane shedding,
low-power states, time synchronisation and LINK_DOWN (R171 to R200). -/

namespace Sys2Proof.Machine

/-- A link carries whey messages: ACTIVE, DRAINING, or asleep with its state kept. -/
def State.hears (s : State) (c : Nat) : Bool := s.isKfl c && (s.flits c || s.lst c == 7 || s.lst c == 8)

/-! ## Authority over a link (R162) -/

/-- The partner's operations on the link hold authority over this device's: it has the lower FEID. -/
def State.peerRules (s : State) (c : Nat) : Bool :=
  let f := s.peerFeid c
  f != 0 && (s.ownFeid == 0 || f < s.ownFeid)

/-- This device's orderly disable by Corber runs and has not sent LINK_DOWN. -/
def State.disabling (s : State) (c : Nat) : Bool := (s.kl c).stopping == some 0 && (s.kl c).downSeq.isNone

/-- This device's operation on the link ends with PEER_AUTHORITY: a disable changes nothing, a recalibration aborts. -/
def State.yieldLink (s : State) (c : Nat) : State :=
  let p := portOfCtl c
  let f := s.peerFeid c
  if s.disabling c then
    let s0 := (s.yields.onKl c (fun k => { k with stopping := none })).disarm .drain c
    let s1 := s0.whenb (s0.lst c == 9) (fun s => s.setFld F.KFL_LINK_STATUS.LSTATE c 5)
    (((s1.setFld F.PCL_PORT_CTRL.ENABLE p 1).finish 0x020A (s1.linkIdx c) stPeer f).finish 0x0203 p stPeer f).kflTimers c
  else if s.recalOn p then ((s.yields.finish 0x0205 p stPeer f).abortRecal p 4)
  else s.yields

/-! ## Shedding and restore (R196, Table 6.12) -/

/-- The answer to SHED_REQ or RESTORE_REQ: 0 agree, 1 refuse, 2 PEER_AUTHORITY. -/
def State.shedReply (s : State) (c code token result : Nat) : State := s.wheyAt c (linkWhey code [(token, 8), (result, 2)])

/-- The link takes the logical lanes `m` at the next marker set; toward fewer lanes its port is store-and-forward from now on
(R73). -/
def State.maskAt (s : State) (c m : Nat) : State :=
  let p := portOfCtl c
  let s1 := s.onKl c (fun k => { k with maskNext := some m })
  s1.whenb (m != (s1.kl c).fullMask) (fun s => s.onChurn (fun y => { y with narrowing := p :: y.narrowing.filter (· != p) }))

/-- Parked lanes send PHASE 0 blocks until they have locked (Table 6.12, step 5). -/
def State.parkedTrain (s : State) (c : Nat) : State :=
  let active := s.fld F.KFL_LINK_STATUS.LANES_ACTIVE c
  s.each ((lanesIn (s.kl c).fullMask).filter (fun i => bits active i 1 == 0)) (fun s i =>
    s.ktsSend c i { s.ktsBlock c i with phase := 0 })

/-- SHED_REQ: Kalnum agrees to a half of the lanes in use unless the link is shed already or a width change waits; an operation of
its own on the link is decided by R162. -/
def State.shedReqRx (s : State) (c m token : Nat) : State :=
  if !s.hears c then s
  else
    let s0 := s.kflWake c
    let k := s0.kl c
    let active := s0.fld F.KFL_LINK_STATUS.LANES_ACTIVE c
    let h := halves active
    let valid := active == k.fullMask && 4 ≤ (lanesIn active).length && (m == h.1 || m == h.2) && k.maskNext.isNone && k.shedAsk.isNone
    let ours := k.shed.isSome || s0.disabling c
    if ours && !s0.peerRules c then s0.shedReply c 0x02 token 2
    else if !valid || (k.stopping.isSome && !s0.disabling c) then s0.shedReply c 0x02 token 1
    else
      let s1 := s0.whenb (s0.disabling c) (fun s => s.yieldLink c)
      if (s1.kl c).rx.isNone then (s1.maskAt c m).shedReply c 0x02 token 0
      else (s1.onKl c (fun k => { k with shedAsk := some (m, token) })).onChurn (fun y => { y with
        narrowing := portOfCtl c :: y.narrowing.filter (· != portOfCtl c) })

/-- The packet in reception is fully written: the shedding step that waited for it is agreed (R73). -/
def State.shedAgree (s : State) (c : Nat) : State :=
  match (s.kl c).shedAsk with
  | none => s
  | some (m, token) =>
    if (s.kl c).rx.isSome then s
    else ((s.onKl c (fun k => { k with shedAsk := none })).maskAt c m).shedReply c 0x02 token 0

/-- SHED_ACK: the width changes at the next marker set, or the recalibration aborts. -/
def State.shedAckRx (s : State) (c token result : Nat) : State :=
  if !s.hears c then s
  else match (s.kl c).shed with
    | none => s.protoErr c
    | some (t, m) =>
      if t ≠ token then s.protoErr c
      else
        let s1 := (s.onKl c (fun k => { k with shed := none })).disarm .shed c
        if result = 0 then (s1.onKl c (fun k => { k with shedOurs := true })).maskAt c m
        else if result = 2 then s1.yieldLink c
        else s1.abortRecal (portOfCtl c) 4

/-- RESTORE_REQ: the full width returns at the next marker set. -/
def State.restoreReqRx (s : State) (c m token : Nat) : State :=
  if !s.hears c then s
  else
    let s0 := s.kflWake c
    let k := s0.kl c
    let active := s0.fld F.KFL_LINK_STATUS.LANES_ACTIVE c
    if active = k.fullMask || m ≠ k.fullMask || k.stopping.isSome then s0.shedReply c 0x04 token 1
    else
      let s1 := s0.onKl c (fun k => { k with locked := active })
      ((s1.maskAt c m).shedReply c 0x04 token 0).parkedTrain c

/-- A link recovers toward its full width (R192, R196). -/
def State.recoverFull (s : State) (c : Nat) : State := (s.onKl c (fun k => { k with toFull := true })).kflRecover c

/-- RESTORE_ACK: parked lanes train, and the full width returns at the next marker set; without agreement the link goes back to full
width by recovery (R192). -/
def State.restoreAckRx (s : State) (c token result : Nat) : State :=
  if !s.hears c then s
  else match (s.kl c).restore with
    | none => s.protoErr c
    | some (t, m) =>
      if t ≠ token then s.protoErr c
      else
        let s1 := (s.onKl c (fun k => { k with restore := none })).disarm .shed c
        if result = 0 then (s1.maskAt c m).parkedTrain c else (s1.abortRecal (portOfCtl c) 4).recoverFull c

/-- A shed or restore request has no answer after 10.0 µs (Table 6.12): the recalibration aborts at full width. -/
def State.shedTimeout (s : State) (c : Nat) : State :=
  if !s.due .shed c then s
  else
    let k := s.kl c
    let s1 := (s.onKl c (fun k => { k with shed := none, restore := none })).disarm .shed c
    let s2 := s1.abortRecal (portOfCtl c) 4
    if k.restore.isSome then s2.recoverFull c else s2

/-! ## Standby and deep idle (R197) -/

/-- A link may sleep in a state: nothing outstanding or waiting, idle for its time, and the state enabled. -/
def State.maySleep (s : State) (c st : Nat) : Bool :=
  let p := portOfCtl c
  let en := if st = 0 then s.flag F.PCL_PORT_CTRL.KFL_STBY_EN p else s.flag F.PCL_PORT_CTRL.KFL_DEEP_EN p
  let t := if st = 0 then 100 * s.fld F.KFL_TIMER_C.STBY_IDLE c else us (100 * s.fld F.KFL_TIMER_C.DEEP_IDLE c)
  s.lst c == 5 && en && s.outstanding c == 0 && (s.wheyOf c).isEmpty && (s.kflQueued c).isEmpty && (s.kl c).tx.isEmpty &&
    (s.kl c).rx.isNone && decide ((s.kl c).lastBusy + t ≤ s.now)

/-- A link has been idle for STBY_IDLE or DEEP_IDLE: LP_REQ is sent for the deepest state its conditions allow. -/
def State.idleTimer (s : State) (c : Nat) : State :=
  if (s.kl c).lp.isSome || (s.kl c).sleep.isSome || !s.isKfl c then s
  else
    match (if s.maySleep c 1 then some 1 else if s.maySleep c 0 then some 0 else none) with
    | none => s
    | some st =>
      let t := s.nextToken c
      (s.onKl c (fun k => { k with token := t, lp := some (t, st) })).wheyAt c (linkWhey 0x05 [(st, 1), (t, 8)])

/-- LP_REQ: agreed when this end may sleep too, or asks for it itself; two that ask for different states enter standby (Table
6.13), where standby is enabled here (R61): otherwise both requests end, ours with a state (2) that is not entered. -/
def State.lpReqRx (s : State) (c st token : Nat) : State :=
  if !s.hears c || s.lst c ≠ 5 then s
  else
    let reply (s : State) (r : Nat) : State := s.wheyAt c (linkWhey 0x06 [(token, 8), (r, 2)])
    match (s.kl c).lp with
    | some (t, mine) =>
      let agreed := if mine = st then st else 0
      if mine ≠ st && !s.flag F.PCL_PORT_CTRL.KFL_STBY_EN (portOfCtl c) then reply (s.onKl c (fun k => { k with lp := some (t, 2) })) 1
      else reply (s.onKl c (fun k => { k with lp := some (t, agreed), sleep := some agreed })) 0
    | none => if s.maySleep c st then reply (s.onKl c (fun k => { k with sleep := some st })) 0 else reply s 1

/-- LP_ACK: the link sleeps, unless its own answer to the partner's request has still to go; a refusal ends both of two requests that
met. -/
def State.lpAckRx (s : State) (c token result : Nat) : State :=
  if !s.hears c || s.lst c ≠ 5 then s
  else match (s.kl c).lp with
    | none => s.protoErr c
    | some (t, st) =>
      if t ≠ token then s.protoErr c
      else
        let agreed := result = 0 && st ≠ 2
        let s1 := s.onKl c (fun k => { k with
          lp := none, lastBusy := if agreed then k.lastBusy else s.now, sleep := if agreed then k.sleep else none })
        if !agreed || (s1.kl c).sleep.isSome then s1 else s1.kflSleep c st

/-- The LP_ACK has left with its frame, and a request of this device that met the partner's is answered: the link sleeps. -/
def State.sleepNow (s : State) (c : Nat) : State :=
  match (s.kl c).sleep with
  | none => s
  | some st =>
    if s.lst c ≠ 5 || (s.kl c).lp.isSome || !(s.kl c).frame.isEmpty || (s.wheyOf c).any (fun w => w.carry == 0 && w.code == 0x06) then s
    else s.kflSleep c st

/-! ## Time synchronisation (R198) -/

/-- TIME_REQ whose frame began to arrive at T2, answered when TIME_EN is set; T3 is stamped as the answer leaves. -/
def State.timeReqRx (s : State) (c t1 : Nat) (t2 : BitVec 64) : State :=
  if !s.hears c || !s.flag F.KFL_LINK_CFG.TIME_EN c then s
  else s.wheyAt c (linkWhey 0x08 [(t1, 64), (t2.toNat, 64), (0, 64)])

/-- Half of a difference; which way an odd one is rounded is a free value. -/
def State.half (s : State) (d : Int) : Int := d / 2 + (if d % 2 = 0 then 0 else (s.free % 2 : Nat))

/-- TIME_RESP whose frame began to arrive at T4: offset and delay are stored and discipline the timebase (R349). -/
def State.timeRespRx (s : State) (c : Nat) (t1 t2 t3 t4 : BitVec 64) : State :=
  if !s.hears c then s
  else
    let off := s.half ((t2 - t1).toInt - (t4 - t3).toInt)
    let delay := s.drew.half ((t4 - t1).toInt - (t3 - t2).toInt)
    let s1 := (s.drew.drew.wr R.KFL_TIME_OFFSET c (BitVec.ofInt 32 off)).setFld F.KFL_TIME_DELAY.DELAY c (BitVec.ofInt 16 delay).toNat
    (s1.raise F.KFL_LINK_EVT.TIME_SYNC c).kflOffset (s1.linkIdx c) off

/-- TIME_INTERVAL has passed. -/
def State.timeInterval (s : State) (c : Nat) : State :=
  if !s.due .timeReq c then s
  else if !s.flag F.KFL_LINK_CFG.TIME_REQ_EN c || s.asleep c then s.disarm .timeReq c
  else
    let s1 := s.arm .timeReq c (ms (s.fld F.KFL_TIMER_C.TIME_INTERVAL c))
    if s1.lst c = 5 then s1.wheyAt c (linkWhey 0x07 [(0, 64)]) else s1

/-! ## LINK_DOWN (R193, R195) -/

/-- LINK_DOWN: the link is broken; one that meets this device's own is over for both (R200), and a disable of this device that has
not sent its own is decided by R162. -/
def State.linkDownRx (s : State) (c : Nat) : State :=
  if !s.hears c then s
  else if (s.kl c).stopping.isSome && !(s.disabling c && s.peerRules c) then s.kflStop c
  else (s.whenb (s.disabling c) (fun s => s.yieldLink c)).kflBreak c 3

/-- The drain of an orderly disable is over: LINK_DOWN is sent, or its acknowledgement was waited for long enough. -/
def State.disableDue (s : State) (c : Nat) : State :=
  if !s.due .drain c || (s.kl c).stopping.isNone then s
  else if (s.kl c).downSeq.isNone then s.kflSendDown c
  else s.kflStop c

/-! ## Whey messages in (R178 to R180) -/

/-- How the messages of a code are carried, where the code is known (R138, R178, Table 6.6). -/
def wheyCarry (code : Nat) : Option Nat :=
  if 1 ≤ code && code ≤ 9 then some 0
  else match code with
    | 0x20 => some 0
    | 0x21 | 0x22 => some 1
    | 0x23 | 0x24 | 0x25 | 0x26 | 0x27 | 0x28 | 0x29 | 0x30 | 0x31 | 0x32 | 0x40 | 0x41 => some 2
    | _ => none

/-- In-band Corber for this device, or sent on. -/
def State.corberWhey (s : State) (c : Nat) (w : Whey) : State :=
  if w.dest ≠ s.ownFeid then s.wheyForward c w
  else if w.code = 0x40 then s.fragRx w.origin (s.linkIdx c) w.body
  else s.abortRx w.origin (bodyNat w.body 0 1)

/-- A whey message arrives; one of an unknown code or carry is discarded and counted (R179), and a TIME message of a replayed flit
is discarded (R198).  Outside FABRIC mode a fabric port carries link messages only (R129). -/
def State.wheyRx (s : State) (c : Nat) (replay : Bool) (w : Whey) : State :=
  let b := w.body
  if wheyCarry w.code ≠ some w.carry then (s.bump R.KFL_WHEY_UNK_CNT c).raise F.KFL_LINK_EVT.WHEY_UNKNOWN c
  else if 0x20 ≤ w.code && s.fs = fsOff then s
  else match w.code with
    | 0x01 => s.shedReqRx c (packed b [8, 8] 0) (packed b [8, 8] 1)
    | 0x02 => s.shedAckRx c (packed b [8, 2] 0) (packed b [8, 2] 1)
    | 0x03 => s.restoreReqRx c (packed b [8, 8] 0) (packed b [8, 8] 1)
    | 0x04 => s.restoreAckRx c (packed b [8, 2] 0) (packed b [8, 2] 1)
    | 0x05 => s.lpReqRx c (packed b [1, 8] 0) (packed b [1, 8] 1)
    | 0x06 => s.lpAckRx c (packed b [8, 2] 0) (packed b [8, 2] 1)
    | 0x07 => if replay then s else s.timeReqRx c (packed b [64] 0) (s.kl c).rxTb
    | 0x08 =>
      let t (i : Nat) : BitVec 64 := BitVec.ofNat 64 (packed b [64, 64, 64] i)
      if replay then s else s.timeRespRx c (t 0) (t 1) (t 2) (s.kl c).rxTb
    | 0x09 => s.linkDownRx c
    | 0x20 => s.helloRx c b
    | 0x21 => s.claimRx c w
    | 0x22 => s.heartbeatRx c w
    | 0x23 => s.joinRx c w
    | 0x24 => s.joinReplyRx c w
    | 0x25 => s.topoRx c w
    | 0x26 => s.grantRx c w
    | 0x27 => s.denyRx c w
    | 0x28 => s.ackRx c w
    | 0x29 => s.closeRx c w
    | 0x30 => s.wfnRx c w false
    | 0x31 => s.wfnRx c w true
    | 0x32 => s.noticeRx c w
    | _ => s.corberWhey c w

/-! ## Flits in (R173 to R177, R181, R182, R186) -/

/-- ACK of a good flit (R181): accepted when it acknowledges an outstanding flit.  DESIGN CHOICE (notes/assumptions/84): the acknowledged
range reaches back over half the sequence space: a value more than 2,048 ahead of ACK_LAST counts as one acknowledged before. -/
def State.ackIn (s : State) (c a : Nat) : State :=
  let n := s.outstanding c
  let d := sub12 a (s.ackLast c)
  if 1 ≤ d && d ≤ n then
    let s1 := (s.setFld F.KFL_SEQ_TX.ACK_LAST c a).setFld F.KFL_REPLAY_STATUS.CONSEC c 0
    let left := s1.outstanding c
    let out (q : Nat) : Bool := let e := sub12 q a; 1 ≤ e && e ≤ left
    let s2 := (s1.onKl c (fun k => { k with
      unacked := k.unacked.filter (fun (f : KflFlit) => out f.lseq)
      tx := k.tx.filter (fun (t : KflPkt) => !t.slots.isEmpty || t.lastSeq == 4096 || out t.lastSeq || t.coming) })).showOut c
    let s3 := if 0 < left then s2.arm .replay c (s2.replayTime c) else s2.disarm .replay c
    let k := s3.kl c
    if k.stopping.isNone then s3
    else match k.downSeq with
      | some q => if q = 4096 || out q then s3 else s3.kflStop c
      | none => if left = 0 && k.tx.all (·.sent) then s3.kflSendDown c else s3
  else if n < d && d ≤ 2048 then s.protoErr c
  else s

/-- The credit counter of a good flit (R186, R188). -/
def State.creditIn (s : State) (c v g : Nat) : State :=
  if v = 7 then s
  else
    let j := 7 * c + v
    let ahead := sub12 g (s.fld F.KFL_CRED_TX.LIMIT j)
    if 2047 < ahead || 2047 < sub12 g (s.fld F.KFL_CRED_TX.USED j) then s.protoErr c
    else if ahead = 0 then s
    else ((s.setFld F.KFL_CRED_TX.LIMIT j g).disarm .credit (8 * c + v)).kflTimers c

/-- The packets that data slots complete, and the one in progress after them; none where a fabric header breaks the bounds of ILEN
(R175, R194). -/
def takeRx : Option KflRx → List (List Byte) → Option (List (FabHdr × List Byte) × Option KflRx)
  | rx, [] => some ([], rx)
  | none, h :: l =>
    let f := fabHdrOf (leNat h)
    if f.ilen < 8 || 4224 < f.ilen then none
    else takeRx (some { vc := vcOf f, slots := ceilDiv f.ilen 16, need := creditsOf f.ilen, got := h }) l
  | some x, d :: l =>
    let got := x.got ++ d
    if x.slots ≤ 1 then
      let f := fabHdrOf (leNat (got.take 16))
      (takeRx none l).map (fun r => ((f, (got.drop 16).take f.ilen) :: r.1, r.2))
    else takeRx (some { x with slots := x.slots - 1, got := got }) l

/-- The packet of a header and the bytes of its item (Table 5.8). -/
def fabItem (h : FabHdr) (b : List Byte) : FabPkt :=
  if 6 ≤ h.ptype then { hdr := h, side := some (bodyNat b 0 1, b) }
  else match Config.tlpOfBytes h.ptype b with
    | some t => { hdr := h, tlp := some t }
    | none => { hdr := h, side := some (0, b) }

/-! ### A transit packet on its way before its end has come (R72, R176) -/

/-- Every started copy of packet `id` at the links changes. -/
def State.onTx (s : State) (id : Nat) (f : KflPkt → KflPkt) : State :=
  s.onKfl (fun y => { y with links := y.links.map (fun e =>
    (e.1, { e.2 with tx := e.2.tx.map (fun (t : KflPkt) => if t.pkt.id = id && t.coming then f t else t) })) })

/-- Slots of a packet on its way arrive: they follow on the link that has started it; `more` are still to come. -/
def State.slotsOn (s : State) (id : Nat) (l : List (List Byte)) (more : Bool) : State :=
  s.onTx id (fun t => { t with slots := t.slots ++ l, coming := more })

/-- A packet toward another device that forwarding puts on a slot now: it can go on before its end has come. -/
def State.transits (s : State) (c : Nat) (h : FabHdr) (k : Pkt) : Bool :=
  s.fabForwards && s.isFabric (portOfCtl c) && s.carries && decide (h.dst < 0xC00) && h.dst != s.ownFeid &&
    !(h.pin && s.pinHolds h.dst k) && (match s.forward k.route h with | .slot _ => true | _ => false)

/-- The header of a transit packet has come: the packet joins the Churn as the ILEN bytes of its item, and may leave by cut-through while
they come. -/
def State.kflOnward (s : State) (c : Nat) : State :=
  match (s.kl c).rx with
  | none => s
  | some x =>
    let h := fabHdrOf (leNat (x.got.take 16))
    let k := { s.fabRecord (portOfCtl c) x.vc { hdr := h } with len := h.ilen, hdrLen := 0, route := s.routeOf h.dst }
    if x.onward.isSome || x.after.isSome || !s.transits c h k then s
    else
      let id := s.churn.nextId
      let s1 := (s.store k).onPkt id (fun k => { k with wholeAt := never })
      ((s1.onKl c (fun y => { y with rx := some { x with onward := some id } })).sendOn id).poolEvents

/-- The last slot of a packet on its way has come. -/
def State.onwardWhole (s : State) (id : Nat) (f : FabPkt) : State :=
  let fill (k : Pkt) : Pkt := { k with wholeAt := s.now, fab := k.fab.map (fun (g : FabPkt) => { g with tlp := f.tlp, side := f.side }) }
  (s.onTx id (fun t => { t with pkt := fill t.pkt })).onPkt id fill

/-- A packet whose way onward was taken back has come: it is redirected (R158), or lost with a REASON (R211). -/
def State.onwardLate (s : State) (c : Nat) (f : FabPkt) (reason : Option Nat) : State :=
  let id := s.churn.nextId
  let s1 := s.store { s.fabRecord (portOfCtl c) (vcOf f.hdr) f with route := s.routeOf f.hdr.dst }
  match reason with
  | some r => s1.pathLoss id r
  | none => match s1.pkt id with
    | some k => s1.redirect k
    | none => s1

/-- A packet on its way is abandoned: it ends early where its header has been sent, and goes nowhere else (R74, R176). -/
def State.onwardCut (s : State) (id : Nat) : State :=
  match s.pkt id with
  | none => s
  | some k => (s.each k.readers (fun s q => s.stopRead id q)).freePkts (·.id == id)

/-- A packet has come whole over a link, the one in reception as `x` or one that began in this flit: its credits are used, and it goes
where its header says (R141). -/
def State.packetIn (s : State) (c : Nat) (x : Option KflRx) (h : FabHdr) (b : List Byte) : State :=
  if !s.flits c then s
  else
    let s1 := s.kflConsume c (vcOf h) (creditsOf h.ilen)
    let f := fabItem h b
    let s2 := match x.bind (·.onward), x.bind (·.after) with
      | some id, _ => (s1.onwardWhole id f).slotsOn id [] false
      | none, some r => s1.onwardLate c f r
      | none, none => s1.fabricRx (portOfCtl c) f
    s2.kflTrim c (vcOf h)

/-- The packet in reception is abandoned (R176): its credits are used, and it counts. -/
def State.abortIn (s : State) (c : Nat) : State :=
  match (s.kl c).rx with
  | none => s
  | some x =>
    let s1 := match x.onward with | some id => s.onwardCut id | none => s
    (((s1.kflConsume c x.vc x.need).kflTrim c x.vc).onKl c (fun k => { k with rx := none })).bump R.KFL_ABORT_RX_CNT c

/-- The slots of a flit have come: those of the packet in reception follow it on its way; the packets they end come in; one that begins
and does not end is in reception from now on, and may go on at once. -/
def State.slotsIn (s : State) (c : Nat) (slots : List (List Byte)) (pkts : List (FabHdr × List Byte)) (rx : Option KflRx) : State :=
  let x := (s.kl c).rx
  let s1 := match x.bind (·.onward), x with
    | some id, some x => s.slotsOn id (slots.take x.slots) true
    | _, _ => s
  match pkts with
  | [] =>
    -- Nothing ends: the packet in reception goes on, or the first of a new one has come.
    let keep (r : KflRx) : KflRx := match x with
      | some x => { r with onward := x.onward, after := x.after }
      | none => r
    (s1.onKl c (fun k => { k with rx := rx.map keep })).kflOnward c
  | e :: l =>
    let s2 := (s1.onKl c (fun k => { k with rx := none })).packetIn c x e.1 e.2
    let s3 := s2.each l (fun s e => s.packetIn c none e.1 e.2)
    if !s3.flits c then s3 else (s3.onKl c (fun k => { k with rx := rx })).kflOnward c

/-- A reply does not carry the TOKEN of a request of this device that waits for it (R180). -/
def State.strayReply (s : State) (c : Nat) (w : Whey) : Bool :=
  let k := s.kl c
  let stray (q : Option (Nat × Nat)) : Bool := q.elim true (fun e => e.1 != packed w.body [8, 2] 0)
  w.carry == 0 && (match w.code with
    | 0x02 => stray k.shed
    | 0x04 => stray k.restore
    | 0x06 => stray k.lp
    | _ => false)

/-- The messages of a flit. -/
def flitWhey (h : FlitHdr) (b : List Byte) : List Whey :=
  (List.range h.wheyN).map (fun j => Machine.wheyOf ((b.drop (8 + 32 * j)).take 32))

/-- The payload of the next SEQ flit in order breaks a rule of R194: its START, the ILEN of a packet in it, or the TOKEN of a reply. -/
def State.seqBroken (s : State) (c : Nat) (h : FlitHdr) (b : List Byte) : Bool :=
  let before := if h.abort then none else (s.kl c).rx
  let rest := before.elim 0 (·.slots)
  let start := if rest < h.dslots then 2 * h.wheyN + rest else 15
  h.start != start || (flitWhey h b).any (s.strayReply c) || (takeRx before (slotsOfBytes h.dslots (b.drop (8 + 32 * h.wheyN)))).isNone

/-- The next SEQ flit in order (R174 to R176): its messages, then its data slots. -/
def State.seqIn (s : State) (c : Nat) (h : FlitHdr) (b : List Byte) : State :=
  let before := if h.abort then none else (s.kl c).rx
  let slots := slotsOfBytes h.dslots (b.drop (8 + 32 * h.wheyN))
  match takeRx before slots with
    | none => s
    | some (pkts, rx) =>
      let ws := flitWhey h b
      let busy := h.dslots ≠ 0 || ws.any (fun w => !(w.carry == 0 && (w.code == 5 || w.code == 6)))
      let s1 := (s.whenb h.abort (fun s => s.abortIn c)).setFld F.KFL_SEQ_RX.EXPECT_RX c ((h.lseq + 1) % 4096)
      let s2 := s1.onKl c (fun k => { k with lastBusy := if busy then s1.now else k.lastBusy })
      -- The buffers of the messages are free again at once: their credit is granted back (R179, R187).
      let s3 := (s2.kflConsume c 6 h.wheyN).setFld F.KFL_CRED_RX.GRANTED (7 * c + 6)
        ((s2.fld F.KFL_CRED_RX.GRANTED (7 * c + 6) + h.wheyN) % 4096)
      let s4 := s3.each ws (fun s w => if s.flits c then s.wheyRx c h.replay w else s)
      s4.whenb (s4.flits c) (fun s => s.slotsIn c slots pkts rx)

/-- A good flit (R182, Table 6.8): its ACK and its credit first, then its payload by its sequence number.  One that carries a
protocol error in its payload is discarded as corrupted, header included (R173, R194); of one with a reserved FTYPE the header is
used. -/
def State.goodFlit (s : State) (c : Nat) (b : List Byte) : State :=
  let h := flitHdrOf (leNat (b.take 8))
  let broken := 15 < 2 * h.wheyN + h.dslots || (h.lseq = s.expectRx c && s.seqBroken c h b)
  if h.ftype = 1 && broken then s.protoErr c
  else
    let s1 := s.ackIn c h.ack
    let s2 := s1.whenb (s1.flits c) (fun s => s.creditIn c h.crVc h.crCum)
    if !s2.flits c || h.ftype = 0 then s2
    else if 2 ≤ h.ftype then s2.protoErr c
    else
      let behind := sub12 (s2.expectRx c) h.lseq
      if behind = 0 then s2.seqIn c h b
      else if behind ≤ 2048 then s2.bump R.KFL_DUP_CNT c
      else s2.bump R.KFL_OOS_CNT c

/-- A frame with an uncorrectable codeword (R173, R192). -/
def State.frameBad (s : State) (c : Nat) : State :=
  let l := s.now :: (s.kl c).ues.filter (fun t => s.now < t + ms 1)
  let s1 := (s.bump R.KFL_FEC_UE_CNT c).onKl c (fun k => { k with ues := l })
  if s1.fld F.KFL_LINK_CFG.FEC_UE_LIMIT c ≤ l.length then s1.kflRecover c else s1

/-- Frames may arrive: the link carries flits, or the partner may be ACTIVE already while this end still sends PHASE 5. -/
def State.framing (s : State) (c : Nat) : Bool := s.flits c || ((s.lst c == 4 || s.lst c == 6) && (s.kl c).phase == 5)

/-- The position of a physical lane of the port (R57): as its markers have shown, before that as its training blocks did. -/
def State.lanePos (s : State) (c lane : Nat) : Option Nat :=
  match look lane (s.kl c).rxPos with
  | some i => some i
  | none => (List.range 8).find? (fun i => s.physLane c i == firstLane (portOfCtl c) + lane)

/-- A frame has come on the physical lanes (R166 to R169): deskewed and put in order, decoded and descrambled. -/
def State.frameRx (s : State) (c : Nat) (lanes : List (Nat × List Nat)) (age : Nat) : State :=
  let k := s.kl c
  let of (i : Nat) : List Nat := (lanes.find? (fun e => s.lanePos c e.1 == some i)).elim [] (·.2)
  let f := frameIn k.rxScr ((lanesIn k.rxMask).map of)
  let s1 := s.onKl c (fun k => { k with rxScr := f.scr, rxFlits := f.flits, rxTb := s.tb - BitVec.ofNat 64 age })
  if !s1.flits c then s1
  else
    let s2 := (s1.stat R.KFL_FEC_CORR_SYM_LO R.KFL_FEC_CORR_SYM_HI c f.corrected).stat R.PCL_PORT_FEC_CORR_LO R.PCL_PORT_FEC_CORR_HI
      (portOfCtl c) f.corrected
    s2.whenb f.bad (fun s => (s.bump R.PCL_PORT_FEC_UNCORR_CNT (portOfCtl c)).frameBad c)

/-- One flit, with whether every codeword that holds its bits decoded (R173). -/
def State.flitTaken (s : State) (c : Nat) (b : List Byte) (decoded deleted : Bool) : State :=
  if !s.flits c then s
  else
    let s1 := s.stat R.KFL_RX_FLITS_LO R.KFL_RX_FLITS_HI c 1
    if !(decoded && leNat (b.drop 248) == crc64 (b.take 248)) then s1.bump R.KFL_CRC_ERR_CNT c
    else if deleted && bits (leNat (b.take 8)) 0 2 = 0 then s1.stat R.KFL_IDLE_DEL_LO R.KFL_IDLE_DEL_HI c 1
    else s1.goodFlit c b

/-- The levels of a frame by the physical lane they came on. -/
def laneLevels (lanes : List (Fin 8)) (levels : List (List (Fin 4))) : List (Nat × List Nat) :=
  (lanes.map (·.val)).zip (levels.map (·.map (·.val)))
/-- The next flit in: with a frame that has come, the first of its five flits; else the next flit of the frame in hand. -/
def State.flitIn (s : State) (c : Nat) (frame : Option (List (Nat × List Nat))) (age : Nat) (deleted : Bool) : State :=
  if !s.isKfl c || !s.framing c then s
  else
    let s1 := match frame with
      | some l => s.frameRx c l age
      | none => s
    match (s1.kl c).rxFlits with
    | [] => s1
    | (b, ok) :: l => (s1.onKl c (fun k => { k with rxFlits := l })).flitTaken c b ok deleted

/-! ## Markers in (R171) -/

/-- A good marker of a lane: its LANE gives the lane's position (R57, R171), and the next set follows its MCOUNT. -/
def State.markerGood (s : State) (c lane m : Nat) : State :=
  s.onKl c (fun k => { k with
    marks := put lane { next := (bits m 38 8 + 1) % 256, bad := 0 } k.marks, rxPos := put lane (bits m 32 3) k.rxPos })

/-- The place of a lane's marker in a set: `m` is what stands there, where the lane was found.  DEDUCED (notes/assumptions/75): a lane
that shows no SYNC there has a bad marker. -/
def State.markerLane (s : State) (c lane : Nat) (m : Option Nat) : State :=
  let x := (look lane (s.kl c).marks).getD {}
  let w := m.getD 0
  let ok := m.isSome && parity 32 (w / 2 ^ 32) == 0
  let s0 := s.bump R.KFL_MARKER_ERR_CNT c
  if 2 ≤ x.bad then
    -- The lane realigns: it takes its count from this marker, or has not succeeded in time.
    (if ok then s.markerGood c lane w else s0.kflRecover c)
  else if ok && bits w 38 8 = x.next then s.markerGood c lane w
  else
    let s1 := s0.onKl c (fun k => { k with marks := put lane { next := (x.next + 1) % 256, bad := x.bad + 1 } k.marks })
    if x.bad = 0 then s1 else s1.raise F.KFL_LINK_EVT.MARKER_REALIGN c

/-- A marker set: the physical lane, its arrival in ps after the earliest lane's, and its word.  The receiver deskews the lanes on SYNC, up
to 64.0 ns (R57); each lane in use is checked, and one that joins is found by its marker; a WIDTH other than the current one counts
only as a shedding step has agreed it (R171, R196).  The descrambler starts again (R169). -/
def State.markersIn (s : State) (c : Nat) (set : List (Nat × Nat × Nat)) : State :=
  if !s.isKfl c || !s.framing c then s
  else
    let k := s.kl c
    let l := set.filter (fun e => bits e.2.2 0 32 == 0xC5A31E6B && e.2.1 ≤ 64000)
    let last := l.foldl (fun a e => max a e.2.1) 0
    let s1 := s.onKl c (fun k => { k with rxScr := 0x7FFFFFFF, rxFlits := [], deskew := l.map (fun e => (e.1, last - e.2.1)) })
    let mine (lane : Nat) : Bool := (s.lanePos c lane).elim false (fun i => bits k.rxMask i 1 == 1)
    let parityOk (m : Nat) : Bool := parity 32 (m / 2 ^ 32) == 0
    let s2 := s1.each ((List.range 8).filter mine) (fun s lane =>
      s.whenb (s.framing c) (fun s => s.markerLane c lane ((l.find? (fun e => e.1 == lane)).map (·.2.2))))
    let s3 := s2.each (l.filter (fun e => !mine e.1 && parityOk e.2.2)) (fun s e => s.markerGood c e.1 e.2.2)
    let code (m : Nat) : Nat := widthCode (lanesIn m).length
    match l.find? (fun e => parityOk e.2.2 && bits e.2.2 36 2 != code k.rxMask) with
    | none => s3
    | some e =>
      match ((k.maskNext.elim [] (fun m => [m])) ++ [s.fld F.KFL_LINK_STATUS.LANES_ACTIVE c]).find? (fun m => code m == bits e.2.2 36 2) with
      | some m => s3.onKl c (fun k => { k with rxWidth := some (code m), rxMask := m })
      | none => s3

/-! ## Training blocks in (R189 to R192) -/

/-- What a block tells of its lane: the lane order (R191), the partner's state, an FFE request to apply or refuse (R54, R190), and
the answer to our own. -/
def State.ktsLearn (s : State) (c lane ok : Nat) (k : Kts) (req : Option Word) : State :=
  let i := k.lane
  let s1 := if k.phase = 0 then s.laneAt c i lane else s
  let y := s1.kl c
  let mine (n : Nat) : Nat := bits n i 1
  let set (n b : Nat) : Nat := setBits n i 1 b
  let asked := mine y.appTog != k.reqTog
  let good := ffeKfl k.ffeReq
  let s2 := s1.whenb (asked && good) (fun s => s.wr R.PCL_LANE_TXEQ (s.physLane c i) (BitVec.ofNat 32 k.ffeReq))
  let ask := req.isSome && mine y.reqTog == k.appTog
  let s3 := s2.onKl c (fun x => { x with
    ownOk := ok, peerOk := k.laneOk, peerCap := k.rateCap, peerCfg := k.widthCfg, peerSerial := k.serial
    appTog := if asked then set x.appTog k.reqTog else x.appTog
    ready := x.ready || k.phase == 5
    blocks := if k.phase = 5 && x.phase = 5 && !x.ready then 0 else x.blocks
    rejected := if asked then set x.rejected (b2n !good) else x.rejected
    reqTog := if ask then set x.reqTog (1 - mine x.reqTog) else x.reqTog
    reqs := if ask then put i (req.getD 0) x.reqs else x.reqs
    good := if x.phase ≤ k.phase then x.good + 1 else x.good })
  if asked || ask then s3.ktsSend c i (s3.ktsBlock c i) else s3

/-- The width is agreed after training (R191). -/
def State.ktsWidth (s : State) (c : Nat) : State :=
  match s.kflAgree c with
  | none => s.kflFail c none
  | some m =>
    let w := (lanesIn m).length
    let narrow := decide (w < 4 * s.widthCfg c)
    let s1 := (s.setFld F.KFL_LINK_STATUS.LANES_ACTIVE c m).setFld F.KFL_LINK_STATUS.WIDTH_NOW c (widthCode w)
    let s2 := s1.setFld F.KFL_LINK_STATUS.DEGRADED c (b2n narrow)
    (s2.whenb (narrow && (s.kl c).peerCfg == 2) (fun s => s.raise F.KFL_LINK_EVT.DEGRADED c)).kflPhase c 5

/-- The width after a recovery: the current one, once every lane in use has passed at both ends (R192); where restored lanes had not locked,
the width R191 gives of the full one (R196).  With no such width the recovery goes on. -/
def State.ktsReturn (s : State) (c : Nat) : State :=
  let k := s.kl c
  let active := s.fld F.KFL_LINK_STATUS.LANES_ACTIVE c
  if !k.toFull then s.whenb (Nat.land (Nat.land k.ownOk k.peerOk) active == active) (fun s => s.kflPhase c 5)
  else match s.kflTake c k.fullMask with
    | none => s
    | some m =>
      let less := m != k.fullMask
      let s1 := (s.whenb (active != m || less) (fun s => s.kflWidth c m m)).onKl c (fun k => { k with fullMask := m })
      (s1.whenb less (fun s => (s.setFld F.KFL_LINK_STATUS.DEGRADED c 1).raise F.KFL_LINK_EVT.DEGRADED c)).kflPhase c 5

/-- This side advances when its own part of the phase is done and enough good blocks have come (R189, Table 6.11). -/
def State.ktsStep (s : State) (c : Nat) (done : Bool) : State :=
  let k := s.kl c
  let back := s.lst c == 6
  let eight := 8 ≤ k.good
  let lanes := (s.trainLanes c).all (fun i => bits k.ownOk i 1 == 1)
  let eq := if s.flag F.KFL_LINK_STATUS.RATE_224 c then 3 else 1
  match k.phase with
  | 0 => if done && eight then s.kflPhase c (if back then (if lanes then 4 else eq) else 1) else s
  | 1 => if done && eight then s.kflPhase c (if !back && bits (s.rateBits c) 1 1 == 1 && bits k.peerCap 1 1 == 1 then 2 else 4) else s
  | 3 => if done && eight then s.kflPhase c 4 else s
  | 4 => if !eight then s else if back then s.ktsReturn c else s.ktsWidth c
  | _ => s.ktsCounted c

/-- The polarity of a lane that receives the complement of SYNC is inverted (Table 6.10). -/
def State.polarity (s : State) (c lane v : Nat) : State × Option Kts :=
  let l := firstLane (portOfCtl c) + lane
  if bits v 0 32 = 0xC4915D2B then (s.setFld F.PCL_LANE_STATUS.POLARITY_INV l 1, ktsOf (2 ^ 256 - 1 - v % 2 ^ 256))
  else if bits v 0 32 = 0x3B6EA2D4 then (s.setFld F.PCL_LANE_STATUS.POLARITY_INV l 0, ktsOf v)
  else (s, none)

/-- A training block on a lane of a link's port. -/
def State.ktsIn (s : State) (c lane v ok : Nat) (done : Bool) (req : Option Word) (skew : Nat) : State :=
  if !s.isKfl c || s.mode = .reset || s.lst c = 0 || 4 * s.widthCfg c ≤ lane then s
  else
    let (s0, block) := s.polarity c lane v
    match block with
    | none => s0
    | some k =>
      let asleep := s0.lst c == 7 || s0.lst c == 8
      let s1 := s0.whenb (s0.lst c == 8 && k.phase == 0) (fun s => s.wakeBy 2 (s.linkIdx c))
      let s2 := s1.whenb asleep (fun s => s.kflWake c)
      let active := s2.fld F.KFL_LINK_STATUS.LANES_ACTIVE c
      if s2.flits c then
        -- Parked lanes train while the link restores its width.  PHASE 5 blocks that come before the partner's first marker set end its
        -- training; any other block in place of a frame starts recovery.
        (if k.phase = 5 && (s2.kl c).marks.isEmpty then s2
         else if bits active k.lane 1 = 0 && bits (s2.kl c).fullMask k.lane 1 = 1 then
           s2.whenb (bits ok k.lane 1 == 1) (fun s => s.onKl c (fun x => { x with locked := Nat.lor x.locked (2 ^ k.lane) }))
         else s2.kflRecover c)
      else
        let s3 := s2.ktsLearn c lane ok k req
        if 64000 < skew then
          (if s3.lst c = 6 then s3 else s3.kflFail c (some F.PCL_PORT_EVT.SKEW_FAIL))
        else s3.ktsStep c done

/-! ## Timers (R184, R188, R190, R192) -/

/-- Training has not ended after 25.0 ms; EQ_FAIL tells that an equalisation step ran out of time. -/
def State.trainTimeout (s : State) (c : Nat) : State :=
  if !s.due .training c || s.lst c = 0 || 5 ≤ s.lst c then s
  else s.kflFail c (if (s.kl c).phase = 1 || (s.kl c).phase = 3 then some F.PCL_PORT_EVT.EQ_FAIL else none)

/-- 1.00 ms after a failed training. -/
def State.trainRetry (s : State) (c : Nat) : State :=
  if !s.due .trainRetry c then s
  else
    let s1 := s.disarm .trainRetry c
    s1.whenb (s1.lst c == 0 && s1.flag F.KFL_LINK_CFG.TRAIN_EN c) (fun s => s.kflTrain c)

/-- The replay timer expires: every outstanding flit is sent again, or recovery starts. -/
def State.replayDue (s : State) (c : Nat) : State :=
  if !s.due .replay c || !s.flits c || s.outstanding c = 0 then s
  else
    let n := s.fld F.KFL_REPLAY_STATUS.CONSEC c + 1
    if s.fld F.KFL_TIMER_A.REPLAY_NUM c < n then s.kflRecover c
    else
      let s1 := ((s.setFld F.KFL_REPLAY_STATUS.CONSEC c n).setFld F.KFL_REPLAY_STATUS.REPLAYING c 1).bump R.KFL_REPLAY_CNT c
      let s2 := s1.onKl c (fun k => { k with replayNext := some ((s1.ackLast c + 1) % 4096) })
      (s2.raise F.KFL_LINK_EVT.REPLAY c).arm .replay c (s2.replayTime c)

/-- A packet or message has waited CREDIT_TO for credit on a counter: the link is broken. -/
def State.creditDue (s : State) (c v : Nat) : State :=
  if !s.due .credit (8 * c + v) || !s.flits c then s
  else ((s.bump R.KFL_CREDIT_TO_CNT c).raise F.KFL_LINK_EVT.CREDIT_TO c).kflBreak c 1

/-- Recovery has not returned to ACTIVE within RECOV_TO. -/
def State.recoveryDue (s : State) (c : Nat) : State :=
  if s.due .recovery c && s.lst c == 6 then s.kflBreak c 2 else s

/-! ## Flits out -/

/-- The next flit slot of a link; a width change and a low-power state take effect at their place in the stream. -/
def State.flitSlot (s : State) (c : Nat) : State :=
  if !s.isKfl c then s
  else
    let p := portOfCtl c
    let s0 := s.shedAgree c
    let before := (s0.kl c).maskNext
    let s1 := s0.kflNext c
    let changed := before.isSome && (s1.kl c).maskNext.isNone
    let s2 := s1.whenb changed (fun s => s.onChurn (fun y => { y with narrowing := y.narrowing.filter (· != p) }))
    (s2.sleepNow c).recalWatch c

/-! ## The commands.  `ctl` is the link controller: 2 × cluster, and 1 more for the upper half (R45) -/

/-- KFL_FLIT_RX (R182): the next flit in.  `first` tells that a frame has come and this is the first of its flits: `levels` are then the
PAM4 levels of the physical `lanes` of the port, and `age` the nanoseconds since its first UI arrived; else the next flit of the frame in
hand is taken.  `deleted` tells that the elastic buffer deletes the flit if it is IDLE (R177). -/
def execKflFlitRx (ctl : Fin 72) (first : Bool) (lanes : List (Fin 8)) (levels : List (List (Fin 4))) (age : Nat) (deleted : Bool)
    (s : State) : Host.Outcome State Fault Refusal :=
  .next (s.flitIn ctl (if first then some (laneLevels lanes levels) else none) age deleted)

/-- KFL_FLIT_TX (R181). -/
def execKflFlitTx (ctl : Fin 72) (s : State) : Host.Outcome State Fault Refusal := .next (s.flitSlot ctl)

/-- LANE_MARKER_RX (R171): the marker each lane of the port received, and its arrival in ps after that of the earliest lane. -/
def execLaneMarkerRx (ctl : Fin 72) (set : List (Fin 8 × Nat × BitVec 64)) (s : State) : Host.Outcome State Fault Refusal :=
  .next (s.markersIn ctl (set.map (fun e => (e.1.val, e.2.1, e.2.2.toNat))))

/-- KTS_BLOCK_RX (R189): the lane of the port and the block; the logical lanes our receiver has passed on; whether its part of the
phase is done; an FFE setting it asks the partner for; and the skew between the lanes in ps. -/
def execKtsBlockRx (ctl : Fin 72) (lane : Fin 8) (block : BitVec 256) (laneOk : BitVec 8) (done : Bool) (req : Option (BitVec 32))
    (skewPs : Nat) (s : State) : Host.Outcome State Fault Refusal :=
  .next (s.ktsIn ctl lane block.toNat laneOk.toNat done req skewPs)

/-- TRAINING_TIMEOUT (R190). -/
def execTrainingTimeout (ctl : Fin 72) (s : State) : Host.Outcome State Fault Refusal := .next (s.trainTimeout ctl)

/-- TRAINING_RETRY (R190). -/
def execTrainingRetry (ctl : Fin 72) (s : State) : Host.Outcome State Fault Refusal := .next (s.trainRetry ctl)

/-- REPLAY_TIMER_EXPIRY (R184). -/
def execReplayTimerExpiry (ctl : Fin 72) (s : State) : Host.Outcome State Fault Refusal := .next (s.replayDue ctl)

/-- CREDIT_TIMER_EXPIRY (R188): VC0 to VC5, or 6 for whey. -/
def execCreditTimerExpiry (ctl : Fin 72) (counter : Fin 7) (s : State) : Host.Outcome State Fault Refusal := .next (s.creditDue ctl counter)

/-- RECOVERY_TIMEOUT (R192). -/
def execRecoveryTimeout (ctl : Fin 72) (s : State) : Host.Outcome State Fault Refusal := .next (s.recoveryDue ctl)

/-- SHED_REQ (R196). -/
def execShedReq (ctl : Fin 72) (mask token : BitVec 8) (s : State) : Host.Outcome State Fault Refusal :=
  .next (s.shedReqRx ctl mask.toNat token.toNat)

/-- SHED_ACK (R196). -/
def execShedAck (ctl : Fin 72) (token : BitVec 8) (result : Fin 4) (s : State) : Host.Outcome State Fault Refusal :=
  .next (s.shedAckRx ctl token.toNat result)

/-- RESTORE_REQ (R196). -/
def execRestoreReq (ctl : Fin 72) (mask token : BitVec 8) (s : State) : Host.Outcome State Fault Refusal :=
  .next (s.restoreReqRx ctl mask.toNat token.toNat)

/-- RESTORE_ACK (R196). -/
def execRestoreAck (ctl : Fin 72) (token : BitVec 8) (result : Fin 4) (s : State) : Host.Outcome State Fault Refusal :=
  .next (s.restoreAckRx ctl token.toNat result)

/-- SHED_ACK_TIMEOUT (R196). -/
def execShedAckTimeout (ctl : Fin 72) (s : State) : Host.Outcome State Fault Refusal := .next (s.shedTimeout ctl)

/-- LP_REQ (R197). -/
def execLpReq (ctl : Fin 72) (deep : Bool) (token : BitVec 8) (s : State) : Host.Outcome State Fault Refusal :=
  .next (s.lpReqRx ctl (b2n deep) token.toNat)

/-- LP_ACK (R197). -/
def execLpAck (ctl : Fin 72) (token : BitVec 8) (result : Fin 4) (s : State) : Host.Outcome State Fault Refusal :=
  .next (s.lpAckRx ctl token.toNat result)

/-- KFL_IDLE_TIMER (R197). -/
def execKflIdleTimer (ctl : Fin 72) (s : State) : Host.Outcome State Fault Refusal := .next (s.idleTimer ctl)

/-- TIME_REQ (R198). -/
def execTimeReq (ctl : Fin 72) (t1 : BitVec 64) (s : State) : Host.Outcome State Fault Refusal := .next (s.timeReqRx ctl t1.toNat s.tb)

/-- TIME_RESP (R198). -/
def execTimeResp (ctl : Fin 72) (t1 t2 t3 : BitVec 64) (s : State) : Host.Outcome State Fault Refusal := .next (s.timeRespRx ctl t1 t2 t3 s.tb)

/-- TIME_REQ_INTERVAL (R198). -/
def execTimeReqInterval (ctl : Fin 72) (s : State) : Host.Outcome State Fault Refusal := .next (s.timeInterval ctl)

/-- LINK_DOWN (R193), with the partner's reason. -/
def execLinkDown (ctl : Fin 72) (_reason : Fin 16) (s : State) : Host.Outcome State Fault Refusal := .next (s.linkDownRx ctl)

/-- ORDERLY_DRAIN_TIMEOUT (R195). -/
def execOrderlyDrainTimeout (ctl : Fin 72) (s : State) : Host.Outcome State Fault Refusal := .next (s.disableDue ctl)

end Sys2Proof.Machine
end

