-- ==== Sys2Proof/Machine/FabCmds.lean ====
section
/-! DEFINITION. The commands of the fabric (chapter 05): its messages as they arrive on a link, its timers, flows and holds; write
failure notices (R212 to R214) and ACU notices (R422). -/

namespace Sys2Proof.Machine

/-- The envelope of a message that floods or is routed: origin, destination and hops taken (Table 6.5). -/
def envelope (code carry : Nat) (origin dest : BitVec 12) (hops : BitVec 4) (fields : List (Nat × Nat)) : Whey :=
  { carry := carry, code := code, origin := origin.toNat, dest := dest.toNat, hops := hops.toNat, body := packFields fields }

/-- A fabric message arrives on a link that carries whey; outside FABRIC mode a fabric port carries link messages only (R129). -/
def State.onWhey (s : State) (c : Nat) (f : State → State) : State := if s.hears c && s.fs != fsOff then f s else s

/-! ## Timers -/

/-- SETTLE_EXPIRY (R134, Table 5.4). -/
def State.settleDue (s : State) : State := if s.due .settle 0 then (s.disarm .settle 0).settled else s

/-- HEARTBEAT_TIMER (R135). -/
def State.heartbeatDue (s : State) : State :=
  if !s.due .heartbeat 0 then s else if s.fs = fsLead then s.heartbeat else s.disarm .heartbeat 0

/-- HEARTBEAT_LOSS (R135). -/
def State.heartbeatGone (s : State) : State :=
  if !s.due .heartbeatLoss 0 then s
  else
    let s1 := s.disarm .heartbeatLoss 0
    if s1.fs = fsMember then s1.leadLost else s1

/-- REFUSED_RETRY (Table 5.4): the join is asked for again, of the lead that is known; without one the time runs again. -/
def State.refusedDue (s : State) : State :=
  if !s.due .refused 0 then s
  else
    let s1 := s.disarm .refused 0
    if s1.fs ≠ fsRefused then s1
    else match s1.lead with
      | some l => s1.join l none
      | none => s1.arm .refused 0 (ms 1000)

/-- FLOW_RETRY_EXPIRY (R154): the flow may ask for a context again. -/
def State.flowRetryDue (s : State) (key : Nat) : State :=
  if !s.due .flowRetry key then s
  else (s.onFab (fun y => { y with retry := y.retry.filter (fun r => flowKey r.1 r.2.1 r.2.2 != key) })).disarm .flowRetry key

/-- Packets of a flow wait here to be sent. -/
def State.flowWaits (s : State) (key : Nat) : Bool :=
  s.churn.pkts.any (fun (k : Pkt) => !k.unseq && k.readers.isEmpty && k.fab.elim false (fun f =>
    f.hdr.src == s.ownFeid && f.hdr.fseq != 0 && flowKey f.hdr.dst f.hdr.vh f.hdr.ord == key))

/-- FLOW_IDLE_EXPIRY (R156): a granted flow that sent nothing for IDLE closes; one with packets still to send waits on
(notes/assumptions/62). -/
def State.flowIdleDue (s : State) (key : Nat) : State :=
  if !s.due .flowIdle key then s
  else
    let s1 := s.disarm .flowIdle key
    if !s1.fab.sends.any (fun (e : SendEntry) => flowKey e.dst e.vh e.ord == key && e.granted) then s1
    else if s1.flowWaits key then s1.arm .flowIdle key (us (s1.fld F.BND_FAB_RESEQ_CFG.IDLE))
    else s1.flowClose key

/-- FLOW_ACK_DEADLINE (R155). -/
def State.flowAckDue (s : State) (i : Nat) : State := if s.due .flowAck i then (s.disarm .flowAck i).flowAck i else s

/-- RESEQ_HOLE_TIMEOUT (R157): once its instant has passed, for a packet that arrives in the same instant is delivered and no hole is
counted (R163). -/
def State.holeDue (s : State) (i : Nat) : State :=
  if s.timers.any (fun (t : Timer) => t.kind == .hole && t.idx == i && decide (t.due < s.now)) then (s.disarm .hole i).holeLost i else s

/-- RESEQ_SKEW_EXPIRY (R157). -/
def State.skewExpiry (s : State) (i : Nat) : State := if s.due .skew i then s.skewDue i else s

/-- UNREACH_HOLD_EXPIRY (R149). -/
def State.unreachExpiry (s : State) (id : Nat) : State := if s.due .unreach id then s.unreachDue id else s

/-! ## The commands.  `ctl` is the link controller a message arrives at -/

/-- HELLO (R150): serial number, FEID, LEAD_ELIG, lead FEID, TERM and the sender's link index. -/
def execHello (ctl : Fin 72) (serial : BitVec 64) (feid : BitVec 12) (elig : Bool) (lead : BitVec 12) (term : BitVec 16) (link : BitVec 7)
    (s : State) : Host.Outcome State Fault Refusal :=
  .next (s.onWhey ctl (fun s => s.helloRx ctl
    (packFields [(serial.toNat, 64), (feid.toNat, 12), (b2n elig, 1), (lead.toNat, 12), (term.toNat, 16), (link.toNat, 7)])))

/-- LEAD_CLAIM (R134). -/
def execLeadClaim (ctl : Fin 72) (origin : BitVec 12) (hops : BitVec 4) (feid : BitVec 12) (serial : BitVec 64) (term seq : BitVec 16)
    (s : State) : Host.Outcome State Fault Refusal :=
  .next (s.onWhey ctl (fun s => s.claimRx ctl (envelope 0x21 1 origin 0xFFF hops
    [(feid.toNat, 12), (serial.toNat, 64), (term.toNat, 16), (seq.toNat, 16)])))

/-- HEARTBEAT (R135). -/
def execHeartbeat (ctl : Fin 72) (origin : BitVec 12) (hops : BitVec 4) (lead : BitVec 12) (term seq : BitVec 16) (members : BitVec 7)
    (s : State) : Host.Outcome State Fault Refusal :=
  .next (s.onWhey ctl (fun s => s.heartbeatRx ctl (envelope 0x22 1 origin 0xFFF hops
    [(lead.toNat, 12), (term.toNat, 16), (seq.toNat, 16), (members.toNat, 7)])))

/-- JOIN_REQ (R132). -/
def execJoinReq (ctl : Fin 72) (origin dest : BitVec 12) (hops : BitVec 4) (serial : BitVec 64) (feid : BitVec 12) (elig : Bool) (s : State) :
    Host.Outcome State Fault Refusal :=
  .next (s.onWhey ctl (fun s => s.joinRx ctl (envelope 0x23 2 origin dest hops [(serial.toNat, 64), (feid.toNat, 12), (b2n elig, 1)])))

/-- JOIN_REPLY (R133): result 0 admit, 1 fabric full, 2 duplicate FEID. -/
def execJoinReply (ctl : Fin 72) (origin dest : BitVec 12) (hops : BitVec 4) (serial : BitVec 64) (result : Fin 4) (feid : BitVec 12)
    (s : State) : Host.Outcome State Fault Refusal :=
  .next (s.onWhey ctl (fun s => s.joinReplyRx ctl (envelope 0x24 2 origin dest hops [(serial.toNat, 64), (result.val, 2), (feid.toNat, 12)])))

/-- TOPO_REPORT (R138): state 0 down, 1 up, 2 masked. -/
def execTopoReport (ctl : Fin 72) (origin dest : BitVec 12) (hops : BitVec 4) (link : BitVec 7) (state : Fin 4) (peer : BitVec 12)
    (s : State) : Host.Outcome State Fault Refusal :=
  .next (s.onWhey ctl (fun s => s.topoRx ctl (envelope 0x25 2 origin dest hops [(link.toNat, 7), (state.val, 2), (peer.toNat, 12)])))

/-- FLOW_GRANT (R154): the flow key and the start sequence. -/
def execFlowGrant (ctl : Fin 72) (origin dest : BitVec 12) (hops : BitVec 4) (src dst : BitVec 12) (vh : BitVec 8) (ord : Fin 4)
    (seq : BitVec 16) (s : State) : Host.Outcome State Fault Refusal :=
  .next (s.onWhey ctl (fun s => s.grantRx ctl (envelope 0x26 2 origin dest hops
    (flowFields src.toNat dst.toNat vh.toNat ord ++ [(seq.toNat, 16)]))))

/-- FLOW_DENY (R154). -/
def execFlowDeny (ctl : Fin 72) (origin dest : BitVec 12) (hops : BitVec 4) (src dst : BitVec 12) (vh : BitVec 8) (ord : Fin 4) (s : State) :
    Host.Outcome State Fault Refusal :=
  .next (s.onWhey ctl (fun s => s.denyRx ctl (envelope 0x27 2 origin dest hops (flowFields src.toNat dst.toNat vh.toNat ord))))

/-- FLOW_ACK (R155): the flow key and EXPECT. -/
def execFlowAck (ctl : Fin 72) (origin dest : BitVec 12) (hops : BitVec 4) (src dst : BitVec 12) (vh : BitVec 8) (ord : Fin 4)
    (expected : BitVec 16) (s : State) : Host.Outcome State Fault Refusal :=
  .next (s.onWhey ctl (fun s => s.ackRx ctl (envelope 0x28 2 origin dest hops
    (flowFields src.toNat dst.toNat vh.toNat ord ++ [(expected.toNat, 16)]))))

/-- FLOW_CLOSE (R156): the flow key and the last sequence sent. -/
def execFlowClose (ctl : Fin 72) (origin dest : BitVec 12) (hops : BitVec 4) (src dst : BitVec 12) (vh : BitVec 8) (ord : Fin 4)
    (last : BitVec 16) (s : State) : Host.Outcome State Fault Refusal :=
  .next (s.onWhey ctl (fun s => s.closeRx ctl (envelope 0x29 2 origin dest hops
    (flowFields src.toNat dst.toNat vh.toNat ord ++ [(last.toNat, 16)]))))

/-- WFN (R214): the notice as its record, its source the origin. -/
def execWfn (ctl : Fin 72) (dest : BitVec 12) (hops : BitVec 4) (notice : Wfn) (s : State) : Host.Outcome State Fault Refusal :=
  .next (s.onWhey ctl (fun s => s.wfnRx ctl (envelope 0x30 2 (BitVec.ofNat 12 notice.src) dest hops (wfnFields notice)) false))

/-- WFN_FWD (R214). -/
def execWfnFwd (ctl : Fin 72) (dest : BitVec 12) (hops : BitVec 4) (notice : Wfn) (s : State) : Host.Outcome State Fault Refusal :=
  .next (s.onWhey ctl (fun s => s.wfnRx ctl (envelope 0x31 2 (BitVec.ofNat 12 notice.src) dest hops (wfnFields notice)) true))

/-- ACU_NOTICE (R422): VH, the VH end's binding, direction, write, bytes refused, and the request's header. -/
def execAcuNotice (ctl : Fin 72) (origin dest : BitVec 12) (hops : BitVec 4) (vh : BitVec 8) (binding : BitVec 12) (dir : Fin 4)
    (write : Bool) (len : BitVec 13) (header : BitVec 128) (s : State) : Host.Outcome State Fault Refusal :=
  .next (s.onWhey ctl (fun s => s.noticeRx ctl (envelope 0x32 2 origin dest hops
    [(vh.toNat, 8), (binding.toNat, 12), (dir.val, 2), (b2n write, 1), (len.toNat, 13), (header.toNat, 128)])))

/-- SETTLE_EXPIRY (R134). -/
def execSettleExpiry (s : State) : Host.Outcome State Fault Refusal := .next s.settleDue

/-- HEARTBEAT_TIMER (R135). -/
def execHeartbeatTimer (s : State) : Host.Outcome State Fault Refusal := .next s.heartbeatDue

/-- HEARTBEAT_LOSS (R135). -/
def execHeartbeatLoss (s : State) : Host.Outcome State Fault Refusal := .next s.heartbeatGone

/-- REFUSED_RETRY (R133). -/
def execRefusedRetry (s : State) : Host.Outcome State Fault Refusal := .next s.refusedDue

/-- FLOW_RETRY_EXPIRY (R154). -/
def execFlowRetryExpiry (dst : Fin 4096) (vh : BitVec 8) (ord : Fin 3) (s : State) : Host.Outcome State Fault Refusal :=
  .next (s.flowRetryDue (flowKey dst vh.toNat ord))

/-- FLOW_IDLE_EXPIRY (R156). -/
def execFlowIdleExpiry (dst : Fin 4096) (vh : BitVec 8) (ord : Fin 3) (s : State) : Host.Outcome State Fault Refusal :=
  .next (s.flowIdleDue (flowKey dst vh.toNat ord))

/-- FLOW_ACK_DEADLINE (R155), of a flow context. -/
def execFlowAckDeadline (ctx : Fin 4096) (s : State) : Host.Outcome State Fault Refusal := .next (s.flowAckDue ctx)

/-- RESEQ_HOLE_TIMEOUT (R157), of a flow context. -/
def execReseqHoleTimeout (ctx : Fin 4096) (s : State) : Host.Outcome State Fault Refusal := .next (s.holeDue ctx)

/-- RESEQ_SKEW_EXPIRY (R157), of a flow context. -/
def execReseqSkewExpiry (ctx : Fin 4096) (s : State) : Host.Outcome State Fault Refusal := .next (s.skewExpiry ctx)

/-- UNREACH_HOLD_EXPIRY (R149), of a held packet. -/
def execUnreachHoldExpiry (pkt : Nat) (s : State) : Host.Outcome State Fault Refusal := .next (s.unreachExpiry pkt)

/-- PIN_HOLD_RELEASE (R152), toward an FEID. -/
def execPinHoldRelease (feid : Fin 4096) (s : State) : Host.Outcome State Fault Refusal := .next (s.pinRelease feid)

end Sys2Proof.Machine
end

