-- ==== Sys2Proof/Machine/Requests.lean ====
section
/-! DEFINITION. Requests as they arrive at an edge port (R101, R105): the port's state, DROWSE and the ingress fence first, then
the lookup; and what the management PF and the functions of the data mover do with the requests that reach them (R10, R14). -/

namespace Sys2Proof.Machine

/-! ## Requests that reach a function of Kalnum's own (R10, R14, Table 11.7) -/

/-- The completer ID of a request to a function of Kalnum's own; at the device end of a remote binding it is left 0 (R420). -/
def State.fnCompleter (s : State) (q : FnRequest) : BitVec 16 :=
  if q.bi = 0xFFF then s.hostRid q.vh 0
  else
    let b := s.bind q.bi
    if s.isDeviceEnd b then 0 else s.hostRid b.vh b.vdsp

/-- One function access of `len` bytes at `off` lies in one word, or is a 64-bit access of two (R10): one of fewer than 5 bytes that
reaches into a second word crosses its boundary. -/
def wholeAccess (off len : Nat) : Bool :=
  (1 ≤ len && off % 4 + len ≤ 4) || (4 < len && off % 4 + len ≤ 8)

/-- The words a read of a function covers, in address order, and the state after it. -/
def State.fnWords (s : State) (fn off len : Nat) : List Byte × State :=
  let base := if fn = 0 then off / 4 * 4 else fnOffset fn off / 4 * 4
  s.readWords (if 4 < len then 2 else 1) base

/-- A function of the management PF or the data mover carries out a request (R10): an access within one word, or a 64-bit access as
two; any other, and any other kind of request, completes with Unsupported Request and is logged. -/
def State.fnServe (s : State) (q : FnRequest) : State :=
  let t := q.tlp
  let cid := s.fnCompleter q
  let off := q.off
  let fnOpt := if q.fn = 0 then none else some q.fn
  let back (s : State) (c : Tlp) : State := s.answer q.inPort q.vh q.bi c
  let refused (s : State) : State :=
    let s1 := s.aerLog (if q.bi = 0xFFF then .mgmtPf else .fn (s.bind q.bi).vh (s.bind q.bi).vdsp) .unsupportedRequest true t.header
    s1.whenb t.kind.nonPosted (fun s => back s (mkCpl q.orig .ur cid t.asked t.addr))
  let s1 :=
    if t.kind = .mwr && wholeAccess off t.len then
      let be := if t.len = 8 then t.be.toNat
        else if 4 < t.len then (2 ^ t.len - 1) * 2 ^ (off % 4)
        else bits (Nat.land ((2 ^ t.len - 1) * 2 ^ (off % 4)) (t.be.toNat % 16)) 0 4
      s.access fnOpt off be (leNat t.data * 2 ^ (8 * (off % 4)))
    else if (t.kind = .mrd || t.kind = .mrdLk) && wholeAccess off (max 1 t.len) then
      let n := max 1 t.len
      let (l, s1) := s.fnWords q.fn off n
      let d := (l.drop (off % 4)).take n
      back s1 { mkCpl q.orig .sc cid (n + q.tail) t.addr with len := n, data := d }
    else refused s
  let s2 := s1.whenb (q.tail != 0) (fun s => (back s (mkCpl q.orig .ur cid q.tail (t.addr + t.len))).bump R.ACU_TAIL_CNT)
  s2.poolEvents

/-- Carry out every request that has reached a function, in order of arrival. -/
def State.serviceRun (s : State) : State :=
  let l := s.svc.inbox
  (s.onSvc (fun y => { y with inbox := [] })).each l State.fnServe

/-! ## The ingress fence (R220) -/

/-- What the ingress fence does with a request: a posted one is discarded, a non-posted one answered with UR built from its
header. -/
def State.fenced (s : State) (p : Nat) (t : Tlp) : State := (s.refuse p p 0xFFF t .ur 0).poolEvents

/-! ## Configuration requests at a host-edge port (R93, R106, R220) -/

/-- The function of the host view that answers to an ID. -/
def State.unitAt (s : State) (v : Nat) (id : BitVec 16) : Option HostUnit :=
  if id = s.vuspId v then some .vusp
  else match (List.range 64).find? (fun i => s.unitPresent v (.vdsp i) && s.vdspId v i == id) with
    | some i => some (.vdsp i)
    | none => ((List.range 64).find? (fun i => s.unitPresent v (.fn i) && s.hostRid v i == id)).map HostUnit.fn

/-- An odd-numbered vDSP exists on the secondary bus of a VH (R93). -/
def State.oddVdsp (s : State) (v : Nat) : Bool := (List.range 64).any (fun i => i % 2 == 1 && s.unitPresent v (.vdsp i))

/-- Words of the Type 1 header of the vUSP and of a vDSP (R7, R93): identifiers, the header type with the Multi-Function Device bit of
the devices on the secondary bus, and the subsystem identifiers.  PRESUMED places: the PCI Express Base Specification
(notes/assumptions/20); DESIGN CHOICE (notes/assumptions/69): the subsystem identifier capability stands at 0x40. -/
def State.bridgeWord (s : State) (v : Nat) (u : HostUnit) (off : Nat) : Option Nat :=
  let up := u = .vusp
  match off with
  | 0x00 => some (0x7E1D + 2 ^ 16 * (if up then 0x0288 else 0x0289))
  | 0x08 => some (0x060400A1)
  | 0x0C => some (2 ^ 16 * (1 + 0x80 * b2n (!up && s.oddVdsp v)))
  | 0x34 => some 0x40
  | 0x40 => some (0x0D + 2 ^ 8 * (s.free % 256))
  | 0x44 => some (s.sec.subsystem.getD 0 0x7E1D + 2 ^ 16 * s.sec.subsystem.getD (if up then 1 else 2) (if up then 0x0288 else 0x0289))
  | 0x18 => some (s.host v u .primaryBus % 256 + 2 ^ 8 * (s.host v u .secondaryBus % 256) + 2 ^ 16 * (s.host v u .subordinateBus % 256))
  | _ => none

/-- Words of the DVSECs that every vDSP carries: Slot Telemetry (Table 14.5), Binding (Table 4.10), Posted-Failure Log (Table
7.9). -/
def State.dvsecWord (s : State) (v i off : Nat) : Option Nat :=
  let bi := s.bindingOf v i
  let b : Bind := (bi.map s.bind).getD 0
  let guarded := b.kind = 2 || (b.kind = 0 && (s.guardOf b.port).isSome)
  let word (d : Nat) (nxt : Nat) : Nat := match d with
    | 0 => 0x23 + 2 ^ 16 + 2 ^ 20 * nxt
    | _ => 0x7E1D
  match off with
  | 0x3E0 => some (word 0 0x400)
  | 0x3E4 => some (word 1 0 + 2 ^ 20 * 0x00C)
  | 0x3E8 => some (3 + 2 ^ 16 * (if bi.isSome && guarded then (bi.bind (fun k => look k s.spg.telem)).getD 0 else 0))
  | 0x400 => some (word 0 0x420)
  | 0x404 => some (word 1 0 + 2 ^ 20 * 0x018)
  | 0x408 => some (1 + (match bi with
      | none => 2 ^ 16 * 7
      | some k => 2 ^ 16 * b.kind + 2 ^ 19 * s.bindState k + 2 ^ 22 * s.fld F.BND_BIND_STATE.SUSPEND_CAUSE k +
          2 ^ 25 * b2n b.identity + 2 ^ 26 * b2n b.idePass + 2 ^ 27 * b2n b.traceEn))
  | 0x40C => some ((if b.isRemote then b.feid else 0) + 2 ^ 12 * (if b.kind = 4 then b.ldId else 0))
  | 0x410 => some (s.host v (.vdsp i) .bindGen % 65536)
  | 0x414 => some (bi.getD 0)
  | 0x420 => some (word 0 0)
  | 0x424 => some (word 1 0 + 2 ^ 20 * 0x034)
  | 0x428 => some (2 + 2 ^ 16 * s.fld F.ERR_PFL_IDX.PROD v + 2 ^ 22 * s.fld F.ERR_PFL_IDX.LOST v)
  | 0x42C => some (s.fld F.ERR_PFL_IDX.CONS v + 2 ^ 8 * b2n (s.hostOn v .vusp .pflIntEn))
  | 0x430 => some (s.host v .vusp .pflIndex % 64)
  | _ => if 0x434 ≤ off && off < 0x454 then some (bodyNat (s.pflBytes v (s.host v .vusp .pflIndex % 64)) (off - 0x434) 4) else none

/-- What the spec places in the configuration space of the vUSP or a vDSP. -/
def State.placedWord (s : State) (v : Nat) (u : HostUnit) (off : Nat) : Option Nat :=
  match u with
  | .vdsp i => (s.bridgeWord v u off).orElse (fun _ => s.dvsecWord v i off)
  | _ => s.bridgeWord v u off

/-- A configuration request to a function Kalnum itself shows: where it may not be answered now its status says so; a read of the
vUSP or a vDSP returns the word the spec places there, elsewhere a free value (notes/assumptions/16), and every other request goes to Malacel, which the commands HOST_CFG_WRITE
and CFG_PROXY_REQUEST answer. -/
def State.ownConfig (s : State) (v : Nat) (u : HostUnit) (t : Tlp) : State :=
  let st := s.cfgStatus v u
  let id := s.cfgCompleter v u st
  if st ≠ .sc then (s.refuse v v 0xFFF t st id).poolEvents
  else match t.kind, u with
    | .cfgrd, .vusp | .cfgrd, .vdsp _ =>
      let w := s.placedWord v u (t.addr % 4096 / 4 * 4)
      ((if w.isSome && t.addr % 4096 / 4 ≠ 0x10 then s else s.drew).own v v 0xFFF { mkCpl t .sc id 4 0 with len := 4, data := leBytes 4 (w.getD (s.free % 2 ^ 32)) }).poolEvents
    | _, _ => s.emit (.service 144 t)

/-- A configuration request from a host: Kalnum's own functions answer theirs, a port binding passes it on (R93, R101); nothing
answers for an ID that is nowhere. -/
def State.configRequest (s : State) (v : Nat) (t : Tlp) : State :=
  if !s.vhActive v then s
  else match s.unitAt v t.target with
    | some u => s.ownConfig v u t
    | none =>
      let port := (s.vdspOfBus v (t.target.toNat / 256)).bind (fun i => (s.bindingOf v i).filter (fun bi => (s.bind bi).isPortKind))
      if s.flag F.ERR_STATUS.FENCE then s.fenced v t
      else if port.isSome then s.hostRequest v t
      else (s.refuse v v 0xFFF t .ur (s.vuspId v)).poolEvents

/-! ## Arrival -/

/-- The port hears a request: its link is up, its role is the one named, and Kalnum is out of RESET and BOOT. -/
def State.hearsTlp (s : State) (p : Nat) (host : Bool) : Bool :=
  s.linkUp p && (if host then s.isHostEdge p else s.isPoolEdge p) && s.mode != .reset && s.mode != .boot

/-- A request from a host at its host-edge port (R101); behind the fence only the management PF and configuration answer (R220). -/
def State.hostNow (s0 : State) (p : Nat) (t : Tlp) : State :=
  let s := s0.tlpArrives p
  if t.kind = .cfgrd || t.kind = .cfgwr then s.configRequest p t
  else if s.flag F.ERR_STATUS.FENCE then
    (if s.toPf p 0 t && s.claims p t.addr false == some 0 then s.pfRequest p t else s.fenced p t)
  else s.hostRequest p t

/-- A request from a target at its pool-edge port (R104, R105). -/
def State.targetNow (s0 : State) (p : Nat) (t : Tlp) : State :=
  let s := s0.tlpArrives p
  if s.flag F.ERR_STATUS.FENCE then s.fenced p t else s.targetRequest p t

/-- A request at an edge port, taken now. -/
def State.requestNow (s : State) (p : Nat) (t : Tlp) : State :=
  let s1 := if s.isHostEdge p then s.hostNow p t else s.targetNow p t
  s1.serviceRun.dmRun

/-- Requests that a wake held in their ports go on, in order of arrival (R331). -/
def State.releaseRequests (s : State) : State :=
  if s.mode = .drowse || s.pwr.heldReq.isEmpty then s
  else
    let l := s.pwr.heldReq
    (s.onPwr (fun y => { y with heldReq := [] })).each l (fun s e => s.whenb (s.hearsTlp e.1 (s.isHostEdge e.1)) (fun s => s.requestNow e.1 e.2))

/-- A request arrives at an edge port of a role; in DROWSE its port leaves L1.2, which wakes Kalnum, and holds it (R331). -/
def State.requestRx (s : State) (p : Nat) (host : Bool) (t : Tlp) : State :=
  if !s.hearsTlp p host then s
  else if s.mode = .drowse then
    ((s.lowPowerExit p).wakeBy 1 p).onPwr (fun y => { y with heldReq := y.heldReq ++ [(p, t)] })
  else s.releaseRequests.requestNow p t

/-! ## The commands -/

/-- HOST_REQUEST_RX (R101). -/
def execHostRequestRx (port : Fin 144) (t : Tlp) (s : State) : Host.Outcome State Fault Refusal :=
  if t.wellFormed && t.kind.ord != .completion then .next (s.requestRx port true t) else .fault .illFormed

/-- TARGET_REQUEST_RX (R105). -/
def execTargetRequestRx (port : Fin 144) (t : Tlp) (s : State) : Host.Outcome State Fault Refusal :=
  if t.wellFormed && t.kind.ord != .completion then .next (s.requestRx port false t) else .fault .illFormed

end Sys2Proof.Machine
end

