-- ==== Sys2Proof/Machine/Tap.lean ====
section
/-! DEFINITION. The test access port (R412). -/

namespace Sys2Proof.Machine

/-- IDCODE. -/
def idcode : BitVec 32 := 0x102887AB

/-- The bits of a word, least significant first. -/
def wordBits (w : BitVec 32) : List Bool := (List.range 32).map w.getLsbD

/-- Load an instruction. -/
def State.tapLoad (s : State) (i : TapInstr) : State := s.onPins (fun p => { p with tap := i })

/-- Shift through the bypass register: it captures 0, so the data comes out one bit late. -/
def State.tapBypass (s : State) (tdi : List Bool) : State :=
  (s.onPins (fun p => { p with tap := .bypass, bypass := tdi.getLastD false })).emit (.tdo ((false :: tdi).take tdi.length))

/-- An instruction that takes effect only while PERST_N is asserted, and acts as BYPASS at any other time (R412). -/
def State.tapGuarded (s : State) (i : TapInstr) (tdi : List Bool) (f : State → State) : State :=
  if s.pins.perst then f (s.tapLoad i) else (s.tapBypass tdi).tapLoad i

/-- The boundary register shifts: what it captured goes out, and what is shifted in is what it then drives. -/
def State.tapBoundary (s : State) (captured update : List Bool) : State :=
  (s.onPins (fun p => { p with captured := captured, boundary := update })).emit (.tdo captured)

/-- What the test access port does to the output pads. -/
inductive PadMode where
  /-- The pads follow Kalnum. -/
  | functional
  /-- The boundary register drives them. -/
  | driven
  | highZ
  deriving DecidableEq, Repr

/-- The instruction the port acts on now: when PERST_N is released, one that needs it acts as BYPASS (R412). -/
def State.tapActs (s : State) : TapInstr :=
  match s.pins.tap with
  | .extest | .clamp | .highz | .extestPulse | .extestTrain => if s.pins.perst then s.pins.tap else .bypass
  | i => i

/-- The output pads under the instruction in force (IEEE 1149.1 as R412 names it). -/
def State.padMode (s : State) : PadMode :=
  match s.tapActs with
  | .extest | .clamp | .extestPulse | .extestTrain => .driven
  | .highz => .highZ
  | .bypass | .idcode | .sample => .functional

/-! ## The commands -/

/-- TAP_RESET (R412): the instruction becomes IDCODE, as IEEE 1149.1 has it (PRESUMED, notes/assumptions/20). -/
def execTapReset (s : State) : Host.Outcome State Fault Refusal := .next (s.tapLoad .idcode)

/-- TAP_BYPASS (R412), with the bits shifted in. -/
def execTapBypass (tdi : List Bool) (s : State) : Host.Outcome State Fault Refusal := .next (s.tapBypass tdi)

/-- TAP_IDCODE (R412): 32 bits, the least significant first. -/
def execTapIdcode (s : State) : Host.Outcome State Fault Refusal := .next ((s.tapLoad .idcode).emit (.tdo (wordBits idcode)))

/-- TAP_SAMPLE_PRELOAD (R412): the pins as captured, and the bits preloaded. -/
def execTapSamplePreload (pins preload : List Bool) (s : State) : Host.Outcome State Fault Refusal :=
  .next ((s.tapLoad .sample).tapBoundary pins preload)

/-- TAP_EXTEST (R412). -/
def execTapExtest (pins update : List Bool) (s : State) : Host.Outcome State Fault Refusal :=
  .next (s.tapGuarded .extest update (fun s => s.tapBoundary pins update))

/-- TAP_CLAMP (R412): the bypass register stands between TDI and TDO. -/
def execTapClamp (tdi : List Bool) (s : State) : Host.Outcome State Fault Refusal :=
  .next (s.tapGuarded .clamp tdi (fun s => (s.tapBypass tdi).tapLoad .clamp))

/-- TAP_HIGHZ (R412). -/
def execTapHighz (tdi : List Bool) (s : State) : Host.Outcome State Fault Refusal :=
  .next (s.tapGuarded .highz tdi (fun s => (s.tapBypass tdi).tapLoad .highz))

/-- TAP_EXTEST_PULSE (R412), on the lane balls. -/
def execTapExtestPulse (pins update : List Bool) (s : State) : Host.Outcome State Fault Refusal :=
  .next (s.tapGuarded .extestPulse update (fun s => s.tapBoundary pins update))

/-- TAP_EXTEST_TRAIN (R412), on the lane balls. -/
def execTapExtestTrain (pins update : List Bool) (s : State) : Host.Outcome State Fault Refusal :=
  .next (s.tapGuarded .extestTrain update (fun s => s.tapBoundary pins update))

end Sys2Proof.Machine
end

