-- ==== Sys2Proof/Machine/Dispatch.lean ====
section
/-! DEFINITION. The one table of meanings: an arm per command. -/

namespace Sys2Proof.Machine

/-- The effect of a command on everything but the queue. -/
def exec (i : Instr) (s : State) : Host.Outcome State Fault Refusal :=
  match i with
  | .registerWrite fn off be data => Sys2Proof.Machine.execRegisterWrite fn off be data s
  | .tableWindowWrite off be value => Sys2Proof.Machine.execTableWindowWrite off be value s
  | .counterLoRead off => Sys2Proof.Machine.execCounterLoRead off s
  | .hwmRead off => Sys2Proof.Machine.execHwmRead off s
  | .prbsInj lane => Sys2Proof.Machine.execPrbsInj lane s
  | .prbsClr lane errored => Sys2Proof.Machine.execPrbsClr lane errored s
  | .portTestWrite port on => Sys2Proof.Machine.execPortTestWrite port on s
  | .rxadaptCtrlWrite lane value => Sys2Proof.Machine.execRxadaptCtrlWrite lane value s
  | .qosGclChange port => Sys2Proof.Machine.execQosGclChange port s
  | .fvValidClear => Sys2Proof.Machine.execFvValidClear s
  | .dbgFvValidClear => Sys2Proof.Machine.execDbgFvValidClear s
  | .dbgTokenWrite w value => Sys2Proof.Machine.execDbgTokenWrite w value s
  | .dbgVerify => Sys2Proof.Machine.execDbgVerify s
  | .dbgRelock => Sys2Proof.Machine.execDbgRelock s
  | .dbgClrToken => Sys2Proof.Machine.execDbgClrToken s
  | .tokenVerifyDone => Sys2Proof.Machine.execTokenVerifyDone s
  | .pwrTbSet hi => Sys2Proof.Machine.execPwrTbSet hi s
  | .qDescTailWrite fn q tail => Sys2Proof.Machine.execQDescTailWrite fn q tail s
  | .qEnable fn q => Sys2Proof.Machine.execQEnable fn q s
  | .qDisable fn q => Sys2Proof.Machine.execQDisable fn q s
  | .qCplHeadWrite fn q head => Sys2Proof.Machine.execQCplHeadWrite fn q head s
  | .tsEnable fn slot => Sys2Proof.Machine.execTsEnable fn slot s
  | .tsDisable fn slot => Sys2Proof.Machine.execTsDisable fn slot s
  | .tsSwap fn slot => Sys2Proof.Machine.execTsSwap fn slot s
  | .crbReqDoorbell tail be => Sys2Proof.Machine.execCrbReqDoorbell tail be s
  | .crbRplHeadWrite head => Sys2Proof.Machine.execCrbRplHeadWrite head s
  | .crbRingEnable req rpl evt on => Sys2Proof.Machine.execCrbRingEnable req rpl evt on s
  | .crbRingReset => Sys2Proof.Machine.execCrbRingReset s
  | .mctpMessage medium eid bytes => Sys2Proof.Machine.execMctpMessage medium eid bytes s
  | .crbFrag link origin body => Sys2Proof.Machine.execCrbFrag link origin body s
  | .crbAbort origin msgId => Sys2Proof.Machine.execCrbAbort origin msgId s
  | .crbReassemblyTimeout origin msgId => Sys2Proof.Machine.execCrbReassemblyTimeout origin msgId s
  | .malacelReady => Sys2Proof.Machine.execMalacelReady s
  | .getInfo q => Sys2Proof.Machine.execGetInfo q s
  | .getMode q => Sys2Proof.Machine.execGetMode q s
  | .echo q => Sys2Proof.Machine.execEcho q s
  | .readReg q => Sys2Proof.Machine.execReadReg q s
  | .writeReg q => Sys2Proof.Machine.execWriteReg q s
  | .resetDevice q => Sys2Proof.Machine.execResetDevice q s
  | .getBoardRecord q => Sys2Proof.Machine.execGetBoardRecord q s
  | .setBoardRecord q => Sys2Proof.Machine.execSetBoardRecord q s
  | .subscribe q => Sys2Proof.Machine.execSubscribe q s
  | .unsubscribe q => Sys2Proof.Machine.execUnsubscribe q s
  | .getTimebase q => Sys2Proof.Machine.execGetTimebase q s
  | .setChurn q => Sys2Proof.Machine.execSetChurn q s
  | .setRotation q => Sys2Proof.Machine.execSetRotation q s
  | .getPort q => Sys2Proof.Machine.execGetPort q s
  | .setCluster q => Sys2Proof.Machine.execSetCluster q s
  | .getCluster q => Sys2Proof.Machine.execGetCluster q s
  | .portEnable q => Sys2Proof.Machine.execPortEnable q s
  | .setRole q => Sys2Proof.Machine.execSetRole q s
  | .recalibrate q => Sys2Proof.Machine.execRecalibrate q s
  | .margin q => Sys2Proof.Machine.execMargin q s
  | .getLane q => Sys2Proof.Machine.execGetLane q s
  | .setLinkIndex q => Sys2Proof.Machine.execSetLinkIndex q s
  | .setKfl q => Sys2Proof.Machine.execSetKfl q s
  | .kflDisable q => Sys2Proof.Machine.execKflDisable q s
  | .getKfl q => Sys2Proof.Machine.execGetKfl q s
  | .setPortPool q => Sys2Proof.Machine.execSetPortPool q s
  | .sessionOpen q => Sys2Proof.Machine.execSessionOpen q s
  | .commit q => Sys2Proof.Machine.execCommit q s
  | .sessionAbort q => Sys2Proof.Machine.execSessionAbort q s
  | .quiesce q => Sys2Proof.Machine.execQuiesce q s
  | .writeEntry q => Sys2Proof.Machine.execWriteEntry q s
  | .readEntry q => Sys2Proof.Machine.execReadEntry q s
  | .bind q => Sys2Proof.Machine.execBind q s
  | .unbind q => Sys2Proof.Machine.execUnbind q s
  | .resumeBinding q => Sys2Proof.Machine.execResumeBinding q s
  | .resetBinding q => Sys2Proof.Machine.execResetBinding q s
  | .getBinding q => Sys2Proof.Machine.execGetBinding q s
  | .setVhTags q => Sys2Proof.Machine.execSetVhTags q s
  | .setMgmtVh q => Sys2Proof.Machine.execSetMgmtVh q s
  | .setTrkTimeout q => Sys2Proof.Machine.execSetTrkTimeout q s
  | .getVh q => Sys2Proof.Machine.execGetVh q s
  | .cxlFm q => Sys2Proof.Machine.execCxlFm q s
  | .setFabric q => Sys2Proof.Machine.execSetFabric q s
  | .getFabric q => Sys2Proof.Machine.execGetFabric q s
  | .getMembers q => Sys2Proof.Machine.execGetMembers q s
  | .setFabTimers q => Sys2Proof.Machine.execSetFabTimers q s
  | .getFlow q => Sys2Proof.Machine.execGetFlow q s
  | .setPolicer q => Sys2Proof.Machine.execSetPolicer q s
  | .getPolicer q => Sys2Proof.Machine.execGetPolicer q s
  | .setNode q => Sys2Proof.Machine.execSetNode q s
  | .setQueue q => Sys2Proof.Machine.execSetQueue q s
  | .setPortShaper q => Sys2Proof.Machine.execSetPortShaper q s
  | .writeGcl q => Sys2Proof.Machine.execWriteGcl q s
  | .gclChange q => Sys2Proof.Machine.execGclChange q s
  | .setQos q => Sys2Proof.Machine.execSetQos q s
  | .setAcu q => Sys2Proof.Machine.execSetAcu q s
  | .getViolation q => Sys2Proof.Machine.execGetViolation q s
  | .clearViolation q => Sys2Proof.Machine.execClearViolation q s
  | .getSlot q => Sys2Proof.Machine.execGetSlot q s
  | .setSlot q => Sys2Proof.Machine.execSetSlot q s
  | .slotPower q => Sys2Proof.Machine.execSlotPower q s
  | .clearLockout q => Sys2Proof.Machine.execClearLockout q s
  | .setSlotCap q => Sys2Proof.Machine.execSetSlotCap q s
  | .setIndicators q => Sys2Proof.Machine.execSetIndicators q s
  | .getCert q => Sys2Proof.Machine.execGetCert q s
  | .getMeasurements q => Sys2Proof.Machine.execGetMeasurements q s
  | .tokenWrite q => Sys2Proof.Machine.execTokenWrite q s
  | .tokenVerify q => Sys2Proof.Machine.execTokenVerify q s
  | .relock q => Sys2Proof.Machine.execRelock q s
  | .fwBegin q => Sys2Proof.Machine.execFwBegin q s
  | .fwWrite q => Sys2Proof.Machine.execFwWrite q s
  | .fwFinish q => Sys2Proof.Machine.execFwFinish q s
  | .fwSelect q => Sys2Proof.Machine.execFwSelect q s
  | .getFw q => Sys2Proof.Machine.execGetFw q s
  | .setMode q => Sys2Proof.Machine.execSetMode q s
  | .getPower q => Sys2Proof.Machine.execGetPower q s
  | .setVoltPolicy q => Sys2Proof.Machine.execSetVoltPolicy q s
  | .getDrowseStats q => Sys2Proof.Machine.execGetDrowseStats q s
  | .setGating q => Sys2Proof.Machine.execSetGating q s
  | .getCoreDelay q => Sys2Proof.Machine.execGetCoreDelay q s
  | .selfTest q => Sys2Proof.Machine.execSelfTest q s
  | .testBank q => Sys2Proof.Machine.execTestBank q s
  | .injectError q => Sys2Proof.Machine.execInjectError q s
  | .getWatchdog q => Sys2Proof.Machine.execGetWatchdog q s
  | .queueAssign q => Sys2Proof.Machine.execQueueAssign q s
  | .queueRelease q => Sys2Proof.Machine.execQueueRelease q s
  | .vectorAssign q => Sys2Proof.Machine.execVectorAssign q s
  | .vectorRelease q => Sys2Proof.Machine.execVectorRelease q s
  | .setShare q => Sys2Proof.Machine.execSetShare q s
  | .traceAssign q => Sys2Proof.Machine.execTraceAssign q s
  | .traceRelease q => Sys2Proof.Machine.execTraceRelease q s
  | .setDm q => Sys2Proof.Machine.execSetDm q s
  | .getDm q => Sys2Proof.Machine.execGetDm q s
  | .readJournal q => Sys2Proof.Machine.execReadJournal q s
  | .readFlashJournal q => Sys2Proof.Machine.execReadFlashJournal q s
  | .readCounters q => Sys2Proof.Machine.execReadCounters q s
  | .clearCounters q => Sys2Proof.Machine.execClearCounters q s
  | .readPfl q => Sys2Proof.Machine.execReadPfl q s
  | .setErr q => Sys2Proof.Machine.execSetErr q s
  | .hostCfgWrite vh unit field value rid tag => Sys2Proof.Machine.execHostCfgWrite vh unit field value rid tag s
  | .cfgProxyRequest vh vdsp offset write field rid tag => Sys2Proof.Machine.execCfgProxyRequest vh vdsp offset write field rid tag s
  | .cfgProxyTimeout tag => Sys2Proof.Machine.execCfgProxyTimeout tag s
  | .hostFlrWrite vh vdsp rid tag => Sys2Proof.Machine.execHostFlrWrite vh vdsp rid tag s
  | .hostPowerCtrlWrite vh vdsp off rid tag => Sys2Proof.Machine.execHostPowerCtrlWrite vh vdsp off rid tag s
  | .secondaryBusReset vh vdsp rid tag => Sys2Proof.Machine.execSecondaryBusReset vh vdsp rid tag s
  | .dpcSwTrigger vh vdsp rid tag => Sys2Proof.Machine.execDpcSwTrigger vh vdsp rid tag s
  | .dpcStatusClear vh vdsp rid tag => Sys2Proof.Machine.execDpcStatusClear vh vdsp rid tag s
  | .pflConsWrite vh vdsp cons rid tag => Sys2Proof.Machine.execPflConsWrite vh vdsp cons rid tag s
  | .hostRequestRx port t => Sys2Proof.Machine.execHostRequestRx port t s
  | .targetRequestRx port t => Sys2Proof.Machine.execTargetRequestRx port t s
  | .completionRx port t => Sys2Proof.Machine.execCompletionRx port t s
  | .targetErrorMessage port t unc cor header => Sys2Proof.Machine.execTargetErrorMessage port t unc cor header s
  | .fabricPacketRx port f => Sys2Proof.Machine.execFabricPacketRx port f s
  | .sidebandItemRx src binding signal level value => Sys2Proof.Machine.execSidebandItemRx src binding signal level value s
  | .egressSelect port credit ecc => Sys2Proof.Machine.execEgressSelect port credit ecc s
  | .egressReadDone port pkt => Sys2Proof.Machine.execEgressReadDone port pkt s
  | .creditGrant port cls heads bytes => Sys2Proof.Machine.execCreditGrant port cls heads bytes s
  | .trackerEntryAvailable => Sys2Proof.Machine.execTrackerEntryAvailable s
  | .policerHoldRelease policer nonPosted => Sys2Proof.Machine.execPolicerHoldRelease policer nonPosted s
  | .mcStrikeSweep => Sys2Proof.Machine.execMcStrikeSweep s
  | .mcResidueTimeout pkt => Sys2Proof.Machine.execMcResidueTimeout pkt s
  | .mcRecharge pkt => Sys2Proof.Machine.execMcRecharge pkt s
  | .bankRotationStep => Sys2Proof.Machine.execBankRotationStep s
  | .bankDrainTimeout bank => Sys2Proof.Machine.execBankDrainTimeout bank s
  | .bankMigrationDone bank => Sys2Proof.Machine.execBankMigrationDone bank s
  | .bankTestDone bank pass => Sys2Proof.Machine.execBankTestDone bank pass s
  | .linkUp port rate width flit cxl rev serials ffe => Sys2Proof.Machine.execLinkUp port rate width flit cxl rev serials ffe s
  | .poolEdgeLinkDown port removed => Sys2Proof.Machine.execPoolEdgeLinkDown port removed s
  | .vhResetEvent port dlDown => Sys2Proof.Machine.execVhResetEvent port dlDown s
  | .vhResetDone vh => Sys2Proof.Machine.execVhResetDone vh s
  | .bindingResetDone binding noReset => Sys2Proof.Machine.execBindingResetDone binding noReset s
  | .bindingResetTimeout binding => Sys2Proof.Machine.execBindingResetTimeout binding s
  | .orderlyUnbindTimeout binding => Sys2Proof.Machine.execOrderlyUnbindTimeout binding s
  | .rateChange port rate cxl => Sys2Proof.Machine.execRateChange port rate cxl s
  | .l0pWidthRequest port width => Sys2Proof.Machine.execL0pWidthRequest port width s
  | .aspmL1Entry port lpstate permitted forced => Sys2Proof.Machine.execAspmL1Entry port lpstate permitted forced s
  | .lowPowerExit port => Sys2Proof.Machine.execLowPowerExit port s
  | .refclkLoss cluster => Sys2Proof.Machine.execRefclkLoss cluster s
  | .refclkReturn cluster => Sys2Proof.Machine.execRefclkReturn cluster s
  | .marginCommandRx port lane type payload => Sys2Proof.Machine.execMarginCommandRx port lane type payload s
  | .marginDone port steps => Sys2Proof.Machine.execMarginDone port steps s
  | .recalHalfDone port => Sys2Proof.Machine.execRecalHalfDone port s
  | .kflFlitRx ctl first lanes levels age deleted => Sys2Proof.Machine.execKflFlitRx ctl first lanes levels age deleted s
  | .kflFlitTx ctl => Sys2Proof.Machine.execKflFlitTx ctl s
  | .laneMarkerRx ctl set => Sys2Proof.Machine.execLaneMarkerRx ctl set s
  | .ktsBlockRx ctl lane block laneOk done req skewPs => Sys2Proof.Machine.execKtsBlockRx ctl lane block laneOk done req skewPs s
  | .trainingTimeout ctl => Sys2Proof.Machine.execTrainingTimeout ctl s
  | .trainingRetry ctl => Sys2Proof.Machine.execTrainingRetry ctl s
  | .replayTimerExpiry ctl => Sys2Proof.Machine.execReplayTimerExpiry ctl s
  | .creditTimerExpiry ctl counter => Sys2Proof.Machine.execCreditTimerExpiry ctl counter s
  | .recoveryTimeout ctl => Sys2Proof.Machine.execRecoveryTimeout ctl s
  | .shedReq ctl mask token => Sys2Proof.Machine.execShedReq ctl mask token s
  | .shedAck ctl token result => Sys2Proof.Machine.execShedAck ctl token result s
  | .restoreReq ctl mask token => Sys2Proof.Machine.execRestoreReq ctl mask token s
  | .restoreAck ctl token result => Sys2Proof.Machine.execRestoreAck ctl token result s
  | .shedAckTimeout ctl => Sys2Proof.Machine.execShedAckTimeout ctl s
  | .lpReq ctl deep token => Sys2Proof.Machine.execLpReq ctl deep token s
  | .lpAck ctl token result => Sys2Proof.Machine.execLpAck ctl token result s
  | .kflIdleTimer ctl => Sys2Proof.Machine.execKflIdleTimer ctl s
  | .timeReq ctl t1 => Sys2Proof.Machine.execTimeReq ctl t1 s
  | .timeResp ctl t1 t2 t3 => Sys2Proof.Machine.execTimeResp ctl t1 t2 t3 s
  | .timeReqInterval ctl => Sys2Proof.Machine.execTimeReqInterval ctl s
  | .linkDown ctl _reason => Sys2Proof.Machine.execLinkDown ctl _reason s
  | .orderlyDrainTimeout ctl => Sys2Proof.Machine.execOrderlyDrainTimeout ctl s
  | .hello ctl serial feid elig lead term link => Sys2Proof.Machine.execHello ctl serial feid elig lead term link s
  | .leadClaim ctl origin hops feid serial term seq => Sys2Proof.Machine.execLeadClaim ctl origin hops feid serial term seq s
  | .heartbeat ctl origin hops lead term seq members => Sys2Proof.Machine.execHeartbeat ctl origin hops lead term seq members s
  | .joinReq ctl origin dest hops serial feid elig => Sys2Proof.Machine.execJoinReq ctl origin dest hops serial feid elig s
  | .joinReply ctl origin dest hops serial result feid => Sys2Proof.Machine.execJoinReply ctl origin dest hops serial result feid s
  | .topoReport ctl origin dest hops link state peer => Sys2Proof.Machine.execTopoReport ctl origin dest hops link state peer s
  | .flowGrant ctl origin dest hops src dst vh ord seq => Sys2Proof.Machine.execFlowGrant ctl origin dest hops src dst vh ord seq s
  | .flowDeny ctl origin dest hops src dst vh ord => Sys2Proof.Machine.execFlowDeny ctl origin dest hops src dst vh ord s
  | .flowAck ctl origin dest hops src dst vh ord expected => Sys2Proof.Machine.execFlowAck ctl origin dest hops src dst vh ord expected s
  | .flowClose ctl origin dest hops src dst vh ord last => Sys2Proof.Machine.execFlowClose ctl origin dest hops src dst vh ord last s
  | .wfn ctl dest hops notice => Sys2Proof.Machine.execWfn ctl dest hops notice s
  | .wfnFwd ctl dest hops notice => Sys2Proof.Machine.execWfnFwd ctl dest hops notice s
  | .acuNotice ctl origin dest hops vh binding dir write len header => Sys2Proof.Machine.execAcuNotice ctl origin dest hops vh binding dir write len header s
  | .settleExpiry => Sys2Proof.Machine.execSettleExpiry s
  | .heartbeatTimer => Sys2Proof.Machine.execHeartbeatTimer s
  | .heartbeatLoss => Sys2Proof.Machine.execHeartbeatLoss s
  | .refusedRetry => Sys2Proof.Machine.execRefusedRetry s
  | .flowRetryExpiry dst vh ord => Sys2Proof.Machine.execFlowRetryExpiry dst vh ord s
  | .flowIdleExpiry dst vh ord => Sys2Proof.Machine.execFlowIdleExpiry dst vh ord s
  | .flowAckDeadline ctx => Sys2Proof.Machine.execFlowAckDeadline ctx s
  | .reseqHoleTimeout ctx => Sys2Proof.Machine.execReseqHoleTimeout ctx s
  | .reseqSkewExpiry ctx => Sys2Proof.Machine.execReseqSkewExpiry ctx s
  | .unreachHoldExpiry pkt => Sys2Proof.Machine.execUnreachHoldExpiry pkt s
  | .pinHoldRelease feid => Sys2Proof.Machine.execPinHoldRelease feid s
  | .wfnHoldoffExpiry src vh binding reason => Sys2Proof.Machine.execWfnHoldoffExpiry src vh binding reason s
  | .trackerTimeout rid tag => Sys2Proof.Machine.execTrackerTimeout rid tag s
  | .quarantineEnd => Sys2Proof.Machine.execQuarantineEnd s
  | .sessionTimeout => Sys2Proof.Machine.execSessionTimeout s
  | .commitValidated found => Sys2Proof.Machine.execCommitValidated found s
  | .shadowCopyDone => Sys2Proof.Machine.execShadowCopyDone s
  | .quiesceDone => Sys2Proof.Machine.execQuiesceDone s
  | .quiesceLimit => Sys2Proof.Machine.execQuiesceLimit s
  | .watchdogFire u => Sys2Proof.Machine.execWatchdogFire u s
  | .starveGuardExpiry port node cls => Sys2Proof.Machine.execStarveGuardExpiry port node cls s
  | .gateEntryAdvance port => Sys2Proof.Machine.execGateEntryAdvance port s
  | .gclSwitch port => Sys2Proof.Machine.execGclSwitch port s
  | .descFetch fn q batch size => Sys2Proof.Machine.execDescFetch fn q batch size s
  | .descExecDone fn q slot => Sys2Proof.Machine.execDescExecDone fn q slot s
  | .msixCoalesceTimeout fn q => Sys2Proof.Machine.execMsixCoalesceTimeout fn q s
  | .traceLineWriteback engine nth buf line => Sys2Proof.Machine.execTraceLineWriteback engine nth buf line s
  | .traceSwapDone engine nth => Sys2Proof.Machine.execTraceSwapDone engine nth s
  | .debugAccess addr write value => Sys2Proof.Machine.execDebugAccess addr write value s
  | .perstNAssert => Sys2Proof.Machine.execPerstNAssert s
  | .perstNRelease => Sys2Proof.Machine.execPerstNRelease s
  | .vddAuxApplied => Sys2Proof.Machine.execVddAuxApplied s
  | .vddAuxLost => Sys2Proof.Machine.execVddAuxLost s
  | .railDrop io => Sys2Proof.Machine.execRailDrop io s
  | .railsGood => Sys2Proof.Machine.execRailsGood s
  | .thermalTrip => Sys2Proof.Machine.execThermalTrip s
  | .regionTempSample region temp => Sys2Proof.Machine.execRegionTempSample region temp s
  | .bootImageCheck image readOk => Sys2Proof.Machine.execBootImageCheck image readOk s
  | .bootFirmwareReady bad => Sys2Proof.Machine.execBootFirmwareReady bad s
  | .fwFinishDone readOk => Sys2Proof.Machine.execFwFinishDone readOk s
  | .flashProgramDone => Sys2Proof.Machine.execFlashProgramDone s
  | .selfTestDone failures => Sys2Proof.Machine.execSelfTestDone failures s
  | .drowseAutoIdle => Sys2Proof.Machine.execDrowseAutoIdle s
  | .drowseEntryWaitEnd => Sys2Proof.Machine.execDrowseEntryWaitEnd s
  | .drowseWakeSource sources => Sys2Proof.Machine.execDrowseWakeSource sources s
  | .drowseWakeTimer => Sys2Proof.Machine.execDrowseWakeTimer s
  | .avsAck bus => Sys2Proof.Machine.execAvsAck bus s
  | .avsAckTimeout bus => Sys2Proof.Machine.execAvsAckTimeout bus s
  | .vpolInterval => Sys2Proof.Machine.execVpolInterval s
  | .pmbusPoll readings => Sys2Proof.Machine.execPmbusPoll readings s
  | .sagStart => Sys2Proof.Machine.execSagStart s
  | .sagClearExpiry => Sys2Proof.Machine.execSagClearExpiry s
  | .ppsEdge => Sys2Proof.Machine.execPpsEdge s
  | .ppsLost => Sys2Proof.Machine.execPpsLost s
  | .coreDelayUpdate q0 q1 q2 q3 north east south west => Sys2Proof.Machine.execCoreDelayUpdate q0 q1 q2 q3 north east south west s
  | .valueTransfer domain channel written => Sys2Proof.Machine.execValueTransfer domain channel written s
  | .eventTransfer domain channel before during => Sys2Proof.Machine.execEventTransfer domain channel before during s
  | .queueTransfer domain channel arrivals => Sys2Proof.Machine.execQueueTransfer domain channel arrivals s
  | .xdResync domain sourceReset => Sys2Proof.Machine.execXdResync domain sourceReset s
  | .presenceChange g prsntL prsntS => Sys2Proof.Machine.execPresenceChange g prsntL prsntS s
  | .debounceExpiry g => Sys2Proof.Machine.execDebounceExpiry g s
  | .faultInAssert g => Sys2Proof.Machine.execFaultInAssert g s
  | .senseFrameRx g frame => Sys2Proof.Machine.execSenseFrameRx g frame s
  | .proofingTimeout g => Sys2Proof.Machine.execProofingTimeout g s
  | .rampEnd g => Sys2Proof.Machine.execRampEnd g s
  | .perstMsExpiry g => Sys2Proof.Machine.execPerstMsExpiry g s
  | .retryTimerExpiry g => Sys2Proof.Machine.execRetryTimerExpiry g s
  | .poweroffGateDelay g => Sys2Proof.Machine.execPoweroffGateDelay g s
  | .poweroffTimeout g => Sys2Proof.Machine.execPoweroffTimeout g s
  | .slotRequestLapse g => Sys2Proof.Machine.execSlotRequestLapse g s
  | .slotPowerReportTimer g => Sys2Proof.Machine.execSlotPowerReportTimer g s
  | .spdmGetVersion medium eid version p1 p2 rest => Sys2Proof.Machine.execSpdmGetVersion medium eid version p1 p2 rest s
  | .spdmGetCapabilities medium eid version p1 p2 rest => Sys2Proof.Machine.execSpdmGetCapabilities medium eid version p1 p2 rest s
  | .spdmNegotiateAlgorithms medium eid version p1 p2 rest => Sys2Proof.Machine.execSpdmNegotiateAlgorithms medium eid version p1 p2 rest s
  | .spdmGetDigests medium eid version p1 p2 rest => Sys2Proof.Machine.execSpdmGetDigests medium eid version p1 p2 rest s
  | .spdmGetCertificate medium eid version p1 p2 rest => Sys2Proof.Machine.execSpdmGetCertificate medium eid version p1 p2 rest s
  | .spdmChallenge medium eid version p1 p2 rest => Sys2Proof.Machine.execSpdmChallenge medium eid version p1 p2 rest s
  | .spdmGetMeasurements medium eid version p1 p2 rest => Sys2Proof.Machine.execSpdmGetMeasurements medium eid version p1 p2 rest s
  | .spdmRespondIfReady medium eid version p1 p2 rest => Sys2Proof.Machine.execSpdmRespondIfReady medium eid version p1 p2 rest s
  | .tapReset => Sys2Proof.Machine.execTapReset s
  | .tapBypass tdi => Sys2Proof.Machine.execTapBypass tdi s
  | .tapIdcode => Sys2Proof.Machine.execTapIdcode s
  | .tapSamplePreload pins preload => Sys2Proof.Machine.execTapSamplePreload pins preload s
  | .tapExtest pins update => Sys2Proof.Machine.execTapExtest pins update s
  | .tapClamp tdi => Sys2Proof.Machine.execTapClamp tdi s
  | .tapHighz tdi => Sys2Proof.Machine.execTapHighz tdi s
  | .tapExtestPulse pins update => Sys2Proof.Machine.execTapExtestPulse pins update s
  | .tapExtestTrain pins update => Sys2Proof.Machine.execTapExtestTrain pins update s
  | .cdrLockLoss lane => Sys2Proof.Machine.execCdrLockLoss lane s
  | .faultInDeassert g => Sys2Proof.Machine.execFaultInDeassert g s
  | .prbsCheckerWord lane errors aligned => Sys2Proof.Machine.execPrbsCheckerWord lane errors aligned s
  | .pcieLinkError port err => Sys2Proof.Machine.execPcieLinkError port err s
  | .pcieRecoveryEntry port => Sys2Proof.Machine.execPcieRecoveryEntry port s
  | .perstOutNRelease port => Sys2Proof.Machine.execPerstOutNRelease port s
  | .railLeavesGood rail => Sys2Proof.Machine.execRailLeavesGood rail s
  | .backgroundScrub found pkt => Sys2Proof.Machine.execBackgroundScrub found pkt s

end Sys2Proof.Machine
end

