-- ==== Sys2Proof/Machine/Idle.lean ====
section
/-! DEFINITION. What goes on while no command waits (notes/assumptions/1). -/

namespace Sys2Proof.Machine

/-- Waits inside Kalnum that end without a command: those of the core, requests a wake held, and requests that have reached a function
of Kalnum's own. -/
def State.settle (s : State) : State :=
  if s.mode = .reset then s else (s.settleCore.releaseRequests).serviceRun

/-- The block idles: what waits inside it goes on, and one nanosecond passes. -/
def State.idle (s : State) : State := s.settle.tick

end Sys2Proof.Machine
end

