-- ==== Sys2Proof/WellFormed.lean ====
section
/-! DEFINITION. Which commands can arrive: the checks on the packets they carry.  A command that carries no packet always can. -/

namespace Sys2Proof

/-- A packet that can arrive as a request: its record is sound, and it is no completion. -/
def Tlp.isRequest (t : Tlp) : Bool := t.wellFormed && t.kind.ord != .completion

/-- A packet that can arrive as a completion. -/
def Tlp.isCompletion (t : Tlp) : Bool := t.wellFormed && t.kind.ord == .completion

/-- A packet that can arrive as a message. -/
def Tlp.isMessage (t : Tlp) : Bool := t.wellFormed && t.kind == .msg

/-- A packet that can arrive with a fabric header: FEIDs have 12 bits (Table 5.7). -/
def FabPkt.canArrive (f : FabPkt) : Bool := f.tlp.elim true Tlp.wellFormed && f.hdr.dst < 4096 && f.hdr.src < 4096

/-- The command can arrive. -/
def Instr.wellFormed : Instr → Bool
  | .hostRequestRx _ t => t.isRequest
  | .targetRequestRx _ t => t.isRequest
  | .completionRx _ t => t.isCompletion
  | .targetErrorMessage _ t _ _ _ => t.isMessage
  | .fabricPacketRx _ f => f.canArrive
  | _ => true

end Sys2Proof
end

