-- ==== Sys2Proof/Safety.lean ====
section
/-! DEFINITION. What counts as a safe run, and the vocabulary the statements are written in. -/

namespace Sys2Proof

/-- A step that goes on: neither a fault nor a refusal. -/
def Proceeds (s : Machine.State) : Prop := ∃ t, Machine.step s = .next t

namespace Machine

/-! ## Corber requests -/

/-- The state in which a request is judged: its requester is tracked (R301), and a session of that requester's counts as used
(R115). -/
def State.judged (s : State) (q : CrbReq) : State :=
  let s1 := s.track q.src
  s1.whenb (s1.bnd.session.any (fun x => x.holder == q.src)) State.useSession

/-- A request of row `o` comes to be judged by its opcode at once: the device is awake, nothing of R295, R301, R302 or R306
refuses it, it is for this device, it repeats no recorded change (R303), nothing earlier holds it back (R304), and its body has a
length its row allows. -/
def State.ready (s : State) (o : OpInfo) (q : CrbReq) : Bool :=
  let s1 := s.track q.src
  s.mode != .drowse && s.pwr.drowse != .lowering && s.frontEnd && (s1.turnedAway o.code q).isNone && !s1.isFar q &&
    (s1.recorded o.code q).isNone && s1.mayBegin s1.crb.ordered o.code q && ((s.judged q).modeBars o).isNone && o.len q.body.length

/-- The request's first reply, which is its last: its record where it is a change (R303), the reply (R296), and the requests that
waited for it (R304). -/
def State.answered (s : State) (o : OpInfo) (q : CrbReq) (data : List Byte := []) : State :=
  ((s.whenb o.change (fun s => s.record o.code q stOk 0)).replyNow o.code q false stOk 0 data).pump

/-- The same, where the operation `f` starts once that reply has left. -/
def State.answeredThen (s : State) (o : OpInfo) (q : CrbReq) (f : State → State) : State :=
  (f ((s.whenb o.change (fun s => s.record o.code q stOk 0)).replyNow o.code q false stOk 0 [])).pump

/-- The request is accepted: it is outstanding, its first reply says so (R305), and the operation `f` starts. -/
def State.accepted (s : State) (o : OpInfo) (q : CrbReq) (f : State → State) : State :=
  (f ((s.onCrb (fun y => { y with outst := y.outst ++ [{ opcode := o.code, req := q, accepted := true }] })).replyNow o.code q false
    stAccepted (acceptedTime o.code) [])).pump

/-! ## Offsets -/

/-- A storage offset of a table, a log, a gate list, the token or the MSI-X structures of a function. -/
def windowed (a : Nat) : Bool :=
  (windowAt a).isSome || (0x1740000 ≤ a && a < 0x1750000) || (0x1840000 ≤ a && a < 0x1864000) || (0x1880000 ≤ a && a < 0x18A4000) ||
    (0x2A00000 ≤ a && a < 0x2A48000) || (0x2C00000 ≤ a && a < 0x2C40000) || (0x3008000 ≤ a && a < 0x3010000) ||
    (0x10000000 ≤ a && a < 0x18000000 && ((0x8000 ≤ a % 0x10000 && a % 0x10000 < 0x9000) || (0xA000 ≤ a % 0x10000 && a % 0x10000 < 0xA020)))

/-- No register occupies the BAR0 offset (R11). -/
def State.unoccupied (s : State) (off : Nat) : Bool :=
  match s.placeOf off with
  | none => true
  | some a => (findReg a).isNone && !windowed a

/-! ## Requests of a host -/

/-- A configuration request of the host of VH `v` to a function of its view is carried out: the link is up, the VH ACTIVE, and the
function answers (R100, R93). -/
def State.cfgOpen (s : State) (v : Nat) (u : HostUnit) : Bool :=
  s.isHostEdge v && s.linkUp v && s.vhActive v && s.mode != .reset && s.mode != .boot && s.cfgStatus v u == .sc

/-- A configuration write of the host that left the state `t` has completed: its completion waits toward the host (R100). -/
def State.wrote (s t : State) (v : Nat) (u : HostUnit) (rid : BitVec 16) (tag : BitVec 14) : State :=
  (t.own v v 0xFFF (mkCpl { kind := .cfgwr, rid := rid, tag := tag } .sc (s.unitId v u) 4 0)).poolEvents

end Machine

open Machine

/-- The setting a body asks for: the words of the listed registers, in order (R310). -/
def CrbReq.asked (q : CrbReq) (s : State) (l : List (RegDesc × Nat)) : State :=
  s.each ((List.range l.length).map (fun k =>
    let e := l.getD k (R.MGT_IDENT, 0)
    (e.1, e.2, q.num (4 * k) 4))) (fun s e => s.setWord e.1 e.2.1 e.2.2)

/-- The words of a body are in their ranges, ask for a change, and break no rule and no precondition of their group (R417). -/
def CrbReq.sound (q : CrbReq) (s : State) (g : CfgGroup) (l : List (RegDesc × Nat)) : Bool :=
  (wordsFault ((List.range l.length).map (fun k =>
    let e := l.getD k (R.MGT_IDENT, 0)
    (e.1, e.2, q.num (4 * k) 4))) 16).isNone && decide ((q.asked s l).regs ≠ s.regs) &&
    (s.paramFault (q.asked s l) g).isNone && (s.preFault (q.asked s l) g).isNone

end Sys2Proof
end

