-- ==== Sys2Proof/Certificates/Slice0/Obligations.lean ====
section
/-! DEFINITION. The statements for the provers.  Each clause is a definition of `Sys2Proof.Claims`, with the rules of spec/ it follows;
each obligation is a conjunction of clauses about one family of commands or one kind of state. -/

namespace Sys2Proof.Claims

open Machine

/-! ## Corber: the device (group 0x01) -/

/-- GET_INFO answers the serial number, MGT_IDENT, the five die IDs, both firmware versions and the mode (R309). -/
def getInfo : Prop := ∀ (s : State) (q : CrbReq), s.ready opGetInfo q = true →
  exec (.getInfo q) s = .next ((s.judged q).answered opGetInfo q (leBytes 8 Config.serial.toNat ++
    leBytes 4 ((s.judged q).rd R.MGT_IDENT).toNat ++ ((List.range 5).map (fun i => leBytes 4 (Config.dieId (Fin.ofNat 5 i)).toNat)).flatten ++
    leBytes 4 ((s.judged q).imageVersion 0) ++ leBytes 4 ((s.judged q).imageVersion 1) ++ leBytes 1 (s.judged q).mode.code))

/-- GET_MODE answers MGT_MODE: the code of the mode, and whether a transition is in progress (R309). -/
def getMode : Prop := ∀ (s : State) (q : CrbReq), s.ready opGetMode q = true →
  exec (.getMode q) s = .next ((s.judged q).answered opGetMode q (leBytes 4 ((s.judged q).mode.code + 8 * b2n (s.judged q).transition)))

/-- ECHO answers the body of the request (R309). -/
def echo : Prop := ∀ (s : State) (q : CrbReq), s.ready opEcho q = true →
  exec (.echo q) s = .next ((s.judged q).answered opEcho q q.body)

/-- READ_REG answers 1 to 256 words from an aligned offset inside BAR0, each read as a direct read takes it (R309, R317). -/
def readReg : Prop := ∀ (s : State) (q : CrbReq), s.ready opReadReg q = true → q.num 0 4 % 4 = 0 → 1 ≤ q.num 4 2 → q.num 4 2 ≤ 256 →
  q.num 0 4 + 4 * q.num 4 2 ≤ barSize →
  exec (.readReg q) s = .next ((State.readWords (q.num 4 2) (s.judged q) (q.num 0 4)).2.answered opReadReg q
    (State.readWords (q.num 4 2) (s.judged q) (q.num 0 4)).1)

/-- GET_TIMEBASE answers the timebase and whether it is valid (R346). -/
def getTimebase : Prop := ∀ (s : State) (q : CrbReq), s.ready opGetTimebase q = true →
  exec (.getTimebase q) s = .next ((s.judged q).answered opGetTimebase q (leBytes 8 (s.judged q).tb.toNat ++ leBytes 1 (b2n (s.judged q).tbValid)))

/-- UNSUBSCRIBE removes the requester's subscription and no other (R297). -/
def unsubscribe : Prop := ∀ (s : State) (q : CrbReq), s.ready opUnsubscribe q = true →
  exec (.unsubscribe q) s = .next (((s.judged q).onCrb (fun y => { y with subs := y.subs.filter (fun (x : Subscriber) => x.src != q.src) })).answered
    opUnsubscribe q)

/-- SUBSCRIBE registers the rings as subscriber 0, with the group mask and the minimum severity of the body (R297). -/
def subscribeRings : Prop := ∀ (s : State) (q : CrbReq), s.ready opSubscribe q = true → q.src = .rings → q.fits 0 2 12 = true →
  q.fits 2 1 2 = true →
  exec (.subscribe q) s = .next (((s.judged q).onCrb (fun y => { y with subs := y.subs.filter (fun (x : Subscriber) => x.src != q.src) ++
    [{ idx := 0, src := q.src, mask := q.num 0 2, minSev := q.num 2 1 }] })).answered opSubscribe q (leBytes 1 0))

/-- SUBSCRIBE of another requester that has no subscription registers it at the lowest free index from 1 (R297). -/
def subscribeOther : Prop := ∀ (s : State) (q : CrbReq) (i : Nat), s.ready opSubscribe q = true → q.src ≠ .rings → q.fits 0 2 12 = true →
  q.fits 2 1 2 = true → (s.judged q).crb.subs.find? (fun (b : Subscriber) => b.src == q.src) = none →
  (List.range maxSubs).find? (fun i => 0 < i && !(s.judged q).crb.subs.any (·.idx == i)) = some i →
  exec (.subscribe q) s = .next (((s.judged q).onCrb (fun y => { y with subs := y.subs.filter (fun (x : Subscriber) => x.src != q.src) ++
    [{ idx := i, src := q.src, mask := q.num 0 2, minSev := q.num 2 1 }] })).answered opSubscribe q (leBytes 1 i))

/-- WRITE_REG applies its triples in order, all of them, when each is allowed (R311). -/
def writeReg : Prop := ∀ (s t : State) (q : CrbReq), s.ready opWriteReg q = true →
  (s.judged q).writeTriples q (q.body.length / 12) 0 (s.judged q) = ok t →
  exec (.writeReg q) s = .next (t.answered opWriteReg q)

/-- WRITE_REG with a triple that is refused changes nothing and names that triple's place in the packet (R311). -/
def writeRegNone : Prop := ∀ (s0 s : State) (q : CrbReq) (n k : Nat),
  ((s0.writeTriples q n k s).status ≠ stOk → (s0.writeTriples q n k s).s = s0) ∧
  ((s.writeTriple q (q.num (12 * k) 4) (q.num (12 * k + 4) 4) (q.num (12 * k + 8) 4)).status ≠ stOk →
    (s0.writeTriples q (n + 1) k s).detail = at16 (12 * k))

/-- RESET_DEVICE replies, and its reset is due 10.0 µs after that reply (R326, Table 12.6). -/
def resetDevice : Prop := ∀ (s : State) (q : CrbReq), s.ready opResetDevice q = true → q.num 0 1 ≤ 1 →
  exec (.resetDevice q) s = .next ((s.judged q).answeredThen opResetDevice q (fun s => s.arm .deviceReset (q.num 0 1) (us 10)))

/-- The reset that RESET_DEVICE asked for comes when it is due: warm for KIND 0 and cold for KIND 1, after which RESET is left as soon as
the rails and PERST_N allow (R326). -/
def resetComes : Prop := ∀ (s : State),
  (s.due .deviceReset 1 = false → s.due .deviceReset 0 = true → s.resetDue = (s.deviceReset true 3).leaveReset) ∧
  (s.due .deviceReset 1 = false → s.due .deviceReset 0 = false → s.resetDue = s) ∧
  (s.due .deviceReset 1 = true → s.resetDue = (s.deviceReset false 2).leaveReset)

/-- GET_BOARD_RECORD answers bytes of the record's flash region (R416). -/
def getBoardRecord : Prop := ∀ (s : State) (q : CrbReq), s.ready opGetBoardRecord q = true → q.num 0 4 < 65536 → q.num 4 2 ≤ 4076 →
  q.num 0 4 + q.num 4 2 ≤ 65536 →
  exec (.getBoardRecord q) s = .next ((s.judged q).answered opGetBoardRecord q ((s.judged q).flashBytes (recordBase + q.num 0 4) (q.num 4 2)))

/-- SET_BOARD_RECORD puts its bytes into the staging copy while the record is not whole (R416). -/
def setBoardRecord : Prop := ∀ (s : State) (q : CrbReq), s.ready opSetBoardRecord q = true → q.num 0 4 + (q.body.drop 4).length ≤ 65536 →
  ((s.judged q).stage (q.num 0 4) (q.body.drop 4)).recordWhole = false →
  exec (.setBoardRecord q) s = .next (((s.judged q).stage (q.num 0 4) (q.body.drop 4)).answered opSetBoardRecord q)

/-- SET_BOARD_RECORD checks a record whose every byte has been written, and programs a good one into its flash region (R416). -/
def setBoardRecordWhole : Prop := ∀ (s u : State) (q : CrbReq) (r : List Byte), s.ready opSetBoardRecord q = true →
  q.num 0 4 + (q.body.drop 4).length ≤ 65536 → u = (s.judged q).stage (q.num 0 4) (q.body.drop 4) → u.recordWhole = true →
  r = u.stagedBytes (bodyNat (u.stagedBytes 12) 8 4) → 32 ≤ r.length → boardFault r = none → u.flag F.PWR_STATUS.SAG = false →
  exec (.setBoardRecord q) s = .next (((u.flashErase recordBase sector).flashProgram recordBase r).answered opSetBoardRecord q)

/-- SET_CHURN sets the five Churn words when the shared pool keeps its minimum (R75, R80, R86). -/
def setChurn : Prop := ∀ (s : State) (q : CrbReq),
  let l := [(R.CHN_CFG, 0), (R.CHN_ESC_CFG, 0), (R.CHN_MC_CFG, 0), (R.CHN_MC_TIMER, 0), (R.CHN_POOL_WM, 0)]
  s.ready opSetChurn q = true → q.sound (s.judged q) .churn l = true →
  exec (.setChurn q) s = .next ((q.asked (s.judged q) l).answered opSetChurn q)

/-- SET_ROTATION sets CHN_ROT_CTRL; when it turns rotation on, the first step is due after INTERVAL_MS (R87). -/
def setRotation : Prop := ∀ (s t : State) (q : CrbReq), s.ready opSetRotation q = true →
  q.sound (s.judged q) .rotation [(R.CHN_ROT_CTRL, 0)] = true → t = q.asked (s.judged q) [(R.CHN_ROT_CTRL, 0)] →
  exec (.setRotation q) s = .next ((if t.flag F.CHN_ROT_CTRL.ENABLE && !(s.judged q).flag F.CHN_ROT_CTRL.ENABLE then
    t.arm .rotation 0 (ms (t.fld F.CHN_ROT_CTRL.INTERVAL_MS)) else t).answered opSetRotation q)

/-! ## Corber: ports and lanes (group 0x02) -/

/-- GET_PORT answers the status, the events and the shared holding of a live port (R16, R309). -/
def getPort : Prop := ∀ (s : State) (q : CrbReq), s.ready opGetPort q = true → q.object < 144 → (s.judged q).live q.object = true →
  exec (.getPort q) s = .next ((s.judged q).answered opGetPort q
    ((s.judged q).regBytes [(R.PCL_PORT_STATUS, q.object), (R.PCL_PORT_EVT, q.object), (R.CHN_PORT_HELD, q.object)]))

/-- GET_CLUSTER answers the five configuration words of a cluster and its status (R309). -/
def getCluster : Prop := ∀ (s : State) (q : CrbReq), s.ready opGetCluster q = true → q.object < 36 →
  exec (.getCluster q) s = .next ((s.judged q).answered opGetCluster q
    ((s.judged q).regBytes (clusterRegs q.object ++ [(R.PCL_CLUSTER_STATUS, q.object)])))

/-- GET_LANE answers the status and equaliser registers of a lane; what an adapted receiver reads is a free value (R309, R55). -/
def getLane : Prop := ∀ (s : State) (q : CrbReq), s.ready opGetLane q = true → q.object < 288 →
  exec (.getLane q) s = .next (((s.judged q).each (List.range 9) (fun s _ => s.drew)).answered opGetLane q
    (((R.PCL_LANE_STATUS :: R.PCL_LANE_TXEQ :: R.PCL_LANE_RXADAPT_CTRL :: rxRegs).zip (List.range 9)).map (fun e =>
      leBytes 4 (((s.judged q).each (List.range e.2) (fun s _ => s.drew)).shown e.1 q.object).toNat)).flatten)

/-- GET_KFL answers a link's status, sequence, replay and credit state and its peer's serial number (R309). -/
def getKfl : Prop := ∀ (s : State) (q : CrbReq) (p : Nat), s.ready opGetKfl q = true → q.object < 72 →
  (s.judged q).portOfLink q.object = some p →
  exec (.getKfl q) s = .next ((s.judged q).answered opGetKfl q ((s.judged q).regBytes
    ([(R.KFL_LINK_STATUS, controllerOf p), (R.KFL_SEQ_TX, controllerOf p), (R.KFL_SEQ_RX, controllerOf p),
      (R.KFL_REPLAY_STATUS, controllerOf p)] ++
    (List.range 7).map (fun v => (R.KFL_CRED_TX, 7 * controllerOf p + v)) ++
    (List.range 7).map (fun v => (R.KFL_CRED_RX, 7 * controllerOf p + v)) ++
    [(R.KFL_PEER_SERIAL_LO, controllerOf p), (R.KFL_PEER_SERIAL_HI, controllerOf p)])))

/-- SET_CLUSTER gives a cluster its new shape, whose ports are all left disabled where the bifurcation changes (R21, R44 to R48). -/
def setCluster : Prop := ∀ (s : State) (q : CrbReq), s.ready opSetCluster q = true → q.object < 36 →
  q.sound (s.judged q) (.cluster q.object) (clusterRegs q.object) = true →
  exec (.setCluster q) s = .next (((s.judged q).reshape (q.asked (s.judged q) (clusterRegs q.object)) q.object).dropReports.answered opSetCluster q)

/-- SET_CLUSTER that would move a bifurcation while a port of it is not disabled is answered BUSY, and aborts a recalibration of each of
its four ports first (R64, R21). -/
def setClusterBusy : Prop := ∀ (s u t : State) (q : CrbReq) (a : Ans), u = s.judged q → q.object < 36 →
  a = q.set u (.cluster q.object) (clusterRegs q.object) → a.status = stBusy →
  (List.range 4).any (fun k => bits (q.num (4 + 4 * k) 4) 0 3 != u.fld F.PCL_SLOT_CFG.WIDTH (4 * q.object + k)) = true →
  t = u.each (List.range 4) (fun s k => s.abortRecal (4 * q.object + k) 5) →
  (opSetCluster.run q u).s = t ∧ (opSetCluster.run q u).status = stBusy

/-- PORT_ENABLE enables a live port, or disables it (R22, R26). -/
def portEnable : Prop := ∀ (s : State) (q : CrbReq), s.ready opPortEnable q = true → q.object < 144 → (s.judged q).live q.object = true →
  q.num 0 1 ≤ 1 →
  exec (.portEnable q) s = .next ((if q.num 0 1 = 1 then (s.judged q).enablePort q.object else (s.judged q).disablePort q.object).answered
    opPortEnable q)

/-- SET_ROLE gives a disabled live port its role and protocol; a new fabric port takes half its own number as link index, and a port
that changes between KFL and PCI Express the highest rate of its cluster's ceiling (R17, R45, R129). -/
def setRole : Prop := ∀ (s u t : State) (q : CrbReq), u = s.judged q →
  t = (u.setFld F.PCL_SLOT_CFG.ROLE q.object (q.num 0 1)).setFld F.PCL_SLOT_CFG.PROTO q.object (q.num 1 1) →
  s.ready opSetRole q = true → q.object < 144 → u.live q.object = true → q.num 0 1 ≤ 2 → q.num 1 1 ≤ 2 → t.regs ≠ u.regs →
  u.paramFault t (.role q.object) = none → u.preFault t (.role q.object) = none →
  exec (.setRole q) s = .next ((u.takeEffect t (.role q.object)).answered opSetRole q)

/-- SET_LINK_INDEX gives a disabled fabric port a free KFL link index (R17). -/
def setLinkIndex : Prop := ∀ (s u t : State) (q : CrbReq), u = s.judged q → t = u.setFld F.PCL_SLOT_CFG.KFL_LINK q.object (q.num 0 1) →
  s.ready opSetLinkIndex q = true → q.object < 144 → u.live q.object = true → u.isFabric q.object = true → q.num 0 1 ≤ 71 →
  t.regs ≠ u.regs → u.linkState q.object = 0 → t.indexHolder q.object = none →
  exec (.setLinkIndex q) s = .next (t.answered opSetLinkIndex q)

/-- RECALIBRATE of a disabled port runs at once; of an active one that can borrow half its lanes it is accepted, and runs after that
reply (R63); an operation of a KFL partner with the lower FEID holds it off (R162). -/
def recalibrate : Prop := ∀ (s u : State) (q : CrbReq), u = s.judged q → s.ready opRecalibrate q = true → q.object < 144 →
  u.live q.object = true → (u.proto q.object ≠ 2 ∨ u.peerHolds (controllerOf q.object) = false) →
  u.flag F.PCL_CLUSTER_STATUS.RECAL_BUSY (clusterOf q.object) = false →
  (u.linkState q.object = 0 ∨ u.linkState q.object = 6 →
    exec (.recalibrate q) s = .next ((u.recalStart q.object).answered opRecalibrate q)) ∧
  (u.linkState q.object ≠ 0 → u.linkState q.object ≠ 6 → u.active q.object = true → u.canBorrow q.object = true →
    exec (.recalibrate q) s = .next (u.accepted opRecalibrate q (fun s => s.recalStart q.object)))

/-- MARGIN of an active port is accepted for lanes the port has, an axis, a direction, 1 to 32 timing or 1 to 64 voltage steps, and an
error limit of 1 to 63 (R60, Table 2.6). -/
def margin : Prop := ∀ (s u : State) (q : CrbReq), u = s.judged q → s.ready opMargin q = true → q.object < 144 → u.live q.object = true →
  q.num 0 2 ≠ 0 → q.num 0 2 < 2 ^ (u.lanesOf q.object).length → q.num 2 1 ≤ 1 → q.num 3 1 ≤ 1 → 1 ≤ q.num 4 1 →
  q.num 4 1 ≤ (if q.num 2 1 = 1 then 64 else 32) → 1 ≤ q.num 5 1 → q.num 5 1 ≤ 63 → u.active q.object = true →
  exec (.margin q) s = .next (u.accepted opMargin q id)

/-- SET_KFL sets the four words of a link; time requests start or stop with TIME_REQ_EN (R198, R201). -/
def setKfl : Prop := ∀ (s u t : State) (q : CrbReq) (p : Nat), u = s.judged q →
  t = q.asked u [(R.KFL_LINK_CFG, controllerOf p), (R.KFL_TIMER_A, controllerOf p), (R.KFL_TIMER_B, controllerOf p),
    (R.KFL_TIMER_C, controllerOf p)] →
  s.ready opSetKfl q = true → q.object < 72 → u.portOfLink q.object = some p →
  q.sound u (.kfl (controllerOf p)) [(R.KFL_LINK_CFG, controllerOf p), (R.KFL_TIMER_A, controllerOf p), (R.KFL_TIMER_B, controllerOf p),
    (R.KFL_TIMER_C, controllerOf p)] = true →
  exec (.setKfl q) s = .next ((u.takeEffect t (.kfl (controllerOf p))).answered opSetKfl q)

/-- KFL_DISABLE of a link that is up, asleep or in recovery, that no operation of its partner's holds, is accepted, and the orderly
disable starts (R195, R162). -/
def kflDisable : Prop := ∀ (s u : State) (q : CrbReq) (p : Nat), u = s.judged q → s.ready opKflDisable q = true → q.object < 72 →
  u.portOfLink q.object = some p → u.peerHolds (controllerOf p) = false →
  (u.kl (controllerOf p)).stopping = none → 5 ≤ u.lst (controllerOf p) →
  exec (.kflDisable q) s = .next (u.accepted opKflDisable q (fun s => s.kflDisable (controllerOf p) 0))

/-- SET_PORT_POOL sets a live port's α, AUTO_RES, round trip and reserved pool; with AUTO_RES the pool words are Kalnum's own (R75,
R76). -/
def setPortPool : Prop := ∀ (s u : State) (q : CrbReq),
  u = s.judged q → s.ready opSetPortPool q = true → q.object < 144 → u.live q.object = true →
  q.sound u (.pool q.object) [(R.CHN_PORT_CFG, q.object), (R.CHN_PORT_RES, q.object)] = true →
  exec (.setPortPool q) s = .next ((u.takeEffect (q.asked u [(R.CHN_PORT_CFG, q.object), (R.CHN_PORT_RES, q.object)])
    (.pool q.object)).answered opSetPortPool q)

/-! ## Corber: bindings (group 0x03) -/

/-- SESSION_OPEN opens the one edit session when none is open and the shadow is ready, and answers the active generation (R115). -/
def sessionOpen : Prop := ∀ (s : State) (q : CrbReq), s.ready opSessionOpen q = true → (s.judged q).bnd.session = none →
  (s.judged q).flag F.BND_GEN_STATUS.SHADOW_READY = true →
  exec (.sessionOpen q) s = .next (((s.judged q).openSession q.src).answered opSessionOpen q
    (leBytes 4 ((s.judged q).fld F.BND_GEN_STATUS.ACTIVE_GEN)))

/-- COMMIT from the holder of the session is accepted, and the validation of the shadow starts (R116, R307). -/
def commit : Prop := ∀ (s : State) (q : CrbReq) (x : Session), s.ready opCommitInfo q = true → (s.judged q).bnd.session = some x →
  x.holder = q.src → (s.judged q).bnd.committing = false →
  exec (.commit q) s = .next ((s.judged q).accepted opCommitInfo q (fun s => s.onBnd (fun y => { y with committing := true })))

/-- SESSION_ABORT from the holder closes the session and discards its edits (R307). -/
def sessionAbort : Prop := ∀ (s : State) (q : CrbReq) (x : Session), s.ready opSessionAbort q = true → (s.judged q).bnd.session = some x →
  x.holder = q.src → (s.judged q).bnd.committing = false →
  exec (.sessionAbort q) s = .next ((s.judged q).closeSession.answered opSessionAbort q)

/-- QUIESCE answers OK at once where nothing of an older generation remains, and else is accepted with a timer of its TIMEOUT_US
(R117). -/
def quiesce : Prop := ∀ (s : State) (q : CrbReq), s.ready opQuiesceInfo q = true → 1000 ≤ q.num 0 4 → q.num 0 4 ≤ 10000000 →
  ((s.judged q).older = 0 → exec (.quiesce q) s = .next ((s.judged q).answered opQuiesceInfo q)) ∧
  ((s.judged q).older ≠ 0 → exec (.quiesce q) s =
    .next ((s.judged q).accepted opQuiesceInfo q (fun s => s.arm .quiesce (s.reqKey q.src q.tag) (us (q.num 0 4)))))

/-- WRITE_ENTRY from the holder writes one entry of a table of the shadow bank (R115, R151, R310). -/
def writeEntry : Prop := ∀ (s u : State) (q : CrbReq) (t : Table) (x : Session), u = s.judged q → s.ready opWriteEntry q = true →
  Table.ofCode (q.num 0 1) = some t → q.body.length = 1 + t.size → q.object < t.count → (t = .attach → 144 ≤ q.object) →
  t.firstReserved (CrbEntry q.body 1 t) = none → (u.fixedBinds = true → 3 < q.num 0 1) →
  (t = .route ∨ t = .group → u.mayRoute q.src = true) → u.bnd.session = some x → x.holder = q.src → u.bnd.committing = false →
  exec (.writeEntry q) s = .next ((u.writeShadow t q.object (CrbEntry q.body 1 t)).answered opWriteEntry q)

/-- READ_ENTRY answers an entry of a table from the active bank, or from the shadow for BANK 1 (R310). -/
def readEntry : Prop := ∀ (s : State) (q : CrbReq) (t : Table), s.ready opReadEntry q = true → Table.ofCode (q.num 0 1) = some t →
  q.object < t.count → q.num 1 1 ≤ 1 →
  exec (.readEntry q) s = .next ((s.judged q).answered opReadEntry q
    (leBytes t.size ((if q.num 1 1 = 1 then (s.judged q).bnd.shadow else (s.judged q).bnd.active).entry t q.object).toNat))

/-- BIND from the holder writes the binding entry and its vDSP's entry into the shadow (R310). -/
def bind : Prop := ∀ (s u : State) (q : CrbReq) (x : Session), u = s.judged q → s.ready opBind q = true → q.object < 4096 →
  q.num 0 1 ≤ 143 → q.num 1 1 ≤ 63 → Bind.vh (CrbEntry q.body 2 .bind) = q.num 0 1 → Bind.vdsp (CrbEntry q.body 2 .bind) = q.num 1 1 →
  Table.bind.firstReserved (CrbEntry q.body 2 .bind) = none → u.fixedBinds = false → u.bnd.session = some x → x.holder = q.src →
  u.bnd.committing = false →
  exec (.bind q) s = .next ((u.shadowBind q.object (CrbEntry q.body 2 .bind)).answered opBind q)

/-- UNBIND from the holder takes the binding's vDSP from it in the shadow, with the way it is to unbind at the next commit (R99). -/
def unbind : Prop := ∀ (s u : State) (q : CrbReq) (x : Session), u = s.judged q → s.ready opUnbind q = true → q.object < 4096 →
  q.num 0 1 ≤ 1 → Bind.valid (u.bnd.shadow.entry .bind q.object) = true → u.fixedBinds = false → u.bnd.session = some x →
  x.holder = q.src → u.bnd.committing = false →
  exec (.unbind q) s = .next ((u.shadowUnbind q.object (q.num 0 1)).answered opUnbind q)

/-- RESUME_BINDING of a SUSPENDED binding whose guard is not locked out, and whose cause is not an access violation still contained, is
accepted, and its reset starts (R418). -/
def resumeBinding : Prop := ∀ (s u : State) (q : CrbReq), u = s.judged q → s.ready opResumeBinding q = true → q.object < 4096 →
  u.bindState q.object = 2 → u.bindLocked q.object = false → u.fld F.BND_BIND_STATE.SUSPEND_CAUSE q.object ≠ 3 →
  exec (.resumeBinding q) s = .next (u.accepted opResumeBinding q (fun s => s.startReset q.object true))

/-- RESET_BINDING of a binding that is BOUND or RESETTING is accepted, and its reset starts (R119, Table 4.16). -/
def resetBinding : Prop := ∀ (s u : State) (q : CrbReq), u = s.judged q → s.ready opResetBinding q = true → q.object < 4096 →
  Bind.valid (u.bind q.object) = true → (u.bindState q.object = 1 ∨ u.bindState q.object = 3) →
  exec (.resetBinding q) s = .next (u.accepted opResetBinding q (fun s => s.startReset q.object false))

/-- GET_BINDING answers a binding's state and its entry (R98, R309). -/
def getBinding : Prop := ∀ (s : State) (q : CrbReq), s.ready opGetBinding q = true → q.object < 4096 →
  exec (.getBinding q) s = .next ((s.judged q).answered opGetBinding q
    ((s.judged q).regBytes [(R.BND_BIND_STATE, q.object)] ++ leBytes 64 ((s.judged q).bind q.object).toNat))

/-- SET_VH_TAGS sets a VH's least and greatest tracker entries (R112). -/
def setVhTags : Prop := ∀ (s : State) (q : CrbReq), s.ready opSetVhTags q = true → q.object < 144 →
  q.sound (s.judged q) (.vhTags q.object) [(R.BND_VH_TAGS, q.object)] = true →
  exec (.setVhTags q) s = .next ((q.asked (s.judged q) [(R.BND_VH_TAGS, q.object)]).answered opSetVhTags q)

/-- SET_MGMT_VH moves the management VH to another live host-edge port while both VHs are DOWN (R92). -/
def setMgmtVh : Prop := ∀ (s u : State) (q : CrbReq), u = s.judged q → s.ready opSetMgmtVh q = true → q.object < 144 →
  q.object ≠ u.bnd.mgmtVh → u.live q.object = true → u.isHostEdge q.object = true → u.fld F.BND_VH_STATUS.STATE q.object = 0 →
  u.fld F.BND_VH_STATUS.STATE u.bnd.mgmtVh = 0 →
  exec (.setMgmtVh q) s = .next ((u.onBnd (fun y => { y with mgmtVh := q.object })).answered opSetMgmtVh q)

/-- SET_TRK_TIMEOUT sets the fabric completion timeout, which every OPEN entry is held to from then on (R113). -/
def setTrkTimeout : Prop := ∀ (s : State) (q : CrbReq), s.ready opSetTrkTimeout q = true →
  q.sound (s.judged q) .plain [(R.BND_TRK_TIMEOUT, 0)] = true →
  exec (.setTrkTimeout q) s = .next ((q.asked (s.judged q) [(R.BND_TRK_TIMEOUT, 0)]).answered opSetTrkTimeout q)

/-- GET_VH answers a VH's status, its tracker use and its counters (R309). -/
def getVh : Prop := ∀ (s : State) (q : CrbReq), s.ready opGetVh q = true → q.object < 144 →
  exec (.getVh q) s = .next ((s.judged q).answered opGetVh q ((s.judged q).regBytes
    [(R.BND_VH_STATUS, q.object), (R.BND_VH_TRK_USED, q.object), (R.BND_VH_BLOCKED_CNT, q.object), (R.BND_VH_RESET_CNT, q.object)]))

/-- CXL_FM carries one CXL FM API request, and its reply's data is the response (R299). -/
def cxlFm : Prop := ∀ (s : State) (q : CrbReq), s.ready opCxlFm q = true →
  exec (.cxlFm q) s = .next (((s.judged q).fmApi q.src q.body).1.answered opCxlFm q ((s.judged q).fmApi q.src q.body).2)

/-! ## Corber: the fabric (group 0x04) -/

/-- SET_FABRIC sets BND_FAB_CFG; FEID and LEAD_ELIG change only while the fabric is OFF (R131); BND_FAB_STATUS shows whether the device
forwards, and where it now does its links' credits are granted. -/
def setFabric : Prop := ∀ (s t : State) (q : CrbReq), s.ready opSetFabric q = true → q.sound (s.judged q) .fabric [(R.BND_FAB_CFG, 0)] = true →
  t = (q.asked (s.judged q) [(R.BND_FAB_CFG, 0)]).showAdmitted →
  exec (.setFabric q) s = .next ((t.whenb (t.fabForwards && !(s.judged q).fabForwards) State.grantAll).answered opSetFabric q)

/-- GET_FABRIC answers the fabric's status, its lead, the live links, and each link's state and peer (R309). -/
def getFabric : Prop := ∀ (s : State) (q : CrbReq), s.ready opGetFabric q = true →
  exec (.getFabric q) s = .next ((s.judged q).answered opGetFabric q ((s.judged q).regBytes [(R.BND_FAB_STATUS, 0), (R.BND_FAB_LEAD_INFO, 0),
    (R.BND_FAB_LINK_LIVE0, 0), (R.BND_FAB_LINK_LIVE1, 0), (R.BND_FAB_LINK_LIVE2, 0)] ++ ((List.range 72).map (s.judged q).linkInfo).flatten))

/-- GET_MEMBERS answers the member table on the lead (R309). -/
def getMembers : Prop := ∀ (s : State) (q : CrbReq), s.ready opGetMembers q = true → (s.judged q).fs = fsLead →
  exec (.getMembers q) s = .next ((s.judged q).answered opGetMembers q
    ((s.judged q).regBytes ((List.range 64).map (fun m => (R.BND_FAB_MEMBER, m)))))

/-- SET_FAB_TIMERS sets the fabric's timers, the resequencer's and the holds (R165). -/
def setFabTimers : Prop := ∀ (s : State) (q : CrbReq),
  let l := [(R.BND_FAB_TIMERS, 0), (R.BND_FAB_RESEQ_CFG, 0), (R.BND_FAB_HOLD_CFG, 0)]
  s.ready opSetFabTimers q = true → q.sound (s.judged q) .plain l = true →
  exec (.setFabTimers q) s = .next ((q.asked (s.judged q) l).answered opSetFabTimers q)

/-- GET_FLOW answers one flow context (R309). -/
def getFlow : Prop := ∀ (s : State) (q : CrbReq), s.ready opGetFlow q = true → q.object < 4096 →
  exec (.getFlow q) s = .next ((s.judged q).answered opGetFlow q ((s.judged q).flowBytes q.object))

/-! ## Corber: traffic control and access checks (groups 0x05, 0x06) -/

/-- SET_POLICER sets a policer's five words; buckets that change are set anew, and one switched off releases what it holds (R230,
R243). -/
def setPolicer : Prop := ∀ (s u : State) (q : CrbReq), u = s.judged q →
  let l := [(R.QOS_POL_CFG, q.object), (R.QOS_POL_CIR, q.object), (R.QOS_POL_PIR, q.object), (R.QOS_POL_CBS, q.object),
    (R.QOS_POL_PBS, q.object)]
  s.ready opSetPolicer q = true → q.object < 4096 → q.sound u (.policer q.object) l = true →
  exec (.setPolicer q) s = .next ((u.takeEffect (q.asked u l) (.policer q.object)).answered opSetPolicer q)

/-- GET_POLICER answers a policer's status and counters (R309). -/
def getPolicer : Prop := ∀ (s : State) (q : CrbReq), s.ready opGetPolicer q = true → q.object < 4096 →
  exec (.getPolicer q) s = .next ((s.judged q).answered opGetPolicer q ((s.judged q).regBytes [(R.QOS_POL_STATUS, q.object),
    (R.QOS_POL_RED_CNT, q.object), (R.QOS_POL_HOLD_FULL_CNT, q.object), (R.QOS_POL_GREEN_LO, q.object), (R.QOS_POL_GREEN_HI, q.object),
    (R.QOS_POL_YELLOW_LO, q.object), (R.QOS_POL_YELLOW_HI, q.object)]))

/-- SET_NODE sets a subscriber node's six words; shapers that change are set anew (R234, R243). -/
def setNode : Prop := ∀ (s u t : State) (q : CrbReq), u = s.judged q →
  let l := [(R.QOS_NODE_CFG, q.object), (R.QOS_NODE_TCMAP, q.object), (R.QOS_NODE_RATE, q.object), (R.QOS_NODE_BURST, q.object),
    (R.QOS_NODE_CS_RATE, q.object), (R.QOS_NODE_CS_HI, q.object)]
  s.ready opSetNode q = true → q.object < 4096 → q.sound u (.node q.object) l = true → t = q.asked u l →
  exec (.setNode q) s = .next ((u.rebucket (u.rebucket t (.node q.object) (t.flag F.QOS_NODE_BURST.TOK_INIT q.object))
    (.nodeCs q.object) false).answered opSetNode q)

/-- SET_QUEUE sets a service queue's five words; shapers that change are set anew (R234, R243). -/
def setQueue : Prop := ∀ (s u t : State) (q : CrbReq), u = s.judged q →
  let l := [(R.QOS_SQ_CFG, q.object), (R.QOS_SQ_RATE, q.object), (R.QOS_SQ_BURST, q.object), (R.QOS_SQ_CS_RATE, q.object),
    (R.QOS_SQ_CS_HI, q.object)]
  s.ready opSetQueue q = true → q.object < 32768 → q.sound u (.queue q.object) l = true → t = q.asked u l →
  exec (.setQueue q) s = .next ((u.rebucket (u.rebucket t (.sq q.object) (t.flag F.QOS_SQ_BURST.TOK_INIT q.object))
    (.sqCs q.object) false).answered opSetQueue q)

/-- SET_PORT_SHAPER sets a live port's shaper and accounting; a shaper that changes is set anew (R238, R243). -/
def setPortShaper : Prop := ∀ (s u t : State) (q : CrbReq), u = s.judged q →
  let l := [(R.QOS_PORT_CFG, q.object), (R.QOS_PORT_RATE, q.object), (R.QOS_PORT_BURST, q.object)]
  s.ready opSetPortShaper q = true → q.object < 144 → u.live q.object = true → q.sound u (.shaper q.object) l = true → t = q.asked u l →
  exec (.setPortShaper q) s = .next ((u.rebucket t (.port q.object) (t.flag F.QOS_PORT_BURST.TOK_INIT q.object)).answered opSetPortShaper q)

/-- WRITE_GCL writes entries of a live port's administrative gate list from an index on (R241). -/
def writeGcl : Prop := ∀ (s : State) (q : CrbReq) (n : Nat), s.ready opWriteGcl q = true → q.object < 144 →
  (s.judged q).live q.object = true → n = (q.body.length - 1) / 4 → q.num 0 1 + n ≤ 256 →
  exec (.writeGcl q) s = .next (((s.judged q).writeGcl q.object (q.num 0 1) ((List.range n).map (fun k => q.num (1 + 4 * k) 4))).answered
    opWriteGcl q)

/-- GCL_CHANGE sets the cycle, the base, the last entry and the gate enable of a live port, and submits the list (R241). -/
def gclChange : Prop := ∀ (s u t : State) (q : CrbReq), s.ready opGclChange q = true → q.object < 144 →
  (s.judged q).live q.object = true → 1000 ≤ q.num 0 4 → q.num 0 4 ≤ 1000000000 → q.num 13 1 ≤ 1 →
  u = (((((s.judged q).setFld F.QOS_GCL_CYCLE.CYCLE_NS q.object (q.num 0 4)).wr R.QOS_GCL_BASE_LO q.object
    (BitVec.ofNat 32 (q.num 4 4))).wr R.QOS_GCL_BASE_HI q.object (BitVec.ofNat 32 (q.num 8 4))).setFld F.QOS_GCL_CTRL.ADMIN_LAST q.object
    (q.num 12 1)).setFld F.QOS_GCL_CTRL.GATE_EN q.object (q.num 13 1) → u.gclChange q.object = some t →
  exec (.gclChange q) s = .next (t.answered opGclChange q)

/-- SET_QOS sets QOS_CFG (R243). -/
def setQos : Prop := ∀ (s : State) (q : CrbReq), s.ready opSetQos q = true → q.sound (s.judged q) .plain [(R.QOS_CFG, 0)] = true →
  exec (.setQos q) s = .next ((q.asked (s.judged q) [(R.QOS_CFG, 0)]).answered opSetQos q)

/-- SET_ACU sets ACU_CFG (R262). -/
def setAcu : Prop := ∀ (s : State) (q : CrbReq), s.ready opSetAcu q = true → q.sound (s.judged q) .plain [(R.ACU_CFG, 0)] = true →
  exec (.setAcu q) s = .next ((q.asked (s.judged q) [(R.ACU_CFG, 0)]).answered opSetAcu q)

/-- GET_VIOLATION answers the first-violation capture and the count of violations (R267, R268). -/
def getViolation : Prop := ∀ (s : State) (q : CrbReq), s.ready opGetViolation q = true →
  exec (.getViolation q) s = .next ((s.judged q).answered opGetViolation q ((s.judged q).regBytes [(R.ACU_FV_INFO, 0), (R.ACU_FV_ADDR_LO, 0),
    (R.ACU_FV_ADDR_HI, 0), (R.ACU_FV_RULE, 0), (R.ACU_FV_TIME_LO, 0), (R.ACU_FV_TIME_HI, 0), (R.ACU_VIOL_CNT, 0)]))

/-- CLEAR_VIOLATION clears the first-violation capture and rearms it (R267). -/
def clearViolation : Prop := ∀ (s : State) (q : CrbReq), s.ready opClearViolation q = true →
  exec (.clearViolation q) s =
    .next ((((s.judged q).setFld F.ACU_FV_INFO.VALID 0 0).setFld F.ACU_STATUS.FV_VALID 0 0).answered opClearViolation q)

/-! ## Corber: slots (group 0x07) -/

/-- GET_SLOT answers a guard's state, last fault, telemetry, limit and counters (R370). -/
def getSlot : Prop := ∀ (s : State) (q : CrbReq), s.ready opGetSlot q = true → q.object < 24 →
  exec (.getSlot q) s = .next ((s.judged q).answered opGetSlot q ((s.judged q).regBytes [(R.SPG_SLOT_STATE, q.object),
    (R.SPG_SLOT_FAULT, q.object), (R.SPG_SLOT_TELEM0, q.object), (R.SPG_SLOT_TELEM1, q.object), (R.SPG_SLOT_LIMIT, q.object),
    (R.SPG_SLOT_FAULT_CNT, q.object), (R.SPG_SLOT_REMOVE_CNT, q.object), (R.SPG_SLOT_SSB_ERR_CNT, q.object)]))

/-- SET_SLOT sets a guard's six configuration words, and the guard follows its ENABLE (R352, R370). -/
def setSlot : Prop := ∀ (s u : State) (q : CrbReq), u = s.judged q →
  let l := [(R.SPG_SLOT_CFG, q.object), (R.SPG_SLOT_ELEC, q.object), (R.SPG_SLOT_TIME, q.object), (R.SPG_SLOT_RETRY, q.object),
    (R.SPG_SLOT_THERM, q.object), (R.SPG_SLOT_MODEL, q.object)]
  s.ready opSetSlot q = true → q.object < 24 → q.sound u (.slot q.object) l = true →
  exec (.setSlot q) s = .next ((u.reslot (q.asked u l) q.object).answered opSetSlot q)

/-- SLOT_POWER on is accepted for a guard that is EMPTY, PROOFING, RAMP or READY_OFF, and the guard wants power from then on; power off
is accepted where no binding on the port is BOUND, and the orderly power-off starts (R355). -/
def slotPower : Prop := ∀ (s u : State) (q : CrbReq) (st : Nat), u = s.judged q → st = u.gState q.object →
  s.ready opSlotPowerInfo q = true → q.object < 24 →
  (q.num 0 1 = 1 → st ≠ gDisabled → st ≠ gRetry → st ≠ gLockout → st ≠ gOn →
    exec (.slotPower q) s = .next (u.accepted opSlotPowerInfo q (fun s => s.gRequest q.object true))) ∧
  (q.num 0 1 = 0 → (st = gProofing ∨ st = gRamp ∨ st = gOn) →
    (u.bindingsOn (u.gPort q.object)).any (fun e => u.bindState e.1 == 1) = false →
    exec (.slotPower q) s = .next (u.accepted opSlotPowerInfo q (fun s =>
      if (s.guard q.object).offing then s else s.gPowerOff q.object)))

/-- CLEAR_LOCKOUT ends a lockout: the fault history is empty, and the guard stands as presence gives (R363). -/
def clearLockout : Prop := ∀ (s u : State) (q : CrbReq), u = s.judged q → s.ready opClearLockout q = true → q.object < 24 →
  u.gState q.object = gLockout →
  exec (.clearLockout q) s = .next (((((u.onGuard q.object (fun y => { y with faults := [], wanted := false, asks := [] })).setFld
    F.SPG_SLOT_STATE.FAULTS_60S q.object 0).gSet q.object gEmpty).gByPresence q.object).answered opClearLockout q)

/-- SET_SLOT_CAP sets a slot's power cap, and its applied limit with it (R367). -/
def setSlotCap : Prop := ∀ (s u : State) (q : CrbReq), u = s.judged q → s.ready opSetSlotCap q = true → q.object < 24 →
  q.num 0 4 < 2 ^ 24 → q.sound u (.slotCap q.object) [(R.SPG_SLOT_CAP, q.object)] = true →
  exec (.setSlotCap q) s = .next (((q.asked u [(R.SPG_SLOT_CAP, q.object)]).applyLimit q.object).answered opSetSlotCap q)

/-- SET_INDICATORS sets a slot's attention and power indicators (R367). -/
def setIndicators : Prop := ∀ (s : State) (q : CrbReq), s.ready opSetIndicators q = true → q.object < 24 → q.num 0 1 ≤ 3 → q.num 1 1 ≤ 3 →
  exec (.setIndicators q) s = .next (((s.judged q).gIndicate q.object (q.num 0 1) (q.num 1 1)).answered opSetIndicators q)

/-! ## Corber: trust and firmware (group 0x08) -/

/-- GET_CERT answers bytes of a certificate chain: CHAIN 0 RSA, 1 SLH-DSA (R384). -/
def getCert : Prop := ∀ (s : State) (q : CrbReq), s.ready opGetCert q = true → q.num 0 1 ≤ 1 →
  q.num 1 4 + q.num 5 2 ≤ (Config.certChain (q.num 0 1)).length → q.num 5 2 ≤ 4076 →
  exec (.getCert q) s = .next ((s.judged q).answered opGetCert q (((Config.certChain (q.num 0 1)).drop (q.num 1 4)).take (q.num 5 2)))

/-- GET_MEASUREMENTS answers bytes of the measurements (R385). -/
def getMeasurements : Prop := ∀ (s : State) (q : CrbReq), s.ready opGetMeasurements q = true →
  q.num 0 4 + q.num 4 2 ≤ (s.judged q).measureBytes.length → q.num 4 2 ≤ 4076 →
  exec (.getMeasurements q) s = .next ((s.judged q).answered opGetMeasurements q
    (((s.judged q).measureBytes.drop (q.num 0 4)).take (q.num 4 2)))

/-- TOKEN_WRITE writes words of DBG_TOKEN while no verification runs (R272, R387). -/
def tokenWrite : Prop := ∀ (s : State) (q : CrbReq), s.ready opTokenWrite q = true → q.object + q.body.length / 4 ≤ tokenRoom →
  (s.judged q).verifying = false →
  exec (.tokenWrite q) s = .next (((s.judged q).tokenWrite q.object
    ((List.range (q.body.length / 4)).map (fun k => q.num (4 * k) 4))).answered opTokenWrite q)

/-- TOKEN_VERIFY is accepted while no verification runs, and the verification starts (R272). -/
def tokenVerify : Prop := ∀ (s : State) (q : CrbReq), s.ready opTokenVerify q = true → (s.judged q).verifying = false →
  exec (.tokenVerify q) s = .next ((s.judged q).accepted opTokenVerify q State.verify)

/-- RELOCK ends a debug unlock, or abandons a verification under way (R273). -/
def relock : Prop := ∀ (s : State) (q : CrbReq), s.ready opRelock q = true →
  exec (.relock q) s = .next ((s.judged q).relock.answered opRelock q)

/-- FW_BEGIN opens the image that does not run for writing, with nothing written or queued, and marks it WRITING (R380). -/
def fwBegin : Prop := ∀ (s u v : State) (q : CrbReq) (i : Nat), u = s.judged q → i = q.num 0 1 → s.ready opFwBegin q = true → i ≤ 1 →
  i ≠ u.runningImage → 0x6000 ≤ q.num 1 4 → q.num 1 4 ≤ 0x605000 → (u.openImage = 3 ∨ u.openImage = i) →
  u.flag F.PWR_STATUS.SAG = false → u.sec.finishing = none →
  v = u.onSec (fun y => { y with
    size := q.num 1 4, ranges := [], queue := [], programmed := 0, erased := [], fenced := y.fenced.filter (· != i) }) →
  exec (.fwBegin q) s = .next ((((v.setImage i 1).setFld F.SEC_IMAGE_STATE.OPEN 0 i).setFld
    F.SEC_IMAGE_STATE.WRITE_FENCED 0 0).showFill.answered opFwBegin q)

/-- FW_WRITE queues its bytes for the open image where they fit in its SIZE, were not written before, and find room in the queue
(R380). -/
def fwWrite : Prop := ∀ (s u : State) (q : CrbReq) (o n : Nat), u = s.judged q → o = q.num 0 4 → n = q.body.length - 4 →
  s.ready opFwWrite q = true → u.openImage ≠ 3 → o + n ≤ u.sec.size → u.sec.ranges.any (rangesMeet (o, n)) = false →
  u.flag F.PWR_STATUS.SAG = false → u.flag F.SEC_IMAGE_STATE.WRITE_FENCED = false → u.sec.finishing = none → u.queueBytes + n ≤ 65536 →
  exec (.fwWrite q) s = .next ((((u.onSec (fun y => { y with ranges := (o, n) :: y.ranges, queue := y.queue ++ [(o, q.body.drop 4)] })).showFill).answered
    opFwWrite q))

/-- FW_FINISH of an open image is accepted, and its check waits for the program queue (R380). -/
def fwFinish : Prop := ∀ (s u : State) (q : CrbReq), u = s.judged q → s.ready opFwFinish q = true → u.openImage ≠ 3 →
  u.flag F.PWR_STATUS.SAG = false → u.flag F.SEC_IMAGE_STATE.WRITE_FENCED = false → u.sec.finishing = none →
  exec (.fwFinish q) s = .next (u.accepted opFwFinish q (fun s => s.onSec (fun y => { y with finishing := some u.openImage })))

/-- FW_SELECT of an image that does not run sets the preferred image (R380, R383). -/
def fwSelect : Prop := ∀ (s u : State) (q : CrbReq), u = s.judged q → s.ready opFwSelect q = true → q.num 0 1 ≤ 1 →
  q.num 0 1 ≠ u.runningImage → u.imageState (q.num 0 1) = 3 → u.sec.floor ≤ u.imageSvn (q.num 0 1) → u.flag F.PWR_STATUS.SAG = false →
  exec (.fwSelect q) s = .next ((u.setBoot (fun c => { c with preferred := q.num 0 1 })).answered opFwSelect q)

/-- FW_SELECT of the running image makes it preferred and raises the SVN floor to its SVN (R383). -/
def fwSelectRunning : Prop := ∀ (s u v : State) (q : CrbReq), u = s.judged q → s.ready opFwSelect q = true → q.num 0 1 ≤ 1 →
  q.num 0 1 = u.runningImage → u.sec.floor ≤ u.fld F.SEC_SVN.RUNNING_SVN → u.flag F.PWR_STATUS.SAG = false →
  v = u.setBoot (fun c => { c with preferred := q.num 0 1 }) →
  exec (.fwSelect q) s = .next ((if v.sec.floor < u.fld F.SEC_SVN.RUNNING_SVN then
    (v.onSec (fun y => { y with floor := u.fld F.SEC_SVN.RUNNING_SVN })).raise F.SEC_EVT.FLOOR_RAISED else v).answered opFwSelect q)

/-- GET_FW answers the versions and states of both images and the running image (R309). -/
def getFw : Prop := ∀ (s : State) (q : CrbReq), s.ready opGetFw q = true →
  exec (.getFw q) s = .next ((s.judged q).answered opGetFw q (leBytes 4 ((s.judged q).imageVersion 0) ++ leBytes 4 ((s.judged q).imageVersion 1) ++
    leBytes 1 ((s.judged q).imageState 0) ++ leBytes 1 ((s.judged q).imageState 1) ++ leBytes 1 (s.judged q).runningImage))

/-! ## Corber: modes and power (group 0x09) -/

/-- SET_MODE to a mode that Table 13.2 permits is accepted; the change follows that reply, and a final reply the change; DROWSE waits
for its refusers (R322, R328). -/
def setMode : Prop := ∀ (s u : State) (q : CrbReq), u = s.judged q → s.ready opSetModeInfo q = true → q.num 0 1 ≤ 7 → u.transition = false →
  u.mayGo (Mode.ofCode (q.num 0 1)) = true →
  (q.num 0 1 = 5 → exec (.setMode q) s = .next (u.accepted opSetModeInfo q State.drowseAsk)) ∧
  (q.num 0 1 ≠ 5 → exec (.setMode q) s = .next (u.accepted opSetModeInfo q (fun s =>
    (s.goMode (Mode.ofCode (q.num 0 1))).finishAny opSetMode stOk)))

/-- GET_POWER answers the readings of the five rails, the power of each a free value, and the region temperatures (R337). -/
def getPower : Prop := ∀ (s : State) (q : CrbReq), s.ready opGetPower q = true →
  let r := (List.range 5).foldl (fun (x : List Byte × State) rail =>
    (x.1 ++ x.2.railReading rail ++ leBytes 4 x.2.free, x.2.drew)) ([], s.judged q)
  exec (.getPower q) s = .next (r.2.answered opGetPower q
    (r.1 ++ (s.judged q).regBytes ((List.range 12).map (fun g => (R.PWR_THERM_REG, g)))))

/-- SET_VOLT_POLICY sets the words of the voltage policy (R333, R335). -/
def setVoltPolicy : Prop := ∀ (s : State) (q : CrbReq), s.ready opSetVoltPolicy q = true →
  q.sound (s.judged q) .power [(R.PWR_VPOL_CFG, 0), (R.PWR_VPOL_TIME, 0)] = true →
  exec (.setVoltPolicy q) s =
    .next ((q.asked (s.judged q) [(R.PWR_VPOL_CFG, 0), (R.PWR_VPOL_TIME, 0)]).idleCheck.answered opSetVoltPolicy q)

/-- GET_DROWSE_STATS answers the refusal counters, the last refuser and the last wake (R329). -/
def getDrowseStats : Prop := ∀ (s : State) (q : CrbReq), s.ready opGetDrowseStats q = true →
  exec (.getDrowseStats q) s = .next ((s.judged q).answered opGetDrowseStats q
    ((s.judged q).regBytes ((List.range 6).map (fun k => (R.PWR_DROWSE_REFUSE_CNT, k)) ++
      [(R.PWR_DROWSE_LAST_REFUSER, 0), (R.PWR_WAKE_SRC, 0)])))

/-- SET_GATING enables or disables the power gating of a rind region, and the region's gate follows (R26). -/
def setGating : Prop := ∀ (s u : State) (q : CrbReq) (rest : List Nat), u = s.judged q → rest = u.pwr.gating.filter (· != q.object) →
  s.ready opSetGating q = true → q.object < 8 → q.num 0 1 ≤ 1 →
  exec (.setGating q) s = .next (((u.onPwr (fun y => { y with
    gating := if q.num 0 1 = 1 then q.object :: rest else rest })).gateUpdate q.object).answered opSetGating q)

/-- GET_CORE_DELAY answers CORE_DELAY_FACTOR and the eight replica readings (R31). -/
def getCoreDelay : Prop := ∀ (s : State) (q : CrbReq), s.ready opGetCoreDelay q = true →
  exec (.getCoreDelay q) s = .next ((s.judged q).answered opGetCoreDelay q ((s.judged q).regBytes [(R.PWR_CORE_DELAY, 0)] ++
    ((List.range 8).map (fun k => leBytes 2 ((s.judged q).pwr.replicas.getD k 0))).flatten))

/-! ## Corber: test (group 0x0A) -/

/-- SELF_TEST in MAINTENANCE is accepted while no test runs, and its scope starts (R318). -/
def selfTest : Prop := ∀ (s u : State) (q : CrbReq), u = s.judged q → s.ready opSelfTestInfo q = true → q.num 0 1 ≤ 7 →
  u.mode = .maintenance → u.pwr.testing = false →
  exec (.selfTest q) s = .next (u.accepted opSelfTestInfo q (fun s => s.testStarts (q.num 0 1)))

/-- TEST_BANK of a bank that has not failed is accepted while no other is named, and the rotation goes to it (R90). -/
def testBank : Prop := ∀ (s u : State) (q : CrbReq), u = s.judged q → s.ready opTestBankInfo q = true → q.object < 256 →
  u.fld F.CHN_BANK_STATE.STATE q.object ≠ 6 → u.churn.namedTest = none →
  exec (.testBank q) s = .next (u.accepted opTestBankInfo q (fun s => (s.onChurn (fun y => { y with namedTest := some q.object })).namedStep))

/-- INJECT_ERROR arms an injection of a class of Table 12.13 on an object that stands as the table asks; classes that need no access
act once the reply has left (R320). -/
def injectError : Prop := ∀ (s u : State) (q : CrbReq) (o : Nat), u = s.judged q → o = (if q.num 0 2 = 0x0604 then 0 else q.object) →
  s.ready opInjectError q = true → (injectKind (q.num 0 2)).isSome = true → u.injectable (q.num 0 2) o = true →
  exec (.injectError q) s = .next ((u.armInjection (q.num 0 2) o).answeredThen opInjectError q ((injectNow (q.num 0 2) o).getD id))

/-- GET_WATCHDOG answers the watchdog status and the fatal cause (R219, R309). -/
def getWatchdog : Prop := ∀ (s : State) (q : CrbReq), s.ready opGetWatchdog q = true →
  exec (.getWatchdog q) s = .next ((s.judged q).answered opGetWatchdog q
    ((s.judged q).regBytes [(R.ERR_WDOG_STATUS, 0), (R.ERR_FATAL_CAUSE, 0)]))

/-! ## Corber: the service engine (group 0x0B) -/

/-- QUEUE_ASSIGN gives an unassigned queue to a function with room, under a free local index: the queue's registers are fresh, and the
function hears of it (R284). -/
def queueAssign : Prop := ∀ (s u : State) (q : CrbReq) (f l : Nat), u = s.judged q → f = q.num 0 2 → l = q.num 2 1 →
  s.ready opQueueAssign q = true → q.object < 16384 → f < 2048 → u.flag F.SVC_QMAP.ASSIGNED q.object = false →
  u.hasQueue f l = false → u.heldOf R.SVC_QMAP f < 256 →
  exec (.queueAssign q) s = .next ((((u.remap R.SVC_QMAP q.object f l).freshQueue f l).resChange [none, some f]).answered opQueueAssign q)

/-- QUEUE_ASSIGN of a DISABLED queue that another function holds takes it from that function, whose slot is fresh too (R284). -/
def queueMove : Prop := ∀ (s u : State) (q : CrbReq) (f l g : Nat), u = s.judged q → f = q.num 0 2 → l = q.num 2 1 →
  s.ready opQueueAssign q = true → q.object < 16384 → f < 2048 → u.flag F.SVC_QMAP.ASSIGNED q.object = true →
  g = u.fld F.SVC_QMAP.FN q.object → g ≠ f → u.hasQueue f l = false → u.heldOf R.SVC_QMAP f < 256 → u.queueFixed q.object = false →
  exec (.queueAssign q) s = .next (((((u.freshQueue g (u.fld F.SVC_QMAP.LOCAL q.object)).remap R.SVC_QMAP q.object f l).freshQueue f
    l).resChange [some g, some f]).answered opQueueAssign q)

/-- QUEUE_RELEASE takes a DISABLED queue from its function, which hears of it (R284). -/
def queueRelease : Prop := ∀ (s u : State) (q : CrbReq) (f : Nat), u = s.judged q → f = u.fld F.SVC_QMAP.FN q.object →
  s.ready opQueueRelease q = true → q.object < 16384 → u.flag F.SVC_QMAP.ASSIGNED q.object = true → u.queueFixed q.object = false →
  exec (.queueRelease q) s = .next ((((u.freshQueue f (u.fld F.SVC_QMAP.LOCAL q.object)).unmap R.SVC_QMAP q.object).resChange
    [some f]).answered opQueueRelease q)

/-- VECTOR_ASSIGN gives an unassigned vector to a function with room, under a free local index (R284). -/
def vectorAssign : Prop := ∀ (s u : State) (q : CrbReq) (f l : Nat), u = s.judged q → f = q.num 0 2 → l = q.num 2 1 →
  s.ready opVectorAssign q = true → q.object < 16384 → f < 2048 → u.flag F.SVC_VMAP.ASSIGNED q.object = false →
  u.mapAt R.SVC_VMAP f l = none → u.heldOf R.SVC_VMAP f < 256 →
  exec (.vectorAssign q) s = .next ((((u.remap R.SVC_VMAP q.object f l).freshVector f l).resChange [none, some f]).answered opVectorAssign q)

/-- VECTOR_RELEASE takes a vector that no enabled queue names from its function (R284). -/
def vectorRelease : Prop := ∀ (s u : State) (q : CrbReq) (f : Nat), u = s.judged q → f = u.fld F.SVC_VMAP.FN q.object →
  s.ready opVectorRelease q = true → q.object < 16384 → u.flag F.SVC_VMAP.ASSIGNED q.object = true → u.vectorFixed q.object = false →
  exec (.vectorRelease q) s = .next ((((u.freshVector f (u.fld F.SVC_VMAP.LOCAL q.object)).unmap R.SVC_VMAP q.object).resChange
    [some f]).answered opVectorRelease q)

/-- SET_SHARE sets a function's weight (1 to 1,023) and its rate cap (0 to 800) (R283). -/
def setShare : Prop := ∀ (s : State) (q : CrbReq), s.ready opSetShare q = true → q.object < 2048 → 1 ≤ q.num 0 2 → q.num 0 2 < 1024 →
  q.num 2 2 ≤ 800 →
  exec (.setShare q) s = .next ((((s.judged q).setFld F.SVC_FN_CFG.WEIGHT q.object (q.num 0 2)).setFld F.SVC_FN_CFG.RATE q.object
    (q.num 2 2)).answered opSetShare q)

/-- TRACE_ASSIGN gives a context that is OFF to a slot of a function that no other context holds, with an aligned base and a number of
lines (R287, R288). -/
def traceAssign : Prop := ∀ (s u : State) (q : CrbReq) (f t : Nat), u = s.judged q → f = q.num 0 2 → t = q.num 2 1 →
  s.ready opTraceAssign q = true → q.object < 512 → f < 2048 → t < 8 → q.num 3 8 % 0x200000 = 0 → 1 ≤ q.num 11 3 →
  u.trcState q.object = 0 → u.slotHolder f t q.object = none →
  exec (.traceAssign q) s = .next ((((((u.wr R.SVC_TRC_CFG q.object (BitVec.ofNat 32 (f + 2 ^ 11 * t + 2 ^ 14))).wr R.SVC_TRC_RANGE_LO q.object
    (BitVec.ofNat 32 (q.num 3 8))).wr R.SVC_TRC_RANGE_HI q.object (BitVec.ofNat 32 (q.num 3 8 / 2 ^ 32))).wr R.SVC_TRC_LINES q.object
    (BitVec.ofNat 32 (q.num 11 3))).resChange [u.ownerOf F.SVC_TRC_CFG.ASSIGNED F.SVC_TRC_CFG.OWNER q.object, some f]).answered opTraceAssign q)

/-- TRACE_RELEASE of a context that is OFF takes it from its function (R288). -/
def traceRelease : Prop := ∀ (s u : State) (q : CrbReq), u = s.judged q → s.ready opTraceRelease q = true → q.object < 512 →
  u.trcState q.object = 0 →
  exec (.traceRelease q) s = .next (((u.wr R.SVC_TRC_CFG q.object 0).resChange
    [u.ownerOf F.SVC_TRC_CFG.ASSIGNED F.SVC_TRC_CFG.OWNER q.object]).answered opTraceRelease q)

/-- SET_DM sets SVC_CFG (R278). -/
def setDm : Prop := ∀ (s : State) (q : CrbReq), s.ready opSetDm q = true → q.sound (s.judged q) .plain [(R.SVC_CFG, 0)] = true →
  exec (.setDm q) s = .next ((q.asked (s.judged q) [(R.SVC_CFG, 0)]).answered opSetDm q)

/-- GET_DM answers what a function holds, and the status of each of its queues (R309). -/
def getDm : Prop := ∀ (s : State) (q : CrbReq), s.ready opGetDm q = true → q.object < 2048 →
  exec (.getDm q) s = .next ((s.judged q).answered opGetDm q ((s.judged q).regBytes ((R.FN_INFO, q.object) ::
    ((List.range 256).filter ((s.judged q).hasQueue q.object)).map (fun l => (R.Q_STATUS, 256 * q.object + l)))))

/-! ## Corber: errors (group 0x0C) -/

/-- READ_JOURNAL answers up to 63 entries, from the oldest held at or after a JSEQ (R221). -/
def readJournal : Prop := ∀ (s : State) (q : CrbReq), s.ready opReadJournal q = true → 1 ≤ q.num 4 1 → q.num 4 1 ≤ 63 →
  exec (.readJournal q) s = .next ((s.judged q).answered opReadJournal q
    (((s.judged q).journalFrom (q.num 0 4) (q.num 4 1)).map (·.bytes)).flatten)

/-- READ_FLASH_JOURNAL answers the FATAL entries flash keeps, oldest first (R222). -/
def readFlashJournal : Prop := ∀ (s : State) (q : CrbReq), s.ready opReadFlashJournal q = true →
  exec (.readFlashJournal q) s = .next ((s.judged q).answered opReadFlashJournal q
    ((s.judged q).err.flashJournal.reverse.map (·.bytes)).flatten)

/-- READ_COUNTERS reads listed counters in order, each 64-bit counter whole (R317). -/
def readCounters : Prop := ∀ (s : State) (q : CrbReq), s.ready opReadCounters q = true →
  (counterOffsets q).all (fun o => ((s.judged q).counterAt o).isSome) = true →
  exec (.readCounters q) s = .next ((State.readCounters (counterOffsets q) (s.judged q)).2.answered opReadCounters q
    (State.readCounters (counterOffsets q) (s.judged q)).1)

/-- CLEAR_COUNTERS clears listed counters and their overflow bits (R315, R316). -/
def clearCounters : Prop := ∀ (s : State) (q : CrbReq), s.ready opClearCounters q = true →
  (counterOffsets q).all (fun o => ((s.judged q).counterAt o).isSome) = true →
  exec (.clearCounters q) s = .next (((s.judged q).each (counterOffsets q) State.clearCounter).answered opClearCounters q)

/-- READ_PFL answers entries of a VH's posted-failure ring, then PROD and CONS, which stay (R215). -/
def readPfl : Prop := ∀ (s : State) (q : CrbReq), s.ready opReadPfl q = true → q.object < 144 → q.num 0 1 ≤ 63 → 1 ≤ q.num 1 1 →
  q.num 1 1 ≤ 64 →
  exec (.readPfl q) s = .next ((s.judged q).answered opReadPfl q
    (((List.range (q.num 1 1)).map (fun k => (s.judged q).pflBytes q.object ((q.num 0 1 + k) % 64))).flatten ++
      leBytes 1 ((s.judged q).fld F.ERR_PFL_IDX.PROD q.object) ++ leBytes 1 ((s.judged q).fld F.ERR_PFL_IDX.CONS q.object)))

/-- SET_ERR sets the error and watchdog configuration of the device (OBJECT 0xFFFF), or the error configuration of a VH (R224). -/
def setErr : Prop := ∀ (s u : State) (q : CrbReq), u = s.judged q → s.ready opSetErr q = true →
  (q.object = 0xFFFF → q.body.length = 8 → q.sound u .plain [(R.ERR_CFG, 0), (R.ERR_WDOG_CFG, 0)] = true →
    exec (.setErr q) s = .next ((q.asked u [(R.ERR_CFG, 0), (R.ERR_WDOG_CFG, 0)]).answered opSetErr q)) ∧
  (q.object < 144 → q.body.length = 4 → q.sound u .plain [(R.ERR_VH_CFG, q.object)] = true →
    exec (.setErr q) s = .next ((q.asked u [(R.ERR_VH_CFG, q.object)]).answered opSetErr q))

/-! ## Direct accesses to registers, and the debug port (R10 to R12, R115, R269 to R276, R311, R315, R317) -/

/-- REGISTER_WRITE of one word through the management PF acts on each field of the register there by its access code (R12). -/
def registerWrite : Prop := ∀ (s : State) (off : BitVec 26) (be : BitVec 8) (data : BitVec 64) (r : RegDesc) (i m v : Nat),
  s.mode ≠ .reset → be.toNat / 16 = 0 → s.regAtOff (off.toNat / 4 * 4) = some (r, i) → m = enabledBits be.toNat →
  v = data.toNat % 2 ^ 32 →
  exec (.registerWrite none off be data) s = .next ((s.writeFields r i m v).writeCo r i m v (off.toNat / 4 * 4))

/-- REGISTER_WRITE of a word through a function's own interface acts on that function's registers alone (R10, R284). -/
def registerWriteFn : Prop := ∀ (s : State) (f : Fin 2048) (off : BitVec 26) (be : BitVec 8) (data : BitVec 64) (r : RegDesc) (i m v : Nat),
  s.mode ≠ .reset → be.toNat / 16 = 0 → findReg (fnOffset f (off.toNat / 4 * 4)) = some (r, i) → m = enabledBits be.toNat →
  v = data.toNat % 2 ^ 32 →
  exec (.registerWrite (some f) off be data) s = .next ((s.writeFields r i m v).writeCo r i m v (off.toNat / 4 * 4))

/-- REGISTER_WRITE of 64 bits is two words, the lower address first (R10). -/
def registerWriteWide : Prop := ∀ (s : State) (off : BitVec 26) (data : BitVec 64), s.mode ≠ .reset →
  exec (.registerWrite none off 0xFF data) s = .next ((s.directWrite (off.toNat / 4 * 4) 0xFFFFFFFF (data.toNat % 2 ^ 32)).directWrite
    (off.toNat / 4 * 4 + 4) 0xFFFFFFFF (data.toNat / 2 ^ 32))

/-- REGISTER_WRITE of the upper word of a 64-bit access alone writes the word above, and one that crosses a word boundary is an
Unsupported Request that changes no register (R10). -/
def registerWriteUpper : Prop := ∀ (s : State) (off : BitVec 26) (be : BitVec 8) (data : BitVec 64), s.mode ≠ .reset →
  be.toNat / 16 ≠ 0 →
  (be.toNat % 16 = 0 → exec (.registerWrite none off be data) s =
    .next (s.directWrite (off.toNat / 4 * 4 + 4) (enabledBits (be.toNat / 16)) (data.toNat / 2 ^ 32))) ∧
  (crossesWord be.toNat = true → exec (.registerWrite none off be data) s = .next (s.aerLog .mgmtPf .unsupportedRequest true))

/-- A write of RW bits of a register that has no action of its own leaves the bits written, and every other register alone (R12). -/
def writeRwPlain : Prop := ∀ (s : State) (r : RegDesc) (i m w : Nat), m ≠ 0 →
  ([R.PCL_PORT_CTRL, R.PCL_LANE_RXADAPT_CTRL, R.PCL_PRBS_CTRL, R.PWR_TB_SET_HI, R.Q_CTRL, R.TS_CTRL, R.MGT_CRB_CTRL,
    R.MGT_CRB_RPL_HEAD].any (fun x => x.base == r.base)) = false →
  s.writeRw r i m w = s.wr r i (BitVec.ofNat 32 w)

/-- A direct change of CO fields outside MAINTENANCE is ignored and journalled as class 0x0606, with the offset as its detail (R12). -/
def coIgnored : Prop := ∀ (s : State) (r : RegDesc) (i m v off : Nat), s.mode ≠ .maintenance → s.stopped r i = false →
  mergeBits (s.rd r i).toNat v (Nat.land m (s.coMask r i)) ≠ (s.rd r i).toNat →
  s.writeCo r i m v off = s.journal 0x0606 { detail := off }

/-- TABLE_WINDOW_WRITE reaches the shadow bank in MAINTENANCE while the rings hold the open session (R115). -/
def tableWindowWrite : Prop := ∀ (s : State) (off : BitVec 26) (be : BitVec 4) (value : BitVec 32) (t : Table) (i b : Nat),
  windowAt (off.toNat / 4 * 4) = some (t, i, b) → (t = .attach → 144 ≤ i) → s.mode = .maintenance → s.ringsHold = true →
  exec (.tableWindowWrite off be value) s = .next ((s.writeShadow t i
    (entryWord (s.bnd.shadow.entry t i) b (enabledBits be.toNat) value.toNat)).useSession)

/-- TABLE_WINDOW_WRITE that would change an entry in any other case is ignored and journalled as class 0x0606 (R115). -/
def tableWindowIgnored : Prop := ∀ (s : State) (off : BitVec 26) (be : BitVec 4) (value : BitVec 32) (t : Table) (i b : Nat),
  windowAt (off.toNat / 4 * 4) = some (t, i, b) → (t = .attach → 144 ≤ i) → s.mode ≠ .reset →
  (s.mode ≠ .maintenance ∨ s.ringsHold = false) →
  entryWord (s.viewBank.entry t i) b (enabledBits be.toNat) value.toNat ≠ s.viewBank.entry t i →
  exec (.tableWindowWrite off be value) s = .next (s.journal 0x0606 { detail := off.toNat / 4 * 4 })

/-- COUNTER_LO_READ returns the low half and latches the high half of the same moment (R317). -/
def counterLoRead : Prop := ∀ (s : State) (off : BitVec 26) (o : Nat) (r : RegDesc) (i : Nat), s.mode ≠ .reset → o = off.toNat / 4 * 4 →
  s.regAtOff o = some (r, i) → isLow r = true →
  exec (.counterLoRead off) s =
    .next (({ s with latches := put (r.addr i + 4) (s.peek (o + 4)) s.latches } : State).emit (.data (s.shown r i).toNat))

/-- HWM_READ returns a high-water mark and clears it (R315). -/
def hwmRead : Prop := ∀ (s : State) (off : BitVec 26) (r : RegDesc) (i : Nat), s.mode ≠ .reset →
  s.regAtOff (off.toNat / 4 * 4) = some (r, i) → r.kind = .hwm → isLow r = false → isHigh r = false →
  exec (.hwmRead off) s = .next ((s.resetReg r i).emit (.data (s.shown r i).toNat))

/-- QOS_GCL_CHANGE makes a good administrative list pending until its first cycle start (R241). -/
def qosGclChange : Prop := ∀ (s : State) (p : Fin 144) (cycle base start : Nat) (l : List Word),
  cycle = s.fld F.QOS_GCL_CYCLE.CYCLE_NS p → base = (s.rd R.QOS_GCL_BASE_LO p).toNat + 2 ^ 32 * (s.rd R.QOS_GCL_BASE_HI p).toNat →
  l = s.adminList p (s.fld F.QOS_GCL_CTRL.ADMIN_LAST p) → gclOk cycle l = true → start = cycleStart base cycle s.tb.toNat →
  exec (.qosGclChange p) s = .next ((((s.onQos (fun y => { y with
    gclPending := ⟨p, cycle, base, start, l⟩ :: s.qos.gclPending.filter (·.port != p) })).setFld F.QOS_GCL_STATUS.CHANGE_PENDING p 1).setFld
    F.QOS_STATUS.GCL_PENDING 0 1))

/-- FV_VALID_CLEAR clears the first-violation capture and rearms it (R267). -/
def fvValidClear : Prop := ∀ (s : State),
  exec .fvValidClear s = .next ((s.setFld F.ACU_FV_INFO.VALID 0 0).setFld F.ACU_STATUS.FV_VALID 0 0)

/-- DBG_FV_VALID_CLEAR clears the capture of the debug port and rearms it (R271). -/
def dbgFvValidClear : Prop := ∀ (s : State), exec .dbgFvValidClear s = .next (s.setFld F.DBG_LOCK_FV_INFO.VALID 0 0)

/-- DBG_TOKEN_WRITE stores a word that is not zero while no verification runs (R272). -/
def dbgTokenWrite : Prop := ∀ (s : State) (w : Fin 8192) (v : BitVec 32), s.verifying = false → v ≠ 0 →
  exec (.dbgTokenWrite w v) s = .next (s.onSec (fun y => { y with token := put w.val v y.token }))

/-- DBG_CLR_TOKEN zeroes DBG_TOKEN while no verification runs (R276). -/
def dbgClrToken : Prop := ∀ (s : State), s.verifying = false →
  exec .dbgClrToken s = .next (s.onSec (fun y => { y with token := [] }))

/-- While VERIFYING is 1, DBG_TOKEN_WRITE, DBG_CLR_TOKEN and DBG_VERIFY change nothing (R272, R276). -/
def dbgWhileVerifying : Prop := ∀ (s : State) (w : Fin 8192) (v : BitVec 32), s.verifying = true →
  exec (.dbgTokenWrite w v) s = .next s ∧ exec .dbgClrToken s = .next s ∧ exec .dbgVerify s = .next s

/-- DBG_VERIFY sets VERIFYING (R272). -/
def dbgVerify : Prop := ∀ (s : State), s.verifying = false → exec .dbgVerify s = .next (s.setFld F.DBG_STATUS.VERIFYING 0 1)

/-- DBG_RELOCK ends the unlock in force, or abandons a verification with RESULT 7 (R273). -/
def dbgRelock : Prop := ∀ (s t : State), t = s.setFld F.DBG_STATUS.UNLOCKED 0 0 →
  (t.verifying = true → s.verifying = true → exec .dbgRelock s = .next ((t.verifyEnds 7).raise F.DBG_EVT.RELOCKED)) ∧
  (t.verifying = false → s.flag F.DBG_STATUS.UNLOCKED = true → exec .dbgRelock s = .next (t.raise F.DBG_EVT.RELOCKED))

/-- TOKEN_VERIFY_DONE unlocks on a pass, and counts and reports a fail; either way the result stands and the nonce is renewed (R272,
R387). -/
def tokenVerifyDone : Prop := ∀ (s t : State) (r : Nat), s.verifying = true → r = s.tokenResult s.tokenBytes →
  t = (if s.flag F.DBG_STATUS.UNLOCKED = true then s else s.onSec (fun y => { y with unlocks := y.unlocks + 1 })) →
  exec .tokenVerifyDone s = .next ((if r = 1 then (t.setFld F.DBG_STATUS.UNLOCKED 0 1).raise F.DBG_EVT.UNLOCKED
    else (s.raise F.DBG_EVT.TOKEN_REJECTED).bump R.SEC_TOKEN_FAIL_CNT).verifyEnds r)

/-- PWR_TB_SET steps the timebase to the value of both halves and makes it valid (R346, R347). -/
def pwrTbSet : Prop := ∀ (s t : State) (hi : BitVec 32), t = s.wr R.PWR_TB_SET_HI 0 hi →
  exec (.pwrTbSet hi) s = .next ((t.tbStep (BitVec.ofNat 64 (hi.toNat * 2 ^ 32 + (t.rd R.PWR_TB_SET_LO).toNat))).setFld
    F.PWR_TB_STATUS.VALID 0 1)

/-- DEBUG_ACCESS to a word that is not locked is served; a write of Malacel's memory is kept and read back (R271). -/
def debugAccess : Prop := ∀ (s t : State) (addr : BitVec 36) (v : BitVec 32), s.mode ≠ .reset → barSize ≤ addr.toNat / 4 * 4 →
  (debugRegion (addr.toNat / 4 * 4)).filter s.debugLocked = none → inSram (addr.toNat / 4 * 4) = true →
  t = s.emit (.data ((look (addr.toNat / 4 * 4) s.sec.sram).getD (Config.sramWord (addr.toNat / 4 * 4))).toNat) →
  exec (.debugAccess addr true v) s =
    .next ((s.onSec (fun y => { y with sram := put (addr.toNat / 4 * 4) v y.sram })).setFld F.DBG_STATUS.LAST_LOCKED 0 0) ∧
  exec (.debugAccess addr false v) s = .next (t.setFld F.DBG_STATUS.LAST_LOCKED 0 0)

/-- DEBUG_ACCESS to a locked word is dropped, counted, captured and journalled, and a read returns 0x0BAD_10CC (R271). -/
def debugLocked : Prop := ∀ (s : State) (addr : BitVec 36) (write : Bool) (v : BitVec 32) (reg : Nat), s.mode ≠ .reset →
  barSize ≤ addr.toNat / 4 * 4 → (debugRegion (addr.toNat / 4 * 4)).filter s.debugLocked = some reg →
  exec (.debugAccess addr write v) s = .next (s.lockHit (addr.toNat / 4 * 4) reg write)

/-! ## Lanes, links and clocks (chapter 02) -/

/-- PRBS_INJ inverts one bit of a running generator's output (R59). -/
def prbsInj : Prop := ∀ (s : State) (l : Fin 288) (p : Nat), s.generating l = true → s.portOfLane l = some p →
  exec (.prbsInj l) s = .next (s.emit (.link p (.lane l 0 1)))

/-- PRBS_CLR zeroes the count and OVF of a lane in TEST; an error of the same cycle counts after it (R59). -/
def prbsClr : Prop := ∀ (s : State) (l : Fin 288) (e : Bool), s.prbsOn l = true →
  exec (.prbsClr l e) s = .next ((s.setFld F.PCL_PRBS_ERR.ERR_COUNT l
    (if e && s.checking l && s.flag F.PCL_PRBS_STATUS.LOCK l then 1 else 0)).setFld F.PCL_PRBS_STATUS.OVF l 0)

/-- PRBS_CHECKER_WORD adds the bit errors of a word to the count of a locked checker, which stops at its largest value with OVF, and
takes the lock away at the 16th errored word in a row (R59). -/
def prbsCheckerWord : Prop := ∀ (s t : State) (l : Fin 288) (n : Fin 65) (a : Bool) (v k : Nat), s.checking l = true →
  s.flag F.PCL_PRBS_STATUS.LOCK l = true → n.val ≠ 0 → v = s.fld F.PCL_PRBS_ERR.ERR_COUNT l + n →
  t = (s.setFld F.PCL_PRBS_ERR.ERR_COUNT l (min v 0xFFFFFFFF)).whenb (0xFFFFFFFF ≤ v) (fun s => s.setFld F.PCL_PRBS_STATUS.OVF l 1) →
  k = (look l.val t.pins.prbsRun).getD 0 + 1 →
  (k < 16 → exec (.prbsCheckerWord l n a) s = .next (t.onPins (fun y => { y with prbsRun := put l.val k y.prbsRun }))) ∧
  (16 ≤ k → exec (.prbsCheckerWord l n a) s =
    .next (((t.setFld F.PCL_PRBS_STATUS.LOCK l 0).setFld F.PCL_PRBS_STATUS.LOCK_LOST l 1).onPins (fun y => { y with
      prbsRun := drop l.val y.prbsRun })))

/-- PORT_TEST_WRITE of 1 puts a disabled live port in TEST (R58). -/
def portTestWrite : Prop := ∀ (s t : State) (p : Fin 144), s.live p = true → s.clockRuns (clusterOf p) = true →
  t = s.setFld F.PCL_PORT_CTRL.TEST p 1 → t.flag F.PCL_PORT_CTRL.ENABLE p = false → t.linkState p = 0 →
  exec (.portTestWrite p true) s = .next ((t.linkOff p 6).pllUpdate (clusterOf p))

/-- RXADAPT_CTRL_WRITE with OVERRIDE sets the control word alone: the override values stand in their registers (R55). -/
def rxadaptCtrlWrite : Prop := ∀ (s t : State) (l : Fin 288) (v : BitVec 32), s.clockRuns (l / 8) = true →
  t = s.wr R.PCL_LANE_RXADAPT_CTRL l (BitVec.ofNat 32 (Nat.land v.toNat R.PCL_LANE_RXADAPT_CTRL.mask)) →
  t.flag F.PCL_LANE_RXADAPT_CTRL.OVERRIDE l = true → exec (.rxadaptCtrlWrite l v) s = .next t

/-- RXADAPT_CTRL_WRITE without OVERRIDE sets the control word, and each value register of the lane is held or let go by what now adapts
it (R55). -/
def rxadaptFreeze : Prop := ∀ (s t : State) (l : Fin 288) (v : BitVec 32), s.clockRuns (l / 8) = true →
  t = s.wr R.PCL_LANE_RXADAPT_CTRL l (BitVec.ofNat 32 (Nat.land v.toNat R.PCL_LANE_RXADAPT_CTRL.mask)) →
  t.flag F.PCL_LANE_RXADAPT_CTRL.OVERRIDE l = false →
  exec (.rxadaptCtrlWrite l v) s = .next (t.each rxRegs (fun t r => t.rxHold r l (s.flag F.PCL_LANE_RXADAPT_CTRL.OVERRIDE l)))

/-- A value register whose loop adapts is let go; one whose loop stops holds what it has reached: 0 where the rate or an untrained lane
holds it there, else a free value; one that held already keeps its value; and after OVERRIDE the written value stands (R55). -/
def rxHeld : Prop := ∀ (s : State) (r : RegDesc) (l : Nat) (b : Bool),
  (s.rxAdapts r l = true → s.rxHold r l b = ({ s with regs := drop (heldRx r l) s.regs } : State)) ∧
  (s.rxAdapts r l = false → s.rxHold r l true = ({ s with regs := put (heldRx r l) (s.rd r l) s.regs } : State)) ∧
  (s.rxAdapts r l = false → (look (heldRx r l) s.regs).isSome = true → s.rxHold r l false = s) ∧
  (s.rxAdapts r l = false → (look (heldRx r l) s.regs).isSome = false → s.rxHold r l false =
    State.drew { s with regs := put (heldRx r l) (BitVec.ofNat 32 (s.rxNow r l)) s.regs }) ∧
  (s.rxZero r l = true ∨ s.flag F.PCL_LANE_STATUS.ADAPT_CONVERGED l = false → s.rxNow r l = 0)

/-- LINK_UP of a host-edge port that may train, at a rate and width it can have, makes its link ACTIVE, its VH active, and leaves the
polarity and the transmit settings training found (R22, R50, R54, R57, R92). -/
def linkUp : Prop := ∀ (s t u : State) (p : Fin 144) (rate : Fin 8) (width : Fin 17) (flit rev : Bool) (serials : List (Nat × Nat))
  (ffe : List (Nat × BitVec 32)), s.mode ≠ .reset → s.mode ≠ .boot → s.mayTrain p = true → s.proto p = 0 →
  (s.linkState p = 1 ∨ s.linkState p = 2) → rate.val ≠ 0 → rate.val ≤ s.rateCap p flit → width.val ≠ 0 →
  width.val ≤ (s.lanesOf p).length → t = s.linkActive p rate width flit false rev → t.isHostEdge p = true → t.proto p = 0 →
  u = t.each (s.lanesOf p) State.findPolarity →
  exec (.linkUp p rate width flit false rev serials ffe) s = .next
    (if (u.vhUp p).linkUp p then ((u.vhUp p).txSettings p ffe).limitAtLinkUp p else u.vhUp p).dmRun

/-- RATE_CHANGE returns a PCI Express link from Recovery at another rate within its cap, its width as it was, and reports the change
(R22). -/
def rateChange : Prop := ∀ (s t : State) (p : Fin 144) (rate : Fin 8) (cxl : Bool), s.proto p = 0 → s.linkState p = 4 →
  rate.val ≠ 0 → rate.val ≤ s.rateCap p (s.flag F.PCL_PORT_STATUS.FLIT p) → s.fld F.PCL_PORT_STATUS.WIDTH_NOW p ≠ 0 →
  s.fld F.PCL_PORT_STATUS.WIDTH_NOW p ≤ (s.lanesOf p).length → rate.val ≠ s.fld F.PCL_PORT_STATUS.RATE_NOW p →
  t = ((((s.abortRecal p 1).setFld F.PCL_PORT_STATUS.STATE p 3).setFld F.PCL_PORT_STATUS.RATE_NOW p rate).setFld
    F.PCL_PORT_STATUS.WIDTH_NOW p (s.fld F.PCL_PORT_STATUS.WIDTH_NOW p)).setFld F.PCL_PORT_STATUS.CXL_ACTIVE p 0 →
  exec (.rateChange p rate cxl) s = .next (t.raise F.PCL_PORT_EVT.RATE_CHANGE p).demandStep

/-- L0P_WIDTH_REQUEST to a greater width within the full one is agreed once no cut-through packet is in progress (R73). -/
def l0pWidthRequest : Prop := ∀ (s : State) (p : Fin 144) (w : Fin 17), s.active p = true → s.proto p ≠ 2 →
  s.flag F.PCL_PORT_STATUS.FLIT p = true → s.flag F.PCL_PORT_CTRL.L0P_EN p = true → 2 ≤ s.fullOf p → w.val ≠ 0 → w.val ≤ s.fullOf p →
  s.fld F.PCL_PORT_STATUS.WIDTH_NOW p < w.val → [1, 2, 4, 8, 16].contains w.val = true → s.flag F.PCL_PORT_STATUS.RECAL_BORROW p = false →
  s.recalMine p w = false → s.cutThroughTo p = false →
  exec (.l0pWidthRequest p w) s = .next (s.l0pTo p w (s.fullOf p) ((s.lanesOf p).drop w))

/-- ASPM_L1_ENTRY takes an active PCI Express link into L0s where the port and the host's ASPM control allow it; FLIT mode has no L0s
(R5, R61). -/
def aspmL0sEntry : Prop := ∀ (s : State) (p : Fin 144), s.proto p = 0 → s.active p = true → s.linkUp p = true →
  s.flag F.PCL_PORT_CTRL.L0S_EN p = true → s.flag F.PCL_PORT_STATUS.FLIT p = false → s.aspmAllows p 1 = true →
  exec (.aspmL1Entry p 1 true false) s =
    .next (((s.setFld F.PCL_PORT_STATUS.STATE p 5).setFld F.PCL_PORT_STATUS.LPSTATE p 1).pllUpdate (clusterOf p))

/-- ASPM_L1_ENTRY takes an active PCI Express link into L1.1 or L1.2 where the port and the host's ASPM control allow it and no
recalibration runs; a device end tells its VH end that CLKREQ is released (R61, R143). -/
def aspmSubstateEntry : Prop := ∀ (s : State) (p : Fin 144) (st : Fin 5), 3 ≤ st.val → s.proto p ≠ 2 → s.active p = true →
  s.linkUp p = true → s.flag F.PCL_PORT_CTRL.L1SS_EN p = true → s.aspmAllows p st = true → s.recalOn p = false →
  exec (.aspmL1Entry p st true false) s =
    .next ((((s.setFld F.PCL_PORT_STATUS.STATE p 5).setFld F.PCL_PORT_STATUS.LPSTATE p st).pllUpdate (clusterOf p)).clkreqTold p false)

/-- ASPM_L1_ENTRY takes an active PCI Express link into L1 where the port and the host's ASPM control allow it and no recalibration runs
(R61). -/
def aspmL1Entry : Prop := ∀ (s : State) (p : Fin 144), s.proto p ≠ 2 → s.active p = true → s.linkUp p = true →
  s.flag F.PCL_PORT_CTRL.L1_EN p = true → s.aspmAllows p 2 = true → s.recalOn p = false →
  exec (.aspmL1Entry p 2 true false) s =
    .next (((s.setFld F.PCL_PORT_STATUS.STATE p 5).setFld F.PCL_PORT_STATUS.LPSTATE p 2).pllUpdate (clusterOf p))

/-- LOW_POWER_EXIT of a PCI Express link makes it ACTIVE, its PLL running again; from L1.1 and L1.2 CLKREQ is asserted again, and from
L1.2 it is a wake source (R62, R143, Table 13.5). -/
def lowPowerExit : Prop := ∀ (s t : State) (p : Fin 144) (n : Nat), s.linkState p = 5 → s.proto p ≠ 2 →
  n = s.fld F.PCL_PORT_STATUS.LPSTATE p →
  t = ((s.setFld F.PCL_PORT_STATUS.STATE p 3).setFld F.PCL_PORT_STATUS.LPSTATE p 0).pllUpdate (clusterOf p) →
  exec (.lowPowerExit p) s = .next (if n = 4 then (t.clkreqTold p true).wakeBy 1 p else if 3 ≤ n then t.clkreqTold p true else t)

/-- REFCLK_LOSS takes an input's clock away, and every cluster that runs on it goes dark (R53). -/
def refclkLoss : Prop := ∀ (s t : State) (c : Fin 36), s.mode ≠ .reset →
  t = s.onPins (fun y => { y with refclk := y.refclk.filter (· != c.val) }) →
  exec (.refclkLoss c) s = .next (t.each (List.range 36) (fun s c =>
    if s.flag F.PCL_CLUSTER_STATUS.REFCLK_OK c && !s.refPresent c then s.clusterDark c
    else if !s.flag F.PCL_CLUSTER_STATUS.REFCLK_OK c && s.refPresent c then s.clusterLit c else s)).dmRun

/-- REFCLK_RETURN brings an input's clock back, and every cluster that runs on it relocks (R53). -/
def refclkReturn : Prop := ∀ (s t : State) (c : Fin 36), s.mode ≠ .reset →
  t = s.onPins (fun y => { y with refclk := c.val :: y.refclk.filter (· != c.val) }) →
  exec (.refclkReturn c) s = .next (t.each (List.range 36) (fun s c =>
    if s.flag F.PCL_CLUSTER_STATUS.REFCLK_OK c && !s.refPresent c then s.clusterDark c
    else if !s.flag F.PCL_CLUSTER_STATUS.REFCLK_OK c && s.refPresent c then s.clusterLit c else s))

/-- MARGIN_COMMAND_RX on a lane of an active link at 16 GT/s or above is answered on that lane, and the error limit it sets and whether
the lane is being margined are kept (R60); while a recalibration runs the lane answers Not Ready (R64). -/
def marginCommandRx : Prop := ∀ (s : State) (p : Fin 144) (lane : Fin 16) (type : Fin 8) (payload : BitVec 8) (l : Nat) (r : Nat × Nat),
  l = firstLane p + lane → r = s.marginReply p l type payload.toNat → s.proto p ≠ 2 →
  s.active p = true → 4 ≤ s.fld F.PCL_PORT_STATUS.RATE_NOW p → lane.val < (s.lanesOf p).length →
  (s.recalOn p = false → exec (.marginCommandRx p lane type payload) s =
    .next (((s.marginHold l type payload.toNat).emit (.link p (.lane l r.1 r.2))).drew)) ∧
  (s.recalOn p = true → exec (.marginCommandRx p lane type payload) s = .next (s.emit (.link p (.lane l 0 0))))

/-- MARGIN_DONE gives the final reply of an accepted MARGIN of the port, with a byte of the steps reached for each lane (R60, R305).  The
byte per lane is the model's choice (notes/assumptions/7). -/
def marginDone : Prop := ∀ (s : State) (p : Fin 144) (steps : List (BitVec 8)),
  exec (.marginDone p steps) s = .next (s.finish 0x0206 p stOk 0 (s.marginSteps p steps))

/-- RECAL_HALF_DONE of a PCI Express port that has borrowed half its lanes asks the partner by L0p for the full width, and with no
cut-through packet toward it (R73) restores that width and goes on to the other half or completes; a KFL port asks for the restore (R63,
Table 2.8). -/
def recalHalfDone : Prop := ∀ (s t : State) (p : Fin 144), s.recalOn p = true → s.flag F.PCL_PORT_STATUS.RECAL_BORROW p = true →
  t = s.emit (.link p (.l0p (s.fullOf p))) →
  (s.proto p ≠ 2 → s.cutThroughTo p = false → exec (.recalHalfDone p) s = .next ((t.l0pTo p (t.fullOf p) (t.fullOf p) []).recalNext p)) ∧
  (s.proto p = 2 → exec (.recalHalfDone p) s = .next (s.askRestore (controllerOf p)))

/-- CDR_LOCK_LOSS of a lane of a PCI Express port shows the lock lost, and nothing else (R57). -/
def cdrLockLoss : Prop := ∀ (s t : State) (l : Fin 288) (p : Nat), t = s.setFld F.PCL_LANE_STATUS.CDR_LOCK l 0 →
  t.portOfLane l = some p → t.proto p ≠ 2 → exec (.cdrLockLoss l) s = .next t

/-- CDR_LOCK_LOSS of an active lane of a KFL link starts its recovery (R192). -/
def cdrLockLossKfl : Prop := ∀ (s t : State) (l : Fin 288) (p : Nat), t = s.setFld F.PCL_LANE_STATUS.CDR_LOCK l 0 →
  t.portOfLane l = some p → t.proto p = 2 →
  (lanesIn (t.fld F.KFL_LINK_STATUS.LANES_ACTIVE (controllerOf p))).any (fun i => t.physLane (controllerOf p) i == l.val) = true →
  exec (.cdrLockLoss l) s = .next (t.kflRecover (controllerOf p))

/-- PERST_OUT_N_RELEASE releases a port's PERST_OUT_N once it may go (R405). -/
def perstOutNRelease : Prop := ∀ (s : State) (p : Fin 144), s.mayReleasePerst p = true →
  exec (.perstOutNRelease p) s = .next ((s.releasePerst p).disarm .perstOut p)

/-! ## Corber's transports (R219, R298 to R300, R314) -/

/-- CRB_REQ_DOORBELL puts the tail where the host has it, in the bytes its write enables, modulo the ring; running rings are then read, and with no packet read before and
no reply waiting, Kalnum reads the waiting slots from host memory as the management function, 16 at most (R298). -/
def crbReqDoorbell : Prop := ∀ (s t : State) (tail : BitVec 12) (be : BitVec 2), s.mode ≠ .reset → s.mode ≠ .drowse →
  t = s.setFld F.MGT_CRB_REQ_TAIL.IDX 0 (s.reqTail tail be % 2 ^ s.crb.ringSet.req) →
  (t.fld F.MGT_CRB_STATUS.STATE ≠ 1 → exec (.crbReqDoorbell tail be) s = .next t) ∧
  (t.fld F.MGT_CRB_STATUS.STATE = 1 → exec (.crbReqDoorbell tail be) s = .next t.drainRing ∧
    ((t.ringsRun && t.ringEnds.ringsRun && t.ringEnds.crb.heldReplies.isEmpty && t.ringEnds.crb.ringWait.isEmpty) = true →
      exec (.crbReqDoorbell tail be) s = .next t.ringEnds.ringFetch)) ∧
  s.reqTail tail 3 = tail.toNat ∧ s.reqTail tail 0 = s.fld F.MGT_CRB_REQ_TAIL.IDX

/-- CRB_REQ_DOORBELL with waiting slots and no function to read them, or a read that ended in an error, leaves the rings in error 2 (R298).
-/
def crbReqDoorbellFails : Prop := ∀ (s t : State) (tail : BitVec 12) (be : BitVec 2), s.mode ≠ .reset → s.mode ≠ .drowse →
  t = s.setFld F.MGT_CRB_REQ_TAIL.IDX 0 (s.reqTail tail be % 2 ^ s.crb.ringSet.req) → t.fld F.MGT_CRB_STATUS.STATE = 1 →
  t.ringEnds = t → t.ringsRun = true → t.crb.heldReplies = [] → t.crb.ringWait = [] → t.ringWaiting ≠ 0 → t.ringReading = false →
  t.fnRuns 0 = none →
  exec (.crbReqDoorbell tail be) s = .next ((t.setFld F.MGT_CRB_STATUS.STATE 0 2).setFld F.MGT_CRB_STATUS.ERR 0 2)

/-- CRB_RPL_HEAD_WRITE frees reply slots: held replies go out, and the reading of requests resumes (R298). -/
def crbRplHeadWrite : Prop := ∀ (s : State) (head : BitVec 12), s.mode ≠ .reset →
  exec (.crbRplHeadWrite head) s = .next (((s.setFld F.MGT_CRB_RPL_HEAD.IDX 0
    (head.toNat % 2 ^ s.crb.ringSet.rpl)).flushReplies).drainRing)

/-- CRB_RING_ENABLE with sizes of 2^4 to 2^12 slots starts the rings at their bases, with the rings as subscriber 0 (R297, R298). -/
def crbRingEnable : Prop := ∀ (s t : State) (a b c : Fin 16), rising s.regs = true → s.mode ≠ .reset →
  s.flag F.MGT_CRB_CTRL.ENABLE = false → 4 ≤ a.val → a.val ≤ 12 → 4 ≤ b.val → b.val ≤ 12 → 4 ≤ c.val → c.val ≤ 12 →
  t = (s.wr R.MGT_CRB_CTRL 0 (BitVec.ofNat 32 (4 * a.val + 64 * b + 1024 * c))).setFld F.MGT_CRB_CTRL.ENABLE 0 1 →
  exec (.crbRingEnable a b c true) s =
    .next (((t.setFld F.MGT_CRB_STATUS.STATE 0 1).setFld F.MGT_CRB_STATUS.ERR 0 0).onCrb (fun y => { y with
      ringSet := {
        req := a, rpl := b, evt := c
        reqBase := t.pair R.MGT_CRB_REQ_BASE_LO R.MGT_CRB_REQ_BASE_HI 0
        rplBase := t.pair R.MGT_CRB_RPL_BASE_LO R.MGT_CRB_RPL_BASE_HI 0
        evtBase := t.pair R.MGT_CRB_EVT_BASE_LO R.MGT_CRB_EVT_BASE_HI 0 }
      subs := { idx := 0, src := .rings, mask := 0xFFF, minSev := 0 } :: y.subs.filter (fun (x : Subscriber) => x.src != .rings) }))

/-- CRB_RING_ENABLE with a size out of that range leaves the rings in error 1 (R298). -/
def crbRingEnableBad : Prop := ∀ (s : State) (a b c : Fin 16), rising s.regs = true → s.mode ≠ .reset →
  s.flag F.MGT_CRB_CTRL.ENABLE = false → (badLog2 a || badLog2 b || badLog2 c) = true →
  exec (.crbRingEnable a b c true) s =
    .next ((((s.wr R.MGT_CRB_CTRL 0 (BitVec.ofNat 32 (4 * a.val + 64 * b + 1024 * c))).setFld F.MGT_CRB_CTRL.ENABLE 0 1).setFld
      F.MGT_CRB_STATUS.STATE 0 2).setFld F.MGT_CRB_STATUS.ERR 0 1)

/-- CRB_RING_RESET sets the six indices to 0, drops the packets read, the replies that wait and the packets for the rings, and lets
outstanding ring requests run on with their replies discarded (R314). -/
def crbRingReset : Prop := ∀ (s t : State), s.mode ≠ .reset →
  t = ([F.MGT_CRB_REQ_TAIL.IDX, F.MGT_CRB_REQ_HEAD.IDX, F.MGT_CRB_RPL_HEAD.IDX, F.MGT_CRB_RPL_TAIL.IDX,
    F.MGT_CRB_EVT_HEAD.IDX, F.MGT_CRB_EVT_TAIL.IDX].foldl (fun s f => s.setFld f 0 0) s).ringsDrop →
  exec .crbRingReset s = .next ((t.setFld F.MGT_CRB_STATUS.RPL_STALL 0 0).onCrb (fun y => { y with
    outst := y.outst.map (fun (o : Outst) => if o.req.src = .rings then { o with discard := true } else o) })) ∧
  t.crb.ringWait = [] ∧ t.crb.heldReplies = [] ∧ t.crb.hostOut = []

/-- MCTP_MESSAGE: a native Corber packet is a request, in the form of Table 12.1 (R299). -/
def mctpNative : Prop := ∀ (s : State) (m : Fin 3) (eid : BitVec 8) (b : List (BitVec 8)), s.mode ≠ .reset → s.mctpOn m = true →
  16 ≤ b.length →
  exec (.mctpMessage m eid ([0x7E, 0x7E, 0x1D, 0x01] ++ b)) s =
    .next (s.arrive (parsePacket (.mctp m eid) b).1 (parsePacket (.mctp m eid) b).2)

/-- MCTP_MESSAGE: a packet in the DK-96 form is a request without flags (R299). -/
def mctpDk96 : Prop := ∀ (s : State) (m : Fin 3) (eid : BitVec 8) (b : List (BitVec 8)), s.mode ≠ .reset → s.mctpOn m = true →
  12 ≤ b.length →
  exec (.mctpMessage m eid ([0x7E, 0x7E, 0x1D, 0x00] ++ b)) s =
    .next (s.arrive (parseDk96 (.mctp m eid) b).1 (parseDk96 (.mctp m eid) b).2)

/-- MCTP_MESSAGE: a CXL FM API request is answered, and an SPDM message reaches the SPDM responder (R299). -/
def mctpOthers : Prop := ∀ (s : State) (m : Fin 3) (eid : BitVec 8) (b : List (BitVec 8)), s.mode ≠ .reset → s.mctpOn m = true →
  (12 ≤ b.length → s.mode ≠ .drowse → exec (.mctpMessage m eid (0x07 :: b)) s = .next (s.fmNow (.mctp m eid) b)) ∧
  exec (.mctpMessage m eid (0x05 :: b)) s = .next (s.spdmRx (.mctp m eid) b)

/-- CRB_FRAG: the first fragment of a packet, if it is not the last, opens a reassembly with a timer of 1.00 ms (R300). -/
def crbFragFirst : Prop := ∀ (s : State) (l : Fin 72) (o : BitVec 12) (b : List (BitVec 8)) (msg n : Nat), msg = bodyNat b 0 1 →
  n = bits (bodyNat b 2 1) 1 5 → bodyNat b 1 1 = 0 → bits (bodyNat b 2 1) 0 1 = 0 → n ≠ 0 → n ≤ 20 → b.length = 4 + n →
  s.crb.reasm.find? (fun (x : Reasm) => x.origin == o.toNat && x.msgId == msg) = none → s.crb.reasm.length < 16 →
  exec (.crbFrag l o b) s = .next ((s.arm .reasm (reasmKey o.toNat msg) (ms 1)).onCrb (fun y => { y with
    reasm := y.reasm.filter (fun (z : Reasm) => !(z.origin == o.toNat && z.msgId == msg)) ++
      [{ origin := o.toNat, msgId := msg, nextFrag := 1, data := (b.drop 4).take n }] }))

/-- CRB_FRAG: the last fragment, in order, makes the packet whole, and the reassembly is gone (R300). -/
def crbFragLast : Prop := ∀ (s : State) (l : Fin 72) (o : BitVec 12) (b : List (BitVec 8)) (x : Reasm) (n : Nat),
  s.crb.reasm.find? (fun (x : Reasm) => x.origin == o.toNat && x.msgId == bodyNat b 0 1) = some x → x.nextFrag = bodyNat b 1 1 →
  n = bits (bodyNat b 2 1) 1 5 → bits (bodyNat b 2 1) 0 1 = 1 → n ≠ 0 → n ≤ 20 → b.length = 4 + n →
  exec (.crbFrag l o b) s = .next ((s.reasmDrop o.toNat (bodyNat b 0 1)).wheyPacket o.toNat l (x.data ++ (b.drop 4).take n))

/-- CRB_ABORT drops a reassembly and its timer (R300). -/
def crbAbort : Prop := ∀ (s : State) (o : BitVec 12) (m : BitVec 8),
  exec (.crbAbort o m) s = .next ((s.onCrb (fun y => { y with
    reasm := y.reasm.filter (fun (x : Reasm) => !(x.origin == o.toNat && x.msgId == m.toNat)) })).disarm .reasm (reasmKey o.toNat m.toNat))

/-- CRB_REASSEMBLY_TIMEOUT drops a reassembly that is not complete in its time, and counts it (R300). -/
def crbReassemblyTimeout : Prop := ∀ (s : State) (o : BitVec 12) (m : BitVec 8), s.due .reasm (reasmKey o.toNat m.toNat) = true →
  s.crb.reasm.any (fun (x : Reasm) => x.origin == o.toNat && x.msgId == m.toNat) = true →
  exec (.crbReassemblyTimeout o m) s = .next ((s.reasmDrop o.toNat m.toNat).bump R.MGT_CRB_FRAG_ERR_CNT)

/-- MALACEL_READY: Corber answers again, and the error messages that queued are handled in order (R219, Table 7.14). -/
def malacelReady : Prop := ∀ (s : State), s.mode ≠ .reset → s.mode ≠ .boot → s.flag F.MGT_CRB_STATUS.FW_READY = false →
  exec .malacelReady s = .next ((((s.onErr (fun y => { y with msgQueue := [] })).setFld F.MGT_CRB_STATUS.FW_READY 0 1).each s.err.msgQueue
    (fun s m => s.targetError m.1 m.2.1 m.2.2.1 m.2.2.2.1 m.2.2.2.2)).drainRing)

/-! ## Hosts: configuration, resets, DPC (chapters 04 and 07) -/

/-- HOST_CFG_WRITE of a field the host owns holds what it wrote, at once, and completes (R100). -/
def hostCfgWrite : Prop := ∀ (s : State) (vh : Fin 144) (u : HostUnit) (f : HostField) (x : BitVec 64) (rid : BitVec 16) (tag : BitVec 14),
  s.cfgOpen vh u = true →
  f ∈ [.primaryBus, .secondaryBus, .subordinateBus, .memEn, .ioEn, .busMaster, .memBase, .memLimit, .prefBase, .prefLimit, .ioBase,
    .ioLimit, .uncMask, .uncSeverity, .corMask, .errEnables, .dpcTrigEn, .dpcCplCa, .acsSv, .acsTb, .acsRr, .acsCr, .acsUf, .acsDt,
    .poisonBlock, .slotVector, .mcEnable, .mcBase, .mcIndexPos, .mcNumGroup, .mcReceive] →
  exec (.hostCfgWrite vh u f x rid tag) s = .next (s.wrote (s.setHost vh u f x.toNat) vh u rid tag)

/-- HOST_CFG_WRITE of a status field clears the bits written as 1 (R100, R204). -/
def hostCfgWriteClears : Prop := ∀ (s : State) (vh : Fin 144) (u : HostUnit) (f : HostField) (x : BitVec 64) (rid : BitVec 16)
  (tag : BitVec 14), s.cfgOpen vh u = true →
  f ∈ [.uncStatus, .corStatus, .attention, .presenceChanged, .dllChanged, .powerFault] →
  exec (.hostCfgWrite vh u f x rid tag) s =
    .next (s.wrote (s.setHost vh u f (s.host vh u f &&& (2 ^ 64 - 1 - x.toNat))) vh u rid tag)

/-- HOST_CFG_WRITE of a BAR of a synthesised function takes the value above the size of the window it maps (R102). -/
def hostCfgWriteBar : Prop := ∀ (s : State) (vh : Fin 144) (i n : Nat) (x : BitVec 64) (rid : BitVec 16) (tag : BitVec 14),
  s.cfgOpen vh (.fn i) = true →
  exec (.hostCfgWrite vh (.fn i) (.bar n) x rid tag) s =
    .next (s.wrote (s.setHost vh (.fn i) (.bar n) (s.barValue vh i n x.toNat)) vh (.fn i) rid tag)

/-- HOST_CFG_WRITE of a field Kalnum shows changes nothing, and completes (R100). -/
def hostCfgWriteShown : Prop := ∀ (s : State) (vh : Fin 144) (u : HostUnit) (f : HostField) (x : BitVec 64) (rid : BitVec 16)
  (tag : BitVec 14), s.cfgOpen vh u = true → f ∈ [.presence, .dllActive, .headerLog, .dpcStatus, .dpcReason, .bindGen] →
  exec (.hostCfgWrite vh u f x rid tag) s = .next (s.wrote s vh u rid tag)

/-- CFG_PROXY_REQUEST that writes a BAR of a function Malacel synthesises: the host view takes it (R106). -/
def cfgProxyWrite : Prop := ∀ (s t : State) (vh : Fin 144) (i : Fin 64) (off : BitVec 12) (w : BitVec 32) (rid : BitVec 16) (tag : BitVec 14),
  s.cfgOpen vh (.fn i) = true → 0x10 ≤ off.toNat / 4 * 4 → off.toNat / 4 * 4 < 0x28 →
  t = s.setHost vh (.fn i) (.bar ((off.toNat / 4 * 4 - 0x10) / 4)) (s.barValue vh i ((off.toNat / 4 * 4 - 0x10) / 4) w.toNat) →
  exec (.cfgProxyRequest vh i off (some w) .held rid tag) s = .next
    (t.own vh vh 0xFFF { mkCpl { kind := .cfgwr, rid := rid, tag := tag } .sc (t.unitId vh (.fn i)) 4 0 with
      data := [], len := 0 }).poolEvents

/-- CFG_PROXY_REQUEST that reads a BAR of a function Malacel synthesises returns the host view's (R106). -/
def cfgProxyRead : Prop := ∀ (s : State) (vh : Fin 144) (i : Fin 64) (off : BitVec 12) (rid : BitVec 16) (tag : BitVec 14),
  s.cfgOpen vh (.fn i) = true → 0x10 ≤ off.toNat / 4 * 4 → off.toNat / 4 * 4 < 0x28 →
  exec (.cfgProxyRequest vh i off none .held rid tag) s = .next
    ((s.own vh vh 0xFFF { mkCpl { kind := .cfgrd, rid := rid, tag := tag } .sc (s.unitId vh (.fn i)) 4 0 with
      data := leBytes 4 (s.synthRead vh i (off.toNat / 4 * 4))
      len := (leBytes 4 (s.synthRead vh i (off.toNat / 4 * 4))).length }).poolEvents)

/-- CFG_PROXY_REQUEST that writes a register of a target's function goes to the target under a tag of Kalnum's own, with a tracker entry
and 50 ms for its answer (R106). -/
def cfgProxyForward : Prop := ∀ (s u : State) (vh : Fin 144) (i : Fin 64) (off : BitVec 12) (w : BitVec 32) (rid : BitVec 16)
  (tag t : BitVec 14) (bi : Nat) (c : Tlp) (e : TrkEntry), s.cfgOpen vh (.fn i) = true → s.bindingOf vh i = some bi →
  off.toNat / 4 * 4 ≠ 4 → (s.bind bi).kind ≠ 5 → (s.bind bi).kind ≠ 3 → s.bnd.proxyWaits = [] → s.proxyTag 4 = some t →
  c = { kind := .cfgwr, rid := 0x00FF, tag := t, target := BitVec.ofNat 16 (s.bind bi).rid, idRouted := true,
        addr := off.toNat / 4 * 4, len := 4, data := leBytes 4 w.toNat
        ld := if (s.bind bi).kind = 4 then some ⟨(s.bind bi).ldId % 16, Nat.mod_lt _ (by decide)⟩ else none } →
  e = { state := .opn, vh := 255, bound := false, binding := bi, kind := .cfgwr, origRid := 0x00FF, origTag := t, outRid := 0x00FF,
        outTag := t, inPort := 144, outPort := (s.bind bi).port, destFeid := 0, srcFeid := s.ownFeid, bytesLeft := 4, bytesTotal := 4,
        acuTail := 0, gen := s.fld F.BND_GEN_STATUS.ACTIVE_GEN % 256, tIssue := s.tb.toNat % 2 ^ 32, fromHost := false,
        remote := false, quarEnd := 0, tlp := c, found := s.bind bi, srcFound := s.bind bi } →
  u = (s.drew.onBnd (fun y => { y with
    trk := y.trk ++ [e], proxied := y.proxied ++ [(t.toNat, vh.val, bi, rid, tag)] })).arm .proxy t.toNat (ms 50) →
  exec (.cfgProxyRequest vh i off (some w) .passed rid tag) s = .next (u.trkMarks.own (s.bind bi).port vh bi c).poolEvents

/-- CFG_PROXY_REQUEST of a field of a hidden capability: a read returns 0, and a write changes nothing but its completion (R106). -/
def cfgProxyHidden : Prop := ∀ (s : State) (vh : Fin 144) (i : Fin 64) (off : BitVec 12) (w : BitVec 32) (rid : BitVec 16)
  (tag : BitVec 14), s.cfgOpen vh (.fn i) = true → off.toNat / 4 * 4 ≠ 4 →
  exec (.cfgProxyRequest vh i off none .hidden rid tag) s = .next
    ((s.own vh vh 0xFFF { mkCpl { kind := .cfgrd, rid := rid, tag := tag } .sc (s.unitId vh (.fn i)) 4 0 with
      data := [0, 0, 0, 0], len := 4 }).poolEvents) ∧
  exec (.cfgProxyRequest vh i off (some w) .hidden rid tag) s = .next
    ((s.own vh vh 0xFFF { mkCpl { kind := .cfgwr, rid := rid, tag := tag } .sc (s.unitId vh (.fn i)) 4 0 with
      data := [], len := 0 }).poolEvents)

/-- CFG_PROXY_REQUEST that must wait for a tracker entry, a tag or space waits, and the first to wait for the tracker counts an episode
(R106, R111). -/
def cfgProxyWaits : Prop := ∀ (s t : State) (vh : Fin 144) (i : Fin 64) (off : BitVec 12) (rid : BitVec 16) (tag : BitVec 14) (bi : Nat),
  s.cfgOpen vh (.fn i) = true → s.bindingOf vh i = some bi → (s.bind bi).kind ≠ 5 → s.bnd.proxyWaits = [] → s.mayTake 0 = false →
  t = s.onBnd (fun y => { y with proxyWaits := [⟨vh, i, off.toNat / 4 * 4, none, rid, tag⟩] }) → t.bindingOf vh i = some bi →
  t.mayTake 0 = false → t.poolEvents = t →
  exec (.cfgProxyRequest vh i off none .passed rid tag) s = .next ((t.bump R.BND_TRK_STALL_CNT).raise F.BND_EVT.TRK_FULL)

/-- CFG_PROXY_TIMEOUT: the host gets Unsupported Request, the entry is quarantined, and the timeout is counted, shown and reported
(R106). -/
def cfgProxyTimeout : Prop := ∀ (s t : State) (tag htag : BitVec 14) (k v bi : Nat) (rid : BitVec 16), s.due .proxy tag.toNat = true →
  s.bnd.proxied.find? (fun e => e.1 == tag.toNat) = some (k, v, bi, rid, htag) →
  t = ((s.onBnd (fun y => { y with
      proxied := y.proxied.filter (fun e => e.1 != tag.toNat) })).disarm .proxy tag.toNat).onEntries
    (fun e => e.inPort == 144 && e.outTag.toNat == tag.toNat && e.state == .opn)
    (fun e => { e with state := .quarantine, quarEnd := s.now + s.quarTime }) →
  exec (.cfgProxyTimeout tag) s = .next (((((t.own v v bi (mkCpl { kind := .cfgrd, rid := rid, tag := htag } .ur
    (t.vdspId v (t.bind bi).vdsp) 4 0)).bump R.BND_CFG_PROXY_TO_CNT).raise F.BND_EVT.PROXY_TIMEOUT).reportBinding 0x0307 bi
    .completionTimeout false).poolEvents)

/-- HOST_FLR_WRITE to the function of a BOUND binding starts its reset: RESETTING, and 1000 ms run (R119, R418). -/
def hostFlrWrite : Prop := ∀ (s : State) (vh : Fin 144) (i : Fin 64) (bi : Nat) (rid : BitVec 16) (tag : BitVec 14),
  s.cfgOpen vh (.fn i) = true → s.bindingOf vh i = some bi →
  exec (.hostFlrWrite vh i rid tag) s = .next (s.wrote (s.startReset bi false) vh (.fn i) rid tag)

/-- A reset that starts on a BOUND binding of one function makes it RESETTING, shows presence and link to its host, gives it 1000 ms, and
sends the function Initiate FLR, or where it has none the power states D3hot and D0, or where it has neither nothing (R119, R122, R418). -/
def flrStarts : Prop := ∀ (s t : State) (bi : Nat) (resume : Bool) (c : Nat → Tlp), (s.bind bi).valid = true → (s.bind bi).kind = 1 →
  s.bindState bi = 1 →
  t = ((s.setBindState bi 3 0).onBnd (fun y => { y with
    resets := (s.setBindState bi 3 0).bnd.resets ++ [(bi, 1, resume)] })).arm .bindReset bi (ms 1000) →
  t.isDeviceEnd (s.bind bi) = false →
  c = (fun x => { kind := .cfgwr, rid := 0x00FF, target := BitVec.ofNat 16 (s.bind bi).rid, idRouted := true, len := 4,
                  data := leBytes 4 x }) →
  s.startReset bi resume = (match look bi s.bnd.methods with
    | none => (t.slotIs (s.bind bi).vh (s.bind bi).vdsp true true).emit (.targetTlp bi (c 0x8000))
    | some 1 => ((t.slotIs (s.bind bi).vh (s.bind bi).vdsp true true).emit (.targetTlp bi (c 3))).emit (.targetTlp bi (c 0))
    | some _ => t.slotIs (s.bind bi).vh (s.bind bi).vdsp true true)

/-- HOST_POWER_CTRL_WRITE of power off while its binding is UNBINDING ends the orderly unbind (R99). -/
def hostPowerCtrlWrite : Prop := ∀ (s t : State) (vh : Fin 144) (i : Fin 64) (bi : Nat) (rid : BitVec 16) (tag : BitVec 14),
  s.cfgOpen vh (.vdsp i) = true → t = s.setHost vh (.vdsp i) .powerCtlOff 1 → t.bindingOf vh i = some bi → t.bindState bi = 4 →
  exec (.hostPowerCtrlWrite vh i true rid tag) s = .next (s.wrote (t.unbound bi) vh (.vdsp i) rid tag)

/-- HOST_POWER_CTRL_WRITE of power on at a BOUND port whose guard lets the host switch its power asks the guard for power (R355). -/
def hostPowerOn : Prop := ∀ (s t : State) (vh : Fin 144) (i : Fin 64) (bi g : Nat) (rid : BitVec 16) (tag : BitVec 14),
  s.cfgOpen vh (.vdsp i) = true → t = s.setHost vh (.vdsp i) .powerCtlOff 0 → t.bindingOf vh i = some bi → t.bindState bi = 1 →
  (t.bind bi).kind = 0 → t.guardOf (t.bind bi).port = some g → t.flag F.SPG_SLOT_CFG.HOST_PWR g = true →
  exec (.hostPowerCtrlWrite vh i false rid tag) s = .next (s.wrote (t.gRequest g false) vh (.vdsp i) rid tag)

/-- SECONDARY_BUS_RESET on a vDSP starts the reset of its binding (R119). -/
def secondaryBusReset : Prop := ∀ (s : State) (vh : Fin 144) (i : Fin 64) (bi : Nat) (rid : BitVec 16) (tag : BitVec 14),
  s.cfgOpen vh (.vdsp i) = true → s.bindingOf vh i = some bi →
  exec (.secondaryBusReset vh i rid tag) s = .next (s.wrote (s.startReset bi false) vh (.vdsp i) rid tag)

/-- DPC_SW_TRIGGER triggers DPC on a vDSP, software its reason (R206). -/
def dpcSwTrigger : Prop := ∀ (s t : State) (vh : Fin 144) (i : Fin 64) (rid : BitVec 16) (tag : BitVec 14),
  s.cfgOpen vh (.vdsp i) = true → s.dpcOn vh i = false →
  t = (((s.setHost vh (.vdsp i) .dpcStatus 1).setHost vh (.vdsp i) .dpcReason 3).bump R.ERR_DPC_CNT).raise F.ERR_EVT.DPC →
  t.bindingOf vh i = none →
  exec (.dpcSwTrigger vh i rid tag) s = .next (s.wrote t vh (.vdsp i) rid tag)

/-- DPC_SW_TRIGGER on a vDSP with a binding contains it: the binding is SUSPENDED with cause 3, its slot shows no link, its tracked
requests are ended, what waits for it is answered, and its posted writes are dropped (R206, R207). -/
def dpcContains : Prop := ∀ (s t u v w : State) (vh : Fin 144) (i : Fin 64) (bi : Nat) (rid : BitVec 16) (tag : BitVec 14),
  s.cfgOpen vh (.vdsp i) = true → s.dpcOn vh i = false →
  t = (((s.setHost vh (.vdsp i) .dpcStatus 1).setHost vh (.vdsp i) .dpcReason 3).bump R.ERR_DPC_CNT).raise F.ERR_EVT.DPC →
  t.bindingOf vh i = some bi →
  u = (((t.leaveBound bi).setBindState bi 2 3).showSlot vh i false false).raise F.BND_EVT.BIND_SUSPEND →
  v = (if (t.bind bi).kind = 0 then u.linkEnds (t.bind bi).port 0 5 else u) →
  w = v.each (v.bnd.trk.filter (fun (e : TrkEntry) => e.state == .opn && e.bound && (e.binding == bi || (e.peer && e.srcBinding == bi))))
    (fun s e => if e.fromHost then s.synth e (v.dpcStatusOf vh i) else if s.linkUp e.inPort then s.synth e .ur
      else s.freeEntries (·.same e)) →
  exec (.dpcSwTrigger vh i rid tag) s = .next (s.wrote
    ((w.endWaiting bi (fun _ => true) (v.dpcStatusOf vh i) (w.vdspId vh i)).dropWrites bi (fun _ => true)) vh (.vdsp i) rid tag)

/-- A second trigger while DPC Trigger Status is set changes nothing (R207). -/
def dpcSwTriggerAgain : Prop := ∀ (s : State) (vh : Fin 144) (i : Fin 64) (rid : BitVec 16) (tag : BitVec 14),
  s.cfgOpen vh (.vdsp i) = true → s.dpcOn vh i = true →
  exec (.dpcSwTrigger vh i rid tag) s = .next (s.wrote s vh (.vdsp i) rid tag)

/-- DPC_STATUS_CLEAR: the status goes, and the binding that DPC suspended is reset (R206, Table 7.3). -/
def dpcStatusClear : Prop := ∀ (s t : State) (vh : Fin 144) (i : Fin 64) (bi : Nat) (rid : BitVec 16) (tag : BitVec 14),
  s.cfgOpen vh (.vdsp i) = true → s.dpcOn vh i = true →
  t = (s.setHost vh (.vdsp i) .dpcStatus 0).setHost vh (.vdsp i) .dpcReason 0 → t.bindingOf vh i = some bi → t.bindState bi = 2 →
  t.fld F.BND_BIND_STATE.SUSPEND_CAUSE bi = 3 →
  exec (.dpcStatusClear vh i rid tag) s = .next (s.wrote (t.startReset bi true) vh (.vdsp i) rid tag)

/-- PFL_CONS_WRITE moves CONS up to PROD, and PFL_PENDING says whether any VH's ring still holds entries; a value beyond PROD is
ignored (R216). -/
def pflConsWrite : Prop := ∀ (s t : State) (vh : Fin 144) (i cons : Fin 64) (rid : BitVec 16) (tag : BitVec 14) (used : Nat),
  s.cfgOpen vh (.vdsp i) = true → used = (s.fld F.ERR_PFL_IDX.PROD vh + 64 - s.fld F.ERR_PFL_IDX.CONS vh) % 64 →
  t = s.setFld F.ERR_PFL_IDX.CONS vh cons →
  exec (.pflConsWrite vh i cons rid tag) s = .next (s.wrote
    (if used < (cons + 64 - s.fld F.ERR_PFL_IDX.CONS vh) % 64 then s
     else t.setFld F.ERR_STATUS.PFL_PENDING 0 (b2n (allPorts.any (fun w => t.fld F.ERR_PFL_IDX.PROD w != t.fld F.ERR_PFL_IDX.CONS w))))
    vh (.vdsp i) rid tag)

/-- POOL_EDGE_LINK_DOWN: containment of a pool-edge port whose link goes down (R218). -/
def poolEdgeLinkDown : Prop := ∀ (s : State) (p : Fin 144) (removed : Bool), s.isPoolEdge p = true → s.linkUp p = true →
  exec (.poolEdgeLinkDown p removed) s = .next (s.poolDown p removed).dmRun

/-- VH_RESET_EVENT: the VH of a host-edge port is reset (R120). -/
def vhResetEvent : Prop := ∀ (s : State) (p : Fin 144) (dlDown : Bool), s.isHostEdge p = true → s.linkUp p = true →
  exec (.vhResetEvent p dlDown) s = .next (s.hostDown p dlDown).dmRun

/-- A reset of a VH: its state is 1 until its steps have ended, the host view of it is cleared, its OPEN tracker entries become
ORPHAN, and every binding of it begins its own reset (R120, Table 4.15). -/
def vhResets : Prop := ∀ (s t u : State) (v : Nat), s.bnd.resetting.contains v = false → v ≠ s.bnd.mgmtVh →
  t = ((((((s.setFld F.BND_VH_STATUS.STATE v 1).raise F.BND_EVT.VH_RESET v).bump R.BND_VH_RESET_CNT v).endHolds v).endToward v).onEntries
    (fun e => e.vh == v && e.state == .opn) (fun e => { e with state := .orphan })) →
  u = ((t.clearHost v).each (t.bindingsOf v) (fun s e =>
    if s.bindState e.1 == 1 || s.bindState e.1 == 3 then s.slotIs v (Bind.vdsp e.2) true true else s)).onBnd (fun y => { y with
      resetting := v :: y.resetting
      proxyWaits := y.proxyWaits.filter (fun (q : ProxyWait) => q.vh != v)
      proxied := y.proxied.filter (fun e => e.2.1 != v) }) →
  s.vhReset v = u.each (u.bindingsOf v) (fun s e => s.startReset e.1 false)

/-- VH_RESET_DONE: a VH whose host-edge link is up is ACTIVE again, and what waited for it is reported (R120, Table 7.14). -/
def vhResetDone : Prop := ∀ (s t : State) (v : Fin 144), s.bnd.resetting.contains v.val = true →
  t = s.onBnd (fun y => { y with resetting := s.bnd.resetting.filter (· != v.val) }) → t.linkUp v = true →
  (t.setFld F.BND_VH_STATUS.STATE v 2).vhActive v = true →
  exec (.vhResetDone v) s = .next ((t.setFld F.BND_VH_STATUS.STATE v 2).releaseHeld v).limitsAgain

/-- VH_RESET_DONE: a VH whose host-edge link is not up is DOWN (R120, Table 4.15). -/
def vhResetDoneDown : Prop := ∀ (s t : State) (v : Fin 144), s.bnd.resetting.contains v.val = true →
  t = s.onBnd (fun y => { y with resetting := s.bnd.resetting.filter (· != v.val) }) → t.linkUp v = false →
  (t.setFld F.BND_VH_STATUS.STATE v 0).vhActive v = false →
  exec (.vhResetDone v) s = .next (t.setFld F.BND_VH_STATUS.STATE v 0).limitsAgain

/-- BINDING_RESET_DONE of a port binding whose link is up again makes it BOUND (R418). -/
def bindingResetDone : Prop := ∀ (s : State) (bi : Fin 4096), s.bindState bi = 3 → (s.bind bi).kind = 0 →
  s.linkUp (s.bind bi).port = true → exec (.bindingResetDone bi false) s = .next (s.bindingResetDone bi)

/-- The end of a reset of a binding of this device's own that no commit resumed: BOUND, its timer stopped (R418). -/
def bindingReset : Prop := ∀ (s t : State) (bi : Nat), s.bnd.resets.any (fun r => r.1 == bi && r.2.2) = false →
  t = ((((s.onBnd (fun y => { y with
    resets := y.resets.filter (fun r => r.1 != bi) })).disarm .bindReset bi).setBindState bi 1 0).cfgReady bi true) →
  t.isDeviceEnd (t.bind bi) = false → s.bindingResetDone bi = (t.finish 0x0308 bi stOk).finish 0x0309 bi stOk

/-- BINDING_RESET_DONE of a function without a method of reset: BOUND at once, with an event and an entry of class 0x0607 (R122). -/
def bindingNoReset : Prop := ∀ (s : State) (bi : Fin 4096) (told : Bool), s.bindState bi = 3 → (s.bind bi).kind = 1 →
  (told = true ∨ look bi.val s.bnd.methods = some 2) →
  exec (.bindingResetDone bi told) s = .next
    (((s.raise F.BND_EVT.NO_RESET).journal 0x0607 { vh := (s.bind bi).vh, binding := bi }).bindingResetDone bi)

/-- BINDING_RESET_TIMEOUT: a binding still RESETTING after its time is SUSPENDED with cause 5, an empty slot to its host (R418). -/
def bindingResetTimeout : Prop := ∀ (s t : State) (bi : Fin 4096), s.due .bindReset bi = true → s.bindState bi = 3 →
  t = ((((s.onBnd (fun y => { y with
    resets := y.resets.filter (fun r => r.1 != bi.val) })).disarm .bindReset bi).setBindState bi 2 5).raise F.BND_EVT.BIND_SUSPEND) →
  t.isDeviceEnd (t.bind bi) = false →
  exec (.bindingResetTimeout bi) s = .next
    (((t.showSlot (t.bind bi).vh (t.bind bi).vdsp false false).finish 0x0308 bi stBusy 2).finish 0x0309 bi stBusy 2)

/-- ORDERLY_UNBIND_TIMEOUT continues as a surprise unbind, with an entry of class 0x060D (R99). -/
def orderlyUnbindTimeout : Prop := ∀ (s : State) (bi : Fin 4096), s.due .unbindButton bi = true → s.bindState bi = 4 →
  exec (.orderlyUnbindTimeout bi) s = .next ((s.journal 0x060D { vh := Bind.vh (s.bind bi), binding := bi }).surpriseUnbind bi)

/-! ## Traffic at the edges (chapters 03, 04 and 07) -/

/-- HOST_REQUEST_RX that nothing of its VH claims: counted, journalled as class 0x0304, logged at the vUSP, and answered with
Unsupported Request where it is non-posted (R101, Table 7.2). -/
def hostRequestUnclaimed : Prop := ∀ (s a : State) (p : Fin 144) (t : Tlp), t.wellFormed = true → t.kind.ord ≠ .completion →
  s.hearsTlp p true = true → s.mode ≠ .drowse → s.releaseRequests.isHostEdge p = true → t.kind ≠ .cfgrd → t.kind ≠ .cfgwr →
  (s.releaseRequests.tlpArrives p).flag F.ERR_STATUS.FENCE = false →
  a = (s.releaseRequests.tlpArrives p).poisonIn (.vusp p) p 0xFFF t → a.mcGroup p t = none → a.hostClaim p t = none →
  exec (.hostRequestRx p t) s = .next ((((((a.bump R.BND_UNCLAIMED_CNT).journal 0x0304 { vh := p, detail := t.header }).aerLog (.vusp p)
    .unsupportedRequest false t.header).refuse p p 0xFFF t .ur (a.vuspId p)).serviceRun).dmRun)

/-- HOST_REQUEST_RX for a BOUND port binding goes on to its port at its own address, under the plan of a host request (R101, R103). -/
def hostRequestRx : Prop := ∀ (s a : State) (p : Fin 144) (t : Tlp) (i bi : Nat), t.wellFormed = true → t.kind.ord ≠ .completion →
  s.hearsTlp p true = true → s.mode ≠ .drowse → s.releaseRequests.isHostEdge p = true → t.kind ≠ .cfgrd → t.kind ≠ .cfgwr →
  (s.releaseRequests.tlpArrives p).flag F.ERR_STATUS.FENCE = false →
  a = (s.releaseRequests.tlpArrives p).poisonIn (.vusp p) p 0xFFF t → a.mcGroup p t = none → a.hostClaim p t = some i →
  a.bindingOf p i = some bi → t.ide = false → t.at_ = 0 → t.ep = false → a.forwards bi = true → (a.bind bi).isPortKind = true →
  exec (.hostRequestRx p t) s =
    .next (a.issue ((a.downPlan p (ordCode t.kind.ord) bi).keepIds t) t t.addr (2 ^ 64)).serviceRun.dmRun

/-- HOST_REQUEST_RX for a function binding goes to the window its address falls in: at its device base, with the room left in the
window (R102). -/
def hostRequestWindow : Prop := ∀ (s a : State) (p : Fin 144) (t : Tlp) (i bi : Nat) (w : BitVec 512), t.wellFormed = true →
  t.kind.ord ≠ .completion → s.hearsTlp p true = true → s.mode ≠ .drowse → s.releaseRequests.isHostEdge p = true → t.kind.isMem = true →
  (s.releaseRequests.tlpArrives p).flag F.ERR_STATUS.FENCE = false →
  a = (s.releaseRequests.tlpArrives p).poisonIn (.vusp p) p 0xFFF t → a.mcGroup p t = none → a.hostClaim p t = some i →
  a.bindingOf p i = some bi → t.ide = false → t.at_ = 0 → t.ep = false → a.forwards bi = true → (a.bind bi).isPortKind = false →
  a.barHit (a.bind bi) t.addr = some w → ef w 32 1 = 1 → ef w 33 1 = 1 →
  exec (.hostRequestRx p t) s = .next (a.issue ((a.downPlan p (ordCode t.kind.ord) bi).keepIds t) t
    (winDevBase w + t.addr % winSize w) (winPhys w - t.addr % winSize w)).serviceRun.dmRun

/-- A request the rules allow whole goes on at its translated address; every byte of it is tracked (R102, R263). -/
def issueWhole : Prop := ∀ (s : State) (pl : Plan) (t : Tlp) (addr room : Nat), pl.check = false → max 1 t.len ≤ room →
  s.issue pl t addr room = s.launch pl t { t with addr := addr } (max 1 t.len) 0

/-- A request held behind the ingress fence: a posted one is discarded, a non-posted one answered with Unsupported Request (R220). -/
def requestFenced : Prop := ∀ (s : State) (p : Fin 144) (t : Tlp), t.wellFormed = true → t.kind.ord ≠ .completion →
  s.hearsTlp p false = true → s.mode ≠ .drowse → s.releaseRequests.isHostEdge p = false →
  (s.releaseRequests.tlpArrives p).flag F.ERR_STATUS.FENCE = true →
  exec (.targetRequestRx p t) s =
    .next ((s.releaseRequests.tlpArrives p).refuse p p 0xFFF t .ur 0).poolEvents.serviceRun.dmRun

/-- HOST_REQUEST_RX in DROWSE takes the port out of L1.2, wakes Kalnum and is held (R331). -/
def requestHeld : Prop := ∀ (s : State) (p : Fin 144) (t : Tlp), t.wellFormed = true → t.kind.ord ≠ .completion →
  s.hearsTlp p true = true → s.mode = .drowse →
  exec (.hostRequestRx p t) s = .next (((s.lowPowerExit p).wakeBy 1 p).onPwr (fun y => { y with heldReq := y.heldReq ++ [(p.val, t)] }))

/-- TARGET_REQUEST_RX of a binding whose VH is not ACTIVE is counted and not forwarded (R104). -/
def targetRequestBlocked : Prop := ∀ (s a : State) (p : Fin 144) (t : Tlp) (bi : Nat), t.wellFormed = true → t.kind.ord ≠ .completion →
  s.hearsTlp p false = true → s.mode ≠ .drowse → s.releaseRequests.isHostEdge p = false → a = s.releaseRequests.tlpArrives p →
  a.flag F.ERR_STATUS.FENCE = false → a.classify p t = some bi → a.isDeviceEnd (a.bind bi) = false →
  a.vhActive (a.bind bi).vh = false →
  exec (.targetRequestRx p t) s = .next (((a.bump R.BND_VH_BLOCKED_CNT (a.bind bi).vh).refuse p (a.bind bi).vh bi t .ur
    (a.vdspId (a.bind bi).vh (a.bind bi).vdsp)).serviceRun.dmRun)

/-- TARGET_REQUEST_RX of a binding that forwards is routed in its own VH, checked and policed by its binding (R104, R105). -/
def targetRequestRx : Prop := ∀ (s a : State) (p : Fin 144) (t : Tlp) (bi : Nat), t.wellFormed = true → t.kind.ord ≠ .completion →
  s.hearsTlp p false = true → s.mode ≠ .drowse → s.releaseRequests.isHostEdge p = false → a = s.releaseRequests.tlpArrives p →
  a.flag F.ERR_STATUS.FENCE = false → a.classify p t = some bi → a.isDeviceEnd (a.bind bi) = false →
  a.vhActive (a.bind bi).vh = true → t.ep = false → t.ide = false → a.forwards bi = true →
  exec (.targetRequestRx p t) s =
    .next (a.upRequest bi p (ordCode t.kind.ord) t true (a.upPolicer (a.bind bi)) a.ownFeid).serviceRun.dmRun

/-- COMPLETION_RX that matches no entry is discarded, counted and shown, and at a host-edge port journalled as class 0x0302 (R113). -/
def completionUnexpected : Prop := ∀ (s a : State) (p : Fin 144) (t : Tlp), t.wellFormed = true → t.kind.ord = .completion → t.ep = false →
  s.mode ≠ .reset → s.mode ≠ .boot → s.linkUp p = true → s.isFabric p = false → a = s.tlpArrives p → a.bnd.trk = [] →
  a.svc.waits = [] → a.isPoolEdge p = false →
  exec (.completionRx p t) s = .next
    ((((a.bump R.ERR_UNEXP_CPL_CNT).raise F.ERR_EVT.UNEXP_CPL).journal 0x0302 { port := p, detail := t.header }).dmRun)

/-- COMPLETION_RX of an OPEN entry's request goes to its requester with the IDs and the tag it used, and the entry sees its bytes (R113,
R104). -/
def completionRx : Prop := ∀ (s a : State) (p : Fin 144) (t : Tlp) (e : TrkEntry), t.wellFormed = true → t.kind.ord = .completion →
  t.kind.isCxl = false → t.ide = false → t.ep = false → s.mode ≠ .reset → s.mode ≠ .boot → s.linkUp p = true → s.isFabric p = false → a = s.tlpArrives p →
  a.bnd.trk = [e] → a.err.armed = [] → a.svc.waits = [] → a.isPoolEdge p = false → e.cxl = false → e.outRid = t.rid →
  e.outTag = t.tag → e.destFeid = 0 → e.state = .opn → e.peer = false → 0 < (e.after t).bytesLeft →
  exec (.completionRx p t) s =
    .next ((a.deliverCpl e p 2 (a.restored e t) false).onEntries (·.same e) (fun _ => e.after t)).dmRun

/-- COMPLETION_RX of an entry in QUARANTINE is discarded, counted and journalled as class 0x0303 (R208, Table 7.2). -/
def completionLate : Prop := ∀ (s a : State) (p : Fin 144) (t : Tlp) (e : TrkEntry), t.wellFormed = true → t.kind.ord = .completion →
  t.kind.isCxl = false → t.ide = false → t.ep = false → s.mode ≠ .reset → s.mode ≠ .boot → s.linkUp p = true → s.isFabric p = false → a = s.tlpArrives p →
  a.bnd.trk = [e] → a.err.armed = [] → a.svc.waits = [] → a.isPoolEdge p = false → e.cxl = false → e.outRid = t.rid →
  e.outTag = t.tag → e.destFeid = 0 → e.state = .quarantine →
  exec (.completionRx p t) s = .next
    (((a.bump R.ERR_LATE_CPL_CNT).journal 0x0303 { vh := e.vh, binding := e.binding, port := p }).dmRun)

/-- TARGET_ERROR_MESSAGE queues, 256 deep, while Malacel is not ready (R205, Table 7.14). -/
def targetErrorQueued : Prop := ∀ (s a : State) (p : Fin 144) (t : Tlp) (unc cor : BitVec 32) (hdr : BitVec 128), t.wellFormed = true →
  t.kind = .msg → s.carries = true → s.linkUp p = true → s.isPoolEdge p = true → a = s.tlpArrives p →
  a.flag F.MGT_CRB_STATUS.FW_READY = false → a.err.msgQueue.length < 256 →
  exec (.targetErrorMessage p t unc cor hdr) s =
    .next (a.onErr (fun y => { y with msgQueue := y.msgQueue ++ [(p.val, t, unc.toNat, cor.toNat, hdr.toNat)] }))

/-- TARGET_ERROR_MESSAGE of a target no binding owns, at a port without logical devices, is journalled with its own severity as class 0x0308
and goes no further (R203, R205). -/
def targetErrorMessage : Prop := ∀ (s a : State) (p : Fin 144) (t : Tlp) (unc cor : BitVec 32) (hdr : BitVec 128), t.wellFormed = true →
  t.kind = .msg → s.carries = true → s.linkUp p = true → s.isPoolEdge p = true → a = s.tlpArrives p →
  a.flag F.MGT_CRB_STATUS.FW_READY = true → a.classify p t = none → (a.bindingsOn p).any (fun e => Bind.kind e.2 == 4) = false →
  exec (.targetErrorMessage p t unc cor hdr) s =
    .next (a.journal 0x0308 { port := p, detail := t.header, sev := some (messageSev t.msgCode) })

/-- TARGET_ERROR_MESSAGE below a port binding is journalled with its own severity and goes on to the host as any request (R205). -/
def targetErrorForwarded : Prop := ∀ (s a : State) (p : Fin 144) (t : Tlp) (unc cor : BitVec 32) (hdr : BitVec 128) (bi : Nat),
  t.wellFormed = true → t.kind = .msg → s.carries = true → s.linkUp p = true → s.isPoolEdge p = true → a = s.tlpArrives p →
  a.flag F.MGT_CRB_STATUS.FW_READY = true → a.classify p t = some bi → a.forwards bi = true → (a.bind bi).isPortKind = true →
  exec (.targetErrorMessage p t unc cor hdr) s = .next ((a.journal 0x0308
    { port := p, vh := (a.bind bi).vh, binding := bi, detail := hdr.toNat, sev := some (messageSev t.msgCode) }).targetRequest p t)

/-- A request command whose TLP has no form a link can carry, and a completion command whose TLP is no completion, stop: the spec gives
such an operand no meaning. -/
def tlpIllFormed : Prop := ∀ (s : State) (p : Fin 144) (t : Tlp), t.wellFormed = false →
  exec (.hostRequestRx p t) s = .fault .illFormed ∧ exec (.targetRequestRx p t) s = .fault .illFormed ∧
  exec (.completionRx p t) s = .fault .illFormed

/-- TRACKER_ENTRY_AVAILABLE: each request that waits for an entry tries again, in order, and then the configuration requests Malacel has to
forward (R106, R111). -/
def trackerEntryAvailable : Prop := ∀ (s : State),
  exec .trackerEntryAvailable s = .next (s.each s.churn.trkWait (fun s id => s.goOn id)).proxyGo

/-- TRACKER_TIMEOUT of an OPEN entry of a binding at its VH end completes its request, quarantines the entry, and is counted, shown and
reported as class 0x0301 (R209). -/
def trackerTimeout : Prop := ∀ (s t : State) (rid : BitVec 16) (tag : BitVec 14) (e : TrkEntry), s.bnd.trk = [e] → e.outRid = rid →
  e.outTag = tag → s.overdue e = true → e.bound = true → s.isDeviceEnd e.found = false →
  t = (s.bump R.ERR_TRK_TIMEOUT_CNT).raise F.ERR_EVT.TRK_TIMEOUT →
  exec (.trackerTimeout rid tag) s = .next (((t.synth e (t.synthStatus true e.vh (Bind.vdsp e.found))).reportBinding 0x0301 e.binding
    .completionTimeout false e.tlp.header).dmRun)

/-- TRACKER_TIMEOUT of no entry that is overdue changes nothing (R209). -/
def trackerTimeoutNone : Prop := ∀ (s : State) (rid : BitVec 16) (tag : BitVec 14),
  s.bnd.trk.any (fun e => e.outRid == rid && e.outTag == tag) = false → exec (.trackerTimeout rid tag) s = .next s

/-- QUARANTINE_END frees the entries whose quarantine is over, for the requests that wait (R208). -/
def quarantineEnd : Prop := ∀ (s t : State),
  t = s.onBnd (fun y => { y with trk := s.bnd.trk.filter (fun (e : TrkEntry) => !(e.state == .quarantine && decide (e.quarEnd ≤ s.now))) }) →
  exec .quarantineEnd s = .next (t.each t.churn.trkWait (fun s id => s.goOn id)).proxyGo

/-! ## The fabric's packets, the Churn and the egress (chapters 03, 05 and 08) -/

/-- FABRIC_PACKET_RX for this device of a flow that needs no sequence is delivered at once (R141, R153). -/
def fabricPacketRx : Prop := ∀ (s : State) (p : Fin 144) (f : FabPkt), f.tlp.elim true (·.wellFormed) = true → f.hdr.dst < 0xC00 →
  f.hdr.src < 4096 → s.fabForwards = true → s.isFabric p = true → s.carries = true → f.hdr.dst = s.ownFeid →
  s.flowOf f.hdr.src f.hdr.vh f.hdr.ord = none → f.hdr.opn = false →
  exec (.fabricPacketRx p f) s = .next (s.deliverItem p (f.hdr.ord + 3 * b2n f.hdr.dl) f)

/-- FABRIC_PACKET_RX for another device is stored and goes on by its route (R141, R148). -/
def fabricPacketTransit : Prop := ∀ (s : State) (p : Fin 144) (f : FabPkt), f.tlp.elim true (·.wellFormed) = true → f.hdr.dst < 0xC00 →
  f.hdr.src < 4096 → s.fabForwards = true → s.isFabric p = true → s.carries = true → f.hdr.dst ≠ s.ownFeid →
  exec (.fabricPacketRx p f) s = .next (((s.store { s.fabRecord p (f.hdr.ord + 3 * b2n f.hdr.dl) f with
    route := s.routeOf f.hdr.dst }).sendOn s.churn.nextId).poolEvents)

/-- FABRIC_PACKET_RX to a group whose route is not a valid group entry is counted, journalled and discarded (R148). -/
def fabricGroupUnreach : Prop := ∀ (s : State) (p : Fin 144) (f : FabPkt), f.tlp.elim true (·.wellFormed) = true → 0xC00 ≤ f.hdr.dst →
  f.hdr.dst < 4096 → f.hdr.src < 4096 → s.fabForwards = true → s.isFabric p = true → s.carries = true →
  routeValid (s.routeOf f.hdr.dst) = false →
  exec (.fabricPacketRx p f) s = .next (((s.bump R.BND_FAB_UNREACH_CNT).raise F.BND_FAB_EVT.UNREACH).journal 0x0407
    { port := p, feid := f.hdr.src })

/-- A reserved PTYPE is discarded, counted and journalled as class 0x0403 (Table 5.8). -/
def itemReserved : Prop := ∀ (s : State) (p charge : Nat) (f : FabPkt), 7 ≤ f.hdr.ptype →
  s.deliverItem p charge f = (s.bump R.ERR_UNEXP_ITEM_CNT).journal 0x0403 { port := p, feid := f.hdr.src }

/-- SIDEBAND_ITEM_RX of a power fault at the VH end of a remote port shows in the slot registers of its vDSP (R144). -/
def sidebandItemRx : Prop := ∀ (s : State) (src bi : Fin 4096) (level : Bool) (v : BitVec 32), (s.bind bi).valid = true →
  (s.bind bi).feid = src → s.isDeviceEnd (s.bind bi) = false → (s.bind bi).kind = 2 →
  exec (.sidebandItemRx src bi 0x02 level v) s =
    .next (s.setHost (s.bind bi).vh (.vdsp (s.bind bi).vdsp) .powerFault (b2n level))

/-- SIDEBAND_ITEM_RX of a privileged message from another source than the binding's is counted and journalled as class 0x0404 (R144). -/
def sidebandPrivileged : Prop := ∀ (s : State) (src bi : Fin 4096) (sig : BitVec 8) (level : Bool) (v : BitVec 32),
  (s.bind bi).feid ≠ src → sig = 0x11 ∨ sig = 0x13 →
  exec (.sidebandItemRx src bi sig level v) s = .next ((s.bump R.BND_FAB_PRIV_REJ_CNT).journal 0x0404
    { vh := (s.bind bi).vh, binding := bi, feid := src })

/-- SIDEBAND_ITEM_RX of a reset's end at the device end releases the port where nothing else holds it, and else leaves it to what does
(R144, R358, R405, Table 5.9). -/
def sidebandReset : Prop := ∀ (s u : State) (src bi : Fin 4096) (v : BitVec 32), (s.bind bi).valid = true →
  (s.bind bi).feid = src → s.isDeviceEnd (s.bind bi) = true →
  u = (s.resetYields src bi).onPins (fun y => { y with farPerst := y.farPerst.filter (· != (s.bind bi).port) }) →
  (u.mayReleasePerst (s.bind bi).port = true →
    exec (.sidebandItemRx src bi 0x04 false v) s = .next ((u.disarm .perstOut (s.bind bi).port).releasePerst (s.bind bi).port)) ∧
  (u.mayReleasePerst (s.bind bi).port = false → exec (.sidebandItemRx src bi 0x04 false v) s = .next u)

/-- EGRESS_SELECT starts the packet the scheduler chooses: its charges are made, and where nothing is wrong with it its TLP leaves
(R234, R69). -/
def egressSelect : Prop := ∀ (s t : State) (q : Fin 144) (pc : PartnerCredit) (n c : Nat) (k : Pkt) (qs : QosState) (tl : Tlp),
  s.mayStart q = true → s.starvedNext q pc = none → s.schedule q pc = some (n, c, k, qs) →
  State.gateFit { s with qos := qs } q c k.tlpBytes ≠ some true → t = State.chargeStart { s with qos := qs } q n c k →
  t.err.armed = [] → t.isFabric q = false →
  k.tlpOf = some tl →
  exec (.egressSelect q pc .clean) s = .next ((t.onPkt k.id (fun x => { x with readers := q.val :: x.readers })).emit (.tlp q tl))

/-- EGRESS_SELECT that meets an uncorrectable word before the header has left: the bank counts it, the egress function reports it as
class 0x0202, and the packet leaves poisoned (R69, R29). -/
def egressPoisoned : Prop := ∀ (s t : State) (q : Fin 144) (pc : PartnerCredit) (n c : Nat) (k : Pkt) (qs : QosState) (b : Fin 256)
  (row : Fin 8192), s.mayStart q = true → s.starvedNext q pc = none → s.schedule q pc = some (n, c, k, qs) →
  State.gateFit { s with qos := qs } q c k.tlpBytes ≠ some true → t = State.chargeStart { s with qos := qs } q n c k →
  exec (.egressSelect q pc (.wordUeBefore b row)) s = .next (((t.bankUe b row).reportEgress 0x0202 k q).depart q k.poison)

/-- EGRESS_SELECT with nothing eligible sends nothing (R234). -/
def egressIdle : Prop := ∀ (s : State) (q : Fin 144) (pc : PartnerCredit) (ecc : ReadEcc), s.mayStart q = true →
  s.starvedNext q pc = none → s.schedule q pc = none → exec (.egressSelect q pc ecc) s = .next s

/-- EGRESS_READ_DONE of a packet that is whole, being read by the port, ends that read (R82). -/
def egressReadDone : Prop := ∀ (s : State) (q : Fin 144) (id : Nat) (k : Pkt), s.pkt id = some k → k.readers.contains q.val = true →
  k.coming = false →
  exec (.egressReadDone q id) s =
    .next (((((s.readDone id q).queueEmptied q (s.nodeAt k q) (s.clsAt k q)).poolEvents.widenDue q).bankEmpty).dmRun)

/-- CREDIT_GRANT asks for the return of credit, which the arbiter then makes or withholds, visiting the ports with credit to return from
the one whose turn it is (R79). -/
def creditAsked : Prop := ∀ (s t : State) (p : Fin 144) (c : Fin 6) (h d : BitVec 16),
  t = s.onChurn (fun y => { y with asks := put (8 * p.val + c.val) (h.toNat, d.toNat) y.asks }) →
  exec (.creditGrant p c h d) s = .next (t.each (t.churn.asks.filter (fun e => t.churn.turn ≤ e.1 / 8) ++
    t.churn.asks.filter (fun e => e.1 / 8 < t.churn.turn)) (fun s e => s.creditVisit (e.1 / 8) (e.1 % 8) e.2.1 e.2.2))

/-- CREDIT_GRANT of a class a policer or a multicast packet withholds is not made; the credit waits, and the first one of its port counts a
stall (R77, R86). -/
def creditWithheld : Prop := ∀ (s : State) (p : Fin 144) (c : Fin 6) (h d : BitVec 16), s.churn.asks = [] → s.linkUp p = true →
  s.outOfReset p = true → c.val < s.classes p → s.kfl.frozen = false → s.paceHolds p = false → s.withheld p c = true →
  s.churn.stalled.contains p.val = false →
  exec (.creditGrant p c h d) s = .next ((s.onChurn (fun y => { y with
    asks := [(8 * p.val + c.val, (h.toNat, d.toNat))], stalled := p.val :: y.stalled })).bump R.CHN_PORT_STALL_CNT p)

/-- CREDIT_GRANT that the limits allow is made: the grant of the class grows by it and by its charge, the turn passes to the next port, and
the link partner gets it (R77 to R80). -/
def creditGrant : Prop := ∀ (s t : State) (p : Fin 144) (c : Fin 6) (h d : BitVec 16) (chg : Charge) (g : Grant), s.churn.asks = [] →
  s.linkUp p = true → s.outOfReset p = true → c.val < s.classes p → s.kfl.frozen = false → s.paceHolds p = false →
  s.withheld p c = false → s.proto p ≠ 2 → s.grantCharge p c (backing h.toNat d.toNat) = some chg → s.pacedRate p = none →
  t = s.onChurn (fun y => { y with stalled := y.stalled.filter (· != p.val), turn := (p.val + 1) % 144 }) → t.pacedRate p = none →
  s.grantOf p c = some g →
  exec (.creditGrant p c h d) s = .next (((t.onChurn (fun y => { y with
    grants := y.grants.filter (fun (x : Grant) => !(x.port == p.val && x.cls == c.val)) ++
      [{ g with heads := g.heads + h.toNat, bytes := g.bytes + d.toNat, res := addP g.res chg.res, shr := addP g.shr chg.shr,
                esc := addP g.esc chg.esc }] })).emit (.credit p c h.toNat d.toNat)).poolEvents)

/-- POLICER_HOLD_RELEASE meters the packet at the head of the hold queue; released, it is counted by its colour and goes on (R228). -/
def policerHoldRelease : Prop := ∀ (s t u : State) (p : Fin 4096) (h : Hold) (k : Pkt) (col : Colour), s.qos.holds = [h] →
  h.policer = p → h.behind = none → s.pkt h.pkt = some k → s.meter p (s.policed p k) = (col, t) → col ≠ .red →
  u = (t.countColour p (s.policed p k) col).onPkt k.id (fun k => { k with held := false, yellow := col == .yellow }) →
  exec (.policerHoldRelease p h.np) s = .next (((u.onQos (fun y => { y with
    holds := y.holds.filter (fun (x : Hold) => x.pkt != k.id) })).showHolds p).goOn k.id)

/-- POLICER_HOLD_RELEASE that finds the head red leaves it held; its first red counts (R228). -/
def policerHoldRed : Prop := ∀ (s t : State) (p : Fin 4096) (h : Hold) (k : Pkt), s.qos.holds = [h] → h.policer = p →
  h.behind = none → h.metered = false → s.pkt h.pkt = some k → s.meter p (s.policed p k) = (.red, t) →
  exec (.policerHoldRelease p h.np) s = .next ((t.onQos (fun y => { y with
    holds := y.holds.map (fun (x : Hold) => if x.pkt == k.id then { x with metered := true } else x) })).bump R.QOS_POL_RED_CNT p)

/-- MC_STRIKE_SWEEP takes every port whose link does not stand out of the residues it is in (R83). -/
def mcStrikeSweep : Prop := ∀ (s : State), exec .mcStrikeSweep s = .next ((s.each (allPorts.filter (fun q => !s.linkUp q &&
  s.churn.pkts.any (fun (k : Pkt) => match k.residue with | some r => r.residue.getLsbD q | none => false)))
  (fun s q => s.strikePort q)).poolEvents)

/-- MC_RESIDUE_TIMEOUT discards the destinations a multicast packet has not begun, counts each, and journals class 0x0501 (R84). -/
def mcResidueTimeout : Prop := ∀ (s t u : State) (id : Nat) (k : Pkt) (r : Residue) (gone : BitVec 144), s.due .residue id = true →
  t = s.disarm .residue id → t.pkt id = some k → k.residue = some r → gone = notReading r.residue k.readers → portsIn gone ≠ [] →
  u = (((t.bumpBy R.CHN_MC_TIMEOUT_CNT 0 (portsIn gone).length).raise F.CHN_EVT.MC_TIMEOUT).journal 0x0501
      { vh := k.vh, detail := r.group + 2 ^ 16 * k.vh + 2 ^ 32 * k.tIn + 2 ^ 64 * gone.toNat }).onPkt id
      (fun k => { k with residue := k.residue.map (fun r => { r with residue := r.residue &&& ~~~gone }) }) →
  exec (.mcResidueTimeout id) s = .next ((u.freePkts (fun k => k.id == id && k.readers.isEmpty)).poolEvents)

/-- MC_RECHARGE of a packet that holds a residue word charges it to the multicast pool when the pool has space (R86). -/
def mcRecharge : Prop := ∀ (s t : State) (id : Nat) (k : Pkt) (r : Residue), s.pkt id = some k → k.residue = some r →
  k.chg.mc = (0, 0) → r.held = true → t = s.onPkt id (fun k => { k with residue := some { r with held := true } }) →
  curdsOf k.len ≤ t.mcFree.1 → 1 ≤ t.mcFree.2 →
  exec (.mcRecharge id) s = .next ((t.onPkt id (fun k0 => { k0 with chg := { mc := (curdsOf k.len, 1) } })).poolEvents)

/-- BANK_ROTATION_STEP with a spare: the spare joins service, the next bank drains, and the interval starts again (R87, Table 3.10). -/
def bankRotationStep : Prop := ∀ (s t : State) (next : Option Nat), s.due .rotation 0 = true → s.rotating = true →
  s.churn.namedTest = none → s.fld F.CHN_ROT_STATUS.STEP_STATE = 0 → s.flag F.CHN_ROT_STATUS.SPARE_VALID = true →
  next = s.nextBank (s.fld F.CHN_ROT_STATUS.SPARE_BANK) → next.elim false (fun n => n ≤ s.fld F.CHN_ROT_STATUS.SPARE_BANK) = false →
  t = s.rotate next → t.fld F.CHN_ROT_STATUS.STEP_STATE ≠ 0 →
  exec .bankRotationStep s = .next (t.arm .rotation 0 (ms (t.fld F.CHN_ROT_CTRL.INTERVAL_MS)))

/-- What the rotation does to the banks: the spare is in service, the next bank is DRAINING for DRAIN_US, and the demand is judged anew
(Table 3.10, step 1; R334). -/
def rotates : Prop := ∀ (s t : State) (b : Nat), s.flag F.CHN_ROT_STATUS.SPARE_VALID = true →
  t = (((((s.setFld F.CHN_BANK_STATE.STATE (s.fld F.CHN_ROT_STATUS.SPARE_BANK) 0).setFld F.CHN_BANK_STATE.STATE b 1).setFld
    F.CHN_ROT_STATUS.STEP_BANK 0 b).setFld F.CHN_ROT_STATUS.STEP_STATE 0 1).setFld F.CHN_ROT_STATUS.SPARE_VALID 0 0).setFld
    F.CHN_STATUS.ROT_ACTIVE 0 1 →
  s.rotate (some b) = (t.arm .drainBank b (us (t.fld F.CHN_ROT_CTRL.DRAIN_US))).demandStep

/-- BANK_DRAIN_TIMEOUT: what is left in a draining bank is migrated, and words left raise DRAIN_LATE (R87, Table 3.10). -/
def bankDrainTimeout : Prop := ∀ (s t : State) (b : Fin 256), s.due .drainBank b = true →
  (s.disarm .drainBank b).fld F.CHN_BANK_STATE.STATE b = 1 → (s.disarm .drainBank b).emptying b = true →
  t = ((s.disarm .drainBank b).setFld F.CHN_BANK_STATE.STATE b 2).setFld F.CHN_ROT_STATUS.STEP_STATE 0 2 → 0 < t.wordsLive b →
  exec (.bankDrainTimeout b) s = .next (t.raise F.CHN_EVT.DRAIN_LATE)

/-- BANK_MIGRATION_DONE of a bank that rotates: its words stand elsewhere, and once no read that began before uses it any more, it goes
under test (R88, Table 3.10). -/
def bankMigrationDone : Prop := ∀ (s t : State) (b : Fin 256), s.fld F.CHN_BANK_STATE.STATE b = 2 → 0 < s.wordsLive b →
  t = ((s.migrate b).disarm .drainBank b).setFld F.CHN_BANK_STATE.STATE b 2 → t.churn.retiring.contains b.val = false →
  (t.wordsLive b = 0 → t.churn.pkts.any (fun (k : Pkt) => k.old.any (·.1 == b.val)) = false →
    exec (.bankMigrationDone b) s = .next ((t.setFld F.CHN_BANK_STATE.STATE b 3).setFld F.CHN_ROT_STATUS.STEP_STATE 0 3)) ∧
  (t.churn.pkts.any (fun (k : Pkt) => k.old.any (·.1 == b.val)) = true → exec (.bankMigrationDone b) s = .next t)

/-- BANK_TEST_DONE within a cycle: a bank that passes is the spare, or rejoins service where a bank has failed or is being retired; one
that fails leaves service (R89, Table 3.10). -/
def bankTestDone : Prop := ∀ (s t : State) (b : Fin 256) (n : Nat), s.fld F.CHN_BANK_STATE.STATE b = 3 →
  t = (s.setFld F.CHN_ROT_STATUS.STEP_STATE 0 0).setFld F.CHN_STATUS.ROT_ACTIVE 0 0 → t.churn.namedTest = none →
  t.nextBank b = some n → b.val < n →
  (t.failedBanks = 0 → t.churn.retiring = [] →
    exec (.bankTestDone b true) s = .next ((((t.setFld F.CHN_BANK_STATE.STATE b 4).setFld F.CHN_ROT_STATUS.SPARE_BANK 0 b).setFld
      F.CHN_ROT_STATUS.SPARE_VALID 0 1).namedEnd b)) ∧
  (t.failedBanks ≠ 0 ∨ t.churn.retiring ≠ [] →
    exec (.bankTestDone b true) s = .next ((t.setFld F.CHN_BANK_STATE.STATE b 0).demandStep.namedEnd b)) ∧
  exec (.bankTestDone b false) s = .next ((t.failBankR b).namedEnd b)

/-- BACKGROUND_SCRUB reports what it reads: a corrected bank word, an uncorrectable one, a corrected head record (R69); with
SCRUB_EN 0 it does nothing. -/
def backgroundScrub : Prop := ∀ (s : State) (b : Fin 256) (row : Fin 8192) (pkt : Nat),
  (s.flag F.CHN_CFG.SCRUB_EN = true → exec (.backgroundScrub (.wordCe b) pkt) s = .next (s.bankCe b) ∧
    exec (.backgroundScrub (.wordUeBefore b row) pkt) s = .next (s.bankUe b row) ∧
    exec (.backgroundScrub .headCe pkt) s = .next ((s.bump R.CHN_HEAD_CE_CNT).journal 0x0201)) ∧
  (s.flag F.CHN_CFG.SCRUB_EN = false → ∀ found, exec (.backgroundScrub found pkt) s = .next s)

/-- STARVE_GUARD_EXPIRY marks a queue whose head is a completion and which has gone without service for STARVE_US since it was last
served or began to wait (R237). -/
def starveGuardExpiry : Prop := ∀ (s : State) (q : Fin 144) (n : Fin 4096) (c : Fin 8) (k : Pkt) (l : List Pkt) (since : Nat),
  l = s.churn.pkts.filter (fun (k : Pkt) => k.waitsAt q && s.nodeAt k q == n.val && s.clsAt k q == c.val) →
  s.headOf q n c {} = some k → k.ord = .completion →
  since = max ((look (8 * n.val + c.val) s.qos.served).getD 0) ((l.map (·.queuedAt)).foldl min s.now) →
  since + us (s.fld F.QOS_PORT_CFG.STARVE_US q) ≤ s.now → us (s.fld F.QOS_PORT_CFG.STARVE_US q) ≠ 0 →
  s.qos.starved.contains (q.val, n.val, c.val) = false →
  exec (.starveGuardExpiry q n c) s = .next (s.onQos (fun y => { y with starved := y.starved ++ [(q.val, n.val, c.val)] }))

/-- GATE_ENTRY_ADVANCE at the end of an entry shows the entry of the operating list that the timebase, counted from the list's base and
modulo its cycle, falls in, and the gates of that entry (R239, R242). -/
def gateEntryAdvance : Prop := ∀ (s : State) (q : Fin 144) (cycle base e i left : Nat) (l : List (Nat × Nat)),
  look q.val s.qos.gclRun = some (cycle, base) → look q.val s.qos.gclNext = some e → e ≤ s.tb.toNat → l = cutList cycle (s.operList q) →
  stretchAt l ((s.tb.toNat - base) % cycle) = (i, left) →
  exec (.gateEntryAdvance q) s = .next (((s.onQos (fun y => { y with
    gclHeld := y.gclHeld.filter (· != q.val), gclNext := put q.val (s.tb.toNat + left) y.gclNext })).setFld
    F.QOS_GCL_STATUS.CUR_ENTRY q i).setFld F.QOS_GCL_STATUS.CUR_GATES q (l.getD i (0xFF, 0)).1)

/-- GCL_SWITCH: the pending list of a port operates from its first cycle start (R241). -/
def gclSwitch : Prop := ∀ (s t u : State) (q : Fin 144) (g : GclPending), s.qos.gclPending = [g] → g.port = q → g.start ≤ s.tb.toNat →
  t = s.onQos (fun y => { y with
    gclPending := []
    gclOper := ((List.range g.entries.length).zip g.entries).foldl (fun l e => put (256 * q + e.1) e.2 l)
      (y.gclOper.filter (fun e => e.1 / 256 != q.val))
    gclRun := (q.val, g.cycle, g.base) :: y.gclRun.filter (fun e => e.1 != q.val) }) →
  u = ((((t.setFld F.QOS_GCL_STATUS.OPER_LAST q (g.entries.length - 1)).setFld F.QOS_GCL_STATUS.OPER_VALID q 1).setFld
    F.QOS_GCL_STATUS.CHANGE_PENDING q 0).setFld F.QOS_STATUS.GCL_PENDING 0 0).raise F.QOS_EVT.GCL_SWITCH →
  exec (.gclSwitch q) s = .next (u.showGate q g.cycle g.base (cutList g.cycle g.entries))

/-- PCIE_LINK_ERROR of a correctable error at a host-edge port is journalled as class 0x0105 and logged at the vUSP (R203). -/
def pcieLinkError : Prop := ∀ (s t : State) (p : Fin 144), s.linkUp p = true → s.proto p ≠ 2 → s.isPoolEdge p = false →
  t = s.journal 0x0105 { port := p } → t.isHostEdge p = true →
  exec (.pcieLinkError p .badTlp) s = .next (t.aerLog (.vusp p) .badTlp false)

/-- PCIE_LINK_ERROR that FEC cannot correct is counted, journalled as class 0x0106, logged, and retrains the link (R203). -/
def pcieLinkFec : Prop := ∀ (s t : State) (p : Fin 144), s.linkUp p = true → s.proto p ≠ 2 →
  (s.bump R.PCL_PORT_FEC_UNCORR_CNT p).isPoolEdge p = false →
  t = (s.bump R.PCL_PORT_FEC_UNCORR_CNT p).journal 0x0106 { port := p } → t.isHostEdge p = true →
  exec (.pcieLinkError p .fec) s = .next ((t.aerLog (.vusp p) .dlProtocol false).pcieRecover p)

/-- PCIE_RECOVERY_ENTRY: the link is in Recovery, its recalibration aborts, and the entry is counted (R22, R64). -/
def pcieRecoveryEntry : Prop := ∀ (s : State) (p : Fin 144), s.linkUp p = true → s.proto p ≠ 2 →
  exec (.pcieRecoveryEntry p) s = .next ((((s.abortRecal p 1).setFld F.PCL_PORT_STATUS.STATE p 4).setFld F.PCL_PORT_STATUS.LPSTATE p 0).bump
    R.PCL_PORT_RECOVERY_CNT p)

/-- WFN_HOLDOFF_EXPIRY: the notices of a key that waited leave (R213). -/
def wfnHoldoffExpiry : Prop := ∀ (s : State) (src bi : Fin 4096) (vh : BitVec 8) (r : Fin 16) (mine : Wfn → Bool),
  s.due .wfn (((src * 256 + vh.toNat) * 4096 + bi) * 16 + r) = true →
  mine = (fun w => w.src == src.val && w.vh == vh.toNat && w.bindIdx == bi.val && w.reason == r.val) →
  exec (.wfnHoldoffExpiry src vh bi r) s = .next (((s.onErr (fun y => { y with
    holdoff := y.holdoff.filter (fun w => !mine w) })).disarm .wfn (((src * 256 + vh.toNat) * 4096 + bi) * 16 + r)).each
      (s.err.holdoff.filter mine) (fun s w => s.wfnSend w))

/-- A policer meters a request red where its peak bucket has too few tokens, else yellow where CIR is 0 or its committed bucket has too
few, else green; what is not red takes its length from the peak bucket, and green also from the committed one (R226, R230). -/
def policerMeter : Prop := ∀ (s : State) (p b : Nat) (tp tc : Bucket) (n : Int), tp = s.bucket (.polP p) → tc = s.bucket (.polC p) →
  n = (b * 1024 : Nat) →
  (tp.tokens < n → s.meter p b = (.red, (s.setBucket (.polP p) tp).setBucket (.polC p) tc)) ∧
  (n ≤ tp.tokens → (s.fld F.QOS_POL_CIR.RATE p = 0 ∨ tc.tokens < n) →
    s.meter p b = (.yellow, (s.setBucket (.polP p) { tp with tokens := tp.tokens - n }).setBucket (.polC p) tc)) ∧
  (n ≤ tp.tokens → s.fld F.QOS_POL_CIR.RATE p ≠ 0 → n ≤ tc.tokens → s.meter p b = (.green,
    (s.setBucket (.polP p) { tp with tokens := tp.tokens - n }).setBucket (.polC p) { tc with tokens := tc.tokens - n }))

/-! ## KFL links (chapter 06) -/

/-- KFL_FLIT_RX with a frame: its lanes, in their logical order, are decoded, and descrambled from where the descrambler stands; what the
code corrects is counted, and the first of its five flits is taken (R166 to R169, R182). -/
def kflFrameRx : Prop := ∀ (s t u : State) (c : Fin 72) (lanes : List (Fin 8)) (levels : List (List (Fin 4))) (age : Nat) (del ok : Bool) (f : FrameIn)
  (b : List (BitVec 8)) (rest : List (List (BitVec 8) × Bool)), s.isKfl c = true → s.flits c = true →
  f = frameIn (s.kl c).rxScr ((lanesIn (s.kl c).rxMask).map (fun i =>
    ((laneLevels lanes levels).find? (fun e => s.lanePos c e.1 == some i)).elim [] (·.2))) →
  f.bad = false → f.flits = (b, ok) :: rest →
  t = ((s.onKl c (fun k => { k with rxScr := f.scr, rxFlits := f.flits, rxTb := s.tb - BitVec.ofNat 64 age })).stat
    R.KFL_FEC_CORR_SYM_LO R.KFL_FEC_CORR_SYM_HI c f.corrected).stat R.PCL_PORT_FEC_CORR_LO R.PCL_PORT_FEC_CORR_HI (portOfCtl c)
    f.corrected → (t.kl c).rxFlits = (b, ok) :: rest → u = t.onKl c (fun k => { k with rxFlits := rest }) →
  exec (.kflFlitRx c true lanes levels age del) s = .next (u.flitTaken c b ok del)

/-- KFL_FLIT_RX of the next flit of a frame in hand whose check fails: discarded and counted (R182, R173). -/
def kflFlitBad : Prop := ∀ (s t : State) (c : Fin 72) (ls : List (Fin 8)) (vs : List (List (Fin 4))) (age : Nat) (b : List (BitVec 8)) (ok del : Bool)
  (rest : List (List (BitVec 8) × Bool)), s.isKfl c = true → s.flits c = true → (s.kl c).rxFlits = (b, ok) :: rest →
  (ok && leNat (b.drop 248) == crc64 (b.take 248)) = false →
  t = (s.onKl c (fun k => { k with rxFlits := rest })).stat R.KFL_RX_FLITS_LO R.KFL_RX_FLITS_HI c 1 →
  exec (.kflFlitRx c false ls vs age del) s = .next (t.bump R.KFL_CRC_ERR_CNT c)

/-- KFL_FLIT_RX of a good SEQ flit: its ACK and its credit first; the next in order is taken, one received before is counted as a
duplicate, any other as out of sequence (R182, Table 6.8). -/
def kflFlitRx : Prop := ∀ (s t u : State) (c : Fin 72) (ls : List (Fin 8)) (vs : List (List (Fin 4))) (age : Nat) (b : List (BitVec 8))
  (rest : List (List (BitVec 8) × Bool))
  (h : FlitHdr), s.isKfl c = true → s.flits c = true → (s.kl c).rxFlits = (b, true) :: rest →
  leNat (b.drop 248) = crc64 (b.take 248) → h = flitHdrOf (leNat (b.take 8)) → h.ftype = 1 →
  2 * h.wheyN + h.dslots ≤ 15 → (h.lseq = t.expectRx c → t.seqBroken c h b = false) →
  t = (s.onKl c (fun k => { k with rxFlits := rest })).stat R.KFL_RX_FLITS_LO R.KFL_RX_FLITS_HI c 1 →
  (t.ackIn c h.ack).flits c = true → u = (t.ackIn c h.ack).creditIn c h.crVc h.crCum → u.flits c = true →
  exec (.kflFlitRx c false ls vs age false) s = .next
    (if sub12 (u.expectRx c) h.lseq = 0 then u.seqIn c h b
     else if sub12 (u.expectRx c) h.lseq ≤ 2048 then u.bump R.KFL_DUP_CNT c else u.bump R.KFL_OOS_CNT c)

/-- KFL_FLIT_RX of a SEQ flit with a protocol error in its payload discards it whole: a START, an ILEN or a TOKEN that cannot be, or more
than its slots (R173, R194). -/
def kflFlitBroken : Prop := ∀ (s t : State) (c : Fin 72) (ls : List (Fin 8)) (vs : List (List (Fin 4))) (age : Nat) (b : List (BitVec 8))
  (rest : List (List (BitVec 8) × Bool))
  (h : FlitHdr), s.isKfl c = true → s.flits c = true → (s.kl c).rxFlits = (b, true) :: rest →
  leNat (b.drop 248) = crc64 (b.take 248) → h = flitHdrOf (leNat (b.take 8)) → h.ftype = 1 →
  t = (s.onKl c (fun k => { k with rxFlits := rest })).stat R.KFL_RX_FLITS_LO R.KFL_RX_FLITS_HI c 1 →
  (15 < 2 * h.wheyN + h.dslots ∨ (h.lseq = t.expectRx c ∧ t.seqBroken c h b = true)) →
  exec (.kflFlitRx c false ls vs age false) s = .next (t.protoErr c)

/-- An ACK of an outstanding flit ends the replay of it and of those before it (R181, R183). -/
def kflAck : Prop := ∀ (s t u : State) (c a left : Nat) (out : Nat → Bool), 1 ≤ sub12 a (s.ackLast c) →
  sub12 a (s.ackLast c) ≤ s.outstanding c → t = (s.setFld F.KFL_SEQ_TX.ACK_LAST c a).setFld F.KFL_REPLAY_STATUS.CONSEC c 0 →
  left = t.outstanding c → out = (fun q => 1 ≤ sub12 q a && sub12 q a ≤ left) → 0 < left →
  u = ((t.onKl c (fun k => { k with
      unacked := k.unacked.filter (fun (f : KflFlit) => out f.lseq)
      tx := k.tx.filter (fun (t : KflPkt) => !t.slots.isEmpty || t.lastSeq == 4096 || out t.lastSeq || t.coming) })).showOut c) →
  ((u.arm .replay c (u.replayTime c)).kl c).stopping = none → s.ackIn c a = u.arm .replay c (u.replayTime c)

/-- KFL_FLIT_TX when an IDLE flit is due by COMP_INTERVAL sends IDLE (R177). -/
def kflFlitTx : Prop := ∀ (s : State) (c : Fin 72), s.isKfl c = true → s.flits c = true → s.training c = false →
  s.lst c ≠ 7 → s.lst c ≠ 8 → s.fld F.KFL_LINK_CFG.COMP_INTERVAL c ≤ (s.kl c).sinceIdle + 1 → (s.kl c).maskNext = none →
  (s.kl c).shedAsk = none →
  exec (.kflFlitTx c) s = .next (((s.flitOut c {} [] []).sleepNow c).recalWatch c)

/-- KFL_FLIT_TX on a link asleep with something to send wakes it (R197). -/
def kflFlitWakes : Prop := ∀ (s : State) (c : Fin 72), s.isKfl c = true → s.lst c = 7 → (s.kl c).maskNext = none →
  s.wheyOf c ≠ [] → (s.kl c).shedAsk = none → exec (.kflFlitTx c) s = .next (((s.kflWake c).sleepNow c).recalWatch c)

/-- LANE_MARKER_RX of the one lane in use, with the count expected: the lane expects the next, its LANE gives its position, and the
descrambler starts again (R57, R169, R171). -/
def laneMarkerRx : Prop := ∀ (s t : State) (c : Fin 72) (lane : Fin 8) (a : Nat) (m : BitVec 64) (x : LaneMark), s.isKfl c = true →
  s.framing c = true → bits m.toNat 0 32 = 0xC5A31E6B → a ≤ 64000 →
  (List.range 8).filter (fun l => (s.lanePos c l).elim false (fun i => bits (s.kl c).rxMask i 1 == 1)) = [lane.val] →
  t = s.onKl c (fun k => { k with rxScr := 0x7FFFFFFF, rxFlits := [], deskew := [(lane.val, 0)] }) → t.framing c = true →
  x = (look lane.val (t.kl c).marks).getD {} → x.bad < 2 → parity 32 (m.toNat / 2 ^ 32) = 0 → bits m.toNat 38 8 = x.next →
  bits m.toNat 36 2 = widthCode (lanesIn (s.kl c).rxMask).length →
  exec (.laneMarkerRx c [(lane, a, m)]) s = .next (t.onKl c (fun k => { k with
    marks := put lane.val { next := (x.next + 1) % 256, bad := 0 } k.marks, rxPos := put lane.val (bits m.toNat 32 3) k.rxPos }))

/-- LANE_MARKER_RX of a marker whose parity is wrong, or that shows no SYNC, is counted; the second in a row tells of a realignment
(R171). -/
def laneMarkerBad : Prop := ∀ (s t u : State) (c : Fin 72) (lane : Fin 8) (a : Nat) (m : BitVec 64) (x : LaneMark), s.isKfl c = true →
  s.framing c = true → (bits m.toNat 0 32 = 0xC5A31E6B → a ≤ 64000 → parity 32 (m.toNat / 2 ^ 32) = 1) →
  (List.range 8).filter (fun l => (s.lanePos c l).elim false (fun i => bits (s.kl c).rxMask i 1 == 1)) = [lane.val] →
  t = s.onKl c (fun k => { k with
    rxScr := 0x7FFFFFFF, rxFlits := []
    deskew := if bits m.toNat 0 32 = 0xC5A31E6B ∧ a ≤ 64000 then [(lane.val, 0)] else [] }) → t.framing c = true →
  x = (look lane.val (t.kl c).marks).getD {} → x.bad < 2 →
  u = (t.bump R.KFL_MARKER_ERR_CNT c).onKl c (fun k => { k with marks := put lane.val { next := (x.next + 1) % 256, bad := x.bad + 1 } k.marks }) →
  exec (.laneMarkerRx c [(lane, a, m)]) s = .next (if x.bad = 0 then u else u.raise F.KFL_LINK_EVT.MARKER_REALIGN c)

/-- LANE_MARKER_RX of a bad marker on a lane that realigns, for want of a good one, starts recovery (R171, R192). -/
def laneMarkerLost : Prop := ∀ (s t : State) (c : Fin 72) (lane : Fin 8), s.isKfl c = true → s.framing c = true →
  (List.range 8).filter (fun l => (s.lanePos c l).elim false (fun i => bits (s.kl c).rxMask i 1 == 1)) = [lane.val] →
  t = s.onKl c (fun k => { k with rxScr := 0x7FFFFFFF, rxFlits := [], deskew := [] }) → t.framing c = true →
  2 ≤ ((look lane.val (t.kl c).marks).getD {}).bad →
  exec (.laneMarkerRx c []) s = .next ((t.bump R.KFL_MARKER_ERR_CNT c).kflRecover c)

/-- KTS_BLOCK_RX while the link trains: its lane's polarity is as it was received, what the block tells is taken, and this side goes on when its part is done (R189, Table
6.11). -/
def ktsBlockRx : Prop := ∀ (s t : State) (c : Fin 72) (lane : Fin 8) (block : BitVec 256) (ok : BitVec 8) (done : Bool)
  (req : Option (BitVec 32)) (skew : Nat) (k : Kts), s.isKfl c = true → s.mode ≠ .reset → s.lst c ≠ 0 →
  lane.val < 4 * s.widthCfg c → bits block.toNat 0 32 = 0x3B6EA2D4 → ktsOf block.toNat = some k → skew ≤ 64000 →
  t = s.setFld F.PCL_LANE_STATUS.POLARITY_INV (firstLane (portOfCtl c) + lane) 0 → 1 ≤ t.lst c → t.lst c ≤ 4 →
  exec (.ktsBlockRx c lane block ok done req skew) s = .next ((t.ktsLearn c lane ok.toNat k req).ktsStep c done)

/-- KTS_BLOCK_RX of a lane that receives the complement of SYNC: its polarity is inverted, and the block is read so (Table 6.10). -/
def ktsPolarity : Prop := ∀ (s : State) (c : Fin 72) (lane : Fin 8) (block : BitVec 256) (ok : BitVec 8) (done : Bool)
  (req : Option (BitVec 32)) (skew : Nat), s.isKfl c = true → s.mode ≠ .reset → s.lst c ≠ 0 →
  lane.val < 4 * s.widthCfg c → bits block.toNat 0 32 = 0xC4915D2B → ktsOf (2 ^ 256 - 1 - block.toNat % 2 ^ 256) = none →
  exec (.ktsBlockRx c lane block ok done req skew) s =
    .next (s.setFld F.PCL_LANE_STATUS.POLARITY_INV (firstLane (portOfCtl c) + lane) 1)

/-- KTS_BLOCK_RX in place of a frame on a lane in use starts recovery (R192). -/
def ktsRecovers : Prop := ∀ (s t : State) (c : Fin 72) (lane : Fin 8) (block : BitVec 256) (ok : BitVec 8) (done : Bool)
  (req : Option (BitVec 32)) (skew : Nat) (k : Kts), s.isKfl c = true → s.mode ≠ .reset → s.lst c ≠ 0 →
  lane.val < 4 * s.widthCfg c → bits block.toNat 0 32 = 0x3B6EA2D4 → ktsOf block.toNat = some k →
  t = s.setFld F.PCL_LANE_STATUS.POLARITY_INV (firstLane (portOfCtl c) + lane) 0 → t.lst c = 5 →
  (k.phase ≠ 5 ∨ (t.kl c).marks ≠ []) → bits (t.fld F.KFL_LINK_STATUS.LANES_ACTIVE c) k.lane 1 = 1 →
  exec (.ktsBlockRx c lane block ok done req skew) s = .next (t.kflRecover c)

/-- TRAINING_TIMEOUT: training has failed with CAUSE 6 and is tried again after 1.00 ms (R190). -/
def trainingTimeout : Prop := ∀ (s t : State) (c : Fin 72), s.due .training c = true → 1 ≤ s.lst c → s.lst c ≤ 4 →
  t = s.whenb ((s.kl c).phase == 1 || (s.kl c).phase == 3) (fun s => s.raise F.PCL_PORT_EVT.EQ_FAIL (portOfCtl c)) →
  ((t.kflDown c 6).linkOff (portOfCtl c) (t.restState (portOfCtl c))).flag F.KFL_LINK_CFG.TRAIN_EN c = true →
  exec (.trainingTimeout c) s =
    .next (((t.kflDown c 6).linkOff (portOfCtl c) (t.restState (portOfCtl c))).arm .trainRetry c (ms 1))

/-- TRAINING_RETRY trains the link again while TRAIN_EN is 1 (R190). -/
def trainingRetry : Prop := ∀ (s : State) (c : Fin 72), s.due .trainRetry c = true → (s.disarm .trainRetry c).lst c = 0 →
  (s.disarm .trainRetry c).flag F.KFL_LINK_CFG.TRAIN_EN c = true →
  exec (.trainingRetry c) s = .next ((s.disarm .trainRetry c).kflTrain c)

/-- REPLAY_TIMER_EXPIRY sends every outstanding flit again, and counts it (R184). -/
def replayTimerExpiry : Prop := ∀ (s t u : State) (c : Fin 72) (n : Nat), s.due .replay c = true → s.flits c = true →
  s.outstanding c ≠ 0 → n = s.fld F.KFL_REPLAY_STATUS.CONSEC c + 1 → n ≤ s.fld F.KFL_TIMER_A.REPLAY_NUM c →
  t = ((s.setFld F.KFL_REPLAY_STATUS.CONSEC c n).setFld F.KFL_REPLAY_STATUS.REPLAYING c 1).bump R.KFL_REPLAY_CNT c →
  u = t.onKl c (fun k => { k with replayNext := some ((t.ackLast c + 1) % 4096) }) →
  exec (.replayTimerExpiry c) s = .next ((u.raise F.KFL_LINK_EVT.REPLAY c).arm .replay c (u.replayTime c))

/-- REPLAY_TIMER_EXPIRY after REPLAY_NUM replays in a row starts recovery (R184, R192). -/
def replayGivesUp : Prop := ∀ (s : State) (c : Fin 72), s.due .replay c = true → s.flits c = true → s.outstanding c ≠ 0 →
  s.fld F.KFL_TIMER_A.REPLAY_NUM c < s.fld F.KFL_REPLAY_STATUS.CONSEC c + 1 →
  exec (.replayTimerExpiry c) s = .next (s.kflRecover c)

/-- CREDIT_TIMER_EXPIRY breaks the link with cause 1, counted and shown (R188, R193). -/
def creditTimerExpiry : Prop := ∀ (s : State) (c : Fin 72) (v : Fin 7), s.due .credit (8 * c + v) = true → s.flits c = true →
  exec (.creditTimerExpiry c v) s = .next (((s.bump R.KFL_CREDIT_TO_CNT c).raise F.KFL_LINK_EVT.CREDIT_TO c).kflBreak c 1)

/-- RECOVERY_TIMEOUT breaks the link with cause 2 (R192, R193). -/
def recoveryTimeout : Prop := ∀ (s : State) (c : Fin 72), s.due .recovery c = true → s.lst c = 6 →
  exec (.recoveryTimeout c) s = .next (s.kflBreak c 2)

/-- SHED_REQ of a half of the full width is agreed and takes effect at the next marker set, once a packet in reception is fully written, with
the port store-and-forward until then (R73, R196, Table 6.12). -/
def shedReq : Prop := ∀ (s : State) (c : Fin 72) (m tok : BitVec 8), s.hears c = true → s.lst c = 5 → (s.kl c).shed = none →
  (s.kl c).stopping = none → s.fld F.KFL_LINK_STATUS.LANES_ACTIVE c = (s.kl c).fullMask →
  4 ≤ (lanesIn (s.fld F.KFL_LINK_STATUS.LANES_ACTIVE c)).length → m.toNat = (halves (s.fld F.KFL_LINK_STATUS.LANES_ACTIVE c)).1 →
  (s.kl c).maskNext = none → (s.kl c).shedAsk = none →
  ((s.kl c).rx = none →
    exec (.shedReq c m tok) s = .next ((s.maskAt c m.toNat).wheyAt c (linkWhey 0x02 [(tok.toNat, 8), (0, 2)]))) ∧
  ((s.kl c).rx ≠ none →
    exec (.shedReq c m tok) s = .next ((s.onKl c (fun k => { k with shedAsk := some (m.toNat, tok.toNat) })).onChurn (fun y => { y with
      narrowing := portOfCtl c :: y.narrowing.filter (· != portOfCtl c) })))

/-- SHED_REQ while the link is shed already is refused (R196). -/
def shedReqRefused : Prop := ∀ (s : State) (c : Fin 72) (m tok : BitVec 8), s.hears c = true → s.lst c = 5 → (s.kl c).shed = none →
  (s.kl c).stopping = none → s.fld F.KFL_LINK_STATUS.LANES_ACTIVE c ≠ (s.kl c).fullMask →
  exec (.shedReq c m tok) s = .next (s.wheyAt c (linkWhey 0x02 [(tok.toNat, 8), (1, 2)]))

/-- SHED_ACK that agrees to the request in progress: the width changes at the next marker set; one that refuses aborts the
recalibration; one that names PEER_AUTHORITY ends this end's operation; one of another token is a protocol error (R162, R194, R196). -/
def shedAck : Prop := ∀ (s t : State) (c : Fin 72) (tok : BitVec 8) (want m : Nat), s.hears c = true → (s.kl c).shed = some (want, m) →
  t = (s.onKl c (fun k => { k with shed := none })).disarm .shed c →
  (want = tok.toNat → exec (.shedAck c tok 0) s = .next ((t.onKl c (fun k => { k with shedOurs := true })).maskAt c m) ∧
    exec (.shedAck c tok 2) s = .next (t.yieldLink c) ∧
    exec (.shedAck c tok 1) s = .next (t.abortRecal (portOfCtl c) 4)) ∧
  (want ≠ tok.toNat → exec (.shedAck c tok 0) s = .next (s.protoErr c))

/-- RESTORE_REQ of the full width on a shed link is agreed: its parked lanes train, and it returns at the next marker set (R196). -/
def restoreReq : Prop := ∀ (s t : State) (c : Fin 72) (m tok : BitVec 8), s.hears c = true → s.lst c = 5 →
  s.fld F.KFL_LINK_STATUS.LANES_ACTIVE c ≠ (s.kl c).fullMask → m.toNat = (s.kl c).fullMask → (s.kl c).stopping = none →
  t = s.onKl c (fun k => { k with locked := s.fld F.KFL_LINK_STATUS.LANES_ACTIVE c }) →
  exec (.restoreReq c m tok) s =
    .next (((t.maskAt c m.toNat).wheyAt c (linkWhey 0x04 [(tok.toNat, 8), (0, 2)])).parkedTrain c)

/-- RESTORE_ACK that agrees: parked lanes train, and the full width returns at the next marker set; without agreement the link
recovers toward its full width (R196, R192). -/
def restoreAck : Prop := ∀ (s t : State) (c : Fin 72) (tok : BitVec 8) (m : Nat), s.hears c = true →
  (s.kl c).restore = some (tok.toNat, m) → t = (s.onKl c (fun k => { k with restore := none })).disarm .shed c →
  exec (.restoreAck c tok 0) s = .next ((t.maskAt c m).parkedTrain c) ∧
  exec (.restoreAck c tok 1) s = .next ((t.abortRecal (portOfCtl c) 4).recoverFull c)

/-- SHED_ACK_TIMEOUT aborts the recalibration at full width (R196). -/
def shedAckTimeout : Prop := ∀ (s : State) (c : Fin 72), s.due .shed c = true → (s.kl c).restore = none →
  exec (.shedAckTimeout c) s =
    .next (((s.onKl c (fun k => { k with shed := none, restore := none })).disarm .shed c).abortRecal (portOfCtl c) 4)

/-- LP_REQ is agreed where this end may sleep in the state too, else refused (R197, Table 6.13). -/
def lpReq : Prop := ∀ (s : State) (c : Fin 72) (deep : Bool) (tok : BitVec 8), s.hears c = true → s.lst c = 5 → (s.kl c).lp = none →
  (s.maySleep c (b2n deep) = true → exec (.lpReq c deep tok) s =
    .next ((s.onKl c (fun k => { k with sleep := some (b2n deep) })).wheyAt c (linkWhey 0x06 [(tok.toNat, 8), (0, 2)]))) ∧
  (s.maySleep c (b2n deep) = false → exec (.lpReq c deep tok) s = .next (s.wheyAt c (linkWhey 0x06 [(tok.toNat, 8), (1, 2)])))

/-- LP_ACK that agrees puts the link to sleep in the state it asked for (R197). -/
def lpAck : Prop := ∀ (s : State) (c : Fin 72) (tok : BitVec 8) (st : Nat), s.hears c = true → s.lst c = 5 →
  (s.kl c).lp = some (tok.toNat, st) → (s.kl c).sleep = none →
  st ≠ 2 → ((s.onKl c (fun k => { k with lp := none, lastBusy := k.lastBusy, sleep := k.sleep })).kl c).sleep = none →
  exec (.lpAck c tok 0) s = .next ((s.onKl c (fun k => { k with lp := none, lastBusy := k.lastBusy, sleep := k.sleep })).kflSleep c st)

/-- KFL_IDLE_TIMER: LP_REQ for the deepest state the link may sleep in (R197). -/
def kflIdleTimer : Prop := ∀ (s : State) (c : Fin 72), (s.kl c).lp = none → (s.kl c).sleep = none → s.isKfl c = true →
  s.maySleep c 1 = true → exec (.kflIdleTimer c) s =
    .next ((s.onKl c (fun k => { k with token := s.nextToken c, lp := some (s.nextToken c, 1) })).wheyAt c
      (linkWhey 0x05 [(1, 1), (s.nextToken c, 8)]))

/-- TIME_REQ is answered with the time it came where TIME_EN is 1, else not at all (R198). -/
def timeReq : Prop := ∀ (s : State) (c : Fin 72) (t1 : BitVec 64), s.hears c = true →
  (s.flag F.KFL_LINK_CFG.TIME_EN c = true → exec (.timeReq c t1) s =
    .next (s.wheyAt c (linkWhey 0x08 [(t1.toNat, 64), (s.tb.toNat, 64), (0, 64)]))) ∧
  (s.flag F.KFL_LINK_CFG.TIME_EN c = false → exec (.timeReq c t1) s = .next s)

/-- TIME_RESP: the offset and the delay of the link are stored and shown, and discipline the timebase (R198, R349). -/
def timeResp : Prop := ∀ (s t : State) (c : Fin 72) (t1 t2 t3 : BitVec 64) (off delay : Int), s.hears c = true →
  off = s.half ((t2 - t1).toInt - (s.tb - t3).toInt) → delay = s.drew.half ((s.tb - t1).toInt - (t3 - t2).toInt) →
  t = ((s.drew.drew.wr R.KFL_TIME_OFFSET c (BitVec.ofInt 32 off)).setFld F.KFL_TIME_DELAY.DELAY c
    (BitVec.ofInt 16 delay).toNat).raise F.KFL_LINK_EVT.TIME_SYNC c →
  exec (.timeResp c t1 t2 t3) s = .next (t.kflOffset
    (((s.drew.drew.wr R.KFL_TIME_OFFSET c (BitVec.ofInt 32 off)).setFld F.KFL_TIME_DELAY.DELAY c (BitVec.ofInt 16 delay).toNat).linkIdx c) off)

/-- TIME_REQ_INTERVAL: an ACTIVE link that asks for the time sends TIME_REQ, and the interval starts again (R198). -/
def timeReqInterval : Prop := ∀ (s t : State) (c : Fin 72), s.due .timeReq c = true → s.flag F.KFL_LINK_CFG.TIME_REQ_EN c = true →
  s.asleep c = false → t = s.arm .timeReq c (ms (s.fld F.KFL_TIMER_C.TIME_INTERVAL c)) → t.lst c = 5 →
  exec (.timeReqInterval c) s = .next (t.wheyAt c (linkWhey 0x07 [(0, 64)]))

/-- LINK_DOWN of the partner breaks the link with cause 3 (R193, R195). -/
def linkDown : Prop := ∀ (s : State) (c : Fin 72) (r : Fin 16), s.hears c = true → (s.kl c).stopping = none →
  exec (.linkDown c r) s = .next (s.kflBreak c 3)

/-- ORDERLY_DRAIN_TIMEOUT: LINK_DOWN is sent; after that one's own wait the link stops (R195). -/
def orderlyDrainTimeout : Prop := ∀ (s : State) (c : Fin 72) (r : Nat), s.due .drain c = true → (s.kl c).stopping = some r →
  ((s.kl c).downSeq = none → exec (.orderlyDrainTimeout c) s = .next (s.kflSendDown c)) ∧
  (∀ q, (s.kl c).downSeq = some q → exec (.orderlyDrainTimeout c) s = .next (s.kflStop c))

/-- A link that breaks is counted, shown and journalled as class 0x0103, its controller is at rest, its port struck, masked and
down; what it had taken goes another way, its routed messages leave by another link, and unless it was disabled it trains again (R193,
R158). -/
def kflBreaks : Prop := ∀ (s t u : State) (c cause : Nat) (msgs : List Whey), s.lst c ≠ 0 → cause ≠ 4 → (s.kl c).stopping = none →
  msgs = (((s.kl c).unacked.map (·.whey)).flatten ++ s.wheyOf c).filter (fun (w : Whey) => w.carry == 2) →
  t = ((((s.bump R.KFL_BROKEN_CNT c).raise F.KFL_LINK_EVT.BROKEN c).journal 0x0103 { port := portOfCtl c, detail := cause }).kflDown c
    cause).onKfl (fun y => { y with whey := y.whey.filter (fun e => e.1 != c) }) →
  u = (((((t.setFld F.PCL_PORT_STATUS.STATE (portOfCtl c) 4).strikePort (portOfCtl c)).maskLink (t.linkIdx c)).linkDown (portOfCtl c)
    2).each (s.kl c).tx State.untake).each msgs (fun s w => (s.wheyRouted w).1) →
  s.kflBreak c cause = if u.flag F.KFL_LINK_CFG.TRAIN_EN c then u.kflTrain c else u

/-! ## Messages and timers of the fabric (chapters 05 and 07) -/

/-- HELLO of a recorded peer that is not known to have a lead is recorded, answered where it tells something new, ends a renewal that
waited for a commit, and unmasks the link (R133, R150). -/
def hello : Prop := ∀ (s t : State) (c : Fin 72) (serial : BitVec 64) (feid : BitVec 12) (elig : Bool) (term : BitVec 16) (link : BitVec 7),
  s.hears c = true → s.fs ≠ 0 → s.fab.hello.find? (fun e => e.1 == c.val) = none → feid.toNat ≠ 0 →
  t = ((s.onFab (fun y => { y with hello := (c.val, feid.toNat, serial.toNat, 0) :: y.hello.filter (fun e => e.1 != c.val) })).heardTerm
    term.toNat).hello c → look c.val t.fab.peer = some feid.toNat →
  exec (.hello c serial feid elig 0 term link) s = .next ((t.onFab (fun y => { y with newPeer := drop c.val y.newPeer })).unmask c)

/-- LEAD_CLAIM that is new to this device is forwarded, its TERM is heard, and the lowest claim is kept; a claimant that hears a lower
one claims no more (R134, R138). -/
def leadClaim : Prop := ∀ (s t u : State) (c : Fin 72) (origin feid : BitVec 12) (hops : BitVec 4) (serial : BitVec 64) (term seq : BitVec 16),
  s.hears c = true → s.fs ≠ 0 → s.floodRx c (envelope 0x21 1 origin 0xFFF hops
    [(feid.toNat, 12), (serial.toNat, 64), (term.toNat, 16), (seq.toNat, 16)]) seq.toNat = (true, t) →
  t.fab.claim = none → u = (t.heardTerm term.toNat).onFab (fun y => { y with claim := some (feid.toNat, serial.toNat) }) →
  (t.heardTerm term.toNat).fab.claim = none → u.fab.claiming = true → feid.toNat < u.ownFeid →
  exec (.leadClaim c origin hops feid serial term seq) s =
    .next ((u.onFab (fun y => { y with claiming := false })).disarm .settle 0)

/-- HEARTBEAT with a TERM below the highest heard is discarded (R135). -/
def heartbeatOld : Prop := ∀ (s : State) (c : Fin 72) (origin lead : BitVec 12) (hops : BitVec 4) (term seq : BitVec 16) (m : BitVec 7),
  s.hears c = true → term.toNat < s.fld F.BND_FAB_LEAD_INFO.TERM → exec (.heartbeat c origin hops lead term seq m) s = .next s

/-- HEARTBEAT of its lead, new to a member: forwarded, and the time until the lead counts as lost begins again (R135, R138). -/
def heartbeat : Prop := ∀ (s t u : State) (c : Fin 72) (origin lead : BitVec 12) (hops : BitVec 4) (term seq : BitVec 16) (m : BitVec 7),
  s.hears c = true → s.fs ≠ 0 → s.fld F.BND_FAB_LEAD_INFO.TERM ≤ term.toNat → s.floodRx c (envelope 0x22 1 origin 0xFFF hops
    [(lead.toNat, 12), (term.toNat, 16), (seq.toNat, 16), (m.toNat, 7)]) seq.toNat = (true, t) → u = t.heardTerm term.toNat →
  u.fs = 4 → u.lead = some lead.toNat →
  exec (.heartbeat c origin hops lead term seq m) s =
    .next (u.arm .heartbeatLoss 0 (u.fld F.BND_FAB_TIMERS.HB_MISS * u.hbTime))

/-- JOIN_REQ at the lead of an FEID another member holds is refused with result 2, shown and journalled as class 0x0405 (R132, R36). -/
def joinDuplicate : Prop := ∀ (s t : State) (c : Fin 72) (origin dest feid : BitVec 12) (hops : BitVec 4) (serial : BitVec 64) (elig : Bool)
  (m : Member), s.hears c = true → s.fs = 5 → dest.toNat = s.ownFeid → feid.toNat ≠ 0 →
  t = s.onFab (fun y => { y with
    relay := put (4096 + serial.toNat) (s.linkIdx c) (put origin.toNat (s.linkIdx c) y.relay) }) →
  t.fab.members.find? (fun (m : Member) => m.feid == feid.toNat && m.serial != serial.toNat) = some m →
  exec (.joinReq c origin dest hops serial feid elig) s =
    .next ((((t.raise F.BND_FAB_EVT.FEID_DUP).raise F.BND_FAB_EVT.JOIN_REFUSED).journal 0x0405
      { feid := feid.toNat, detail := serial.toNat + 2 ^ 64 * m.serial }).joinReply c origin.toNat serial.toNat 2 feid.toNat)

/-- JOIN_REQ at the lead with a static FEID no member holds, while the fabric has room, is admitted and recorded (R131, R132). -/
def joinReq : Prop := ∀ (s t : State) (c : Fin 72) (origin dest feid : BitVec 12) (hops : BitVec 4) (serial : BitVec 64) (elig : Bool),
  s.hears c = true → s.fs = 5 → dest.toNat = s.ownFeid → feid.toNat ≠ 0 → feid.toNat < 0x800 →
  t = s.onFab (fun y => { y with
    relay := put (4096 + serial.toNat) (s.linkIdx c) (put origin.toNat (s.linkIdx c) y.relay) }) →
  t.fab.members.find? (fun (m : Member) => m.feid == feid.toNat && m.serial != serial.toNat) = none → t.fab.members.length < 64 →
  exec (.joinReq c origin dest hops serial feid elig) s = .next ((t.onFab (fun y => { y with
    members := y.members.filter (fun (x : Member) => x.serial != serial.toNat) ++
      [{ feid := feid.toNat, serial := serial.toNat, elig := elig, dynamic := false, linksUp := 0 }] })).showMembers.joinReply c
        origin.toNat serial.toNat 0 feid.toNat)

/-- JOIN_REPLY for this device that refuses makes it REFUSED, with an event, for 1.00 s (R133, Table 5.4). -/
def joinRefused : Prop := ∀ (s : State) (c : Fin 72) (origin dest feid : BitVec 12) (hops : BitVec 4) (r : Fin 4), s.hears c = true →
  s.fs = 3 → r.val ≠ 0 →
  exec (.joinReply c origin dest hops (BitVec.ofNat 64 Config.serial.toNat) r feid) s =
    .next ((((s.admitted false).setFs 6).raise F.BND_FAB_EVT.SELF_REFUSED).arm .refused 0 (ms 1000))

/-- JOIN_REPLY that admits this device gives it its FEID: it is a MEMBER, admitted, reports its links, and tells
its neighbours (R133, Table 5.5). -/
def joinReply : Prop := ∀ (s t u v : State) (c : Fin 72) (origin dest feid : BitVec 12) (hops : BitVec 4), s.hears c = true → s.fs = 3 →
  t = s.takeFeid feid.toNat →
  u = ((t.admitted true).setFs 4).arm .heartbeatLoss 0 (t.fld F.BND_FAB_TIMERS.HB_MISS * t.hbTime) →
  v = u.each (allPorts.filter u.isFabric) (fun s p => s.topoReport (s.linkOf p)
    (if s.linkLive (s.linkOf p) then 1 else if s.linkUp p then 2 else 0) ((look (controllerOf p) s.fab.peer).getD 0)) →
  exec (.joinReply c origin dest hops (BitVec.ofNat 64 Config.serial.toNat) 0 feid) s =
    .next v.helloAll.grantAll

/-- TOPO_REPORT at the lead is recorded and shown (R138, R165). -/
def topoReport : Prop := ∀ (s : State) (c : Fin 72) (origin dest peer : BitVec 12) (hops : BitVec 4) (link : BitVec 7) (st : Fin 4),
  s.hears c = true → dest.toNat = s.ownFeid → s.fs = 5 →
  exec (.topoReport c origin dest hops link st peer) s = .next ((s.onFab (fun y => { y with
    topo := put (128 * origin.toNat + link.toNat) (st + 4 * peer.toNat) y.topo })).showMembers)

/-- A routed message for another device goes on by a link, one hop more, unless it has taken HOP_LIMIT (R138). -/
def topoForwarded : Prop := ∀ (s t : State) (c : Fin 72) (origin dest peer : BitVec 12) (hops : BitVec 4) (link : BitVec 7) (st : Fin 4)
  (w : Whey), s.hears c = true → s.fs ≠ 0 → dest.toNat ≠ s.ownFeid →
  t = s.onFab (fun y => { y with relay := put origin.toNat (s.linkIdx c) y.relay }) →
  w = envelope 0x25 2 origin dest hops [(link.toNat, 7), (st.val, 2), (peer.toNat, 12)] →
  exec (.topoReport c origin dest hops link st peer) s = .next
    (if t.fld F.BND_FAB_CFG.HOP_LIMIT < hops.toNat + 1 then t
     else (t.wheyRouted { w with hops := hops.toNat + 1 } none (some (t.linkIdx c))).1)

/-- FLOW_GRANT at the source: the flow that asked is granted, and its idle time begins (R154, R156). -/
def flowGrant : Prop := ∀ (s : State) (c : Fin 72) (origin dest src dst : BitVec 12) (hops : BitVec 4) (vh : BitVec 8) (ord : Fin 4)
  (sq : BitVec 16), s.hears c = true → s.fs ≠ 0 → dest.toNat = s.ownFeid →
  s.fab.sends.any (fun (e : SendEntry) => e.is dst.toNat vh.toNat ord) = true →
  exec (.flowGrant c origin dest hops src dst vh ord sq) s = .next ((s.onFab (fun y => { y with
    sends := y.sends.map (fun (e : SendEntry) => if e.is dst.toNat vh.toNat ord && !e.granted
      then { e with granted := true, acked := seqNext sq.toNat } else e) })).arm .flowIdle (flowKey dst.toNat vh.toNat ord)
        (us (s.fld F.BND_FAB_RESEQ_CFG.IDLE)))

/-- FLOW_GRANT of a flow whose entry is gone is answered with FLOW_CLOSE of that sequence (R163). -/
def flowGrantGone : Prop := ∀ (s : State) (c : Fin 72) (origin dest src dst : BitVec 12) (hops : BitVec 4) (vh : BitVec 8) (ord : Fin 4)
  (sq : BitVec 16), s.hears c = true → s.fs ≠ 0 → dest.toNat = s.ownFeid →
  s.fab.sends.any (fun (e : SendEntry) => e.is dst.toNat vh.toNat ord) = false →
  exec (.flowGrant c origin dest hops src dst vh ord sq) s = .next
    (s.wheyRouted (s.message 0x29 dst.toNat (flowFields s.ownFeid dst.toNat vh.toNat ord ++ [(sq.toNat, 16)]))).1

/-- FLOW_DENY at the source: the entry is free, the flow stays pinned and counted, and asks again after FLOW_RETRY (R154). -/
def flowDeny : Prop := ∀ (s t : State) (c : Fin 72) (origin dest src dst : BitVec 12) (hops : BitVec 4) (vh : BitVec 8) (ord : Fin 4),
  s.hears c = true → s.fs ≠ 0 → dest.toNat = s.ownFeid → s.fab.sends.any (fun (e : SendEntry) => e.is dst.toNat vh.toNat ord) = true →
  t = (((s.onFab (fun y => { y with
      sends := y.sends.filter (fun (e : SendEntry) => !e.is dst.toNat vh.toNat ord)
      retry := y.retry ++ [(dst.toNat, vh.toNat, ord.val)] })).bump R.BND_FAB_FLOW_PINNED_CNT).raise F.BND_FAB_EVT.FLOW_PINNED).disarm
        .flowIdle (flowKey dst.toNat vh.toNat ord) →
  exec (.flowDeny c origin dest hops src dst vh ord) s =
    .next (t.arm .flowRetry (flowKey dst.toNat vh.toNat ord) (us (10 * t.fld F.BND_FAB_HOLD_CFG.FLOW_RETRY)))

/-- FLOW_ACK at the source moves the send window of its flow on (R155). -/
def flowAck : Prop := ∀ (s : State) (c : Fin 72) (origin dest src dst : BitVec 12) (hops : BitVec 4) (vh : BitVec 8) (ord : Fin 4)
  (ex : BitVec 16), s.hears c = true → s.fs ≠ 0 → dest.toNat = s.ownFeid →
  exec (.flowAck c origin dest hops src dst vh ord ex) s = .next (s.onFab (fun y => { y with
    sends := y.sends.map (fun (e : SendEntry) => if e.is dst.toNat vh.toNat ord &&
      decide (seqDist e.acked ex.toNat ≤ seqDist e.acked e.nextSeq) then { e with acked := ex.toNat } else e) }))

/-- FLOW_CLOSE at the destination: the context of the flow closes at L (R156). -/
def flowClose : Prop := ∀ (s : State) (c : Fin 72) (origin dest src dst : BitVec 12) (hops : BitVec 4) (vh : BitVec 8) (ord : Fin 4)
  (last : BitVec 16) (f : FlowCtx), s.hears c = true → s.fs ≠ 0 → dest.toNat = s.ownFeid → s.flowOf src.toNat vh.toNat ord = some f →
  exec (.flowClose c origin dest hops src dst vh ord last) s =
    .next ((s.onFlow f.idx (fun x => { x with closing := true, closeSeq := last.toNat })).flowSettle f.idx)

/-- WFN for this device, which is not its binding's device end, is counted and logged in the posted-failure log of its binding, or, where a
commit has removed that, under the index it carries with no function to report it (R212, R214, R223). -/
def wfn : Prop := ∀ (s t : State) (c : Fin 72) (dest : BitVec 12) (hops : BitVec 4) (w x : Wfn), s.hears c = true → s.fs ≠ 0 →
  dest.toNat = s.ownFeid → t = s.bump R.ERR_WFN_RX_CNT → x = wfnOfBody s.ownFeid (packFields (wfnFields w)) →
  t.bindings.find? (fun e => t.isDeviceEnd e.2 && Bind.remote e.2 == x.bindIdx && Bind.vh e.2 == x.vh) = none →
  exec (.wfn c dest hops w) s = .next (match t.vhEndBinding x with
    | some bi => t.logFailure x bi
    | none => t.logFailure x x.bindIdx true)

/-- WFN at the device end of its binding goes on to the VH end as WFN_FWD where it tells of a write toward the host (R212, R213). -/
def wfnDeviceEnd : Prop := ∀ (s t : State) (c : Fin 72) (dest : BitVec 12) (hops : BitVec 4) (w x : Wfn) (e : Nat × Bind),
  s.hears c = true → s.fs ≠ 0 → dest.toNat = s.ownFeid → t = s.bump R.ERR_WFN_RX_CNT →
  x = wfnOfBody s.ownFeid (packFields (wfnFields w)) →
  t.bindings.find? (fun e => t.isDeviceEnd e.2 && Bind.remote e.2 == x.bindIdx && Bind.vh e.2 == x.vh) = some e → x.dir = true →
  exec (.wfn c dest hops w) s = .next (t.sendWfn 0x31 (Bind.feid e.2) x)

/-- WFN for another device that no link takes on, or that has taken HOP_LIMIT, is counted, shown and journalled as class 0x0406 (R212). -/
def wfnUndelivered : Prop := ∀ (s : State) (c : Fin 72) (dest : BitVec 12) (hops : BitVec 4) (w : Wfn), s.hears c = true → s.fs ≠ 0 →
  dest.toNat ≠ s.ownFeid → s.fld F.BND_FAB_CFG.HOP_LIMIT < hops.toNat + 1 →
  exec (.wfn c dest hops w) s = .next (((s.bump R.ERR_WFN_UNDELIV_CNT).raise F.ERR_EVT.WFN_UNDELIV).journal 0x0406 { feid := dest.toNat })

/-- A notice carries every field of a failed write at its width (R212). -/
def wfnFieldsKept : Prop := ∀ (w : Wfn) (src : Nat), w.addr < 2 ^ 64 → w.len < 2 ^ 13 → w.vh < 2 ^ 8 → w.bindIdx < 2 ^ 12 →
  w.reason < 2 ^ 4 → w.failFeid < 2 ^ 12 → w.tFail < 2 ^ 32 → w.fseq < 2 ^ 16 → w.genTag < 2 ^ 8 → w.count < 2 ^ 8 →
  wfnOfBody src (packFields (wfnFields w)) = { w with src := src }

/-- WFN_FWD for this device is counted and logged (R214). -/
def wfnFwd : Prop := ∀ (s t : State) (c : Fin 72) (dest : BitVec 12) (hops : BitVec 4) (w x : Wfn), s.hears c = true → s.fs ≠ 0 →
  dest.toNat = s.ownFeid → t = s.bump R.ERR_WFN_RX_CNT → x = wfnOfBody s.ownFeid (packFields (wfnFields w)) →
  exec (.wfnFwd c dest hops w) s = .next (match t.vhEndBinding x with
    | some bi => t.logFailure x bi
    | none => t.logFailure x x.bindIdx true)

/-- ACU_NOTICE at the VH end is reported on its binding as class 0x0309 (R422). -/
def acuNotice : Prop := ∀ (s : State) (c : Fin 72) (origin dest bi : BitVec 12) (hops : BitVec 4) (vh : BitVec 8) (dir : Fin 4) (wr : Bool)
  (len : BitVec 13) (hdr : BitVec 128), s.hears c = true → s.fs ≠ 0 → dest.toNat = s.ownFeid →
  exec (.acuNotice c origin dest hops vh bi dir wr len hdr) s =
    .next (s.reportBinding 0x0309 bi.toNat .completerAbort false hdr.toNat)

/-- A message on a link that carries none is not heard (R179, R189). -/
def wheyUnheard : Prop := ∀ (s : State) (c : Fin 72) (origin dest peer : BitVec 12) (hops : BitVec 4) (link : BitVec 7) (st : Fin 4)
  (serial : BitVec 64) (elig : Bool), s.hears c = false → exec (.topoReport c origin dest hops link st peer) s = .next s ∧
  exec (.joinReq c origin dest hops serial peer elig) s = .next s

/-- SETTLE_EXPIRY in DISCOVER: the device elects; a claimant in ELECT that heard no lower claim leads (R134, Table 5.4). -/
def settleExpiry : Prop := ∀ (s t : State), s.due .settle 0 = true → t = s.disarm .settle 0 →
  (t.fs = 1 → exec .settleExpiry s = .next t.elect) ∧
  (t.fs = 2 → t.fab.claiming = true → exec .settleExpiry s = .next t.becomeLead)

/-- HEARTBEAT_TIMER: the lead floods HEARTBEAT and the interval begins again (R135). -/
def heartbeatTimer : Prop := ∀ (s t : State), s.due .heartbeat 0 = true → s.fs = 5 → t = s.nextFlood →
  exec .heartbeatTimer s = .next ((t.flood 0x22 [(t.ownFeid, 12), (t.fld F.BND_FAB_LEAD_INFO.TERM, 16), (t.fab.floodSeq, 16),
    (t.fld F.BND_FAB_LEAD_INFO.MEMBERS, 7)]).arm .heartbeat 0 t.hbTime)

/-- HEARTBEAT_LOSS: the lead is lost, shown, and the device elects (R135). -/
def heartbeatLoss : Prop := ∀ (s t : State), s.due .heartbeatLoss 0 = true → (s.disarm .heartbeatLoss 0).fs = 4 →
  t = ((s.disarm .heartbeatLoss 0).raise F.BND_FAB_EVT.HB_LOST).setLead none → t.bnd.session = none →
  exec .heartbeatLoss s = .next t.elect

/-- REFUSED_RETRY: a refused device that knows the lead asks to join again (R133, Table 5.4). -/
def refusedRetry : Prop := ∀ (s : State) (l : Nat), s.due .refused 0 = true → (s.disarm .refused 0).fs = 6 →
  (s.disarm .refused 0).lead = some l → exec .refusedRetry s = .next ((s.disarm .refused 0).join l none)

/-- FLOW_RETRY_EXPIRY: the flow may ask again (R154). -/
def flowRetryExpiry : Prop := ∀ (s : State) (dst : Fin 4096) (vh : BitVec 8) (ord : Fin 3),
  s.due .flowRetry (flowKey dst vh.toNat ord) = true → exec (.flowRetryExpiry dst vh ord) s = .next ((s.onFab (fun y => { y with
    retry := y.retry.filter (fun r => flowKey r.1 r.2.1 r.2.2 != flowKey dst vh.toNat ord) })).disarm .flowRetry (flowKey dst vh.toNat ord))

/-- FLOW_IDLE_EXPIRY: a granted flow that sent nothing for IDLE sends FLOW_CLOSE with the last sequence it sent, and its entry is free
(R156). -/
def flowIdleExpiry : Prop := ∀ (s t : State) (dst : Fin 4096) (vh : BitVec 8) (ord : Fin 3) (e : SendEntry),
  s.due .flowIdle (flowKey dst vh.toNat ord) = true → t = s.disarm .flowIdle (flowKey dst vh.toNat ord) → t.fab.sends = [e] →
  t.flowWaits (flowKey dst vh.toNat ord) = false → flowKey e.dst e.vh e.ord = flowKey dst vh.toNat ord → e.granted = true →
  exec (.flowIdleExpiry dst vh ord) s = .next ((t.wheyRouted (t.message 0x29 e.dst (flowFields t.ownFeid e.dst e.vh e.ord ++
    [(if e.nextSeq = 1 then 65535 else e.nextSeq - 1, 16)]))).1.onFab (fun y => { y with
      sends := y.sends.filter (fun (x : SendEntry) => !x.is e.dst e.vh e.ord) }))

/-- FLOW_ACK_DEADLINE: FLOW_ACK goes to the source with the current EXPECT (R155). -/
def flowAckDeadline : Prop := ∀ (s t : State) (i : Fin 4096) (c : FlowCtx), s.due .flowAck i = true → t = s.disarm .flowAck i →
  t.flow i = some c →
  exec (.flowAckDeadline i) s = .next ((((t.wheyRouted (t.message 0x28 c.src (flowFields c.src t.ownFeid c.vh c.ord ++
    [(c.expect, 16)]))).1.onFlow i (fun c => { c with acked := c.expect, delivered := 0 })).disarm .flowAck i))

/-- RESEQ_HOLE_TIMEOUT: the missing packet is declared lost, counted, shown and journalled as class 0x0402, and the flow goes on
(R157). -/
def reseqHoleTimeout : Prop := ∀ (s t u : State) (i : Fin 4096) (c : FlowCtx) (bi : Nat),
  s.timers.any (fun (t : Timer) => t.kind == .hole && t.idx == i.val && decide (t.due < s.now)) = true → t = s.disarm .hole i →
  t.flow i = some c → bi = (((c.held.find? (fun (h : HeldSeq) => !h.waits)).orElse (fun _ => c.held.head?)).map (fun h => (t.hdrOf h.pkt).bindIdx)).getD 0xFFF →
  u = ((t.bump R.BND_FAB_RESEQ_HOLE_CNT).raise F.BND_FAB_EVT.RESEQ_HOLE).journal 0x0402
    { vh := c.vh, binding := bi, feid := c.src
      detail := leNat (packFields (flowFields c.src t.ownFeid c.vh c.ord ++ [(c.expect, 16)])) } →
  (t.bind bi).valid = false →
  exec (.reseqHoleTimeout i) s = .next ((u.onFlow i (fun c => { c with expect := seqNext c.expect })).flowSettle i)

/-- RESEQ_SKEW_EXPIRY counts each packet held longer than SKEW once (R157). -/
def reseqSkewExpiry : Prop := ∀ (s : State) (i : Fin 4096) (c : FlowCtx) (h : HeldSeq), s.due .skew i = true → s.flow i = some c →
  c.held = [h] → h.waits = false → h.counted = false → h.since + 10 * s.fld F.BND_FAB_RESEQ_CFG.SKEW ≤ s.now →
  exec (.reseqSkewExpiry i) s = .next ((((s.bump R.BND_FAB_SKEW_EXC_CNT).raise F.BND_FAB_EVT.SKEW_EXC).onFlow i (fun c => { c with
    held := c.held.map (fun (h : HeldSeq) => if !h.waits && !h.counted && decide (h.since + 10 * s.fld F.BND_FAB_RESEQ_CFG.SKEW ≤ s.now)
      then { h with counted := true } else h) })).disarm .skew i)

/-- UNREACH_HOLD_EXPIRY: a held packet without a live slot is a path loss, counted (R149, Table 5.11). -/
def unreachHoldExpiry : Prop := ∀ (s t : State) (id : Nat), s.due .unreach id = true →
  s.fab.unreach.any (fun e => e.1 == id) = true →
  t = (s.onFab (fun y => { y with unreach := y.unreach.filter (fun e => e.1 != id) })).disarm .unreach id →
  exec (.unreachHoldExpiry id) s = .next (((t.bump R.BND_FAB_UNREACH_CNT).raise F.BND_FAB_EVT.UNREACH).pathLoss id 0)

/-- PIN_HOLD_RELEASE: pinned packets held behind the last route change toward a FEID leave in order, a group packet to its ports, once
PIN_SETTLE has passed and none looked up before it remains (R152). -/
def pinHoldRelease : Prop := ∀ (s : State) (f : Fin 4096) (e : Nat × Nat × Nat),
  s.fab.pinSwap.find? (fun e => e.1 == f.val) = some e → (s.fab.pinSwap.erase e).find? (fun e => e.1 == f.val) = none →
  e.2.1 + us (10 * s.fld F.BND_FAB_HOLD_CFG.PIN_SETTLE) ≤ s.now → s.olderToward f e.2.2 = false →
  exec (.pinHoldRelease f) s = .next ((s.onFab (fun y => { y with
    pinSwap := s.fab.pinSwap.erase e, pinHeld := y.pinHeld.filter (fun e => e.2 != f.val) })).each
      ((s.fab.pinHeld.filter (fun e => e.2 == f.val)).map (·.1)) (fun s id =>
        if (s.pkt id).elim false (fun k => k.residue.isSome) then s.onPkt id (fun k => { k with held := false }) else s.sendOn id))

/-! ## Generations, the data mover and tracing (chapters 04 and 11) -/

/-- SESSION_TIMEOUT: the session closes with its edits discarded, LAST_COMMIT says so, and an event tells of it (R115). -/
def sessionTimeout : Prop := ∀ (s : State) (x : Session), s.due .session 0 = true → s.bnd.session = some x → s.bnd.committing = false →
  exec .sessionTimeout s = .next (((((((s.onBnd (fun y => { y with session := none, committing := false, copying := true })).setFld
    F.BND_GEN_STATUS.SESSION_OPEN 0 0).setFld F.BND_GEN_STATUS.SHADOW_DIRTY 0 0).setFld F.BND_GEN_STATUS.SHADOW_READY 0 0).disarm
    .session 0).setFld F.BND_GEN_STATUS.LAST_COMMIT 0 2).raise F.BND_EVT.SESSION_TIMEOUT)

/-- SESSION_TIMEOUT while a commit runs changes nothing (Table 4.13). -/
def sessionCommitting : Prop := ∀ (s : State), s.bnd.committing = true → exec .sessionTimeout s = .next s

/-- COMMIT_VALIDATED of a shadow that passes every check: the banks swap, and COMMIT ends with the new generation (R114, R116). -/
def commitValidated : Prop := ∀ (s t : State) (found : List (Nat × BitVec 64 × Fin 3)), s.bnd.committing = true → s.validate = none →
  s.unbindBusy = false → t = ((s.readSerials (found.map (fun e => (e.1, e.2.1)))).readMethods (found.map (fun e => (e.1, e.2.2)))).swap →
  exec (.commitValidated found) s = .next (t.finishAny 0x0301 stOk 0 (leBytes 4 (t.fld F.BND_GEN_STATUS.ACTIVE_GEN))).dmRun

/-- COMMIT_VALIDATED of a shadow that fails a check: BND_GEN_REJECT names the table, the entry and the reason, the commit is
rejected, and its session stays open (R116). -/
def commitRejected : Prop := ∀ (s t u : State) (found : List (Nat × BitVec 64 × Fin 3)) (tab i r : Nat), s.bnd.committing = true →
  s.validate = some (tab, i, r) → r ≠ 5 → r ≠ 6 → t = (s.onBnd (fun y => { y with committing := false })).useSession →
  u = ((((t.wr R.BND_GEN_REJECT 0 (BitVec.ofNat 32 (tab + 2 ^ 4 * i + 2 ^ 20 * r))).setFld F.BND_GEN_STATUS.LAST_COMMIT 0 1).raise
    F.BND_EVT.COMMIT_REJECT).finishAny 0x0301 stParam 0xFFFF (leBytes 4 (tab + 2 ^ 4 * i + 2 ^ 20 * r))) → s.unasked = false →
  exec (.commitValidated found) s = .next u

/-- COMMIT_VALIDATED while a binding it removes is UNBINDING ends BUSY with DETAIL 2, its session open (Table 4.13). -/
def commitBusy : Prop := ∀ (s t : State) (found : List (Nat × BitVec 64 × Fin 3)), s.bnd.committing = true → s.validate = none →
  s.unbindBusy = true → t = ((s.onBnd (fun y => { y with committing := false })).useSession).finishAny 0x0301 stBusy 2 [] →
  s.unasked = false → exec (.commitValidated found) s = .next t

/-- The generation swap of a commit that adds and removes no binding exchanges the banks at one instant, counts the generation, closes
the session and starts the copy of the new active bank (R114, R117). -/
def swapExchanges : Prop := ∀ (s t u : State), s.removed = [] → s.added = [] →
  t = ((((((s.onBnd (fun y => { y with
    active := s.bnd.shadow, shadow := s.bnd.active, session := none, committing := false, copying := true })).setFld
    F.BND_GEN_STATUS.ACTIVE_GEN 0 ((s.fld F.BND_GEN_STATUS.ACTIVE_GEN + 1) % 65536)).setFld F.BND_GEN_STATUS.SHADOW_READY 0 0).setFld
    F.BND_GEN_STATUS.SESSION_OPEN 0 0).setFld F.BND_GEN_STATUS.SHADOW_DIRTY 0 0).setFld F.BND_GEN_STATUS.LAST_COMMIT 0 0).disarm
    .session 0 →
  u = ((((((t.proxyUpdate.each t.proxyUpdate.bindings (fun s e => s.startUnbind e)).bindGens s.bnd.active).pinUpdate s.bnd.active).nodeUpdate
    s.bnd.active).renewPeers.timeUpdate).dropHolds).limitsAgain.raise F.BND_EVT.COMMIT_DONE →
  t.bnd.active = s.bnd.shadow ∧ s.swap = u.setFld F.BND_GEN_STATUS.QUIESCED 0 (b2n (u.older == 0))

/-- SHADOW_COPY_DONE: the shadow equals the active bank and is ready (R117). -/
def shadowCopyDone : Prop := ∀ (s : State), s.bnd.copying = true → exec .shadowCopyDone s =
  .next ((s.onBnd (fun y => { y with shadow := y.active, copying := false })).setFld F.BND_GEN_STATUS.SHADOW_READY 0 1)

/-- QUIESCE_DONE: once nothing older is left, QUIESCED is set with its event, and a quiesce that waits ends OK with count 0 (R117). -/
def quiesceDone : Prop := ∀ (s t : State), s.older = 0 → s.flag F.BND_GEN_STATUS.QUIESCED = false →
  t = (s.setFld F.BND_GEN_STATUS.QUIESCED 0 1).raise F.BND_EVT.QUIESCED →
  exec .quiesceDone s = .next (({ t with timers := t.timers.filter (fun (x : Timer) => x.kind != TimerKind.quiesce) }).finishAny 0x0303
    stOk 0 (leBytes 4 0))

/-- QUIESCE_DONE while something older is left changes nothing (R117). -/
def quiesceWaits : Prop := ∀ (s : State), s.older ≠ 0 → exec .quiesceDone s = .next s

/-- QUIESCE_LIMIT: each quiesce whose limit has passed ends BUSY with DETAIL 2 and the count that is left (R117). -/
def quiesceLimit : Prop := ∀ (s t : State), s.older ≠ 0 → t = s.finishIf (fun o => o.opcode == 0x0303 &&
    s.due .quiesce (s.reqKey o.req.src o.req.tag)) stBusy 2 (leBytes 4 s.older) →
  exec .quiesceLimit s =
    .next { t with timers := t.timers.filter (fun (x : Timer) => !(x.kind == TimerKind.quiesce && x.due ≤ s.now)) }

/-- Q_DESC_TAIL_WRITE moves the tail of a queue its function holds; an empty slot ignores it (R281, R284). -/
def qDescTailWrite : Prop := ∀ (s : State) (f : Fin 2048) (q : Fin 256) (v : BitVec 16),
  (s.hasQueue f q = true → exec (.qDescTailWrite f q v) s = .next (s.setFld F.Q_DESC_TAIL.TAIL (256 * f + q) v.toNat)) ∧
  (s.hasQueue f q = false → exec (.qDescTailWrite f q v) s = .next s)

/-- Q_CPL_HEAD_WRITE returns entries of the completion ring; an empty slot ignores it (R281, R284). -/
def qCplHeadWrite : Prop := ∀ (s : State) (f : Fin 2048) (q : Fin 256) (v : BitVec 16),
  (s.hasQueue f q = true → exec (.qCplHeadWrite f q v) s = .next (s.setFld F.Q_CPL_HEAD.HEAD (256 * f + q) v.toNat)) ∧
  (s.hasQueue f q = false → exec (.qCplHeadWrite f q v) s = .next s)

/-- Q_ENABLE of a queue with rings of allowed sizes, whose function runs, makes it ACTIVE (R281, Table 11.7). -/
def qEnable : Prop := ∀ (s : State) (f : Fin 2048) (q : Fin 256) (bi : Nat), s.hasQueue f q = true →
  6 ≤ s.fld F.Q_CFG.DESC_LOG2 (256 * f + q) → s.fld F.Q_CFG.DESC_LOG2 (256 * f + q) ≤ 16 → 6 ≤ s.fld F.Q_CFG.CPL_LOG2 (256 * f + q) →
  s.fld F.Q_CFG.CPL_LOG2 (256 * f + q) ≤ 16 → s.flag F.Q_CFG.INT_EN (256 * f + q) = false → s.fnRuns f = some bi →
  exec (.qEnable f q) s = .next (((s.setFld F.Q_CTRL.ENABLE (256 * f + q) 1).setFld F.Q_STATUS.STATE (256 * f + q) 1).showMover)

/-- Q_ENABLE of a queue with a ring of a size that is not allowed leaves it DISABLED with ERR_CODE 07H (R281). -/
def qEnableBad : Prop := ∀ (s : State) (f : Fin 2048) (q : Fin 256), s.hasQueue f q = true →
  s.fld F.Q_CFG.DESC_LOG2 (256 * f + q) < 6 → s.qState (256 * f + q) = 0 →
  exec (.qEnable f q) s = .next ((s.setFld F.Q_CTRL.ENABLE (256 * f + q) 1).setFld F.Q_STATUS.ERR_CODE (256 * f + q) 0x07)

/-- Q_DISABLE of an ACTIVE queue makes it STOPPING, and DISABLED once nothing of it is in flight (R292, Table 11.6). -/
def qDisable : Prop := ∀ (s t : State) (f : Fin 2048) (q : Fin 256), s.hasQueue f q = true →
  t = s.setFld F.Q_CTRL.ENABLE (256 * f + q) 0 → t.qState (256 * f + q) ≠ 0 →
  exec (.qDisable f q) s = .next (((t.setFld F.Q_STATUS.STATE (256 * f + q) 2).stopQueue (256 * f + q)).showQueue (256 * f + q))

/-- TS_ENABLE of a slot with a context that is OFF: TRACING, from ACTIVE_BUF 0 and EPOCH 0; a slot without one ignores it (R291, Table
11.7). -/
def tsEnable : Prop := ∀ (s : State) (f : Fin 2048) (k : Fin 8),
  (∀ c, s.ctxOf f k = some c → s.trcState c = 0 →
    exec (.tsEnable f k) s = .next ((s.setFld F.TS_CTRL.ENABLE (8 * f + k) 1).wr R.SVC_TRC_STATUS c 1)) ∧
  (s.ctxOf f k = none → exec (.tsEnable f k) s = .next s)

/-- TS_DISABLE of a context that traces stops it, and it is OFF once no line of it is cached; one in FAULT is OFF at once (R292). -/
def tsDisable : Prop := ∀ (s t : State) (f : Fin 2048) (k : Fin 8) (c : Nat), s.ctxOf f k = some c →
  t = s.setFld F.TS_CTRL.ENABLE (8 * f + k) 0 →
  (s.trcState c = 1 → exec (.tsDisable f k) s = .next ((t.onSvc (fun y => { y with
    stopping := if y.stopping.contains c then y.stopping else c :: y.stopping })).traceStop c)) ∧
  (s.trcState c = 3 → exec (.tsDisable f k) s = .next (t.setFld F.SVC_TRC_STATUS.STATE c 0))

/-- TS_SWAP of a context that traces starts its swap; one in a swap ignores it (R291, Table 11.4). -/
def tsSwap : Prop := ∀ (s : State) (f : Fin 2048) (k : Fin 8) (c : Nat), s.ctxOf f k = some c →
  (s.trcState c = 1 → exec (.tsSwap f k) s =
    .next ((s.onSvc (fun y => { y with swaps := put c s.churn.nextId y.swaps })).setFld F.SVC_TRC_STATUS.STATE c 2)) ∧
  (s.trcState c = 2 → exec (.tsSwap f k) s = .next s)

/-- DESC_FETCH of an ACTIVE queue reads a batch of descriptors, in ring order from the head on: as many as the ring holds, 16 at most, or the fewer the mover takes, for
which the completion ring and the device have room, in reads of at most MRRS that cross no 4 KiB boundary (R278, R281). -/
def descFetch : Prop := ∀ (s : State) (f : Fin 2048) (q : Fin 256) (most : Fin 16) (code : Fin 8) (bi i n h k base : Nat) (size : Nat → Nat),
  i = 256 * f + q → n = 2 ^ s.fld F.Q_CFG.DESC_LOG2 i → h = s.fld F.Q_DESC_HEAD.HEAD i % n → s.fnRuns f = some bi →
  s.carries = true → s.qState i = 1 → s.svc.own = [] →
  k = min (min (most.val + 1) ((s.fld F.Q_DESC_TAIL.TAIL i + n - h) % n)) (min (s.cplFree i - (s.descsOf i).length) (65536 - s.svc.descs.length)) →
  1 ≤ k → base = s.pair R.Q_DESC_BASE_LO R.Q_DESC_BASE_HI i / 64 * 64 →
  size = (fun a => min (s.dmSize bi (min code (s.fld F.SVC_CFG.MRRS)) a) (toBound a)) →
  exec (.descFetch f q most code) s = .next (s.ownRead bi (.fetch f q h k) base
    (cuts size (32 * min k (n - h)) (32 * h) (base + 32 * h) (32 * min k (n - h)) ++
      cuts size (32 * (k - min k (n - h))) 0 base (32 * (k - min k (n - h)))) 0xFF (s.qPasid i)).dmRun

/-- A descriptor whose read has brought it is in flight, one that no operation fits with STATUS 07H, and the head moves past it; one whose
read failed is FETCH_FAILED, counted, and its completion entry is written (R281, Table 11.1, Table 11.3). -/
def descFetched : Prop := ∀ (s t : State) (f q bi i n h : Nat) (c : DmChunk) (d : DmDesc), i = 256 * f + q →
  n = 2 ^ s.fld F.Q_CFG.DESC_LOG2 i → s.fnRuns f = some bi → s.qState i = 1 → h < n →
  (∀ b, c.bytesAt (32 * h) 32 = some b → d = { fn := f, q := q, slot := h, name := s.svc.nextName, words := BitVec.ofNat 256 (bodyNat b 0 32) } →
    s.fetched f q h 1 c = ((((s.onSvc (fun y => { y with
      descs := y.descs ++ [if d.bad then { d with status := some 0x07 } else d], nextName := y.nextName + 1 })).setFld
        F.Q_DESC_HEAD.HEAD i ((h + 1) % n)).stopQueue i).showQueue i)) ∧
  (c.bytesAt (32 * h) 32 = none → t = ((s.onSvc (fun y => { y with
      descs := y.descs ++ [{ fn := f, q := q, slot := h, name := s.svc.nextName, words := 0, status := some 0x0A, closed := true }]
      nextName := y.nextName + 1 })).setFld F.Q_DESC_HEAD.HEAD i h).bump R.SVC_FETCH_FAIL_CNT →
    s.fetched f q h 1 c = (((State.writeEntries (1 + s.svc.descs.length) t.queueErrors bi i).stopQueue i).showQueue i))

/-- DESC_FETCH on a queue that is not ACTIVE fetches nothing (R281). -/
def descFetchIdle : Prop := ∀ (s : State) (f : Fin 2048) (q : Fin 256) (most : Fin 16) (code : Fin 8), s.qState (256 * f + q) ≠ 1 →
  exec (.descFetch f q most code) s = .next s

/-- DESC_EXEC_DONE: the descriptor closes once its parts have ended and its writes left; completion entries are written in ring order
(R281, R282). -/
def descExecDone : Prop := ∀ (s t u : State) (f : Fin 2048) (q : Fin 256) (slot bi : Nat) (d e : DmDesc), t = s.dmRun →
  t.fnRuns f = some bi → (t.descsOf (256 * f + q)).find? (fun (d : DmDesc) => d.slot == slot) = some d → t.carries = true →
  (t.closeDesc bi d).svc.descs.find? (fun (x : DmDesc) => x.name == d.name) = some e → u = (t.closeDesc bi d).closeDesc bi e →
  exec (.descExecDone f q slot) s = .next ((((State.writeEntries (u.svc.descs.length) u.queueErrors bi (256 * f + q)).stopQueue
    (256 * f + q)).showQueue (256 * f + q)).dmRun)

/-- A descriptor whose parts have ended and whose writes have left closes; one with FLUSH reads its last destination first (R282). -/
def descCloses : Prop := ∀ (s : State) (bi : Nat) (d : DmDesc), d.closed = false → s.descEnded d = true → s.writesLeft d = true →
  d.flush = false → s.closeDesc bi d = s.onDesc d.name (fun d => { d with closed := true })

/-- MSIX_COALESCE_TIMEOUT: the vector of the queue is signalled for the entries that waited (R282). -/
def msixCoalesceTimeout : Prop := ∀ (s t : State) (f : Fin 2048) (q : Fin 256), s.due .coalesce (256 * f + q) = true →
  t = (s.onSvc (fun y => { y with unsignalled := drop (256 * f + q) y.unsignalled })).disarm .coalesce (256 * f + q) →
  t.flag F.Q_CFG.INT_EN (256 * f + q) = true → exec (.msixCoalesceTimeout f q) s =
    .next (t.signal ((256 * f + q) / 256) (t.fld F.Q_CFG.VECTOR (256 * f + q)))

/-- TRACE_LINE_WRITEBACK of a line that is due reads the line of 64 bytes through the function that owns its context; where that does not
run the context faults (R289, R290). -/
def traceLineWriteback : Prop := ∀ (s : State) (g : Fin 8) (j : Fin 64) (c : Nat) (b : Fin 2) (n : Nat) (l : TraceLine), c = 8 * j + g →
  s.dueLine c b n = some l →
  s.ownReading (· == .line c b n) = false →
  (∀ bi, s.fnRuns (s.fld F.SVC_TRC_CFG.OWNER c) = some bi → exec (.traceLineWriteback g j b n) s =
    .next (s.ownRead bi (.line c b n) (s.bufBase c b + 64 * n) [(0, 64)] 0xFF none).dmRun) ∧
  (s.fnRuns (s.fld F.SVC_TRC_CFG.OWNER c) = none → exec (.traceLineWriteback g j b n) s = .next (s.trcFault c).resumeWaits)

/-- A line whose read failed, no newer line of its kind being gathered, is gone and its context faults (R289, R290). -/
def traceLineFailed : Prop := ∀ (s : State) (c : Fin 512) (b : Fin 2) (n : Nat) (l : TraceLine), s.dueLine c b n = some l →
  (s.svc.lines.filter (fun (x : TraceLine) => x != l)).any (fun (x : TraceLine) => x.isFor c b n) = false →
  s.lineRead c b n none = (((((s.onSvc (fun y => { y with
    lines := y.lines.filter (fun (x : TraceLine) => x != l) })).disarm .traceAge (lineKey c b n)).trcFault c).traceStop c).resumeWaits)

/-- A line whose read has come, of a context whose function runs in a VH of this device: the bits gathered are ORed to what memory held, and
the line of 64 bytes is written back as a request of the function that is not traced itself (R287, R289). -/
def traceLineWritten : Prop := ∀ (s t u : State) (c : Fin 512) (b : Fin 2) (n bi : Nat) (old : BitVec 512) (l : TraceLine) (q : Tlp),
  s.dueLine c b n = some l →
  (s.svc.lines.filter (fun (x : TraceLine) => x != l)).any (fun (x : TraceLine) => x.isFor c b n) = false →
  t = (s.onSvc (fun y => { y with lines := y.lines.filter (fun (x : TraceLine) => x != l) })).disarm .traceAge (lineKey c b n) →
  s.fnRuns (s.fld F.SVC_TRC_CFG.OWNER c) = some bi → t.isDeviceEnd (t.bind bi) = false → t.masterOff bi = false →
  q = { kind := .mwr, addr := s.bufBase c b + 64 * n, len := 64, data := leBytes 64 (old ||| l.bits).toNat } →
  u = t.issue { t.upPlan bi 145 0 q true (t.upPolicer (t.bind bi)) t.ownFeid with bitmap := true } q q.addr (2 ^ 64) →
  64 ≤ wroteBytes t u →
  s.lineRead c b n (some old) = ((u.traceStop c).resumeWaits)

/-- TRACE_LINE_WRITEBACK of a line that is not due, or is being written back, changes nothing (R289). -/
def traceLineKept : Prop := ∀ (s : State) (g : Fin 8) (j : Fin 64) (c : Nat) (b : Fin 2) (n : Nat), c = 8 * j + g →
  (s.dueLine c b n = none ∨ s.ownReading (· == .line c b n) = true) →
  exec (.traceLineWriteback g j b n) s = .next s

/-- TRACE_SWAP_DONE whose flush read has ended: the other buffer is active, EPOCH counts, OUT_OF_RANGE moves to PREV_OOR, the context
traces on, and its function hears of it (R291, Table 11.4). -/
def traceSwapDone : Prop := ∀ (s t u : State) (g : Fin 8) (j : Fin 64) (c : Nat), c = 8 * j + g → look c s.svc.swapRead = some true →
  t = (s.onSvc (fun y => { y with swapRead := drop c y.swapRead, swaps := drop c y.swaps })).setFld
    F.SVC_TRC_STATUS.ACTIVE_BUF c (1 - s.fld F.SVC_TRC_STATUS.ACTIVE_BUF c) →
  u = ((((t.setFld F.SVC_TRC_STATUS.EPOCH c (t.fld F.SVC_TRC_STATUS.EPOCH c + 1)).setFld F.SVC_TRC_STATUS.PREV_OOR c
    (t.fld F.SVC_TRC_STATUS.OUT_OF_RANGE c)).setFld F.SVC_TRC_STATUS.OUT_OF_RANGE c 0).setFld F.SVC_TRC_STATUS.STATE c 1) →
  exec (.traceSwapDone g j) s = .next ((u.fnEvent (u.fld F.SVC_TRC_CFG.OWNER c) F.FN_EVT.TRC_SWAP_DONE).traceStop c)

/-- TRACE_SWAP_DONE whose flush read failed puts the context in FAULT; without a flush read that has ended it changes nothing (R290, R291).
-/
def traceSwapFailed : Prop := ∀ (s : State) (g : Fin 8) (j : Fin 64) (c : Nat), c = 8 * j + g →
  (look c s.svc.swapRead = some false → exec (.traceSwapDone g j) s = .next ((s.onSvc (fun y => { y with
    swapRead := drop c y.swapRead, swaps := drop c y.swaps })).trcFault c).resumeWaits) ∧
  (look c s.svc.swapRead = none → exec (.traceSwapDone g j) s = .next s)

/-! ## Resets, boot and self-test (chapters 12, 13 and 15) -/

/-- PERST_N_ASSERT is a cold reset of cause 1, and ends a thermal trip (R326, R327, R404). -/
def perstNAssert : Prop := ∀ (s : State), exec .perstNAssert s =
  .next ((s.deviceReset false 1).onPins (fun y => { y with perst := true, tripped := false }))

/-- A reset leaves Kalnum in RESET, with nothing pending lost: the flash, the clock of the model and the waiting commands stay (R326). -/
def resetLeaves : Prop := ∀ (s : State) (warm : Bool), (s.unitsAfter warm).mode = State.reset.mode ∧
  (s.unitsAfter warm).sec.flash = s.sec.flash ∧ (s.unitsAfter warm).pending = s.pending ∧ (s.unitsAfter warm).crb = {} ∧
  (s.unitsAfter warm).churn.pkts = [] ∧ (s.unitsAfter warm).bnd.trk = [] ∧ (s.unitsAfter warm).regs = s.regs.filter (fun e => keptReg warm e.1)

/-- PERST_N_RELEASE with every rail good begins BOOT (R327, R402). -/
def perstNRelease : Prop := ∀ (s t : State), t = s.onPins (fun y => { y with perst := false }) → s.mode = .reset →
  s.pins.tripped = false → s.pins.aux = true → s.pins.core = true → s.pins.sds = true → s.pins.sdsA = true → s.pins.io = true →
  exec .perstNRelease s = .next ((({ t with mode := .boot }.requestSds).showBoot).refSense)

/-- RAILS_GOOD with PERST_N released begins BOOT (R402). -/
def railsGood : Prop := ∀ (s t : State), t = s.onPins (fun y => { y with core := true, sds := true, sdsA := true, io := true }) →
  s.mode = .reset → s.pins.perst = false → s.pins.tripped = false → s.pins.aux = true →
  exec .railsGood s = .next ((({ t with mode := .boot }.requestSds).showBoot).refSense)

/-- VDD_AUX_APPLIED: the AUX domain is cleared too, then a cold reset of cause 0, and the rail's time begins (R326, R402). -/
def vddAuxApplied : Prop := ∀ (s : State), exec .vddAuxApplied s =
  .next (({ s with regs := [] }.deviceReset false 0).onPins (fun y => { y with aux := true, auxSince := s.now, tripped := false }))

/-- VDD_AUX_LOST: nothing runs until it returns (R413). -/
def vddAuxLost : Prop := ∀ (s : State), exec .vddAuxLost s =
  .next (({ s with regs := [] }.deviceReset false 0).onPins (fun y => { y with aux := false, tripped := false }))

/-- RAIL_DROP while powered and out of power-down is a cold reset of cause 5 (R326). -/
def railDrop : Prop := ∀ (s : State), s.pins.perst = false → s.pins.aux = true →
  exec (.railDrop true) s = .next ((s.deviceReset false 5).onPins (fun y => { y with io := false })) ∧
  exec (.railDrop false) s = .next ((s.deviceReset false 5).onPins (fun y => { y with core := false }))

/-- RAIL_LEAVES_GOOD out of BOOT and RESET only shows in the rail; without it BOOT cannot begin (R413). -/
def railLeavesGood : Prop := ∀ (s : State), s.mode ≠ .boot →
  exec (.railLeavesGood 1) s = .next (s.onPins (fun y => { y with sds := false }))

/-- THERMAL_TRIP is a cold reset of cause 4 that lasts until PERST_N is asserted or VDD_AUX is lost (R327). -/
def thermalTrip : Prop := ∀ (s : State), s.pins.aux = true → exec .thermalTrip s =
  .next (((s.deviceReset false 4).setFld F.PWR_AUX_STATUS.THERMTRIP_SEEN 0 1).onPins (fun y => { y with tripped := true }))

/-- BOOT_IMAGE_CHECK of the image that is next: its result stands; one that passes runs, and one that fails is counted and the boot ROM
holds where no image is left (R376, R220, Table 15.6). -/
def bootImageCheck : Prop := ∀ (s t u : State) (ok : Bool), s.mode = .boot → s.bootNext = some 0 → 1 < s.imageState 0 →
  t = s.setFld F.SEC_BOOT_STATUS.RESULT_A 0 (s.imageResult 0 ok) → u = t.bump R.SEC_IMAGE_FAIL_CNT →
  exec (.bootImageCheck 0 ok) s =
    .next (if s.imageResult 0 ok = 1 then t.bootRun 0 else if u.bootNext = none then u.romHold else u)

/-- BOOT_IMAGE_CHECK of the last image, which fails: counted, and with none left the boot ROM holds (R376, R220, Table 13.2). -/
def bootFails : Prop := ∀ (s t : State) (ok : Bool), s.mode = .boot → s.bootNext = some 1 → 1 < s.imageState 1 → s.imageResult 1 ok ≠ 1 →
  t = (s.setFld F.SEC_BOOT_STATUS.RESULT_B 0 (s.imageResult 1 ok)).bump R.SEC_IMAGE_FAIL_CNT → t.bootNext = none →
  exec (.bootImageCheck 1 ok) s = .next t.romHold

/-- BOOT_FIRMWARE_READY where a ninth bank has failed: the device is in SAFE_HOLD, and its firmware answers (R377, R89). -/
def bootFirmwareHold : Prop := ∀ (s : State) (bad : List (Fin 256)), s.mode = .boot → s.runningImage ≠ 3 →
  (s.banksTested (bad.map (·.val))).mode = .safeHold → exec (.bootFirmwareReady bad) s =
    .next ((s.banksTested (bad.map (·.val))).setFld F.MGT_CRB_STATUS.FW_READY 0 1).dmRun

/-- BOOT_FIRMWARE_READY ends BOOT: after a reset that is not warm the board record applies and RESUME_MODE is TRANSPARENT; the mode is
START_MODE, or RESUME_MODE after a warm reset; TRANSPARENT and MAINTENANCE take the fixed composition; the shadow equals the active bank,
the bindings go live, the mode is entered, the firmware answers, the rotation starts, and the seated slots and the enabled ports go on
(R377, R323, Table 15.6). -/
def bootFirmwareReady : Prop := ∀ (s t a b c d e f g h k : State) (bad : List (Fin 256)) (m : Mode), s.mode = .boot →
  s.runningImage ≠ 3 → t = s.banksTested (bad.map (·.val)) → t.mode ≠ .safeHold →
  a = (if t.fld F.PWR_AUX_STATUS.LAST_RESET = 3 then t else t.boardAtBoot.setFld F.PWR_MODE_CFG.RESUME_MODE 0 2) →
  m = Mode.ofCode (if a.fld F.PWR_AUX_STATUS.LAST_RESET = 3 then a.fld F.PWR_MODE_CFG.RESUME_MODE else a.fld F.PWR_MODE_CFG.START_MODE) →
  b = (if m = .transparent ∨ m = .maintenance then a.fixComposition else a) →
  c = (if m = .maintenance then b.setFld F.PWR_STATUS.ENTERED_FROM 0 2 else b) →
  d = (c.onBnd (fun y => { y with shadow := y.active, copying := false })).setFld F.BND_GEN_STATUS.SHADOW_READY 0 1 →
  e = (d.each (List.range 36) (fun s x => s.showLive x)).each d.bindings (fun s x => s.putIn x) →
  f = (if m = .fabric then (e.enterMode m).fabEnter else e.enterMode m) →
  g = (f.setFld F.MGT_CRB_STATUS.FW_READY 0 1).refSense →
  h = (if g.flag F.SEC_BOOT_STATUS.FALLBACK = true then
    (g.arm .rotation 0 (ms (g.fld F.CHN_ROT_CTRL.INTERVAL_MS))).raise F.SEC_EVT.FALLBACK
    else g.arm .rotation 0 (ms (g.fld F.CHN_ROT_CTRL.INTERVAL_MS))) →
  k = (if h.pins.sag = true then h.sagOn else h) →
  exec (.bootFirmwareReady bad) s = .next
    ((k.each ((List.range 24).filter (fun g => k.gState g == gReadyOff)) (fun s g => s.gReady g)).limitsAgain.enableAll).dmRun

/-- The banks tested at BOOT: with none failed bank 255 is the spare (R87, R89). -/
def bootBanks : Prop := ∀ (s : State), s.banksTested [] = (((s.setFld F.CHN_BANK_STATE.STATE 255 4).setFld F.CHN_ROT_STATUS.SPARE_BANK 0
  255).setFld F.CHN_ROT_STATUS.SPARE_VALID 0 1).setFld F.CHN_STATUS.INIT_DONE 0 1

/-- SELF_TEST_DONE with no failure ends the test: SELF_TEST answers with result 0, and the ports come back (R318, R319). -/
def selfTestDone : Prop := ∀ (s : State), s.pwr.testing = true → s.mode ≠ .safeHold →
  exec (.selfTestDone []) s = .next (s.testEnds 0 [])

/-! ## Watchdogs, power and time (chapters 07 and 13) -/

/-- WATCHDOG_FIRE of the lookup, arbiter, resequencing or scheduling unit is class 0x0603: outside SAFE_HOLD it is fatal (R219,
R220). -/
def watchdogFatal : Prop := ∀ (s t : State), s.mode ≠ .reset → t = s.fired .lookup → t.mode ≠ .safeHold →
  exec (.watchdogFire .lookup) s = .next (t.fatal 0x0603 3 0).dmRun

/-- WATCHDOG_FIRE of Malacel, not yet the third within 60.0 s, restarts it, journalled with class 0x0604 (R219, Table 12.8). -/
def watchdogMalacel : Prop := ∀ (s t : State), s.mode ≠ .reset → t = ((s.fired .malacel).spendInjection 0x0604 0).journal 0x0604 {} →
  t.firedIn 9 0 (ms 60000) < 3 → exec (.watchdogFire .malacel) s = .next t.malacelRestart.dmRun

/-- WATCHDOG_FIRE of an engine resets that engine (R219, R292). -/
def watchdogEngine : Prop := ∀ (s : State) (e : Fin 16), s.mode ≠ .reset →
  exec (.watchdogFire (.engine e)) s = .next ((s.fired (.engine e)).engineReset e).dmRun

/-- A firing is counted, and ERR_WDOG_STATUS names it (R219). -/
def watchdogCounted : Prop := ∀ (s t : State) (u : WatchUnit), t = s.onErr (fun y => { y with
    firings := ((watchCode u).1, (watchCode u).2, s.now) :: y.firings.filter (fun f => decide (s.now < f.2.2 + ms 60000)) }) →
  ∃ v : State, v = ((t.bump R.ERR_WDOG_CNT).setFld F.ERR_WDOG_STATUS.LAST_KIND 0 (watchCode u).1).setFld F.ERR_WDOG_STATUS.LAST_INDEX 0
    (watchCode u).2 ∧ s.fired u = (v.setFld F.ERR_WDOG_STATUS.MAL_RECENT 0 (min 3 (v.firedIn 9 0 (ms 60000)))).raise F.ERR_EVT.WDOG

/-- REGION_TEMP_SAMPLE of a region with no alarm, below both limits: the reading is shown (R337, R338). -/
def regionCool : Prop := ∀ (s t : State) (g : Fin 12) (v : BitVec 9), s.mode ≠ .reset → s.flag F.PWR_THERM_REG.WARN g = false →
  s.flag F.PWR_THERM_REG.THROTTLED g = false → v.toInt < s.fld F.PWR_THERM_CFG.WARN_C → v.toInt < s.fld F.PWR_THERM_CFG.THROTTLE_C →
  t = ((s.setFld F.PWR_THERM_REG.TEMP g v.toNat).setFld F.PWR_THERM_REG.WARN g 0).setFld F.PWR_THERM_REG.THROTTLED g 0 →
  (t.setFld F.PWR_STATUS.THROTTLING 0 (b2n ((List.range 12).any (fun r => t.flag F.PWR_THERM_REG.THROTTLED r)))).warm g = false →
  exec (.regionTempSample g v) s =
    .next (t.setFld F.PWR_STATUS.THROTTLING 0 (b2n ((List.range 12).any (fun r => t.flag F.PWR_THERM_REG.THROTTLED r))))

/-- REGION_TEMP_SAMPLE that reaches THROTTLE_C throttles, with both events, and is a wake source (R338, R331). -/
def regionHot : Prop := ∀ (s t u : State) (g : Fin 12) (v : BitVec 9), s.mode ≠ .reset → s.flag F.PWR_THERM_REG.WARN g = false →
  s.flag F.PWR_THERM_REG.THROTTLED g = false → (s.fld F.PWR_THERM_CFG.WARN_C : Int) ≤ v.toInt →
  (s.fld F.PWR_THERM_CFG.THROTTLE_C : Int) ≤ v.toInt →
  t = ((s.setFld F.PWR_THERM_REG.TEMP g v.toNat).setFld F.PWR_THERM_REG.WARN g 1).setFld F.PWR_THERM_REG.THROTTLED g 1 →
  u = ((t.setFld F.PWR_STATUS.THROTTLING 0 (b2n ((List.range 12).any (fun r => t.flag F.PWR_THERM_REG.THROTTLED r)))).raise
    F.PWR_EVT.THERM_WARN).raise F.PWR_EVT.THERM_THROTTLE →
  u.warm g = true → exec (.regionTempSample g v) s = .next (u.wakeBy 8 g)

/-- DROWSE_AUTO_IDLE: entry to DROWSE is asked for when nothing has kept Kalnum busy for AUTO_IDLE_MS (R328). -/
def drowseAutoIdle : Prop := ∀ (s : State), s.transition = false →
  (s.due .autoIdle 0 = true → s.idleCheck.running .autoIdle 0 = true → exec .drowseAutoIdle s = .next (s.disarm .autoIdle 0).drowseAsk) ∧
  (s.due .autoIdle 0 = false → exec .drowseAutoIdle s = .next s)

/-- DROWSE_ENTRY_WAIT_END while a refuser class holds: BUSY once the wait is over, and the class is recorded (R328, R329). -/
def drowseWaitRefused : Prop := ∀ (s : State) (c i : Nat), s.pwr.drowse = .waiting → s.firstRefuser = some (c, i) →
  (s.due .drowseWait 0 = true → exec .drowseEntryWaitEnd s = .next (s.drowseRefuse c i)) ∧
  (s.due .drowseWait 0 = false → exec .drowseEntryWaitEnd s = .next s)

/-- DROWSE_ENTRY_WAIT_END with no refuser class: entry is accepted, and the cached trace lines are written back (R330). -/
def drowseAccepted : Prop := ∀ (s : State), s.pwr.drowse = .waiting → s.firstRefuser = none → exec .drowseEntryWaitEnd s =
  .next (((s.disarm .drowseWait 0).onPwr (fun y => { y with drowse := .lowering })).onSvc (fun y => { y with
    lines := y.lines.map (fun (l : TraceLine) => { l with evicted := true }) })).drowseLower

/-- A refusal counts its class, records it with its ID, and answers BUSY with both (R329). -/
def drowseRefusal : Prop := ∀ (s t : State) (k id : Nat),
  (t = s.bump16 F.PWR_DROWSE_REFUSE_CNT.ODD ((2 * k + 1 - 1) / 2) 1 → s.drowseRefuse (2 * k + 1) id =
    ((((t.setFld F.PWR_DROWSE_LAST_REFUSER.CLASS 0 (2 * k + 1)).setFld F.PWR_DROWSE_LAST_REFUSER.ID 0 id).setFld
      F.PWR_DROWSE_LAST_REFUSER.VALID 0 1).raise F.PWR_EVT.DROWSE_REFUSED).drowseOff ((2 * k + 1) * 4096 + id)) ∧
  (t = s.bump16 F.PWR_DROWSE_REFUSE_CNT.EVEN ((2 * k + 2 - 1) / 2) 1 → s.drowseRefuse (2 * k + 2) id =
    ((((t.setFld F.PWR_DROWSE_LAST_REFUSER.CLASS 0 (2 * k + 2)).setFld F.PWR_DROWSE_LAST_REFUSER.ID 0 id).setFld
      F.PWR_DROWSE_LAST_REFUSER.VALID 0 1).raise F.PWR_EVT.DROWSE_REFUSED).drowseOff ((2 * k + 2) * 4096 + id))

/-- DROWSE_WAKE_SOURCE of one enabled source wakes an asleep Kalnum: the source is recorded, and the voltage before DROWSE asked for
(R331, R332). -/
def drowseWakeSource : Prop := ∀ (s t : State) (id : BitVec 12), s.pwr.drowse = .asleep → bits (s.rd R.PWR_WAKE_EN).toNat 1 1 = 1 →
  t = (s.wakeRecord 1 id.toNat).disarm .wake 0 → exec (.drowseWakeSource [(1, id)]) s =
    .next ((State.onPwr { t with transition := true } (fun y => { y with drowse := .waking, wake := some (1, id.toNat, s.now) })).requestVoltage t.pwr.drowseMv .wake true)

/-- DROWSE_WAKE_SOURCE of a source whose enable is clear does nothing (R331). -/
def drowseWakeMasked : Prop := ∀ (s : State) (id : BitVec 12), bits (s.rd R.PWR_WAKE_EN).toNat 1 1 = 0 →
  exec (.drowseWakeSource [(1, id)]) s = .next s

/-- DROWSE_WAKE_TIMER is wake source 6 when it has run out (R331). -/
def drowseWakeTimer : Prop := ∀ (s : State),
  (s.due .wake 0 = true → exec .drowseWakeTimer s = .next ((s.disarm .wake 0).wakeBy 6 0)) ∧
  (s.due .wake 0 = false → exec .drowseWakeTimer s = .next s)

/-- AVS_ACK of the request for 0.55 V: DROWSE stands (R330, R333). -/
def avsAckDrowse : Prop := ∀ (s : State) (up : Bool) (n : Nat), s.pwr.avs = some (.drowse, up, n) → exec (.avsAck 0) s =
  .next (((s.avsOver.setFld F.PWR_VCORE.ACK_MV 0 (s.fld F.PWR_VCORE.REQ_MV)).setFld F.PWR_STATUS.AVS_FAULT 0 0).raise
    F.PWR_EVT.VOLT_CHANGE).drowseIn

/-- AVS_ACK of the request of a wake: the wake completes (R331). -/
def avsAckWake : Prop := ∀ (s : State) (up : Bool) (n : Nat), s.pwr.avs = some (.wake, up, n) → exec (.avsAck 0) s =
  .next ((((s.avsOver.setFld F.PWR_VCORE.ACK_MV 0 (s.fld F.PWR_VCORE.REQ_MV)).setFld F.PWR_STATUS.AVS_FAULT 0 0).raise
    F.PWR_EVT.VOLT_CHANGE).wakeDone (s.flag F.PWR_STATUS.AVS_FAULT))

/-- AVS_ACK on AVS1: VDD_SDS is acknowledged (R333). -/
def avsAckSds : Prop := ∀ (s t : State) (n : Nat), s.pwr.sds = some n → t = (s.onPwr (fun y => { y with sds := none })).disarm .avs 1 →
  exec (.avsAck 1) s = .next ((t.setFld F.PWR_VSDS.ACK_MV 0 (t.fld F.PWR_VSDS.REQ_MV)).setFld F.PWR_VSDS.PENDING 0 0)

/-- AVS_ACK_TIMEOUT of a policy request: up to three more requests, then AVS_FAULT (R333). -/
def avsTimeoutPolicy : Prop := ∀ (s : State) (up : Bool) (n : Nat), s.due .avs 0 = true → s.pwr.avs = some (.policy, up, n) →
  (n < 3 → exec (.avsAckTimeout 0) s = .next (s.avsAgain (n + 1) (us (s.fld F.PWR_VPOL_TIME.AVS_ACK_US)))) ∧
  (3 ≤ n → exec (.avsAckTimeout 0) s =
    .next ((s.avsOver.setFld F.PWR_STATUS.AVS_FAULT 0 1).raise F.PWR_EVT.AVS_FAULT).drowseLower)

/-- AVS_ACK_TIMEOUT in the entry to DROWSE refuses it with class 11; one that is not due does nothing (R329, R330, R333). -/
def avsTimeoutDrowse : Prop := ∀ (s : State) (up : Bool) (n : Nat), s.pwr.avs = some (.drowse, up, n) →
  (s.due .avs 0 = true → exec (.avsAckTimeout 0) s = .next (s.avsOver.drowseRefuse 11 0)) ∧
  (s.due .avs 0 = false → exec (.avsAckTimeout 0) s = .next s)

/-- VPOL_INTERVAL runs the voltage policy, and pacing follows (R335, R336). -/
def vpolInterval : Prop := ∀ (s : State), exec .vpolInterval s = .next (s.vpol true).pace

/-- PMBUS_POLL reads the three telemetry commands of each regulator of the board record, and keeps what they answered (R337). -/
def pmbusPoll : Prop := ∀ (s : State) (r : Regulator) (v i t : Nat), s.mode ≠ .reset → s.mode ≠ .boot → s.pwr.regulators = [r] →
  exec (.pmbusPoll [(r.rail, v, i, t)]) s = .next ((((s.emit (.pmbus r.addr 0x8B)).emit (.pmbus r.addr 0x8C)).emit
    (.pmbus r.addr 0x8D)).onPwr (fun y => { y with regulators := [{ r with vout := v % 65536, iout := i % 65536, temp := t % 65536 }] }))

/-- SAG_START sets the fence and the status, counts the sag, and stops an open image's write (R339). -/
def sagStart : Prop := ∀ (s t : State), s.mode ≠ .reset → s.mode ≠ .boot → t = s.onPins (fun y => { y with sag := true }) →
  t.flag F.PWR_STATUS.SAG = false → exec .sagStart s = .next ((((t.setFld F.PWR_STATUS.SAG 0 1).setFld F.PWR_STATUS.NV_FENCED 0 1).bump
    R.PWR_SAG_CNT).raise F.PWR_EVT.SAG_START).fenceImage

/-- SAG_CLEAR_EXPIRY opens the fence, and the fatal records held for the flash are written (R340, R216). -/
def sagClear : Prop := ∀ (s t : State), t = s.onPins (fun y => { y with sag := false }) → t.flag F.PWR_STATUS.SAG = true →
  exec .sagClearExpiry s = .next (State.each ((((((t.setFld F.PWR_STATUS.SAG 0 0).setFld F.PWR_STATUS.NV_FENCED 0 0).raise
    F.PWR_EVT.SAG_END).onErr (fun y => { y with flashHeld := [] })).setFld F.ERR_STATUS.FLASH_PENDING 0 0)) t.err.flashHeld
    (fun s e => s.flashFatal e))

/-- PPS_EDGE under SRC 0 shows its offset from the nearest second and moves no clock (R348). -/
def ppsEdgeFree : Prop := ∀ (s t : State), s.mode ≠ .reset → s.pwr.ppsOffsets = [] →
  t = (((s.onPwr (fun y => { y with ppsOffsets := [ppsOffset s.tb.toNat] })).arm .pps 0 (ms 2000)).wr R.PWR_TB_OFFSET 0
    (BitVec.ofInt 32 (ppsOffset s.tb.toNat))) → t.fld F.PWR_TB_CFG.SRC = 0 → exec .ppsEdge s = .next t

/-- PPS_EDGE under SRC 1 corrects the timebase by the offset (R348). -/
def ppsEdgeCorrects : Prop := ∀ (s t : State), s.mode ≠ .reset → s.pwr.ppsOffsets = [] →
  t = (((s.onPwr (fun y => { y with ppsOffsets := [ppsOffset s.tb.toNat] })).arm .pps 0 (ms 2000)).wr R.PWR_TB_OFFSET 0
    (BitVec.ofInt 32 (ppsOffset s.tb.toNat))) → t.fld F.PWR_TB_CFG.SRC = 1 →
  exec .ppsEdge s = .next ((t.tbCorrect (-(ppsOffset s.tb.toNat))).wr R.PWR_TB_OFFSET 0 (BitVec.ofInt 32 (ppsOffset s.tb.toNat)))

/-- A correction of less than 1.00 µs slews the timebase, and one from there on steps it (R347). -/
def tbCorrection : Prop := ∀ (s t : State) (d : Int), t = s.wr R.PWR_TB_OFFSET 0 (BitVec.ofInt 32 d) →
  (d.natAbs < 1000 → s.tbCorrect d = { t with pwr := { t.pwr with slew := d, slewAcc := 0 } }) ∧
  (1000 ≤ d.natAbs → s.tbCorrect d = t.tbStep (t.tb + BitVec.ofInt 64 d))

/-- PPS_LOST: 2.00 s without an edge clear the lock, with its event (R348). -/
def ppsLost : Prop := ∀ (s t : State), s.due .pps 0 = true → t = (s.disarm .pps 0).onPwr (fun y => { y with ppsOffsets := [] }) →
  t.flag F.PWR_TB_STATUS.PPS_LOCK = true →
  exec .ppsLost s = .next ((t.setFld F.PWR_TB_STATUS.PPS_LOCK 0 0).raise F.PWR_EVT.PPS_LOST).timeUpdate

/-- CORE_DELAY_UPDATE: CORE_DELAY_FACTOR is the largest replica, its source shown, and the voltage demand follows (R31, R335). -/
def coreDelay : Prop := ∀ (s t : State) (q0 q1 q2 q3 n e u w : BitVec 16) (l : List Nat), s.mode ≠ .reset → s.mode ≠ .drowse →
  l = [q0.toNat, q1.toNat, q2.toNat, q3.toNat, n.toNat, e.toNat, u.toNat, w.toNat] →
  t = (s.onPwr (fun y => { y with replicas := l })).setFld F.PWR_CORE_DELAY.CORE_DELAY_FACTOR 0 (largest l).1 →
  exec (.coreDelayUpdate q0 q1 q2 q3 n e u w) s =
    .next ((t.setFld F.PWR_CORE_DELAY.SOURCE 0 (largest l).2).setFld F.PWR_CORE_DELAY.VALID 0 1).demandStep

/-- The largest of a list bounds every value of it (R31). -/
def largestBounds : Prop := ∀ (l : List Nat) (x : Nat), x ∈ l → x ≤ (largest l).1

/-- VALUE_TRANSFER: HOLD reaches the destination, and NEXT moves to HOLD (R343). -/
def valueTransfer : Prop := ∀ (s : State) (d : Fin 40) (c : Fin 64), c.val ≠ 0 →
  exec (.valueTransfer d c []) s = .next (s.onPwr (fun y => { y with
    values := alter (64 * d + c) (fun (v : ValueChan) => { hold := v.next, next := none, dest := v.hold <|> v.dest }) y.values }))

/-- VALUE_TRANSFER on channel 0, the model's choice for the timebase (notes/assumptions/66), makes the copy of a domain that is out of reset
valid (R40). -/
def timebaseTransfer : Prop := ∀ (s : State) (d : Fin 40), d.val ≠ 37 → s.flag F.PWR_XD_STATUS.IN_RESET d = false →
  exec (.valueTransfer d 0 []) s = .next ((s.setFld F.PWR_XD_STATUS.TB_VALID d 1).onPwr (fun y => { y with
    values := alter (64 * d.val + 0) (fun (v : ValueChan) => { hold := v.next, next := none, dest := v.hold <|> v.dest }) y.values }))

/-- A value written while both HOLD and NEXT hold one replaces NEXT, and is counted (R343). -/
def valueSuperseded : Prop := ∀ (s : State) (d k : Nat) (v : ValueChan) (w h n : Word), look k s.pwr.values = some v →
  v.hold = some h → v.next = some n →
  s.valueWrite d k w = (s.bump16 F.PWR_XD_SUPERSEDED.COUNT d 1).onPwr (fun y => { y with values := put k { v with next := some w } y.values })

/-- EVENT_TRANSFER: the pending count crosses whole, and pulses from then on wait for the next (R344). -/
def eventTransfer : Prop := ∀ (s : State) (d : Fin 40) (c : Fin 64) (e : EventChan) (n : Nat), look (64 * d + c) s.pwr.events = some e →
  e.pend < 65535 → e.ovf = false → exec (.eventTransfer d c 0 n) s = .next (State.showPend (s.onPwr (fun y => { y with
    events := put (64 * d + c) (({ pend := 0, ovf := false, counted := e.counted + e.pend } : EventChan).add n) y.events })) d)

/-- Pulses past 65,535 stop the count there and set OVF (R344). -/
def eventOverflow : Prop := ∀ (e : EventChan) (n : Nat), 65535 ≤ e.pend + n → (e.add n).pend = 65535 ∧ (e.add n).ovf = true

/-- QUEUE_TRANSFER: the entry at the head crosses, in the order of arrival (R342). -/
def queueTransfer : Prop := ∀ (s : State) (d : Fin 40) (c : Fin 64) (q : QueueChan) (w : Word) (l a : List Word),
  look (64 * d + c) s.pwr.queues = some q → q.entries = w :: l → exec (.queueTransfer d c a) s =
    .next (s.onPwr (fun y => { y with queues := put (64 * d + c) { entries := l ++ a, crossed := some w } y.queues }))

/-- XD_RESYNC where the destination leaves reset: entries that had not crossed are dropped and every value is sent again; the
domain's copy of the timebase stays invalid until its next transfer; counted (R40, R345). -/
def xdResyncDest : Prop := ∀ (s t : State) (d : Fin 40), t = s.onPwr (fun y => { y with
    queues := y.queues.map (fun e => if e.1 / 64 == d.val then (e.1, { e.2 with entries := [] }) else e)
    values := y.values.map (fun e => if e.1 / 64 == d.val then (e.1, { hold := none, next := none, dest := e.2.next <|> e.2.hold <|> e.2.dest }) else e) }) →
  exec (.xdResync d false) s = .next ((((t.showPend d).bump R.PWR_XD_RESYNC_CNT d).setFld F.PWR_XD_STATUS.IN_RESET d 0).setFld
    F.PWR_XD_STATUS.TB_VALID d 0)

/-- XD_RESYNC where the source was reset: its values and its pending counts are lost, and OVF says so (R345). -/
def xdResyncSource : Prop := ∀ (s t : State) (d : Fin 40), t = s.onPwr (fun y => { y with
    queues := y.queues.map (fun e => if e.1 / 64 == d.val then (e.1, { e.2 with entries := [] }) else e)
    values := y.values.map (fun e => if e.1 / 64 == d.val then (e.1, { e.2 with hold := none, next := none }) else e)
    events := y.events.map (fun e => if e.1 / 64 == d.val then (e.1, { e.2 with pend := 0, ovf := false }) else e) }) →
  exec (.xdResync d true) s = .next (((((t.xdOvf d).showPend d).bump R.PWR_XD_RESYNC_CNT d).setFld F.PWR_XD_STATUS.IN_RESET d 0).setFld
    F.PWR_XD_STATUS.TB_VALID d 0)

/-! ## Slot power guards (chapter 14) -/

/-- PRESENCE_CHANGE that seats an EMPTY slot starts its debounce (R353, Table 14.1). -/
def presenceSeats : Prop := ∀ (s t u : State) (g : Fin 24), s.seated g = false →
  t = (s.setFld F.SPG_SLOT_STATE.PRSNT_L g 1).setFld F.SPG_SLOT_STATE.PRSNT_S g 1 → t.gState g = gEmpty →
  u = (t.onGuard g (fun y => { y with seatedAt := some t.now })).arm .debounce g (ms (t.fld F.SPG_SLOT_TIME.DEBOUNCE_MS g)) →
  exec (.presenceChange g true true) s = .next ((u.gByPresence g).wakeBy 3 g).dmRun

/-- PRESENCE_CHANGE that unseats a powered slot is a removal: counted, fault 0x0709, and the host hears of it (R353, R362). -/
def presenceRemoves : Prop := ∀ (s t u : State) (g : Fin 24) (l : Bool), s.seated g = true →
  t = (s.setFld F.SPG_SLOT_STATE.PRSNT_L g (b2n l)).setFld F.SPG_SLOT_STATE.PRSNT_S g 0 →
  u = ((t.onGuard g (fun y => { y with seatedAt := none })).setFld F.SPG_SLOT_STATE.CONFIRMED g 0).disarm .debounce g →
  u.powered g = true → exec (.presenceChange g l false) s =
    .next ((((((u.bump R.SPG_SLOT_REMOVE_CNT g).raise F.SPG_SLOT_EVT.REMOVED g).gFault g 0x0709).gPresence g false).wakeBy 3 g)).dmRun

/-- DEBOUNCE_EXPIRY of a slot that stayed seated confirms it, and a guard in DEBOUNCE becomes READY_OFF (R353). -/
def debounceExpiry : Prop := ∀ (s t : State) (g : Fin 24), s.due .debounce g = true → s.seated g = true →
  t = ((s.disarm .debounce g).setFld F.SPG_SLOT_STATE.CONFIRMED g 1).raise F.SPG_SLOT_EVT.CONFIRMED g → t.gState g = gDebounce →
  exec (.debounceExpiry g) s = .next (t.gReady g)

/-- DEBOUNCE_EXPIRY that is not due does nothing (R353). -/
def debounceEarly : Prop := ∀ (s : State) (g : Fin 24), s.due .debounce g = false → exec (.debounceExpiry g) s = .next s

/-- FAULT_IN_ASSERT of a powered slot is fault 0x0701; of one without power it is only recorded, unless its card
was removed in that same instant (R359, R360, Table 14.7). -/
def faultInAssert : Prop := ∀ (s t : State) (g : Fin 24), t = s.onGuard g (fun y => { y with faultIn := true }) → t.mode ≠ .reset →
  (t.powered g = true → exec (.faultInAssert g) s = .next ((t.gFault g 0x0701).wakeBy 4 g).dmRun) ∧
  (t.powered g = false → t.gJustRemoved g = false → exec (.faultInAssert g) s = .next ((t.gRecord g 0x070D).wakeBy 4 g).dmRun) ∧
  (t.powered g = false → t.gJustRemoved g = true → exec (.faultInAssert g) s = .next ((t.gFault g 0x0701).wakeBy 4 g).dmRun)

/-- FAULT_IN_DEASSERT: the slot may leave RETRY now (R361). -/
def faultInDeassert : Prop := ∀ (s : State) (g : Fin 24),
  exec (.faultInDeassert g) s = .next ((s.onGuard g (fun y => { y with faultIn := false })).gLeaveRetry g)

/-- SENSE_FRAME_RX of a bad frame counts it; a disabled guard ignores frames (R366). -/
def senseFrameBad : Prop := ∀ (s : State) (g : Fin 24) (f : BitVec 64), s.mode ≠ .reset →
  (s.gState g ≠ gDisabled → s.goodFrame g f = false → exec (.senseFrameRx g f) s = .next (s.badFrame g).dmRun) ∧
  (s.gState g = gDisabled → exec (.senseFrameRx g f) s = .next s.dmRun)

/-- The fourth bad frame in a row loses the sense, and in a powered state is fault 0x0708 (R366, Table 14.2). -/
def senseLost : Prop := ∀ (s t : State) (g : Nat), t = (((s.bump R.SPG_SLOT_SSB_ERR_CNT g).onGuard g (fun y => { y with
    bad := y.bad + 1, good := 0 })).setFld F.SPG_SLOT_STATE.SENSE_OK g 0).raise F.SPG_SLOT_EVT.SENSE_LOST g → t.gState g = gOn →
  ((((s.bump R.SPG_SLOT_SSB_ERR_CNT g).onGuard g (fun y => { y with bad := y.bad + 1, good := 0 })).setFld F.SPG_SLOT_STATE.SENSE_OK g
    0).guard g).bad = 4 → s.badFrame g = t.gFault g 0x0708

/-- SENSE_FRAME_RX of a good frame is a sample: its readings are shown, and the limits judged on them (R366, R360). -/
def senseFrameGood : Prop := ∀ (s : State) (g : Fin 24) (f : BitVec 64), s.mode ≠ .reset → s.gState g ≠ gDisabled →
  s.goodFrame g f = true → s.injected 0x0701 g = false → s.injected 0x0702 g = false →
  exec (.senseFrameRx g f) s = .next (s.goodSample g f).dmRun

/-- PROOFING_TIMEOUT ends the attempt with fault 0x0704 (R356). -/
def proofingTimeout : Prop := ∀ (s : State) (g : Fin 24),
  (s.due .proofing g = true → s.gState g = gProofing → exec (.proofingTimeout g) s = .next (s.gFault g 0x0704)) ∧
  (s.due .proofing g = false → exec (.proofingTimeout g) s = .next s)

/-- RAMP_END below 95 percent of VIN is fault 0x0705 (R357). -/
def rampLow : Prop := ∀ (s : State) (g : Fin 24), s.due .ramp g = true → s.gState g = gRamp →
  100 * s.fld F.SPG_SLOT_TELEM0.VOUT g < 95 * s.fld F.SPG_SLOT_ELEC.VIN_MV g →
  exec (.rampEnd g) s = .next ((s.disarm .ramp g).gFault g 0x0705)

/-- RAMP_END at 95 percent of VIN or above turns the slot ON, answers its power requests OK and starts PERST_MS (R355, R357, R358). -/
def rampOn : Prop := ∀ (s t : State) (g : Fin 24), s.due .ramp g = true → s.gState g = gRamp →
  95 * s.fld F.SPG_SLOT_ELEC.VIN_MV g ≤ 100 * s.fld F.SPG_SLOT_TELEM0.VOUT g →
  t = ((s.disarm .ramp g).gSet g gOn).onGuard g (fun y => { y with wanted := false }) → exec (.rampEnd g) s =
    .next (((((t.raise F.SPG_SLOT_EVT.POWER_ON g).arm .perst g (ms (t.fld F.SPG_SLOT_RETRY.PERST_MS g))).arm .slotReport g
      (ms 10)).disarm .slotRequest g).finish opSlotPower g stOk)

/-- PERST_MS_EXPIRY of a slot that is ON lets its port train, once the port is enabled and its PERST_OUT_N may rise (R358). -/
def perstMsExpiry : Prop := ∀ (s t : State) (g : Fin 24), s.due .perst g = true → s.gState g = gOn →
  t = (s.disarm .perst g).setFld F.SPG_SLOT_STATE.PERST_REL g 1 →
  t.mayReleasePerst (s.gPort g) = true → exec (.perstMsExpiry g) s = .next (t.releasePerst (s.gPort g))

/-- RETRY_TIMER_EXPIRY of an empty slot is EMPTY; a seated one goes on once every condition holds (R361). -/
def retryTimerExpiry : Prop := ∀ (s : State) (g : Fin 24), s.due .retry g = true → s.gState g = gRetry →
  (s.seated g = false → exec (.retryTimerExpiry g) s = .next ((s.disarm .retry g).gSet g gEmpty)) ∧
  (s.seated g = true → exec (.retryTimerExpiry g) s = .next (s.gLeaveRetry g))

/-- POWEROFF_GATE_DELAY switches the outputs of a slot whose orderly power-off runs, and waits 1.00 s for its voltage (R355). -/
def poweroffGateDelay : Prop := ∀ (s : State) (g : Fin 24), s.due .powerGate g = true → (s.guard g).offing = true →
  exec (.poweroffGateDelay g) s = .next (((s.disarm .powerGate g).gSet g gReadyOff).arm .powerOff g (ms 1000))

/-- POWEROFF_TIMEOUT ends an orderly power-off (R355). -/
def poweroffTimeout : Prop := ∀ (s : State) (g : Fin 24),
  (s.due .powerOff g = true → (s.guard g).offing = true → exec (.poweroffTimeout g) s = .next (s.gOffDone g)) ∧
  (s.due .powerOff g = false → exec (.poweroffTimeout g) s = .next s)

/-- SLOT_REQUEST_LAPSE of the one ON request that waits in EMPTY or DEBOUNCE ends it BUSY; a host's request that lapses with
another waiting behind it leaves that one its own 10.0 s (R355). -/
def slotRequestLapse : Prop := ∀ (s : State) (g : Fin 24), s.due .slotRequest g = true → s.gState g = gEmpty →
  (∀ (e : Nat × Bool), (s.guard g).asks = [e] → exec (.slotRequestLapse g) s =
    .next (((s.onGuard g (fun y => { y with wanted := false, asks := [] })).disarm .slotRequest g).finishIf (powerAsked g 1)
      stBusy 7 [])) ∧
  (∀ (t v : Nat) (c : Bool) (l : List (Nat × Bool)), (s.guard g).asks = (t, false) :: (v, c) :: l →
    exec (.slotRequestLapse g) s =
    .next ((s.onGuard g (fun y => { y with asks := (v, c) :: l })).arm .slotRequest g (v + ms 10000 - s.now)))

/-- SLOT_POWER_REPORT_TIMER: the device end of a remote binding tells the slot's power; a slot that is not ON reports none (R368). -/
def slotPowerReport : Prop := ∀ (s t : State) (g : Fin 24),
  (∀ (bi : Nat) (b : Bind), s.gState g = gOn → s.due .slotReport g = true → t = s.arm .slotReport g (ms 10) →
    t.gBinding g = some (bi, b) → t.isDeviceEnd b = true →
    exec (.slotPowerReportTimer g) s = .next (t.sideband bi 0x10 false (t.guard g).meanP)) ∧
  (s.gState g ≠ gOn → exec (.slotPowerReportTimer g) s = .next s)

/-- A fault of a slot, the third counted in 60.0 s, locks it out; else it goes to RETRY (R360, R363). -/
def faultLocks : Prop := ∀ (s t u : State) (g : Nat),
  t = (((s.gRecord g 0x0701).raise F.SPG_SLOT_EVT.FAULT g).bump R.SPG_SLOT_FAULT_CNT g).gPowerFault g →
  u = t.onGuard g (fun y => { y with faults := t.now :: t.gRecent g, wanted := false, asks := [], offing := false }) →
  3 ≤ (u.gRecent g).length → ∃ v : State, s.gFault g 0x0701 =
    ((((v.gRecord g 0x070B).raise F.SPG_SLOT_EVT.LOCKOUT g).gSet g gLockout).finish 0x0702 g stBusy 0x0701).gDropLink g false ∧
  v = (((((u.setFld F.SPG_SLOT_STATE.FAULTS_60S g (min 3 (u.gRecent g).length)).disarm .proofing g).disarm .ramp g).disarm .perst
    g).disarm .powerGate g).disarm .powerOff g

/-- The outputs of each guard state are those of Table 14.1: PRE_EN in PROOFING and RAMP, GATE_EN in RAMP and ON (R354). -/
def guardOutputs : Prop := ∀ (s t : State) (g : Nat), t = ((s.setFld F.SPG_SLOT_STATE.STATE g gOn).setFld F.SPG_SLOT_STATE.PRE_EN g
    0).setFld F.SPG_SLOT_STATE.GATE_EN g 1 →
  s.gSet g gOn = (t.setFld F.SPG_STATUS.ON 0 (setBits (t.fld F.SPG_STATUS.ON) g 1 1)).setFld F.SPG_SLOT_STATE.RESEAT_IN_RETRY g 0

/-! ## Trust (chapter 15) and the test access port (chapter 17) -/

/-- FLASH_PROGRAM_DONE of the oldest queued range of the open image programs its bytes, and shows the fill (R380). -/
def flashProgramDone : Prop := ∀ (s t : State) (o : Nat) (b : List Byte) (l : List (Nat × List Byte)), s.openImage ≠ 3 →
  s.sec.queue = (o, b) :: l → t = (s.eraseFor s.openImage o b.length).flashProgram (slotBase s.openImage + o) b →
  exec .flashProgramDone s = .next (t.onSec (fun y => { y with queue := l, programmed := y.programmed + b.length })).showFill

/-- FLASH_PROGRAM_DONE with nothing queued does nothing (R380). -/
def flashIdle : Prop := ∀ (s : State), s.sec.queue = [] → exec .flashProgramDone s = .next s

/-- FW_FINISH_DONE of an image whose sectors past its size are blank: the verification result decides the slot's state, the open
write ends, and FW_FINISH answers with the result (R380, R381). -/
def fwFinishDone : Prop := ∀ (s t : State) (i r : Nat) (ok : Bool), s.sec.finishing = some i → s.sec.queue = [] →
  (List.range 128).filter (fun k => s.sec.size ≤ sector * k && s.holdsData i k) = [] → r = s.imageResult i ok →
  t = (if r = 1 then s else s.bump R.SEC_IMAGE_FAIL_CNT).setImage i (if r = 1 then 3 else 2) → exec (.fwFinishDone ok) s =
    .next ((((t.onSec (fun y => { y with finishing := none, ranges := [], erased := [] })).setFld F.SEC_IMAGE_STATE.OPEN 0 3).raise
      F.SEC_EVT.FW_FINISHED).finishAny 0x0807 stOk 0 (leBytes 1 r))

/-- FW_FINISH_DONE with no verification under way does nothing (R380). -/
def fwFinishIdle : Prop := ∀ (s : State) (ok : Bool), s.sec.finishing = none → exec (.fwFinishDone ok) s = .next s

/-- SPDM requests are answered by the responder while its firmware runs, and the request counted: GET_VERSION and the codes that need
version 1.3 (R384, R385; their layouts PRESUMED, notes/assumptions/20). -/
def spdmAnswered : Prop := ∀ (s : State) (m : Fin 3) (eid p1 p2 : BitVec 8) (r : List (BitVec 8)) (q : Requester) (x : State),
  s.firmwareUp = true → s.mode ≠ .drowse → q = .mctp m eid → x = (s.mctpWake q).bump R.SEC_SPDM_REQ_CNT →
  (∀ v, exec (.spdmGetVersion m eid v p1 p2 r) s = .next ((x.spdmVersion q ([v, 0x84, p1, p2] ++ r)).1.emit
    (.spdm q (x.spdmVersion q ([v, 0x84, p1, p2] ++ r)).2))) ∧
  exec (.spdmGetCapabilities m eid 0x13 p1 p2 r) s = .next ((x.spdmCaps q ([0x13, 0xE1, p1, p2] ++ r)).1.emit
    (.spdm q (x.spdmCaps q ([0x13, 0xE1, p1, p2] ++ r)).2)) ∧
  exec (.spdmNegotiateAlgorithms m eid 0x13 p1 p2 r) s = .next ((x.spdmAlgorithms q ([0x13, 0xE3, p1, p2] ++ r)).1.emit
    (.spdm q (x.spdmAlgorithms q ([0x13, 0xE3, p1, p2] ++ r)).2)) ∧
  exec (.spdmGetDigests m eid 0x13 p1 p2 r) s = .next ((x.spdmDigests q ([0x13, 0x81, p1, p2] ++ r)).1.emit
    (.spdm q (x.spdmDigests q ([0x13, 0x81, p1, p2] ++ r)).2)) ∧
  exec (.spdmGetCertificate m eid 0x13 p1 p2 r) s = .next ((x.spdmCertificate q ([0x13, 0x82, p1, p2] ++ r)).1.emit
    (.spdm q (x.spdmCertificate q ([0x13, 0x82, p1, p2] ++ r)).2)) ∧
  exec (.spdmChallenge m eid 0x13 p1 p2 r) s = .next ((x.spdmChallenge q ([0x13, 0x83, p1, p2] ++ r)).1.emit
    (.spdm q (x.spdmChallenge q ([0x13, 0x83, p1, p2] ++ r)).2)) ∧
  exec (.spdmGetMeasurements m eid 0x13 p1 p2 r) s = .next ((x.spdmMeasurements q ([0x13, 0xE0, p1, p2] ++ r)).1.emit
    (.spdm q (x.spdmMeasurements q ([0x13, 0xE0, p1, p2] ++ r)).2)) ∧
  exec (.spdmRespondIfReady m eid 0x13 p1 p2 r) s = .next ((x.spdmReady q ([0x13, 0xFF, p1, p2] ++ r)).1.emit
    (.spdm q (x.spdmReady q ([0x13, 0xFF, p1, p2] ++ r)).2))

/-- GET_VERSION answers 1.3 alone, and the connection starts anew (R385). -/
def spdmVersion13 : Prop := ∀ (s : State) (q : Requester) (m : List Byte),
  (s.spdmVersion q m).2 = [0x10, 0x04, 0x00, 0x00, 0x00, 0x01, 0x00, 0x13] ∧ ((s.spdmVersion q m).1.conn q).level = 1

/-- A request of any code but GET_VERSION in another version than 1.3 gets the error VersionMismatch (R385). -/
def spdmOtherVersion : Prop := ∀ (s : State) (q : Requester) (v c : BitVec 8) (r : List Byte), v ≠ 0x13 → c ≠ 0x84 →
  s.spdmAnswer q (v :: c :: r) = (s, [0x13, 0x7F, 0x41, 0x00])

/-- A request out of the order of the connection gets UnexpectedRequest (R385). -/
def spdmOutOfOrder : Prop := ∀ (s : State) (q : Requester) (m : List Byte), (s.conn q).level ≠ 3 →
  (s.spdmDigests q m) = (s, spdmError seUnexpected 0 []) ∧ (s.spdmCertificate q m) = (s, spdmError seUnexpected 0 []) ∧
  (s.spdmChallenge q m) = (s, spdmError seUnexpected 0 [])

/-- SPDM requests in DROWSE wait for the wake (R384, Table 15.10), and without the firmware nothing answers. -/
def spdmHeld : Prop := ∀ (s : State) (m : Fin 3) (eid v p1 p2 : BitVec 8) (r : List (BitVec 8)),
  (s.firmwareUp = true → s.mode = .drowse → exec (.spdmGetVersion m eid v p1 p2 r) s = .next ((s.onSec (fun y => { y with
    spdmHeld := y.spdmHeld ++ [(.mctp m eid, [v, 0x84, p1, p2] ++ r)] })).mctpWake (.mctp m eid))) ∧
  (s.firmwareUp = false → exec (.spdmGetVersion m eid v p1 p2 r) s = .next s)

/-- TAP_RESET selects IDCODE, and TAP_IDCODE shifts out 0x102887AB, the least significant bit first (R412). -/
def tapIdcode : Prop := ∀ (s : State), exec .tapReset s = .next (s.onPins (fun p => { p with tap := .idcode })) ∧
  exec .tapIdcode s = .next ((s.onPins (fun p => { p with tap := .idcode })).emit
    (.tdo ((List.range 32).map (0x102887AB : BitVec 32).getLsbD)))

/-- TAP_BYPASS shifts through one flip-flop that captured 0 (R412). -/
def tapBypass : Prop := ∀ (s : State) (tdi : List Bool), exec (.tapBypass tdi) s = .next ((s.onPins (fun p => { p with
  tap := .bypass, bypass := tdi.getLastD false })).emit (.tdo ((false :: tdi).take tdi.length)))

/-- TAP_SAMPLE_PRELOAD shifts out the pins as captured and preloads the boundary register, whatever PERST_N is (R412). -/
def tapSample : Prop := ∀ (s : State) (pins pre : List Bool), exec (.tapSamplePreload pins pre) s = .next ((s.onPins (fun p => { p with
  tap := .sample, captured := pins, boundary := pre })).emit (.tdo pins))

/-- EXTEST, CLAMP, HIGHZ, EXTEST_PULSE and EXTEST_TRAIN take effect while PERST_N is asserted (R412). -/
def tapDrives : Prop := ∀ (s : State) (p u : List Bool), s.pins.perst = true →
  exec (.tapExtest p u) s = .next ((s.tapLoad .extest).tapBoundary p u) ∧
  exec (.tapExtestPulse p u) s = .next ((s.tapLoad .extestPulse).tapBoundary p u) ∧
  exec (.tapExtestTrain p u) s = .next ((s.tapLoad .extestTrain).tapBoundary p u) ∧
  exec (.tapClamp u) s = .next (((s.tapLoad .clamp).tapBypass u).tapLoad .clamp) ∧
  exec (.tapHighz u) s = .next (((s.tapLoad .highz).tapBypass u).tapLoad .highz)

/-- Those five act as BYPASS at any other time, and leave the pads to Kalnum (R412). -/
def tapActsAsBypass : Prop := ∀ (s : State) (p u : List Bool), s.pins.perst = false →
  exec (.tapExtest p u) s = .next ((s.tapBypass u).tapLoad .extest) ∧
  exec (.tapExtestPulse p u) s = .next ((s.tapBypass u).tapLoad .extestPulse) ∧
  exec (.tapExtestTrain p u) s = .next ((s.tapBypass u).tapLoad .extestTrain) ∧
  exec (.tapClamp u) s = .next ((s.tapBypass u).tapLoad .clamp) ∧ exec (.tapHighz u) s = .next ((s.tapBypass u).tapLoad .highz) ∧
  ((s.tapBypass u).tapLoad .extest).padMode = .functional ∧ ((s.tapBypass u).tapLoad .highz).padMode = .functional

/-! ## The block: its queue, its idling, its stops -/

/-- A step takes the command at the front of the queue, and is its meaning on the state with the rest of the queue. -/
def stepFront : Prop := ∀ (c : Instr) (rest : List Instr) (s : State), step { s with pending := c :: rest } = exec c { s with pending := rest }

/-- On an empty queue the block idles: what waits inside it goes on, and a nanosecond passes (the model's choice, notes/assumptions/1). -/
def stepIdles : Prop := ∀ (s : State), s.pending = [] → step s = .next s.idle

/-- In RESET nothing waits inside the block: an idle step is one nanosecond. -/
def idleInReset : Prop := ∀ (s : State), s.pending = [] → s.mode = .reset → step s = .next s.tick

/-- No word spells a command, since the opcode table gives its rows no bits; the state is unchanged where a word would stand. -/
def wordsSpellNothing : Prop := ∀ (n w : Nat) (s : State), decodeTableWord n w = none ∧ s.withFetchWord n w = s

/-- Every command that can arrive completes: it takes a next state, whatever the state it meets. -/
def allComplete : Prop := ∀ (c : Instr) (s : State), c.wellFormed = true → ∃ t, exec c s = .next t

/-- A command that cannot arrive faults as ill-formed, and changes nothing. -/
def illFormedFaults : Prop := ∀ (c : Instr) (s : State), c.wellFormed = false → exec c s = .fault .illFormed

/-- After reset: the mode is RESET, PERST_N is asserted, the timebase is 0, every register reads its reset value, the flash is erased and
nothing waits (Table 13.3, R326; values the spec does not give are the model's, notes/assumptions/2). -/
def resetState : Prop := State.reset.mode = .reset ∧ State.reset.pins.perst = true ∧ State.reset.tb = 0 ∧
  (∀ (r : RegDesc) (i : Nat), State.reset.rd r i = r.resetWord i) ∧ (∀ x, State.reset.flashByte x = 0xFF) ∧
  State.reset.churn.pkts = [] ∧ State.reset.bnd.trk = [] ∧ State.reset.crb.outst = [] ∧ State.reset.pending = []

/-- In RESET the registers and the rings take no access (Table 13.1). -/
def resetTakesNothing : Prop := ∀ (s : State), s.mode = .reset →
  (∀ fn off be data, exec (.registerWrite fn off be data) s = .next s) ∧ (∀ off be v, exec (.tableWindowWrite off be v) s = .next s) ∧
  (∀ off, exec (.counterLoRead off) s = .next s) ∧ (∀ off, exec (.hwmRead off) s = .next s) ∧
  (∀ a w v, exec (.debugAccess a w v) s = .next s)

/-- An offset that no register occupies reads 0 and ignores writes, and neither is reported (R11). -/
def holes : Prop := ∀ (s : State) (off : BitVec 26) (be : BitVec 8) (data : BitVec 64), s.mode ≠ .reset →
  s.unoccupied (off.toNat / 4 * 4) = true →
  (exec (.counterLoRead off) s = .next (s.emit (.data 0))) ∧
  (be.toNat / 16 = 0 → exec (.registerWrite none off be data) s = .next s) ∧
  (be.toNat = 0xFF → s.unoccupied (off.toNat / 4 * 4 + 4) = true → exec (.registerWrite none off be data) s = .next s)

/-! ## Registers, fields and counters -/

/-- A register holds what was written last, and no register at another place changes (R12). -/
def registerHolds : Prop := ∀ (s : State) (r : RegDesc) (i : Nat) (v : Word), rising s.regs = true →
  (s.wr r i v).rd r i = v ∧ rising (s.wr r i v).regs = true ∧
  ∀ (x : RegDesc) (j : Nat), x.addr j ≠ r.addr i → (s.wr r i v).rd x j = s.rd x j

/-- A field holds what was written, to its width, and the other fields of its register do not change. -/
def fieldHolds : Prop := ∀ (s : State) (f g : Fld) (i v : Nat), rising s.regs = true → f.lo + f.width ≤ 32 →
  (s.setFld f i v).fld f i = v % 2 ^ f.width ∧
  (g.reg = f.reg → g.lo + g.width ≤ f.lo ∨ f.lo + f.width ≤ g.lo → (s.setFld f i v).fld g i = s.fld g i)

/-- An error or event counter of the 32-bit saturating class counts up to 0xFFFF_FFFF and stops there, its OVF bit set (R315, Table
12.10). -/
def counterSaturates : Prop := ∀ (s : State) (r : RegDesc) (i n a b : Nat), rising s.regs = true → r.kind = .sat (some (a, b)) → a ≠ r.addr i →
  ((s.bumpBy r i n).rd r i).toNat = min 0xFFFFFFFF ((s.rd r i).toNat + n) ∧
  (0xFFFFFFFF ≤ (s.rd r i).toNat + n → n ≠ 0 →
    regAt (s.bumpBy r i n).regs a 0 = regAt s.regs a 0 ||| BitVec.ofNat 32 (2 ^ b)) ∧
  ((s.rd r i).toNat + n < 0xFFFFFFFF → regAt (s.bumpBy r i n).regs a 0 = regAt s.regs a 0)

/-- A statistics counter of two halves counts modulo 2^64 (R315, Table 12.10). -/
def statisticsWrap : Prop := ∀ (s : State) (lo hi : RegDesc) (i n : Nat), rising s.regs = true → lo.addr i ≠ hi.addr i →
  (((s.stat lo hi i n).rd lo i).toNat + 2 ^ 32 * ((s.stat lo hi i n).rd hi i).toNat) =
    ((s.rd lo i).toNat + 2 ^ 32 * (s.rd hi i).toNat + n) % 2 ^ 64

/-- A refusal counter stops at 65,535 (R315, Table 12.10). -/
def refusalsSaturate : Prop := ∀ (s : State) (f : Fld) (i n : Nat), rising s.regs = true → f.lo + f.width ≤ 32 → f.width = 16 →
  (s.bump16 f i n).fld f i = min 65535 (s.fld f i + n)

/-- An event bit that is already 1 raises nothing; one that becomes 1 is set, and with its enable clear no event is generated (R297). -/
def eventBit : Prop := ∀ (s : State) (f : Fld) (i : Nat), (s.flag f i = true → s.raise f i = s) ∧
  (s.flag f i = false → enableFor f = none → s.raise f i = s.setFld f i 1)

/-! ## Packets and records -/

/-- A request packet in the form of Table 12.1 is read as it was made: every field of the header, at its width, and the body. -/
def packetKept : Prop := ∀ (src : Requester) (q : CrbReq) (code : Nat), code < 65536 → q.length < 65536 → q.object < 65536 → q.dk96 = false →
  parsePacket src (requestPacket q code q.tag.toNat) = (code, { q with src := src })

/-- A packet in the DK-96 form is read field by field from its 12-byte header; it has no flags and addresses this device (R299). -/
def dk96Kept : Prop := ∀ (src : Requester) (q : CrbReq) (code : Nat), code < 65536 → q.length < 65536 → q.object < 65536 → q.dk96 = true →
  q.flags = 0 → q.feid = 0 →
  parseDk96 src (leBytes 2 code ++ leBytes 2 q.tag.toNat ++ leBytes 2 q.length ++ leBytes 2 q.object ++ leBytes 4 q.seq.toNat ++ q.body) =
    (code, { q with src := src })

/-- A reply repeats the opcode, the TAG, the TARGET and the SEQUENCE of its request, with REPLY set; STATUS, DETAIL and the reply data
follow, and LENGTH is 4 plus the reply data (R296). -/
def replyForm : Prop := ∀ (q : CrbReq) (code st d : Nat) (final dup : Bool) (data b : List Byte), code < 65536 → q.object < 65536 → st < 65536 →
  d < 65536 → 4 + data.length < 65536 → q.dk96 = false → b = replyBytes code q final dup st d data →
  bodyNat b 0 2 = code ∧ bodyNat b 2 2 = q.tag.toNat ∧ bodyNat b 4 2 = 4 + data.length ∧ bodyNat b 6 2 = q.feid.toNat ∧
  bodyNat b 8 2 = q.object ∧ bits (bodyNat b 10 2) 0 1 = 1 ∧ bits (bodyNat b 10 2) 1 1 = b2n final ∧ bits (bodyNat b 10 2) 4 1 = b2n dup ∧
  bodyNat b 12 4 = q.seq.toNat ∧ bodyNat b 16 2 = st ∧ bodyNat b 18 2 = d ∧ b.drop 20 = data

/-- A Corber packet on the whey channel is cut into fragments of 20 bytes, numbered from 0, the last of them marked (R300). -/
def fragmentsWhole : Prop := ∀ (m : Nat) (b : List Byte), 1 ≤ b.length → b.length ≤ 5120 →
  (fragments m 256 0 b).length = ceilDiv b.length 20 ∧ ((fragments m 256 0 b).map (fun (f : List Byte) => f.drop 4)).flatten = b ∧
  ∀ k, k < ceilDiv b.length 20 → (fragments m 256 0 b)[k]? = some (leBytes 4 (m + 2 ^ 8 * k + 2 ^ 16 * b2n (k + 1 == ceilDiv b.length 20) +
    2 ^ 17 * ((b.drop (20 * k)).take 20).length) ++ (b.drop (20 * k)).take 20)

/-- The opcodes of Table 12.6 name one row each. -/
def opcodesDistinct : Prop := (allOps.map (·.code)).Nodup ∧ ∀ o ∈ allOps, ∃ x, opOf o.code = some x ∧ x.code = o.code

/-- A journal entry has 64 bytes, with each field where Table 7.13 puts it (R221). -/
def journalLayout : Prop := ∀ (e : JournalEntry), e.jseq < 2 ^ 32 → e.time < 2 ^ 64 → e.cls < 2 ^ 16 → e.sev < 4 → e.scope < 4 → e.port < 256 →
  e.vh < 256 → e.binding < 4096 → e.feid < 4096 → e.count < 65536 → e.mode < 8 → e.detail < 2 ^ 256 →
  e.bytes.length = 64 ∧ bodyNat e.bytes 0 4 = e.jseq ∧ bodyNat e.bytes 4 8 = e.time ∧ bodyNat e.bytes 12 2 = e.cls ∧
  bits (bodyNat e.bytes 14 2) 0 2 = e.sev ∧ bits (bodyNat e.bytes 14 2) 2 2 = e.scope ∧ bits (bodyNat e.bytes 14 2) 4 1 = b2n e.timeValid ∧
  bits (bodyNat e.bytes 14 2) 5 1 = b2n e.flashed ∧ bits (bodyNat e.bytes 14 2) 6 10 = 0 ∧ bits (bodyNat e.bytes 16 16) 0 8 = e.port ∧
  bits (bodyNat e.bytes 16 16) 8 8 = e.vh ∧ bits (bodyNat e.bytes 16 16) 16 12 = e.binding ∧ bits (bodyNat e.bytes 16 16) 28 12 = e.feid ∧
  bits (bodyNat e.bytes 16 16) 40 16 = e.count ∧ bits (bodyNat e.bytes 16 16) 56 3 = e.mode ∧ bits (bodyNat e.bytes 16 16) 59 69 = 0 ∧
  bodyNat e.bytes 32 32 = e.detail

/-- Requests that wait for nothing: none starts of itself (R304). -/
def pumpIdle : Prop := ∀ (s : State), s.crb.ordered = [] → s.pump = s

/-- The reply ring takes a packet only when its slots are free after those taken before it, and its writes to host memory follow;
otherwise the reply is held and the reading of requests stalls (R298). -/
def ringTakes : Prop := ∀ (s : State) (p : List Byte) (k i : Nat), k = ringSlots (p.length - 16) → s.crb.heldReplies = [] →
  i = s.ringNext false →
  (k ≤ ringFree s.crb.ringSet.rpl (s.fld F.MGT_CRB_RPL_HEAD.IDX) i →
    s.toRing p = s.onCrb (fun c => { c with hostOut := c.hostOut ++ [{ evt := false, slot := i, bytes := p }] })) ∧
  (ringFree s.crb.ringSet.rpl (s.fld F.MGT_CRB_RPL_HEAD.IDX) i < k →
    s.toRing p = (s.onCrb (fun c => { c with heldReplies := c.heldReplies ++ [p] })).setFld F.MGT_CRB_STATUS.RPL_STALL 0 1)

/-- The tail of the reply ring passes a packet whose writes have been sent, by its slots, and the ring's vector is signalled where
RPL_INT_EN is 1 (R298). -/
def ringTailPasses : Prop := ∀ (s t : State) (o : RingOut), o.evt = false →
  t = (s.onCrb (fun c => { c with hostOut := c.hostOut.erase o })).setFld F.MGT_CRB_RPL_TAIL.IDX 0
    ((o.slot + ringSlots (o.bytes.length - 16)) % 2 ^ s.crb.ringSet.rpl) →
  s.ringPass o = if t.flag F.MGT_CRB_VEC.RPL_INT_EN then t.signal 0 (t.fld F.MGT_CRB_VEC.RPL_VECTOR) else t

/-- The slots free on a ring of 2^n are (HEAD − TAIL − 1) mod 2^n (R298). -/
def ringRoom : Prop := ∀ (n h t : Nat), h < 2 ^ n → t < 2 ^ n → ringFree n h t < 2 ^ n ∧ (ringFree n h t + t + 1) % 2 ^ n = h

/-! ## Frames: what the shared operations and the commands leave as it was -/

/-- Raising an event changes its own bit and the count of lost events, Corber's sequence, subscribers and the events that wait for them,
and what is sent; nothing else. -/
def raiseFrame : Prop := ∀ (s : State) (f : Fld) (i : Nat),
  { s.raise f i with regs := s.regs, crb := s.crb, sent := s.sent } = s ∧
  { (s.raise f i).crb with evtSeq := s.crb.evtSeq, subs := s.crb.subs, outbox := s.crb.outbox, hostOut := s.crb.hostOut } = s.crb ∧
  ∀ (r : RegDesc) (j : Nat), r.addr j ≠ f.reg.addr i → r.addr j ≠ R.MGT_CRB_EVT_LOST_CNT.addr 0 →
    r.addr j ≠ R.MGT_CNT_OVF.addr 0 → (s.raise f i).rd r j = s.rd r j

/-- A journal entry changes the journal, what flash keeps of it, its registers and the count of lost events, Corber's
sequence, subscribers and the events that wait for them, and what is sent; nothing else. -/
def journalFrame : Prop := ∀ (s : State) (cls : Nat) (w : Where),
  { s.journal cls w with regs := s.regs, crb := s.crb, sent := s.sent, err := s.err } = s ∧
  { (s.journal cls w).err with journal := s.err.journal, flashJournal := s.err.flashJournal, flashHeld := s.err.flashHeld } = s.err ∧
  { (s.journal cls w).crb with evtSeq := s.crb.evtSeq, subs := s.crb.subs, outbox := s.crb.outbox, hostOut := s.crb.hostOut } = s.crb ∧
  ∀ (r : RegDesc) (j : Nat), (∀ x ∈ [R.ERR_JRNL_SEQ, R.ERR_JRNL_STATUS, R.ERR_JRNL_OVERWRITE_CNT, R.ERR_JRNL_COALESCE_CNT, R.ERR_STATUS,
      R.ERR_EVT, R.ERR_FLASH_FENCED_CNT, R.ERR_CNT_OVF, R.MGT_CRB_EVT_LOST_CNT, R.MGT_CNT_OVF], r.addr j ≠ x.addr 0) →
    (s.journal cls w).rd r j = s.rd r j

/-- A reply to the rings, to Malacel or over MCTP changes RPL_STALL, the BUSY count, the replies that wait for the ring or
their writes, and what is sent; nothing else. -/
def replyFrame : Prop := ∀ (s : State) (code : Nat) (q : CrbReq) (final : Bool) (st d : Nat) (data : List Byte), (∀ f, q.src ≠ .whey f) →
  { s.replyNow code q final st d data with regs := s.regs, crb := s.crb, sent := s.sent } = s ∧
  { (s.replyNow code q final st d data).crb with heldReplies := s.crb.heldReplies, hostOut := s.crb.hostOut } = s.crb ∧
  ∀ (r : RegDesc) (j : Nat), (∀ x ∈ [R.MGT_CRB_STATUS, R.MGT_CRB_BUSY_CNT, R.MGT_CNT_OVF], r.addr j ≠ x.addr 0) →
    (s.replyNow code q final st d data).rd r j = s.rd r j

/-- The read opcodes, with their rows. -/
def queries (q : CrbReq) : List (Instr × OpInfo) :=
  [(.getInfo q, opGetInfo), (.getMode q, opGetMode), (.echo q, opEcho), (.getTimebase q, opGetTimebase), (.getPort q, opGetPort),
    (.getCluster q, opGetCluster), (.getKfl q, opGetKfl), (.readEntry q, opReadEntry), (.getBinding q, opGetBinding), (.getVh q, opGetVh),
    (.getFabric q, opGetFabric), (.getMembers q, opGetMembers), (.getFlow q, opGetFlow), (.getPolicer q, opGetPolicer),
    (.getViolation q, opGetViolation), (.getSlot q, opGetSlot), (.getDrowseStats q, opGetDrowseStats), (.getCoreDelay q, opGetCoreDelay),
    (.getWatchdog q, opGetWatchdog), (.getDm q, opGetDm), (.getCert q, opGetCert), (.getMeasurements q, opGetMeasurements),
    (.getFw q, opGetFw), (.getBoardRecord q, opGetBoardRecord), (.readJournal q, opReadJournal), (.readFlashJournal q, opReadFlashJournal),
    (.readPfl q, opReadPfl)]

/-- A read opcode that is judged at once completes, and changes the requester's record, the time a session it holds was last used, the
replies that wait and what is sent; nothing else, whether it is answered OK or with an error. -/
def queryFrame : Prop := ∀ (s : State) (q : CrbReq) (e : Instr × OpInfo), e ∈ queries q → s.ready e.2 q = true → (∀ f, q.src ≠ .whey f) →
  s.crb.ordered = [] → ∃ t, exec e.1 s = .next t ∧
    { t with regs := s.regs, crb := s.crb, sent := s.sent, bnd := s.bnd, timers := s.timers } = s ∧
    { t.bnd with session := s.bnd.session } = s.bnd ∧ t.crb.outst = s.crb.outst ∧ t.crb.ordered = [] ∧
    ∀ (r : RegDesc) (j : Nat), (∀ x ∈ [R.MGT_CRB_STATUS, R.MGT_CRB_BUSY_CNT, R.MGT_CNT_OVF], r.addr j ≠ x.addr 0) →
      t.rd r j = s.rd r j

/-- The commands of the test access port change that port and what it shifts out, and nothing else of Kalnum. -/
def tapFrame : Prop := ∀ (s : State) (p u : List Bool) (c : Instr), c ∈ [Instr.tapReset, .tapBypass u, .tapIdcode, .tapSamplePreload p u,
    .tapExtest p u, .tapClamp u, .tapHighz u, .tapExtestPulse p u, .tapExtestTrain p u] → ∃ t, exec c s = .next t ∧
  { t with pins := s.pins, sent := s.sent } = s ∧
  { t.pins with tap := s.pins.tap, boundary := s.pins.boundary, captured := s.pins.captured, bypass := s.pins.bypass } = s.pins

/-- FLASH_PROGRAM_DONE leaves the flash canonical; the bytes of the range read back as queued, and every byte outside the erase sectors
the range touches is as it was (R380). -/
def flashFrame : Prop := ∀ (s : State) (o : Nat) (b : List Byte) (l : List (Nat × List Byte)), Memory.wf s.sec.flash = true →
  s.openImage ≠ 3 → s.sec.queue = (o, b) :: l → ∃ t, exec .flashProgramDone s = .next t ∧ Memory.wf t.sec.flash = true ∧
  (∀ k, k < b.length → t.flashByte (slotBase s.openImage + o + k) = b.getD k 0) ∧
  (∀ x, x < slotBase s.openImage + sector * (o / sector) ∨ slotBase s.openImage + sector * ceilDiv (o + b.length) sector ≤ x →
    t.flashByte x = s.flashByte x) ∧
  { t with regs := s.regs, sec := s.sec, sent := s.sent } = s ∧
  ∀ (r : RegDesc) (j : Nat), r.addr j ≠ R.SEC_IMAGE_STATE.addr 0 → t.rd r j = s.rd r j

/-- The commands of the crossings' channels leave everything but those channels and their domain's registers, what an event of them
changes, and what is sent. -/
def crossingFrame : Prop := ∀ (s : State) (d : Fin 40) (c : Fin 64) (w a : List (BitVec 32)) (n m : Nat) (i : Instr),
  i ∈ [Instr.valueTransfer d c w, .eventTransfer d c n m, .queueTransfer d c a] → ∃ t, exec i s = .next t ∧
  { t with regs := s.regs, pwr := s.pwr, crb := s.crb, sent := s.sent } = s ∧
  { t.pwr with values := s.pwr.values, events := s.pwr.events, queues := s.pwr.queues } = s.pwr ∧
  ∀ (r : RegDesc) (j : Nat), (∀ x ∈ [(R.PWR_XD_SUPERSEDED, d.val), (R.PWR_XD_EVT, d.val), (R.PWR_XD_STATUS, d.val), (R.PWR_EVT, 0),
      (R.MGT_CRB_EVT_LOST_CNT, 0), (R.MGT_CNT_OVF, 0)], r.addr j ≠ x.1.addr x.2) → t.rd r j = s.rd r j

/-! ## Rules stated whole -/

/-- ACU_VIOL_CNT counts every violation, the captured one included; it stops at 0xFFFF_FFFF with ACU_CNT_OVF bit 0 set, and clearing the
capture does not clear it (R268). -/
def violationCount : Prop := ∀ (s t : State) (d : AcuDir) (p : Tlp) (bi abi rule addr len : Nat),
  (t = (((s.bump R.ACU_VIOL_CNT).raise F.ACU_EVT.VIOLATION).capture d (writeClass p.kind) p.kind.isCxl addr len (s.bind abi).vh abi rule).reportBinding
      0x0309 bi .completerAbort false p.header →
    s.violation d p bi abi rule addr len = if t.isDeviceEnd (s.bind bi) then t.notice bi d (writeClass p.kind) len p.header else t) ∧
  (rising s.regs = true → ((s.bump R.ACU_VIOL_CNT).rd R.ACU_VIOL_CNT).toNat = min 0xFFFFFFFF ((s.rd R.ACU_VIOL_CNT).toNat + 1) ∧
    (0xFFFFFFFF ≤ (s.rd R.ACU_VIOL_CNT).toNat + 1 →
      (s.bump R.ACU_VIOL_CNT).rd R.ACU_CNT_OVF = s.rd R.ACU_CNT_OVF ||| 1)) ∧
  (∃ u, exec .fvValidClear s = .next u ∧ u.rd R.ACU_VIOL_CNT = s.rd R.ACU_VIOL_CNT ∧ u.rd R.ACU_CNT_OVF = s.rd R.ACU_CNT_OVF)

/-- RAMP drives GATE_EN and keeps PRE_EN high, and ends RAMP_MS after entry: with VOUT at least 95 % of VIN_MV, PRE_EN goes low and the
guard enters ON; otherwise it records fault 0x0705 (R357). -/
def rampRule : Prop := ∀ (s t : State) (g : Fin 24),
  (t = (((s.disarm .proofing g).setFld F.SPG_SLOT_STATE.STATE g gRamp).setFld F.SPG_SLOT_STATE.PRE_EN g 1).setFld F.SPG_SLOT_STATE.GATE_EN g 1 →
    ∃ u : State, s.gRampUp g = u.arm .ramp g (ms (s.fld F.SPG_SLOT_TIME.RAMP_MS g)) ∧ u = (s.disarm .proofing g).gSet g gRamp ∧
      ∃ v : State, v = (t.setFld F.SPG_SLOT_STATE.PERST_REL g 0).assertPerst (t.gPort g) ∧
        u = (v.setFld F.SPG_STATUS.ON 0 (setBits (v.fld F.SPG_STATUS.ON) g 1 0)).setFld F.SPG_SLOT_STATE.RESEAT_IN_RETRY g 0) ∧
  (s.due .ramp g = true → s.gState g = gRamp → 100 * s.fld F.SPG_SLOT_TELEM0.VOUT g < 95 * s.fld F.SPG_SLOT_ELEC.VIN_MV g →
    exec (.rampEnd g) s = .next ((s.disarm .ramp g).gFault g 0x0705)) ∧
  (s.due .ramp g = true → s.gState g = gRamp → 95 * s.fld F.SPG_SLOT_ELEC.VIN_MV g ≤ 100 * s.fld F.SPG_SLOT_TELEM0.VOUT g →
    t = ((s.disarm .ramp g).gSet g gOn).onGuard g (fun y => { y with wanted := false }) →
    exec (.rampEnd g) s = .next (((((t.raise F.SPG_SLOT_EVT.POWER_ON g).arm .perst g (ms (t.fld F.SPG_SLOT_RETRY.PERST_MS g))).arm .slotReport g
      (ms 10)).disarm .slotRequest g).finish opSlotPower g stOk)) ∧
  (s.due .ramp g = false → exec (.rampEnd g) s = .next s)

/-- A slew gains or loses at most one nanosecond in a nanosecond, and only when 10^6 / SLEW_PPM of them have passed (R347). -/
def slewRate : Prop := ∀ (s : State), (s.tick).tb = s.tb + 1 + BitVec.ofInt 64 s.slewNow ∧ (s.tick).now = s.now + 1 ∧ s.slewNow.natAbs ≤ 1 ∧
  (s.slewNow ≠ 0 → 1000000 ≤ s.pwr.slewAcc + s.fld F.PWR_TB_CFG.SLEW_PPM) ∧ (s.tick).pwr.slew = s.pwr.slew - s.slewNow ∧
  (s.pwr.slew ≠ 0 → (s.tick).pwr.slewAcc = (s.pwr.slewAcc + s.fld F.PWR_TB_CFG.SLEW_PPM) % 1000000)

/-- Each step of the timebase adds 1 to PWR_TB_STEP_CNT and raises PWR_EVT.TB_STEP, and the gate lists realign (R347, R242). -/
def tbSteps : Prop := ∀ (s : State) (t : BitVec 64), s.tbStep t =
  ((({ s with tb := t, pwr := { s.pwr with slew := 0, slewAcc := 0 } } : State).bump R.PWR_TB_STEP_CNT).raise F.PWR_EVT.TB_STEP).gclStep

/-- A refused entry to DROWSE: its class's counter, 16-bit saturating, gains 1; LAST_REFUSER names class and ID; the event is raised; and an
accepted SET_MODE ends BUSY with DETAIL class × 4,096 + ID (R329). -/
def refusalRule : Prop := ∀ (s t : State) (k : Fin 12) (id : Nat) (f : Fld),
  f = (if (k.val + 1) % 2 = 1 then F.PWR_DROWSE_REFUSE_CNT.ODD else F.PWR_DROWSE_REFUSE_CNT.EVEN) → t = s.bump16 f (k.val / 2) 1 →
  (rising s.regs = true → t.fld f (k.val / 2) = min 65535 (s.fld f (k.val / 2) + 1)) ∧
  ∃ u : State, u = (((t.setFld F.PWR_DROWSE_LAST_REFUSER.CLASS 0 (k.val + 1)).setFld F.PWR_DROWSE_LAST_REFUSER.ID 0 id).setFld
      F.PWR_DROWSE_LAST_REFUSER.VALID 0 1).raise F.PWR_EVT.DROWSE_REFUSED ∧
    s.drowseRefuse (k.val + 1) id = (((({ u with transition := false }.onPwr (fun y => { y with drowse := .none })).disarm .drowseWait
      0).finishAny opSetMode stBusy ((k.val + 1) * 4096 + id))).idleCheck

/-- MRd, MRdLk and CXL.mem reads are of the read class, MWr, DMWr and RwD of the write class; an AtomicOp is allowed at a block only where
both RD and WR allow it (R261). -/
def accessClasses : Prop := ∀ (s : State) (k : TlpKind) (blk vh bi : Nat) (d : AcuDir),
  (readClass k = true ↔ k = .mrd ∨ k = .mrdLk ∨ k = .cxlMemRd ∨ k = .atomicOp) ∧
  (writeClass k = true ↔ k = .mwr ∨ k = .dmwr ∨ k = .cxlMemWr ∨ k = .atomicOp) ∧
  (s.flag F.ACU_CFG.ENABLE = true → ∀ (i : Nat) (r : BitVec 512), s.bnd.active.acu.find? (fun e => ruleMatches e.2 blk vh bi d) = some (i, r) →
    (s.forbids blk vh bi d .atomicOp = none ↔ ef r 17 1 = 1 ∧ ef r 18 1 = 1) ∧
    (k ≠ .atomicOp → readClass k = true → (s.forbids blk vh bi d k = none ↔ ef r 17 1 = 1)) ∧
    (k ≠ .atomicOp → writeClass k = true → (s.forbids blk vh bi d k = none ↔ ef r 18 1 = 1)))

end Sys2Proof.Claims

/-! ## The statements -/

section

open Sys2Proof

/-- A step runs the command at the front of the queue and keeps the rest; an empty queue lets time pass; no word spells a command. -/
def Obligations.StepServesQueue : Prop :=
  Claims.stepFront ∧ Claims.stepIdles ∧ Claims.idleInReset ∧ Claims.wordsSpellNothing

/-- Every well-formed command answers a next state in every state; an ill-formed one is the model's one fault. -/
def Obligations.EveryCommandCompletes : Prop :=
  Claims.allComplete ∧ Claims.illFormedFaults

/-- What reset leaves: every register at its reset word, the queue empty, no ring command and no access takes effect in RESET.

Completion: for each of these commands a clause here concludes that `exec` answers `next`, with the command's own effect, under
conditions on the state and the operands alone: registerWrite, tableWindowWrite, counterLoRead, hwmRead. -/
def Obligations.ResetState : Prop :=
  Claims.resetState ∧ Claims.resetTakesNothing

/-- A register and a field hold what is written; counters saturate or wrap as their class says; an event bit is raised. -/
def Obligations.RegistersAndCounters : Prop :=
  Claims.registerHolds ∧ Claims.fieldHolds ∧ Claims.counterSaturates ∧ Claims.statisticsWrap ∧ Claims.refusalsSaturate ∧ Claims.eventBit

/-- An offset that no register occupies reads as zero and takes no write.

Completion: for each of these commands a clause here concludes that `exec` answers `next`, with the command's own effect, under
conditions on the state and the operands alone: registerWrite, counterLoRead. -/
def Obligations.HolesReadZero : Prop :=
  Claims.holes

/-- A Corber packet laid out and read back is the request it was made from, in both header forms; its whey fragments put together are the packet. -/
def Obligations.PacketsKept : Prop :=
  Claims.packetKept ∧ Claims.dk96Kept ∧ Claims.fragmentsWhole

/-- The form of a reply, the opcodes told apart, a journal entry's layout, and what the reply ring takes. -/
def Obligations.RepliesAndRecords : Prop :=
  Claims.replyForm ∧ Claims.opcodesDistinct ∧ Claims.journalLayout ∧ Claims.pumpIdle ∧ Claims.ringTakes ∧ Claims.ringRoom ∧
  Claims.ringTailPasses

/-- Raising an event, and writing the journal, change their own registers, the lost-event count and the events that wait, and nothing else. -/
def Obligations.EventsFrame : Prop :=
  Claims.raiseFrame ∧ Claims.journalFrame

/-- A reply changes the BUSY count, the replies that wait and what is sent only; a read opcode, besides, the requester's record and its session's time. -/
def Obligations.QueriesFrame : Prop :=
  Claims.replyFrame ∧ Claims.queryFrame

/-- Programming keeps the flash canonical, stores its bytes and leaves every byte outside the erased sectors.

Completion: for each of these commands a clause here concludes that `exec` answers `next`, with the command's own effect, under
conditions on the state and the operands alone: flashProgramDone. -/
def Obligations.FlashFrame : Prop :=
  Claims.flashFrame

/-- The test access port and the channels of the crossings change their own state and registers only. -/
def Obligations.PortsFrame : Prop :=
  Claims.tapFrame ∧ Claims.crossingFrame

/-- ACU_VIOL_CNT counts every violation, stops at its largest value and sets its overflow bit.

Completion: for each of these commands a clause here concludes that `exec` answers `next`, with the command's own effect, under
conditions on the state and the operands alone: fvValidClear. -/
def Obligations.ViolationsCounted : Prop :=
  Claims.violationCount

/-- The read class, the write class, and an AtomicOp of both. -/
def Obligations.AccessClasses : Prop :=
  Claims.accessClasses

/-- RAMP drives GATE_EN and PRE_EN and ends after RAMP_MS in ON or in fault 0x0705.

Completion: for each of these commands a clause here concludes that `exec` answers `next`, with the command's own effect, under
conditions on the state and the operands alone: rampEnd. -/
def Obligations.RampOfAGuard : Prop :=
  Claims.rampRule ∧ Claims.guardOutputs

/-- A correction below a microsecond is slewed, a larger one and PWR_TB_SET are steps; each step is counted and raised.

Completion: for each of these commands a clause here concludes that `exec` answers `next`, with the command's own effect, under
conditions on the state and the operands alone: pwrTbSet. -/
def Obligations.TimebaseCorrections : Prop :=
  Claims.tbCorrection ∧ Claims.pwrTbSet ∧ Claims.tbSteps ∧ Claims.slewRate

/-- A refusal of DROWSE is counted by class, recorded, raised and answered BUSY with class and ID.

Completion: for each of these commands a clause here concludes that `exec` answers `next`, with the command's own effect, under
conditions on the state and the operands alone: getDrowseStats. -/
def Obligations.DrowseRefused : Prop :=
  Claims.refusalRule ∧ Claims.drowseRefusal ∧ Claims.getDrowseStats

/-- The device opcodes GET_INFO, GET_MODE, ECHO, READ_REG, GET_TIMEBASE, SUBSCRIBE and UNSUBSCRIBE.

Completion: for each of these commands a clause here concludes that `exec` answers `next`, with the command's own effect, under
conditions on the state and the operands alone: getInfo, getMode, echo, readReg, subscribe, unsubscribe, getTimebase. -/
def Obligations.DeviceQueries : Prop :=
  Claims.getInfo ∧ Claims.getMode ∧ Claims.echo ∧ Claims.readReg ∧ Claims.getTimebase ∧ Claims.unsubscribe ∧ Claims.subscribeRings ∧
  Claims.subscribeOther

/-- The device opcodes WRITE_REG, RESET_DEVICE, the board record, SET_CHURN and SET_ROTATION.

Completion: for each of these commands a clause here concludes that `exec` answers `next`, with the command's own effect, under
conditions on the state and the operands alone: writeReg, resetDevice, getBoardRecord, setBoardRecord, setChurn, setRotation. -/
def Obligations.DeviceSettings : Prop :=
  Claims.writeReg ∧ Claims.writeRegNone ∧ Claims.resetDevice ∧ Claims.getBoardRecord ∧ Claims.setBoardRecord ∧
  Claims.setBoardRecordWhole ∧ Claims.setChurn ∧ Claims.setRotation ∧ Claims.resetComes

/-- The port opcodes of group 0x02 that show or set a port, a cluster or a lane.

Completion: for each of these commands a clause here concludes that `exec` answers `next`, with the command's own effect, under
conditions on the state and the operands alone: getPort, setCluster, getCluster, portEnable, setRole, getLane, setLinkIndex. -/
def Obligations.PortOpcodes : Prop :=
  Claims.getPort ∧ Claims.getCluster ∧ Claims.getLane ∧ Claims.setCluster ∧ Claims.portEnable ∧ Claims.setRole ∧ Claims.setLinkIndex ∧
  Claims.setClusterBusy

/-- The port opcodes of group 0x02 that show, set or act on a link, and SET_PORT_POOL.

Completion: for each of these commands a clause here concludes that `exec` answers `next`, with the command's own effect, under
conditions on the state and the operands alone: recalibrate, margin, setKfl, kflDisable, getKfl, setPortPool. -/
def Obligations.LinkOpcodes : Prop :=
  Claims.getKfl ∧ Claims.setKfl ∧ Claims.kflDisable ∧ Claims.recalibrate ∧ Claims.margin ∧ Claims.setPortPool

/-- The edit session's opcodes and the entries of the device generation.

Completion: for each of these commands a clause here concludes that `exec` answers `next`, with the command's own effect, under
conditions on the state and the operands alone: sessionOpen, commit, sessionAbort, quiesce, writeEntry, readEntry, bind, unbind. -/
def Obligations.SessionOpcodes : Prop :=
  Claims.sessionOpen ∧ Claims.commit ∧ Claims.sessionAbort ∧ Claims.quiesce ∧ Claims.writeEntry ∧ Claims.readEntry ∧ Claims.bind ∧
  Claims.unbind

/-- The opcodes about one binding, one virtual hierarchy or the management port.

Completion: for each of these commands a clause here concludes that `exec` answers `next`, with the command's own effect, under
conditions on the state and the operands alone: resumeBinding, resetBinding, getBinding, setVhTags, setMgmtVh, setTrkTimeout, getVh,
cxlFm. -/
def Obligations.BindingOpcodes : Prop :=
  Claims.resumeBinding ∧ Claims.resetBinding ∧ Claims.getBinding ∧ Claims.setVhTags ∧ Claims.setMgmtVh ∧ Claims.setTrkTimeout ∧
  Claims.getVh ∧ Claims.cxlFm

/-- The fabric's opcodes of group 0x04.

Completion: for each of these commands a clause here concludes that `exec` answers `next`, with the command's own effect, under
conditions on the state and the operands alone: setFabric, getFabric, getMembers, setFabTimers, getFlow. -/
def Obligations.FabricOpcodes : Prop :=
  Claims.setFabric ∧ Claims.getFabric ∧ Claims.getMembers ∧ Claims.setFabTimers ∧ Claims.getFlow

/-- The traffic control opcodes of group 0x05, the access check opcodes of group 0x06, and the gate lists.

Completion: for each of these commands a clause here concludes that `exec` answers `next`, with the command's own effect, under
conditions on the state and the operands alone: setPolicer, getPolicer, setNode, setQueue, setPortShaper, writeGcl, gclChange, setQos,
setAcu, getViolation, clearViolation, gateEntryAdvance, gclSwitch. -/
def Obligations.TrafficOpcodes : Prop :=
  Claims.setPolicer ∧ Claims.getPolicer ∧ Claims.setNode ∧ Claims.setQueue ∧ Claims.setPortShaper ∧ Claims.writeGcl ∧ Claims.gclChange ∧
  Claims.setQos ∧ Claims.setAcu ∧ Claims.getViolation ∧ Claims.clearViolation ∧ Claims.gateEntryAdvance ∧ Claims.gclSwitch

/-- The slot opcodes of group 0x07.

Completion: for each of these commands a clause here concludes that `exec` answers `next`, with the command's own effect, under
conditions on the state and the operands alone: getSlot, setSlot, slotPower, clearLockout, setSlotCap, setIndicators. -/
def Obligations.SlotOpcodes : Prop :=
  Claims.getSlot ∧ Claims.setSlot ∧ Claims.slotPower ∧ Claims.clearLockout ∧ Claims.setSlotCap ∧ Claims.setIndicators

/-- The trust and firmware opcodes of group 0x08.

Completion: for each of these commands a clause here concludes that `exec` answers `next`, with the command's own effect, under
conditions on the state and the operands alone: getCert, getMeasurements, tokenWrite, tokenVerify, relock, fwBegin, fwWrite, fwFinish,
fwSelect, getFw. -/
def Obligations.TrustOpcodes : Prop :=
  Claims.getCert ∧ Claims.getMeasurements ∧ Claims.tokenWrite ∧ Claims.tokenVerify ∧ Claims.relock ∧ Claims.fwBegin ∧ Claims.fwWrite ∧
  Claims.fwFinish ∧ Claims.fwSelect ∧ Claims.fwSelectRunning ∧ Claims.getFw

/-- The mode, power and test opcodes of groups 0x09 and 0x0A.

Completion: for each of these commands a clause here concludes that `exec` answers `next`, with the command's own effect, under
conditions on the state and the operands alone: setMode, getPower, setVoltPolicy, setGating, getCoreDelay, selfTest, testBank,
injectError, getWatchdog. -/
def Obligations.PowerAndTestOpcodes : Prop :=
  Claims.setMode ∧ Claims.getPower ∧ Claims.setVoltPolicy ∧ Claims.setGating ∧ Claims.getCoreDelay ∧ Claims.selfTest ∧ Claims.testBank ∧
  Claims.injectError ∧ Claims.getWatchdog

/-- The service engine's opcodes of group 0x0B.

Completion: for each of these commands a clause here concludes that `exec` answers `next`, with the command's own effect, under
conditions on the state and the operands alone: queueAssign, queueRelease, vectorAssign, vectorRelease, setShare, traceAssign,
traceRelease, setDm, getDm. -/
def Obligations.ServiceOpcodes : Prop :=
  Claims.queueAssign ∧ Claims.queueMove ∧ Claims.queueRelease ∧ Claims.vectorAssign ∧ Claims.vectorRelease ∧ Claims.setShare ∧
  Claims.traceAssign ∧ Claims.traceRelease ∧ Claims.setDm ∧ Claims.getDm

/-- The error opcodes of group 0x0C.

Completion: for each of these commands a clause here concludes that `exec` answers `next`, with the command's own effect, under
conditions on the state and the operands alone: readJournal, readFlashJournal, readCounters, clearCounters, readPfl, setErr. -/
def Obligations.ErrorOpcodes : Prop :=
  Claims.readJournal ∧ Claims.readFlashJournal ∧ Claims.readCounters ∧ Claims.clearCounters ∧ Claims.readPfl ∧ Claims.setErr

/-- Direct writes and reads of registers and of the table window.

Completion: for each of these commands a clause here concludes that `exec` answers `next`, with the command's own effect, under
conditions on the state and the operands alone: registerWrite, tableWindowWrite, counterLoRead, hwmRead, qosGclChange, fvValidClear. -/
def Obligations.DirectRegisterAccess : Prop :=
  Claims.registerWrite ∧ Claims.registerWriteFn ∧ Claims.registerWriteWide ∧ Claims.writeRwPlain ∧ Claims.coIgnored ∧
  Claims.tableWindowWrite ∧ Claims.tableWindowIgnored ∧ Claims.counterLoRead ∧ Claims.hwmRead ∧ Claims.qosGclChange ∧
  Claims.fvValidClear ∧ Claims.registerWriteUpper

/-- The debug access port: its token, its lock and its accesses.

Completion: for each of these commands a clause here concludes that `exec` answers `next`, with the command's own effect, under
conditions on the state and the operands alone: dbgFvValidClear, dbgTokenWrite, dbgVerify, dbgRelock, dbgClrToken, tokenVerifyDone,
debugAccess. -/
def Obligations.DebugPort : Prop :=
  Claims.dbgFvValidClear ∧ Claims.dbgTokenWrite ∧ Claims.dbgClrToken ∧ Claims.dbgWhileVerifying ∧ Claims.dbgVerify ∧ Claims.dbgRelock ∧
  Claims.tokenVerifyDone ∧ Claims.debugAccess ∧ Claims.debugLocked

/-- Lane test, receiver adaptation, links coming up, changing rate and entering low power.

Completion: for each of these commands a clause here concludes that `exec` answers `next`, with the command's own effect, under
conditions on the state and the operands alone: prbsInj, prbsClr, portTestWrite, rxadaptCtrlWrite, linkUp, rateChange, l0pWidthRequest,
aspmL1Entry, lowPowerExit, prbsCheckerWord. -/
def Obligations.LanesAndLinks : Prop :=
  Claims.prbsInj ∧ Claims.prbsClr ∧ Claims.prbsCheckerWord ∧ Claims.portTestWrite ∧ Claims.rxadaptCtrlWrite ∧ Claims.rxadaptFreeze ∧
  Claims.linkUp ∧ Claims.rateChange ∧ Claims.l0pWidthRequest ∧ Claims.aspmL1Entry ∧ Claims.lowPowerExit ∧ Claims.rxHeld

/-- Reference clocks, lane margining, recalibration, lock loss, PERST_OUT_N, entry to L0s and the L1 substates.

Completion: for each of these commands a clause here concludes that `exec` answers `next`, with the command's own effect, under
conditions on the state and the operands alone: aspmL1Entry, refclkLoss, refclkReturn, marginCommandRx, marginDone, recalHalfDone,
cdrLockLoss, perstOutNRelease. -/
def Obligations.ClocksAndMargins : Prop :=
  Claims.refclkLoss ∧ Claims.refclkReturn ∧ Claims.marginCommandRx ∧ Claims.marginDone ∧ Claims.recalHalfDone ∧ Claims.cdrLockLoss ∧
  Claims.cdrLockLossKfl ∧ Claims.perstOutNRelease ∧ Claims.aspmL0sEntry ∧ Claims.aspmSubstateEntry

/-- Corber's rings, MCTP and whey transports.

Completion: for each of these commands a clause here concludes that `exec` answers `next`, with the command's own effect, under
conditions on the state and the operands alone: crbReqDoorbell, crbRplHeadWrite, crbRingEnable, crbRingReset, mctpMessage, crbFrag,
crbAbort, crbReassemblyTimeout, malacelReady. -/
def Obligations.CorberTransports : Prop :=
  Claims.crbReqDoorbell ∧ Claims.crbReqDoorbellFails ∧ Claims.crbRplHeadWrite ∧ Claims.crbRingEnable ∧ Claims.crbRingEnableBad ∧
  Claims.crbRingReset ∧ Claims.mctpNative ∧ Claims.mctpDk96 ∧ Claims.mctpOthers ∧ Claims.crbFragFirst ∧ Claims.crbFragLast ∧
  Claims.crbAbort ∧ Claims.crbReassemblyTimeout ∧ Claims.malacelReady

/-- A host's configuration accesses, those proxied to a target, function resets and power control.

Completion: for each of these commands a clause here concludes that `exec` answers `next`, with the command's own effect, under
conditions on the state and the operands alone: hostCfgWrite, cfgProxyRequest, cfgProxyTimeout, hostFlrWrite, hostPowerCtrlWrite. -/
def Obligations.HostConfiguration : Prop :=
  Claims.hostCfgWrite ∧ Claims.hostCfgWriteClears ∧ Claims.hostCfgWriteBar ∧ Claims.hostCfgWriteShown ∧ Claims.cfgProxyWrite ∧
  Claims.cfgProxyRead ∧ Claims.cfgProxyForward ∧ Claims.cfgProxyTimeout ∧ Claims.hostFlrWrite ∧ Claims.flrStarts ∧
  Claims.hostPowerCtrlWrite ∧ Claims.hostPowerOn ∧ Claims.cfgProxyHidden ∧ Claims.cfgProxyWaits

/-- Resets of a hierarchy and of bindings, DPC and orderly unbinding.

Completion: for each of these commands a clause here concludes that `exec` answers `next`, with the command's own effect, under
conditions on the state and the operands alone: secondaryBusReset, dpcSwTrigger, dpcStatusClear, pflConsWrite, poolEdgeLinkDown,
vhResetEvent, vhResetDone. -/
def Obligations.HierarchyResets : Prop :=
  Claims.secondaryBusReset ∧ Claims.dpcSwTrigger ∧ Claims.dpcContains ∧ Claims.dpcSwTriggerAgain ∧ Claims.dpcStatusClear ∧
  Claims.pflConsWrite ∧ Claims.poolEdgeLinkDown ∧ Claims.vhResetEvent ∧ Claims.vhResets ∧ Claims.vhResetDone ∧ Claims.vhResetDoneDown

/-- Resets of a binding and orderly unbinding.

Completion: for each of these commands a clause here concludes that `exec` answers `next`, with the command's own effect, under
conditions on the state and the operands alone: bindingResetDone, bindingResetTimeout, orderlyUnbindTimeout. -/
def Obligations.BindingResets : Prop :=
  Claims.bindingResetDone ∧ Claims.bindingReset ∧ Claims.bindingNoReset ∧ Claims.bindingResetTimeout ∧ Claims.orderlyUnbindTimeout

/-- Requests at host edges and from bound targets.

Completion: for each of these commands a clause here concludes that `exec` answers `next`, with the command's own effect, under
conditions on the state and the operands alone: hostRequestRx, targetRequestRx. -/
def Obligations.RequestsAtEdges : Prop :=
  Claims.hostRequestUnclaimed ∧ Claims.hostRequestRx ∧ Claims.hostRequestWindow ∧ Claims.issueWhole ∧ Claims.requestFenced ∧
  Claims.requestHeld ∧ Claims.targetRequestBlocked ∧ Claims.targetRequestRx ∧ Claims.tlpIllFormed

/-- Completions, targets' error messages and the request tracker.

Completion: for each of these commands a clause here concludes that `exec` answers `next`, with the command's own effect, under
conditions on the state and the operands alone: completionRx, targetErrorMessage, trackerEntryAvailable, trackerTimeout, quarantineEnd. -/
def Obligations.CompletionsAndErrors : Prop :=
  Claims.completionUnexpected ∧ Claims.completionRx ∧ Claims.completionLate ∧ Claims.targetErrorQueued ∧ Claims.targetErrorMessage ∧
  Claims.targetErrorForwarded ∧ Claims.trackerEntryAvailable ∧ Claims.trackerTimeout ∧ Claims.trackerTimeoutNone ∧ Claims.quarantineEnd

/-- Packets that arrive over the fabric, and side-band items.

Completion: for each of these commands a clause here concludes that `exec` answers `next`, with the command's own effect, under
conditions on the state and the operands alone: fabricPacketRx, sidebandItemRx. -/
def Obligations.FabricPackets : Prop :=
  Claims.fabricPacketRx ∧ Claims.fabricPacketTransit ∧ Claims.fabricGroupUnreach ∧ Claims.itemReserved ∧ Claims.sidebandItemRx ∧
  Claims.sidebandPrivileged ∧ Claims.sidebandReset

/-- The egress: selection, reading, credits, policers and starvation.

Completion: for each of these commands a clause here concludes that `exec` answers `next`, with the command's own effect, under
conditions on the state and the operands alone: egressSelect, egressReadDone, creditGrant, policerHoldRelease, starveGuardExpiry. -/
def Obligations.EgressScheduling : Prop :=
  Claims.egressSelect ∧ Claims.egressPoisoned ∧ Claims.egressIdle ∧ Claims.egressReadDone ∧ Claims.creditWithheld ∧ Claims.creditGrant ∧
  Claims.policerMeter ∧ Claims.policerHoldRelease ∧ Claims.policerHoldRed ∧ Claims.starveGuardExpiry ∧ Claims.creditAsked

/-- Multicast copies, recharging, bank rotation, scrubbing, and link errors.

Completion: for each of these commands a clause here concludes that `exec` answers `next`, with the command's own effect, under
conditions on the state and the operands alone: mcStrikeSweep, mcResidueTimeout, mcRecharge, bankRotationStep, bankDrainTimeout,
bankMigrationDone, bankTestDone, wfnHoldoffExpiry, pcieLinkError, pcieRecoveryEntry, backgroundScrub. -/
def Obligations.ChurnUpkeep : Prop :=
  Claims.mcStrikeSweep ∧ Claims.mcResidueTimeout ∧ Claims.mcRecharge ∧ Claims.bankRotationStep ∧ Claims.rotates ∧
  Claims.bankDrainTimeout ∧ Claims.bankMigrationDone ∧ Claims.bankTestDone ∧ Claims.backgroundScrub ∧ Claims.pcieLinkError ∧
  Claims.pcieLinkFec ∧ Claims.pcieRecoveryEntry ∧ Claims.wfnHoldoffExpiry

/-- KFL flits: received, refused, acknowledged, sent and replayed.

Completion: for each of these commands a clause here concludes that `exec` answers `next`, with the command's own effect, under
conditions on the state and the operands alone: kflFlitRx, kflFlitTx, replayTimerExpiry, creditTimerExpiry, recoveryTimeout. -/
def Obligations.KflFlits : Prop :=
  Claims.kflFlitBad ∧ Claims.kflFlitRx ∧ Claims.kflAck ∧ Claims.kflFlitTx ∧ Claims.kflFlitWakes ∧ Claims.replayTimerExpiry ∧
  Claims.replayGivesUp ∧ Claims.creditTimerExpiry ∧ Claims.recoveryTimeout ∧ Claims.kflFrameRx ∧ Claims.kflFlitBroken

/-- KFL training, lane markers, polarity, recovery, link down and draining.

Completion: for each of these commands a clause here concludes that `exec` answers `next`, with the command's own effect, under
conditions on the state and the operands alone: laneMarkerRx, ktsBlockRx, trainingTimeout, trainingRetry, linkDown, orderlyDrainTimeout. -/
def Obligations.KflTraining : Prop :=
  Claims.ktsBlockRx ∧ Claims.ktsPolarity ∧ Claims.ktsRecovers ∧ Claims.trainingTimeout ∧ Claims.trainingRetry ∧ Claims.linkDown ∧
  Claims.orderlyDrainTimeout ∧ Claims.kflBreaks ∧ Claims.laneMarkerRx ∧ Claims.laneMarkerBad ∧ Claims.laneMarkerLost

/-- KFL width, low power and time requests.

Completion: for each of these commands a clause here concludes that `exec` answers `next`, with the command's own effect, under
conditions on the state and the operands alone: shedReq, shedAck, restoreReq, restoreAck, shedAckTimeout, lpReq, lpAck, kflIdleTimer,
timeReq, timeResp, timeReqInterval. -/
def Obligations.KflWidthAndTime : Prop :=
  Claims.shedReq ∧ Claims.shedReqRefused ∧ Claims.shedAck ∧ Claims.restoreReq ∧ Claims.restoreAck ∧ Claims.shedAckTimeout ∧
  Claims.lpReq ∧ Claims.lpAck ∧ Claims.kflIdleTimer ∧ Claims.timeReq ∧ Claims.timeResp ∧ Claims.timeReqInterval

/-- HELLO, claims, heartbeats, joining and topology.

Completion: for each of these commands a clause here concludes that `exec` answers `next`, with the command's own effect, under
conditions on the state and the operands alone: hello, leadClaim, heartbeat, joinReq, joinReply, topoReport, settleExpiry,
heartbeatTimer, heartbeatLoss, refusedRetry. -/
def Obligations.FabricMembership : Prop :=
  Claims.hello ∧ Claims.leadClaim ∧ Claims.heartbeatOld ∧ Claims.heartbeat ∧ Claims.joinDuplicate ∧ Claims.joinReq ∧ Claims.joinRefused ∧
  Claims.joinReply ∧ Claims.topoReport ∧ Claims.topoForwarded ∧ Claims.settleExpiry ∧ Claims.heartbeatTimer ∧ Claims.heartbeatLoss ∧
  Claims.refusedRetry

/-- Flows between members and the resequencing of sprayed packets.

Completion: for each of these commands a clause here concludes that `exec` answers `next`, with the command's own effect, under
conditions on the state and the operands alone: flowGrant, flowDeny, flowAck, flowClose, flowRetryExpiry, flowIdleExpiry,
flowAckDeadline, reseqHoleTimeout, reseqSkewExpiry. -/
def Obligations.FabricFlows : Prop :=
  Claims.flowGrant ∧ Claims.flowGrantGone ∧ Claims.flowDeny ∧ Claims.flowAck ∧ Claims.flowClose ∧ Claims.flowRetryExpiry ∧
  Claims.flowIdleExpiry ∧ Claims.flowAckDeadline ∧ Claims.reseqHoleTimeout ∧ Claims.reseqSkewExpiry

/-- Whey frozen notices, access notices, and what is held for an unreachable member.

Completion: for each of these commands a clause here concludes that `exec` answers `next`, with the command's own effect, under
conditions on the state and the operands alone: wfn, wfnFwd, acuNotice, unreachHoldExpiry, pinHoldRelease. -/
def Obligations.FabricNotices : Prop :=
  Claims.wfn ∧ Claims.wfnFieldsKept ∧ Claims.wfnFwd ∧ Claims.acuNotice ∧ Claims.wheyUnheard ∧ Claims.unreachHoldExpiry ∧
  Claims.pinHoldRelease ∧ Claims.wfnDeviceEnd ∧ Claims.wfnUndelivered

/-- A commit's validation, the swap of generations, the shadow copy and quiescence.

Completion: for each of these commands a clause here concludes that `exec` answers `next`, with the command's own effect, under
conditions on the state and the operands alone: sessionTimeout, commitValidated, shadowCopyDone, quiesceDone, quiesceLimit. -/
def Obligations.GenerationSwap : Prop :=
  Claims.sessionTimeout ∧ Claims.sessionCommitting ∧ Claims.commitValidated ∧ Claims.commitRejected ∧ Claims.commitBusy ∧
  Claims.swapExchanges ∧ Claims.shadowCopyDone ∧ Claims.quiesceDone ∧ Claims.quiesceWaits ∧ Claims.quiesceLimit

/-- The data mover's queues and descriptors.

Completion: for each of these commands a clause here concludes that `exec` answers `next`, with the command's own effect, under
conditions on the state and the operands alone: qDescTailWrite, qEnable, qDisable, qCplHeadWrite, descFetch, descExecDone,
msixCoalesceTimeout. -/
def Obligations.DataMover : Prop :=
  Claims.qDescTailWrite ∧ Claims.qCplHeadWrite ∧ Claims.qEnable ∧ Claims.qEnableBad ∧ Claims.qDisable ∧ Claims.descFetch ∧
  Claims.descFetchIdle ∧ Claims.descExecDone ∧ Claims.descCloses ∧ Claims.msixCoalesceTimeout ∧ Claims.descFetched

/-- Trace contexts, their swaps and write-backs.

Completion: for each of these commands a clause here concludes that `exec` answers `next`, with the command's own effect, under
conditions on the state and the operands alone: tsEnable, tsDisable, tsSwap, traceLineWriteback, traceSwapDone. -/
def Obligations.Tracing : Prop :=
  Claims.tsEnable ∧ Claims.tsDisable ∧ Claims.tsSwap ∧ Claims.traceLineWritten ∧ Claims.traceLineFailed ∧ Claims.traceLineKept ∧
  Claims.traceSwapDone ∧ Claims.traceLineWriteback ∧ Claims.traceSwapFailed

/-- Device resets, rails, auxiliary power, thermal trip and boot.

Completion: for each of these commands a clause here concludes that `exec` answers `next`, with the command's own effect, under
conditions on the state and the operands alone: perstNAssert, perstNRelease, vddAuxApplied, vddAuxLost, railDrop, railsGood,
thermalTrip, bootImageCheck, bootFirmwareReady, railLeavesGood. -/
def Obligations.ResetsAndBoot : Prop :=
  Claims.perstNAssert ∧ Claims.resetLeaves ∧ Claims.perstNRelease ∧ Claims.railsGood ∧ Claims.vddAuxApplied ∧ Claims.vddAuxLost ∧
  Claims.railDrop ∧ Claims.railLeavesGood ∧ Claims.thermalTrip ∧ Claims.bootImageCheck ∧ Claims.bootFails ∧ Claims.bootFirmwareHold ∧
  Claims.bootFirmwareReady ∧ Claims.bootBanks

/-- Watchdogs, the die temperature regions, and the end of a self-test.

Completion: for each of these commands a clause here concludes that `exec` answers `next`, with the command's own effect, under
conditions on the state and the operands alone: watchdogFire, regionTempSample, selfTestDone. -/
def Obligations.WatchdogsAndHeat : Prop :=
  Claims.watchdogFatal ∧ Claims.watchdogMalacel ∧ Claims.watchdogEngine ∧ Claims.watchdogCounted ∧ Claims.regionCool ∧ Claims.regionHot ∧
  Claims.selfTestDone

/-- Entering and leaving DROWSE, the core voltage and supply sag.

Completion: for each of these commands a clause here concludes that `exec` answers `next`, with the command's own effect, under
conditions on the state and the operands alone: drowseAutoIdle, drowseEntryWaitEnd, drowseWakeSource, drowseWakeTimer, avsAck,
avsAckTimeout, vpolInterval, pmbusPoll, sagStart, sagClearExpiry. -/
def Obligations.DrowseAndVoltage : Prop :=
  Claims.drowseAutoIdle ∧ Claims.drowseWaitRefused ∧ Claims.drowseAccepted ∧ Claims.drowseWakeSource ∧ Claims.drowseWakeMasked ∧
  Claims.drowseWakeTimer ∧ Claims.avsAckDrowse ∧ Claims.avsAckWake ∧ Claims.avsAckSds ∧ Claims.avsTimeoutPolicy ∧
  Claims.avsTimeoutDrowse ∧ Claims.vpolInterval ∧ Claims.pmbusPoll ∧ Claims.sagStart ∧ Claims.sagClear

/-- The 1PPS input, the core delay monitors and the clock crossings.

Completion: for each of these commands a clause here concludes that `exec` answers `next`, with the command's own effect, under
conditions on the state and the operands alone: ppsEdge, ppsLost, coreDelayUpdate, valueTransfer, eventTransfer, queueTransfer,
xdResync. -/
def Obligations.TimeAndCrossings : Prop :=
  Claims.ppsEdgeFree ∧ Claims.ppsEdgeCorrects ∧ Claims.ppsLost ∧ Claims.coreDelay ∧ Claims.largestBounds ∧ Claims.valueTransfer ∧
  Claims.valueSuperseded ∧ Claims.eventTransfer ∧ Claims.eventOverflow ∧ Claims.queueTransfer ∧ Claims.xdResyncDest ∧
  Claims.xdResyncSource ∧ Claims.timebaseTransfer

/-- A slot's presence, debounce, fault input and current sense.

Completion: for each of these commands a clause here concludes that `exec` answers `next`, with the command's own effect, under
conditions on the state and the operands alone: presenceChange, debounceExpiry, faultInAssert, senseFrameRx, faultInDeassert. -/
def Obligations.SlotSeating : Prop :=
  Claims.presenceSeats ∧ Claims.presenceRemoves ∧ Claims.debounceExpiry ∧ Claims.debounceEarly ∧ Claims.faultInAssert ∧
  Claims.faultInDeassert ∧ Claims.senseFrameBad ∧ Claims.senseLost ∧ Claims.senseFrameGood

/-- A guard's attempts, its faults and how it powers off.

Completion: for each of these commands a clause here concludes that `exec` answers `next`, with the command's own effect, under
conditions on the state and the operands alone: proofingTimeout, rampEnd, perstMsExpiry, retryTimerExpiry, poweroffGateDelay,
poweroffTimeout, slotRequestLapse, slotPowerReportTimer. -/
def Obligations.SlotPowering : Prop :=
  Claims.proofingTimeout ∧ Claims.rampLow ∧ Claims.rampOn ∧ Claims.perstMsExpiry ∧ Claims.retryTimerExpiry ∧ Claims.poweroffGateDelay ∧
  Claims.poweroffTimeout ∧ Claims.slotRequestLapse ∧ Claims.slotPowerReport ∧ Claims.faultLocks

/-- Programming queued image bytes and finishing an image.

Completion: for each of these commands a clause here concludes that `exec` answers `next`, with the command's own effect, under
conditions on the state and the operands alone: fwFinishDone, flashProgramDone. -/
def Obligations.FirmwareUpdate : Prop :=
  Claims.flashProgramDone ∧ Claims.flashIdle ∧ Claims.fwFinishDone ∧ Claims.fwFinishIdle

/-- SPDM messages are answered in the order of Table 15.9.

Completion: for each of these commands a clause here concludes that `exec` answers `next`, with the command's own effect, under
conditions on the state and the operands alone: spdmGetVersion, spdmGetCapabilities, spdmNegotiateAlgorithms, spdmGetDigests,
spdmGetCertificate, spdmChallenge, spdmGetMeasurements, spdmRespondIfReady. -/
def Obligations.Attestation : Prop :=
  Claims.spdmAnswered ∧ Claims.spdmVersion13 ∧ Claims.spdmOtherVersion ∧ Claims.spdmOutOfOrder ∧ Claims.spdmHeld

/-- The instructions of the test access port.

Completion: for each of these commands a clause here concludes that `exec` answers `next`, with the command's own effect, under
conditions on the state and the operands alone: tapReset, tapBypass, tapIdcode, tapSamplePreload, tapExtest, tapClamp, tapHighz,
tapExtestPulse, tapExtestTrain. -/
def Obligations.TestAccessPort : Prop :=
  Claims.tapIdcode ∧ Claims.tapBypass ∧ Claims.tapSample ∧ Claims.tapDrives ∧ Claims.tapActsAsBypass

end
end

