-- ==== Sys2Proof/Laws/Whey.lean ====
section
/-! SUPPORT. Whey message bodies: the fields packed into a body are the fields read out of it (Tables 6.6 and 6.7). -/

namespace Sys2Proof.Laws

open Machine

/-- The little-endian bytes of a number give it back, modulo their width. -/
theorem leNat_leBytes (n v : Nat) : leNat (leBytes n v) = v % 256 ^ n := by
  induction n generalizing v with
  | zero => simp [leBytes, leNat, Nat.mod_one]
  | succ n ih =>
    simp only [leBytes, leNat, ih, BitVec.toNat_ofNat]
    rw [show (2 : Nat) ^ 8 = 256 from rfl, Nat.pow_succ, Nat.mul_comm (256 ^ n) 256, Nat.mod_mul]

/-- The number fields make, the first in the lowest bits. -/
def fieldsNat : List (Nat × Nat) → Nat
  | [] => 0
  | e :: l => e.1 % 2 ^ e.2 + 2 ^ e.2 * fieldsNat l

/-- The bits fields take. -/
def fieldsWidth : List (Nat × Nat) → Nat
  | [] => 0
  | e :: l => e.2 + fieldsWidth l

theorem fold_fields (l : List (Nat × Nat)) (v n : Nat) :
    l.foldl (fun (a : Nat × Nat) e => (a.1 + (e.1 % 2 ^ e.2) * 2 ^ a.2, a.2 + e.2)) (v, n) =
      (v + 2 ^ n * fieldsNat l, n + fieldsWidth l) := by
  induction l generalizing v n with
  | nil => simp [fieldsNat, fieldsWidth]
  | cons e l ih =>
    rw [List.foldl_cons, ih, fieldsNat, fieldsWidth]
    refine Prod.ext ?_ (by simp [Nat.add_assoc])
    simp only [Nat.pow_add, Nat.mul_add, Nat.mul_assoc, Nat.add_assoc]
    rw [Nat.mul_comm (2 ^ n) (e.1 % 2 ^ e.2)]

theorem fieldsNat_lt (l : List (Nat × Nat)) : fieldsNat l < 2 ^ fieldsWidth l := by
  induction l with
  | nil => simp [fieldsNat, fieldsWidth]
  | cons e l ih =>
    rw [fieldsNat, fieldsWidth, Nat.pow_add]
    have h1 : e.1 % 2 ^ e.2 < 2 ^ e.2 := Nat.mod_lt _ (Nat.two_pow_pos _)
    have h2 : 2 ^ e.2 * (fieldsNat l + 1) ≤ 2 ^ e.2 * 2 ^ fieldsWidth l := Nat.mul_le_mul_left _ ih
    rw [Nat.mul_succ] at h2
    omega

/-- The bytes of packed fields hold them all. -/
theorem leNat_packFields (l : List (Nat × Nat)) : leNat (packFields l) = fieldsNat l := by
  simp only [packFields, fold_fields, leNat_leBytes, Nat.zero_add, Nat.pow_zero, Nat.one_mul]
  refine Nat.mod_eq_of_lt (Nat.lt_of_lt_of_le (fieldsNat_lt l) ?_)
  rw [show (256 : Nat) = 2 ^ 8 from rfl, ← Nat.pow_mul]
  refine Nat.pow_le_pow_right (by decide) ?_
  unfold ceilDiv; omega

theorem sum_fold (l : List Nat) (a : Nat) : l.foldl (· + ·) a = a + l.foldl (· + ·) 0 := by
  induction l generalizing a with
  | nil => rfl
  | cons x l ih => rw [List.foldl_cons, List.foldl_cons, ih, ih (0 + x)]; omega

theorem bits_fields (l : List (Nat × Nat)) (i : Nat) (h : i < l.length) :
    bits (fieldsNat l) (((l.map (·.2)).take i).foldl (· + ·) 0) ((l.map (·.2)).getD i 0) = l[i].1 % 2 ^ l[i].2 := by
  induction l generalizing i with
  | nil => simp at h
  | cons e l ih =>
    cases i with
    | zero => simp [bits, fieldsNat, Nat.add_mul_mod_self_left]
    | succ i =>
      have h' : i < l.length := by simpa using h
      simp only [List.map_cons, List.take_succ_cons, List.foldl_cons, List.getD_cons_succ, List.getElem_cons_succ]
      rw [sum_fold, ← ih i h', Nat.zero_add, fieldsNat]
      simp only [bits, Nat.pow_add, ← Nat.div_div_eq_div_mul]
      rw [Nat.add_mul_div_left _ _ (Nat.two_pow_pos _), Nat.div_eq_of_lt (Nat.mod_lt _ (Nat.two_pow_pos _)), Nat.zero_add]

/-- A field of a packed body, read by the widths it was packed with. -/
theorem packed_packFields (l : List (Nat × Nat)) (i : Nat) (h : i < l.length) (hv : l[i].1 < 2 ^ l[i].2) :
    packed (packFields l) (l.map (·.2)) i = l[i].1 := by
  rw [packed, leNat_packFields, bits_fields l i h, Nat.mod_eq_of_lt hv]

end Sys2Proof.Laws
end

