-- ==== Sys2Proof/Laws/Bits.lean ====
section
/-! SUPPORT. Bytes and bits: numbers in a body of bytes, and fields of a word. -/

namespace Sys2Proof.Laws

open Machine

@[simp] theorem leBytes_length (n v : Nat) : (leBytes n v).length = n := by
  induction n generalizing v with
  | zero => rfl
  | succ n ih => simp [leBytes, ih]

/-- A number that stands in the first part of a body. -/
theorem bodyNat_left {a b : List Byte} {i n : Nat} (h : i + n ≤ a.length) : bodyNat (a ++ b) i n = bodyNat a i n := by
  unfold bodyNat
  rw [List.drop_append_of_le_length (by omega), List.take_append_of_le_length (by simp; omega)]

/-- A number that stands behind the first part of a body. -/
theorem bodyNat_right {a b : List Byte} {i n : Nat} (h : a.length ≤ i) : bodyNat (a ++ b) i n = bodyNat b (i - a.length) n := by
  unfold bodyNat
  rw [List.drop_append, List.drop_eq_nil_of_le h, List.nil_append]

/-- The number that fills a body. -/
theorem bodyNat_leBytes (n v : Nat) : bodyNat (leBytes n v) 0 n = v % 256 ^ n := by
  unfold bodyNat
  rw [List.drop_zero, List.take_of_length_le (by simp), leNat_leBytes]

/-- A number at the head of a body. -/
theorem bodyNat_head (n v : Nat) (b : List Byte) : bodyNat (leBytes n v ++ b) 0 n = v % 256 ^ n := by
  rw [bodyNat_left (by simp), bodyNat_leBytes]

/-- A number behind the head of a body. -/
theorem bodyNat_skip {k v i n : Nat} {b : List Byte} (h : k ≤ i) : bodyNat (leBytes k v ++ b) i n = bodyNat b (i - k) n := by
  rw [bodyNat_right (by simpa using h), leBytes_length]

/-- A word cut at a field: what stands above it, in it and below it. -/
theorem word_parts (v lo w : Nat) : v = v / 2 ^ (lo + w) * 2 ^ (lo + w) + bits v lo w * 2 ^ lo + v % 2 ^ lo := by
  have h1 : v / 2 ^ (lo + w) = v / 2 ^ lo / 2 ^ w := by rw [Nat.pow_add, Nat.div_div_eq_div_mul]
  have h2 := Nat.div_add_mod (v / 2 ^ lo) (2 ^ w)
  have h3 := Nat.div_add_mod v (2 ^ lo)
  rw [h1]
  unfold bits
  rw [Nat.pow_add, Nat.mul_comm (2 ^ lo) (2 ^ w), ← Nat.mul_assoc, ← Nat.add_mul, Nat.mul_comm _ (2 ^ w), h2, Nat.mul_comm _ (2 ^ lo), h3]

/-- A word with a field set, by its parts. -/
theorem setBits_parts (v lo w x : Nat) :
    setBits v lo w x = v / 2 ^ (lo + w) * 2 ^ (lo + w) + (x % 2 ^ w) * 2 ^ lo + v % 2 ^ lo := by
  have h := word_parts v lo w
  unfold setBits
  omega

theorem parts_div (a c lo : Nat) (h : c < 2 ^ lo) : (a * 2 ^ lo + c) / 2 ^ lo = a := by
  rw [Nat.mul_comm, Nat.mul_add_div (Nat.two_pow_pos _), Nat.div_eq_of_lt h, Nat.add_zero]

/-- The field that was set. -/
theorem bits_setBits_same (v lo w x : Nat) : bits (setBits v lo w x) lo w = x % 2 ^ w := by
  rw [setBits_parts]
  unfold bits
  rw [Nat.pow_add, Nat.mul_comm (2 ^ lo) (2 ^ w), ← Nat.mul_assoc, ← Nat.add_mul, parts_div _ _ _ (Nat.mod_lt _ (Nat.two_pow_pos _))]
  rw [Nat.mul_comm, Nat.mul_add_mod, Nat.mod_mod]

/-- A word with a field set fits where the word did. -/
theorem setBits_lt {v lo w x n : Nat} (h : v < 2 ^ n) (hn : lo + w ≤ n) : setBits v lo w x < 2 ^ n := by
  have h1 := setBits_parts v lo w x
  have h2 : v / 2 ^ (lo + w) < 2 ^ (n - (lo + w)) := by
    rw [Nat.div_lt_iff_lt_mul (Nat.two_pow_pos _), ← Nat.pow_add, Nat.sub_add_cancel hn]; exact h
  have h3 : (x % 2 ^ w) * 2 ^ lo + v % 2 ^ lo < 2 ^ (lo + w) := by
    have a : x % 2 ^ w + 1 ≤ 2 ^ w := Nat.mod_lt _ (Nat.two_pow_pos _)
    have b : v % 2 ^ lo < 2 ^ lo := Nat.mod_lt _ (Nat.two_pow_pos _)
    have c := Nat.mul_le_mul_right (2 ^ lo) a
    rw [Nat.succ_mul] at c
    rw [Nat.pow_add, Nat.mul_comm (2 ^ lo)]
    omega
  have h4 : (v / 2 ^ (lo + w) + 1) * 2 ^ (lo + w) ≤ 2 ^ (n - (lo + w)) * 2 ^ (lo + w) := Nat.mul_le_mul_right _ h2
  rw [← Nat.pow_add, Nat.sub_add_cancel hn, Nat.succ_mul] at h4
  omega

/-- A field beside the one that was set. -/
theorem bits_setBits_other {v lo w x lo2 w2 : Nat} (h : lo2 + w2 ≤ lo ∨ lo + w ≤ lo2) :
    bits (setBits v lo w x) lo2 w2 = bits v lo2 w2 := by
  rcases h with h | h
  · have key : ∀ y, bits (v / 2 ^ (lo + w) * 2 ^ (lo + w) + y * 2 ^ lo + v % 2 ^ lo) lo2 w2 = bits (v % 2 ^ lo) lo2 w2 := by
      intro y
      have e : v / 2 ^ (lo + w) * 2 ^ (lo + w) + y * 2 ^ lo = 2 ^ lo2 * (2 ^ w2 * (2 ^ (lo - lo2 - w2) * (v / 2 ^ (lo + w) * 2 ^ w + y))) := by
        rw [← Nat.mul_assoc, ← Nat.mul_assoc, ← Nat.pow_add, ← Nat.pow_add, show lo2 + w2 + (lo - lo2 - w2) = lo by omega, Nat.mul_add,
          Nat.pow_add, Nat.mul_comm (2 ^ lo) y, Nat.mul_comm (2 ^ lo) (2 ^ w), ← Nat.mul_assoc, Nat.mul_comm (2 ^ lo)]
      unfold bits
      rw [e, Nat.mul_add_div (Nat.two_pow_pos _), Nat.mul_add_mod]
    rw [setBits_parts, key]
    conv => rhs; rw [word_parts v lo w]
    rw [key]
  · have key : ∀ y, y < 2 ^ w → (v / 2 ^ (lo + w) * 2 ^ (lo + w) + y * 2 ^ lo + v % 2 ^ lo) / 2 ^ lo2 = v / 2 ^ (lo + w) / 2 ^ (lo2 - (lo + w)) := by
      intro y hy
      have hlt : y * 2 ^ lo + v % 2 ^ lo < 2 ^ (lo + w) := by
        have b : v % 2 ^ lo < 2 ^ lo := Nat.mod_lt _ (Nat.two_pow_pos _)
        have c := Nat.mul_le_mul_right (2 ^ lo) (show y + 1 ≤ 2 ^ w from hy)
        rw [Nat.succ_mul] at c
        rw [Nat.pow_add, Nat.mul_comm (2 ^ lo)]
        omega
      rw [show (2 : Nat) ^ lo2 = 2 ^ (lo + w) * 2 ^ (lo2 - (lo + w)) by rw [← Nat.pow_add]; congr 1; omega, ← Nat.div_div_eq_div_mul, Nat.add_assoc,
        parts_div _ _ _ hlt]
    unfold bits
    rw [setBits_parts, key _ (Nat.mod_lt _ (Nat.two_pow_pos _))]
    conv => rhs; rw [word_parts v lo w]
    rw [key]
    exact Nat.mod_lt _ (Nat.two_pow_pos _)

end Sys2Proof.Laws
end

