-- ==== Sys2Proof/Laws/Churn.lean ====
section
/-! SUPPORT. Words of the Churn: where a word is placed, and what a bank's migration leaves (R68, R88). -/

namespace Sys2Proof.Laws

open Machine

/-- A free word stands in a bank of those asked for; where none is free the place is in bank 0. -/
theorem pickWord_bank {bs : List Nat} {taken mates : List (Nat × Nat)} {n b : Nat} (hb : b ∉ bs) (h0 : b ≠ 0) :
    (pickWord bs taken mates n).1 ≠ b := by
  unfold pickWord
  simp only
  cases h : List.findSome? _ (List.range bs.length) with
  | none => exact h0.symm
  | some w =>
    obtain ⟨i, hi, h1⟩ := List.exists_of_findSome?_eq_some h
    have hl : (n + i) % bs.length < bs.length := Nat.mod_lt _ (by have := List.mem_range.mp hi; omega)
    split at h1
    · cases h1
    · obtain ⟨j, _, h2⟩ := List.exists_of_findSome?_eq_some h1
      split at h2
      · cases h2
      · cases h2
        rintro rfl
        exact hb (by simp [List.getD, List.getElem?_eq_getElem hl])

/-- Moving the words of a packet out of a bank leaves none of them in it. -/
theorem moveWords_bank {bs : List Nat} {n b : Nat} (hb : b ∉ bs) (h0 : b ≠ 0) (l taken done : List (Nat × Nat))
    (hd : ∀ w ∈ done, w.1 ≠ b) : ∀ w ∈ moveWords bs n b l taken done, w.1 ≠ b := by
  induction l generalizing taken done with
  | nil => intro w hw; exact hd w (List.mem_reverse.mp hw)
  | cons x l ih =>
    unfold moveWords
    split
    · exact ih _ _ (List.forall_mem_cons.mpr ⟨pickWord_bank hb h0, hd⟩)
    · exact ih _ _ (List.forall_mem_cons.mpr ⟨‹_›, hd⟩)

/-- The packets a bank's migration changes, one after another. -/
theorem migrate_words {b : Nat} (h0 : b ≠ 0) (l : List Pkt) (s : State) (hb : b ∉ s.inService)
    (h : ∀ k ∈ s.churn.pkts, (∃ w ∈ k.words, w.1 = b) → k.id ∈ l.map (·.id)) :
    ∀ k ∈ (s.each l (fun s k => s.onPkt k.id (fun k => { k with
      words := moveWords s.inService s.free b k.words s.taken []
      old := if k.readers.isEmpty then k.old else k.old ++ k.words.filter (·.1 == b)
      oldReaders := if k.readers.isEmpty then k.oldReaders else k.readers }))).churn.pkts, ∀ w ∈ k.words, w.1 ≠ b := by
  induction l generalizing s with
  | nil => intro k hk w hw e; exact absurd (h k hk ⟨w, hw, e⟩) List.not_mem_nil
  | cons x l ih =>
    refine ih (s.onPkt x.id _) hb ?_
    intro k hk hw
    obtain ⟨k0, hk0, rfl⟩ := List.mem_map.mp hk
    split at hw
    · obtain ⟨w, hw, e⟩ := hw
      exact absurd e (moveWords_bank hb h0 _ _ [] (fun _ h => absurd h List.not_mem_nil) w hw)
    · rename_i hne
      rw [if_neg hne]
      exact (List.mem_cons.mp (h k0 hk0 hw)).resolve_left hne

/-- After migration a bank out of service holds no live word. -/
theorem migrate_empties {s : State} {b : Nat} (hb : b ∉ s.inService) (h0 : b ≠ 0) : (s.migrate b).wordsLive b = 0 := by
  have hall : ∀ k ∈ (s.migrate b).churn.pkts, ∀ w ∈ k.words, w.1 ≠ b := by
    refine migrate_words h0 (s.churn.pkts.filter (fun (k : Pkt) => k.words.any (·.1 == b))) s hb ?_
    rintro k hk ⟨w, hw, e⟩
    exact List.mem_map.mpr ⟨k, List.mem_filter.mpr ⟨hk, List.any_eq_true.mpr ⟨w, hw, by simp [e]⟩⟩, rfl⟩
  unfold State.wordsLive
  generalize (s.migrate b).churn.pkts = l at hall
  have : ∀ n ∈ l.map (fun (k : Pkt) => (k.words.filter (·.1 == b)).length), n = 0 := by
    intro n hn
    obtain ⟨k, hk, rfl⟩ := List.mem_map.mp hn
    rw [List.length_eq_zero_iff, List.filter_eq_nil_iff]
    intro w hw; simpa using hall k hk w hw
  generalize l.map _ = m at this
  induction m with
  | nil => rfl
  | cons x m ih =>
    rw [List.foldl_cons, this x (List.mem_cons_self ..)]
    exact ih fun n hn => this n (List.mem_cons_of_mem _ hn)

end Sys2Proof.Laws
end

