-- ==== Sys2Proof/Laws/Corber.lean ====
section
/-! SUPPORT. What a Corber request comes to that is judged at once (R295 to R307). -/

namespace Sys2Proof.Laws

open Machine

/-- A request that is ready is started, and then what waited for it. -/
theorem corber_ready {s : State} {o : OpInfo} {q : CrbReq} (hop : opOf o.code = some o) (h : s.ready o q = true) :
    s.corber o q = ((s.track q.src).start o q).pump := by
  simp only [State.ready, Bool.and_eq_true, bne_iff_ne, ne_eq, Option.isNone_iff_eq_none, Bool.not_eq_true'] at h
  obtain ⟨⟨⟨⟨⟨⟨⟨⟨h1, h2⟩, h3⟩, h4⟩, h5⟩, h6⟩, h7⟩, _⟩, _⟩ := h
  simp [State.corber, State.arrive, State.serve, State.whenb, h1, h2, h3, h4, h5, h6, h7, hop]

/-- A ready request is judged by its opcode. -/
theorem judge_ready {s : State} {o : OpInfo} {q : CrbReq} (h : s.ready o q = true) :
    (s.judged q).judge o q = o.run q (s.judged q) := by
  simp only [State.ready, Bool.and_eq_true, Option.isNone_iff_eq_none] at h
  obtain ⟨⟨_, h1⟩, h2⟩ := h
  simp [State.judge, h1, h2]

/-- What a ready request comes to, by the answer of its opcode. -/
theorem corber_run {s : State} {o : OpInfo} {q : CrbReq} {a : Ans} (hop : opOf o.code = some o)
    (h : s.ready o q = true) (hr : o.run q (s.judged q) = a) :
    s.corber o q = State.pump (
      if a.status = stAccepted then
        a.after.getD id ((a.s.onCrb (fun y => { y with outst := y.outst ++ [{ opcode := o.code, req := q, accepted := true }] })).replyNow
          o.code q false stAccepted (acceptedTime o.code) a.data)
      else a.after.getD id ((a.s.whenb o.change (fun s => s.record o.code q a.status a.detail)).replyNow o.code q false a.status a.detail
        a.data)) := by
  rw [corber_ready hop h, ← hr, ← judge_ready h]
  rfl

/-- A ready request whose opcode answers OK. -/
theorem corber_ok {s t : State} {o : OpInfo} {q : CrbReq} {data : List Byte} (hop : opOf o.code = some o)
    (h : s.ready o q = true) (hr : o.run q (s.judged q) = ok t data) : s.corber o q = t.answered o q data := by
  rw [corber_run hop h hr]
  simp [ok, stAccepted, State.answered, stOk]

/-- A ready request whose opcode accepts it. -/
theorem corber_accepted {s t : State} {o : OpInfo} {q : CrbReq} {f : State → State} (hop : opOf o.code = some o)
    (h : s.ready o q = true) (hr : o.run q (s.judged q) = started t f) : s.corber o q = t.accepted o q f := by
  rw [corber_run hop h hr]
  simp [started, State.accepted]

/-- A ready request whose opcode answers OK and goes on after its reply. -/
theorem corber_then {s t : State} {o : OpInfo} {q : CrbReq} {f : State → State} (hop : opOf o.code = some o)
    (h : s.ready o q = true) (hr : o.run q (s.judged q) = { ok t with after := some f }) : s.corber o q = t.answeredThen o q f := by
  rw [corber_run hop h hr]
  simp [ok, stAccepted, State.answeredThen, stOk]

/-- A sound setting takes effect. -/
theorem set_sound {s : State} {q : CrbReq} {g : CfgGroup} {l : List (RegDesc × Nat)} (h : q.sound s g l = true) :
    q.set s g l = ok (s.takeEffect (q.asked s l) g) := by
  simp only [CrbReq.sound, Bool.and_eq_true, Option.isNone_iff_eq_none, decide_eq_true_eq, ne_eq] at h
  obtain ⟨⟨⟨h1, h2⟩, h3⟩, h4⟩ := h
  simp only [CrbReq.asked] at h2 h3 h4
  simp only [CrbReq.set, State.setCfg, State.change, CrbReq.asked, h1, h2, h3, h4, if_false]

end Sys2Proof.Laws
end

