-- ==== Sys2Proof/Laws/State.lean ====
section
/-! SUPPORT. What each update of the state leaves as it was, one lemma for each field and update, so that no proof unfolds a record. -/

namespace Sys2Proof.Machine

/-! ## onErr -/

@[simp] theorem State.onErr_regs (s : State) (f : ErrState → ErrState) : (s.onErr f).regs = s.regs := rfl
@[simp] theorem State.onErr_latches (s : State) (f : ErrState → ErrState) : (s.onErr f).latches = s.latches := rfl
@[simp] theorem State.onErr_mode (s : State) (f : ErrState → ErrState) : (s.onErr f).mode = s.mode := rfl
@[simp] theorem State.onErr_transition (s : State) (f : ErrState → ErrState) : (s.onErr f).transition = s.transition := rfl
@[simp] theorem State.onErr_now (s : State) (f : ErrState → ErrState) : (s.onErr f).now = s.now := rfl
@[simp] theorem State.onErr_tb (s : State) (f : ErrState → ErrState) : (s.onErr f).tb = s.tb := rfl
@[simp] theorem State.onErr_timers (s : State) (f : ErrState → ErrState) : (s.onErr f).timers = s.timers := rfl
@[simp] theorem State.onErr_drawn (s : State) (f : ErrState → ErrState) : (s.onErr f).drawn = s.drawn := rfl
@[simp] theorem State.onErr_err (s : State) (f : ErrState → ErrState) : (s.onErr f).err = f s.err := rfl
@[simp] theorem State.onErr_bnd (s : State) (f : ErrState → ErrState) : (s.onErr f).bnd = s.bnd := rfl
@[simp] theorem State.onErr_churn (s : State) (f : ErrState → ErrState) : (s.onErr f).churn = s.churn := rfl
@[simp] theorem State.onErr_qos (s : State) (f : ErrState → ErrState) : (s.onErr f).qos = s.qos := rfl
@[simp] theorem State.onErr_fab (s : State) (f : ErrState → ErrState) : (s.onErr f).fab = s.fab := rfl
@[simp] theorem State.onErr_kfl (s : State) (f : ErrState → ErrState) : (s.onErr f).kfl = s.kfl := rfl
@[simp] theorem State.onErr_crb (s : State) (f : ErrState → ErrState) : (s.onErr f).crb = s.crb := rfl
@[simp] theorem State.onErr_svc (s : State) (f : ErrState → ErrState) : (s.onErr f).svc = s.svc := rfl
@[simp] theorem State.onErr_pwr (s : State) (f : ErrState → ErrState) : (s.onErr f).pwr = s.pwr := rfl
@[simp] theorem State.onErr_spg (s : State) (f : ErrState → ErrState) : (s.onErr f).spg = s.spg := rfl
@[simp] theorem State.onErr_sec (s : State) (f : ErrState → ErrState) : (s.onErr f).sec = s.sec := rfl
@[simp] theorem State.onErr_pins (s : State) (f : ErrState → ErrState) : (s.onErr f).pins = s.pins := rfl
@[simp] theorem State.onErr_sent (s : State) (f : ErrState → ErrState) : (s.onErr f).sent = s.sent := rfl
@[simp] theorem State.onErr_pending (s : State) (f : ErrState → ErrState) : (s.onErr f).pending = s.pending := rfl

/-! ## onBnd -/

@[simp] theorem State.onBnd_regs (s : State) (f : BindState → BindState) : (s.onBnd f).regs = s.regs := rfl
@[simp] theorem State.onBnd_latches (s : State) (f : BindState → BindState) : (s.onBnd f).latches = s.latches := rfl
@[simp] theorem State.onBnd_mode (s : State) (f : BindState → BindState) : (s.onBnd f).mode = s.mode := rfl
@[simp] theorem State.onBnd_transition (s : State) (f : BindState → BindState) : (s.onBnd f).transition = s.transition := rfl
@[simp] theorem State.onBnd_now (s : State) (f : BindState → BindState) : (s.onBnd f).now = s.now := rfl
@[simp] theorem State.onBnd_tb (s : State) (f : BindState → BindState) : (s.onBnd f).tb = s.tb := rfl
@[simp] theorem State.onBnd_timers (s : State) (f : BindState → BindState) : (s.onBnd f).timers = s.timers := rfl
@[simp] theorem State.onBnd_drawn (s : State) (f : BindState → BindState) : (s.onBnd f).drawn = s.drawn := rfl
@[simp] theorem State.onBnd_err (s : State) (f : BindState → BindState) : (s.onBnd f).err = s.err := rfl
@[simp] theorem State.onBnd_bnd (s : State) (f : BindState → BindState) : (s.onBnd f).bnd = f s.bnd := rfl
@[simp] theorem State.onBnd_churn (s : State) (f : BindState → BindState) : (s.onBnd f).churn = s.churn := rfl
@[simp] theorem State.onBnd_qos (s : State) (f : BindState → BindState) : (s.onBnd f).qos = s.qos := rfl
@[simp] theorem State.onBnd_fab (s : State) (f : BindState → BindState) : (s.onBnd f).fab = s.fab := rfl
@[simp] theorem State.onBnd_kfl (s : State) (f : BindState → BindState) : (s.onBnd f).kfl = s.kfl := rfl
@[simp] theorem State.onBnd_crb (s : State) (f : BindState → BindState) : (s.onBnd f).crb = s.crb := rfl
@[simp] theorem State.onBnd_svc (s : State) (f : BindState → BindState) : (s.onBnd f).svc = s.svc := rfl
@[simp] theorem State.onBnd_pwr (s : State) (f : BindState → BindState) : (s.onBnd f).pwr = s.pwr := rfl
@[simp] theorem State.onBnd_spg (s : State) (f : BindState → BindState) : (s.onBnd f).spg = s.spg := rfl
@[simp] theorem State.onBnd_sec (s : State) (f : BindState → BindState) : (s.onBnd f).sec = s.sec := rfl
@[simp] theorem State.onBnd_pins (s : State) (f : BindState → BindState) : (s.onBnd f).pins = s.pins := rfl
@[simp] theorem State.onBnd_sent (s : State) (f : BindState → BindState) : (s.onBnd f).sent = s.sent := rfl
@[simp] theorem State.onBnd_pending (s : State) (f : BindState → BindState) : (s.onBnd f).pending = s.pending := rfl

/-! ## onChurn -/

@[simp] theorem State.onChurn_regs (s : State) (f : ChurnState → ChurnState) : (s.onChurn f).regs = s.regs := rfl
@[simp] theorem State.onChurn_latches (s : State) (f : ChurnState → ChurnState) : (s.onChurn f).latches = s.latches := rfl
@[simp] theorem State.onChurn_mode (s : State) (f : ChurnState → ChurnState) : (s.onChurn f).mode = s.mode := rfl
@[simp] theorem State.onChurn_transition (s : State) (f : ChurnState → ChurnState) : (s.onChurn f).transition = s.transition := rfl
@[simp] theorem State.onChurn_now (s : State) (f : ChurnState → ChurnState) : (s.onChurn f).now = s.now := rfl
@[simp] theorem State.onChurn_tb (s : State) (f : ChurnState → ChurnState) : (s.onChurn f).tb = s.tb := rfl
@[simp] theorem State.onChurn_timers (s : State) (f : ChurnState → ChurnState) : (s.onChurn f).timers = s.timers := rfl
@[simp] theorem State.onChurn_drawn (s : State) (f : ChurnState → ChurnState) : (s.onChurn f).drawn = s.drawn := rfl
@[simp] theorem State.onChurn_err (s : State) (f : ChurnState → ChurnState) : (s.onChurn f).err = s.err := rfl
@[simp] theorem State.onChurn_bnd (s : State) (f : ChurnState → ChurnState) : (s.onChurn f).bnd = s.bnd := rfl
@[simp] theorem State.onChurn_churn (s : State) (f : ChurnState → ChurnState) : (s.onChurn f).churn = f s.churn := rfl
@[simp] theorem State.onChurn_qos (s : State) (f : ChurnState → ChurnState) : (s.onChurn f).qos = s.qos := rfl
@[simp] theorem State.onChurn_fab (s : State) (f : ChurnState → ChurnState) : (s.onChurn f).fab = s.fab := rfl
@[simp] theorem State.onChurn_kfl (s : State) (f : ChurnState → ChurnState) : (s.onChurn f).kfl = s.kfl := rfl
@[simp] theorem State.onChurn_crb (s : State) (f : ChurnState → ChurnState) : (s.onChurn f).crb = s.crb := rfl
@[simp] theorem State.onChurn_svc (s : State) (f : ChurnState → ChurnState) : (s.onChurn f).svc = s.svc := rfl
@[simp] theorem State.onChurn_pwr (s : State) (f : ChurnState → ChurnState) : (s.onChurn f).pwr = s.pwr := rfl
@[simp] theorem State.onChurn_spg (s : State) (f : ChurnState → ChurnState) : (s.onChurn f).spg = s.spg := rfl
@[simp] theorem State.onChurn_sec (s : State) (f : ChurnState → ChurnState) : (s.onChurn f).sec = s.sec := rfl
@[simp] theorem State.onChurn_pins (s : State) (f : ChurnState → ChurnState) : (s.onChurn f).pins = s.pins := rfl
@[simp] theorem State.onChurn_sent (s : State) (f : ChurnState → ChurnState) : (s.onChurn f).sent = s.sent := rfl
@[simp] theorem State.onChurn_pending (s : State) (f : ChurnState → ChurnState) : (s.onChurn f).pending = s.pending := rfl

/-! ## onQos -/

@[simp] theorem State.onQos_regs (s : State) (f : QosState → QosState) : (s.onQos f).regs = s.regs := rfl
@[simp] theorem State.onQos_latches (s : State) (f : QosState → QosState) : (s.onQos f).latches = s.latches := rfl
@[simp] theorem State.onQos_mode (s : State) (f : QosState → QosState) : (s.onQos f).mode = s.mode := rfl
@[simp] theorem State.onQos_transition (s : State) (f : QosState → QosState) : (s.onQos f).transition = s.transition := rfl
@[simp] theorem State.onQos_now (s : State) (f : QosState → QosState) : (s.onQos f).now = s.now := rfl
@[simp] theorem State.onQos_tb (s : State) (f : QosState → QosState) : (s.onQos f).tb = s.tb := rfl
@[simp] theorem State.onQos_timers (s : State) (f : QosState → QosState) : (s.onQos f).timers = s.timers := rfl
@[simp] theorem State.onQos_drawn (s : State) (f : QosState → QosState) : (s.onQos f).drawn = s.drawn := rfl
@[simp] theorem State.onQos_err (s : State) (f : QosState → QosState) : (s.onQos f).err = s.err := rfl
@[simp] theorem State.onQos_bnd (s : State) (f : QosState → QosState) : (s.onQos f).bnd = s.bnd := rfl
@[simp] theorem State.onQos_churn (s : State) (f : QosState → QosState) : (s.onQos f).churn = s.churn := rfl
@[simp] theorem State.onQos_qos (s : State) (f : QosState → QosState) : (s.onQos f).qos = f s.qos := rfl
@[simp] theorem State.onQos_fab (s : State) (f : QosState → QosState) : (s.onQos f).fab = s.fab := rfl
@[simp] theorem State.onQos_kfl (s : State) (f : QosState → QosState) : (s.onQos f).kfl = s.kfl := rfl
@[simp] theorem State.onQos_crb (s : State) (f : QosState → QosState) : (s.onQos f).crb = s.crb := rfl
@[simp] theorem State.onQos_svc (s : State) (f : QosState → QosState) : (s.onQos f).svc = s.svc := rfl
@[simp] theorem State.onQos_pwr (s : State) (f : QosState → QosState) : (s.onQos f).pwr = s.pwr := rfl
@[simp] theorem State.onQos_spg (s : State) (f : QosState → QosState) : (s.onQos f).spg = s.spg := rfl
@[simp] theorem State.onQos_sec (s : State) (f : QosState → QosState) : (s.onQos f).sec = s.sec := rfl
@[simp] theorem State.onQos_pins (s : State) (f : QosState → QosState) : (s.onQos f).pins = s.pins := rfl
@[simp] theorem State.onQos_sent (s : State) (f : QosState → QosState) : (s.onQos f).sent = s.sent := rfl
@[simp] theorem State.onQos_pending (s : State) (f : QosState → QosState) : (s.onQos f).pending = s.pending := rfl

/-! ## onFab -/

@[simp] theorem State.onFab_regs (s : State) (f : FabState → FabState) : (s.onFab f).regs = s.regs := rfl
@[simp] theorem State.onFab_latches (s : State) (f : FabState → FabState) : (s.onFab f).latches = s.latches := rfl
@[simp] theorem State.onFab_mode (s : State) (f : FabState → FabState) : (s.onFab f).mode = s.mode := rfl
@[simp] theorem State.onFab_transition (s : State) (f : FabState → FabState) : (s.onFab f).transition = s.transition := rfl
@[simp] theorem State.onFab_now (s : State) (f : FabState → FabState) : (s.onFab f).now = s.now := rfl
@[simp] theorem State.onFab_tb (s : State) (f : FabState → FabState) : (s.onFab f).tb = s.tb := rfl
@[simp] theorem State.onFab_timers (s : State) (f : FabState → FabState) : (s.onFab f).timers = s.timers := rfl
@[simp] theorem State.onFab_drawn (s : State) (f : FabState → FabState) : (s.onFab f).drawn = s.drawn := rfl
@[simp] theorem State.onFab_err (s : State) (f : FabState → FabState) : (s.onFab f).err = s.err := rfl
@[simp] theorem State.onFab_bnd (s : State) (f : FabState → FabState) : (s.onFab f).bnd = s.bnd := rfl
@[simp] theorem State.onFab_churn (s : State) (f : FabState → FabState) : (s.onFab f).churn = s.churn := rfl
@[simp] theorem State.onFab_qos (s : State) (f : FabState → FabState) : (s.onFab f).qos = s.qos := rfl
@[simp] theorem State.onFab_fab (s : State) (f : FabState → FabState) : (s.onFab f).fab = f s.fab := rfl
@[simp] theorem State.onFab_kfl (s : State) (f : FabState → FabState) : (s.onFab f).kfl = s.kfl := rfl
@[simp] theorem State.onFab_crb (s : State) (f : FabState → FabState) : (s.onFab f).crb = s.crb := rfl
@[simp] theorem State.onFab_svc (s : State) (f : FabState → FabState) : (s.onFab f).svc = s.svc := rfl
@[simp] theorem State.onFab_pwr (s : State) (f : FabState → FabState) : (s.onFab f).pwr = s.pwr := rfl
@[simp] theorem State.onFab_spg (s : State) (f : FabState → FabState) : (s.onFab f).spg = s.spg := rfl
@[simp] theorem State.onFab_sec (s : State) (f : FabState → FabState) : (s.onFab f).sec = s.sec := rfl
@[simp] theorem State.onFab_pins (s : State) (f : FabState → FabState) : (s.onFab f).pins = s.pins := rfl
@[simp] theorem State.onFab_sent (s : State) (f : FabState → FabState) : (s.onFab f).sent = s.sent := rfl
@[simp] theorem State.onFab_pending (s : State) (f : FabState → FabState) : (s.onFab f).pending = s.pending := rfl

/-! ## onKfl -/

@[simp] theorem State.onKfl_regs (s : State) (f : KflState → KflState) : (s.onKfl f).regs = s.regs := rfl
@[simp] theorem State.onKfl_latches (s : State) (f : KflState → KflState) : (s.onKfl f).latches = s.latches := rfl
@[simp] theorem State.onKfl_mode (s : State) (f : KflState → KflState) : (s.onKfl f).mode = s.mode := rfl
@[simp] theorem State.onKfl_transition (s : State) (f : KflState → KflState) : (s.onKfl f).transition = s.transition := rfl
@[simp] theorem State.onKfl_now (s : State) (f : KflState → KflState) : (s.onKfl f).now = s.now := rfl
@[simp] theorem State.onKfl_tb (s : State) (f : KflState → KflState) : (s.onKfl f).tb = s.tb := rfl
@[simp] theorem State.onKfl_timers (s : State) (f : KflState → KflState) : (s.onKfl f).timers = s.timers := rfl
@[simp] theorem State.onKfl_drawn (s : State) (f : KflState → KflState) : (s.onKfl f).drawn = s.drawn := rfl
@[simp] theorem State.onKfl_err (s : State) (f : KflState → KflState) : (s.onKfl f).err = s.err := rfl
@[simp] theorem State.onKfl_bnd (s : State) (f : KflState → KflState) : (s.onKfl f).bnd = s.bnd := rfl
@[simp] theorem State.onKfl_churn (s : State) (f : KflState → KflState) : (s.onKfl f).churn = s.churn := rfl
@[simp] theorem State.onKfl_qos (s : State) (f : KflState → KflState) : (s.onKfl f).qos = s.qos := rfl
@[simp] theorem State.onKfl_fab (s : State) (f : KflState → KflState) : (s.onKfl f).fab = s.fab := rfl
@[simp] theorem State.onKfl_kfl (s : State) (f : KflState → KflState) : (s.onKfl f).kfl = f s.kfl := rfl
@[simp] theorem State.onKfl_crb (s : State) (f : KflState → KflState) : (s.onKfl f).crb = s.crb := rfl
@[simp] theorem State.onKfl_svc (s : State) (f : KflState → KflState) : (s.onKfl f).svc = s.svc := rfl
@[simp] theorem State.onKfl_pwr (s : State) (f : KflState → KflState) : (s.onKfl f).pwr = s.pwr := rfl
@[simp] theorem State.onKfl_spg (s : State) (f : KflState → KflState) : (s.onKfl f).spg = s.spg := rfl
@[simp] theorem State.onKfl_sec (s : State) (f : KflState → KflState) : (s.onKfl f).sec = s.sec := rfl
@[simp] theorem State.onKfl_pins (s : State) (f : KflState → KflState) : (s.onKfl f).pins = s.pins := rfl
@[simp] theorem State.onKfl_sent (s : State) (f : KflState → KflState) : (s.onKfl f).sent = s.sent := rfl
@[simp] theorem State.onKfl_pending (s : State) (f : KflState → KflState) : (s.onKfl f).pending = s.pending := rfl

/-! ## onCrb -/

@[simp] theorem State.onCrb_regs (s : State) (f : CorberState → CorberState) : (s.onCrb f).regs = s.regs := rfl
@[simp] theorem State.onCrb_latches (s : State) (f : CorberState → CorberState) : (s.onCrb f).latches = s.latches := rfl
@[simp] theorem State.onCrb_mode (s : State) (f : CorberState → CorberState) : (s.onCrb f).mode = s.mode := rfl
@[simp] theorem State.onCrb_transition (s : State) (f : CorberState → CorberState) : (s.onCrb f).transition = s.transition := rfl
@[simp] theorem State.onCrb_now (s : State) (f : CorberState → CorberState) : (s.onCrb f).now = s.now := rfl
@[simp] theorem State.onCrb_tb (s : State) (f : CorberState → CorberState) : (s.onCrb f).tb = s.tb := rfl
@[simp] theorem State.onCrb_timers (s : State) (f : CorberState → CorberState) : (s.onCrb f).timers = s.timers := rfl
@[simp] theorem State.onCrb_drawn (s : State) (f : CorberState → CorberState) : (s.onCrb f).drawn = s.drawn := rfl
@[simp] theorem State.onCrb_err (s : State) (f : CorberState → CorberState) : (s.onCrb f).err = s.err := rfl
@[simp] theorem State.onCrb_bnd (s : State) (f : CorberState → CorberState) : (s.onCrb f).bnd = s.bnd := rfl
@[simp] theorem State.onCrb_churn (s : State) (f : CorberState → CorberState) : (s.onCrb f).churn = s.churn := rfl
@[simp] theorem State.onCrb_qos (s : State) (f : CorberState → CorberState) : (s.onCrb f).qos = s.qos := rfl
@[simp] theorem State.onCrb_fab (s : State) (f : CorberState → CorberState) : (s.onCrb f).fab = s.fab := rfl
@[simp] theorem State.onCrb_kfl (s : State) (f : CorberState → CorberState) : (s.onCrb f).kfl = s.kfl := rfl
@[simp] theorem State.onCrb_crb (s : State) (f : CorberState → CorberState) : (s.onCrb f).crb = f s.crb := rfl
@[simp] theorem State.onCrb_svc (s : State) (f : CorberState → CorberState) : (s.onCrb f).svc = s.svc := rfl
@[simp] theorem State.onCrb_pwr (s : State) (f : CorberState → CorberState) : (s.onCrb f).pwr = s.pwr := rfl
@[simp] theorem State.onCrb_spg (s : State) (f : CorberState → CorberState) : (s.onCrb f).spg = s.spg := rfl
@[simp] theorem State.onCrb_sec (s : State) (f : CorberState → CorberState) : (s.onCrb f).sec = s.sec := rfl
@[simp] theorem State.onCrb_pins (s : State) (f : CorberState → CorberState) : (s.onCrb f).pins = s.pins := rfl
@[simp] theorem State.onCrb_sent (s : State) (f : CorberState → CorberState) : (s.onCrb f).sent = s.sent := rfl
@[simp] theorem State.onCrb_pending (s : State) (f : CorberState → CorberState) : (s.onCrb f).pending = s.pending := rfl

/-! ## onSvc -/

@[simp] theorem State.onSvc_regs (s : State) (f : SvcState → SvcState) : (s.onSvc f).regs = s.regs := rfl
@[simp] theorem State.onSvc_latches (s : State) (f : SvcState → SvcState) : (s.onSvc f).latches = s.latches := rfl
@[simp] theorem State.onSvc_mode (s : State) (f : SvcState → SvcState) : (s.onSvc f).mode = s.mode := rfl
@[simp] theorem State.onSvc_transition (s : State) (f : SvcState → SvcState) : (s.onSvc f).transition = s.transition := rfl
@[simp] theorem State.onSvc_now (s : State) (f : SvcState → SvcState) : (s.onSvc f).now = s.now := rfl
@[simp] theorem State.onSvc_tb (s : State) (f : SvcState → SvcState) : (s.onSvc f).tb = s.tb := rfl
@[simp] theorem State.onSvc_timers (s : State) (f : SvcState → SvcState) : (s.onSvc f).timers = s.timers := rfl
@[simp] theorem State.onSvc_drawn (s : State) (f : SvcState → SvcState) : (s.onSvc f).drawn = s.drawn := rfl
@[simp] theorem State.onSvc_err (s : State) (f : SvcState → SvcState) : (s.onSvc f).err = s.err := rfl
@[simp] theorem State.onSvc_bnd (s : State) (f : SvcState → SvcState) : (s.onSvc f).bnd = s.bnd := rfl
@[simp] theorem State.onSvc_churn (s : State) (f : SvcState → SvcState) : (s.onSvc f).churn = s.churn := rfl
@[simp] theorem State.onSvc_qos (s : State) (f : SvcState → SvcState) : (s.onSvc f).qos = s.qos := rfl
@[simp] theorem State.onSvc_fab (s : State) (f : SvcState → SvcState) : (s.onSvc f).fab = s.fab := rfl
@[simp] theorem State.onSvc_kfl (s : State) (f : SvcState → SvcState) : (s.onSvc f).kfl = s.kfl := rfl
@[simp] theorem State.onSvc_crb (s : State) (f : SvcState → SvcState) : (s.onSvc f).crb = s.crb := rfl
@[simp] theorem State.onSvc_svc (s : State) (f : SvcState → SvcState) : (s.onSvc f).svc = f s.svc := rfl
@[simp] theorem State.onSvc_pwr (s : State) (f : SvcState → SvcState) : (s.onSvc f).pwr = s.pwr := rfl
@[simp] theorem State.onSvc_spg (s : State) (f : SvcState → SvcState) : (s.onSvc f).spg = s.spg := rfl
@[simp] theorem State.onSvc_sec (s : State) (f : SvcState → SvcState) : (s.onSvc f).sec = s.sec := rfl
@[simp] theorem State.onSvc_pins (s : State) (f : SvcState → SvcState) : (s.onSvc f).pins = s.pins := rfl
@[simp] theorem State.onSvc_sent (s : State) (f : SvcState → SvcState) : (s.onSvc f).sent = s.sent := rfl
@[simp] theorem State.onSvc_pending (s : State) (f : SvcState → SvcState) : (s.onSvc f).pending = s.pending := rfl

/-! ## onPwr -/

@[simp] theorem State.onPwr_regs (s : State) (f : PwrState → PwrState) : (s.onPwr f).regs = s.regs := rfl
@[simp] theorem State.onPwr_latches (s : State) (f : PwrState → PwrState) : (s.onPwr f).latches = s.latches := rfl
@[simp] theorem State.onPwr_mode (s : State) (f : PwrState → PwrState) : (s.onPwr f).mode = s.mode := rfl
@[simp] theorem State.onPwr_transition (s : State) (f : PwrState → PwrState) : (s.onPwr f).transition = s.transition := rfl
@[simp] theorem State.onPwr_now (s : State) (f : PwrState → PwrState) : (s.onPwr f).now = s.now := rfl
@[simp] theorem State.onPwr_tb (s : State) (f : PwrState → PwrState) : (s.onPwr f).tb = s.tb := rfl
@[simp] theorem State.onPwr_timers (s : State) (f : PwrState → PwrState) : (s.onPwr f).timers = s.timers := rfl
@[simp] theorem State.onPwr_drawn (s : State) (f : PwrState → PwrState) : (s.onPwr f).drawn = s.drawn := rfl
@[simp] theorem State.onPwr_err (s : State) (f : PwrState → PwrState) : (s.onPwr f).err = s.err := rfl
@[simp] theorem State.onPwr_bnd (s : State) (f : PwrState → PwrState) : (s.onPwr f).bnd = s.bnd := rfl
@[simp] theorem State.onPwr_churn (s : State) (f : PwrState → PwrState) : (s.onPwr f).churn = s.churn := rfl
@[simp] theorem State.onPwr_qos (s : State) (f : PwrState → PwrState) : (s.onPwr f).qos = s.qos := rfl
@[simp] theorem State.onPwr_fab (s : State) (f : PwrState → PwrState) : (s.onPwr f).fab = s.fab := rfl
@[simp] theorem State.onPwr_kfl (s : State) (f : PwrState → PwrState) : (s.onPwr f).kfl = s.kfl := rfl
@[simp] theorem State.onPwr_crb (s : State) (f : PwrState → PwrState) : (s.onPwr f).crb = s.crb := rfl
@[simp] theorem State.onPwr_svc (s : State) (f : PwrState → PwrState) : (s.onPwr f).svc = s.svc := rfl
@[simp] theorem State.onPwr_pwr (s : State) (f : PwrState → PwrState) : (s.onPwr f).pwr = f s.pwr := rfl
@[simp] theorem State.onPwr_spg (s : State) (f : PwrState → PwrState) : (s.onPwr f).spg = s.spg := rfl
@[simp] theorem State.onPwr_sec (s : State) (f : PwrState → PwrState) : (s.onPwr f).sec = s.sec := rfl
@[simp] theorem State.onPwr_pins (s : State) (f : PwrState → PwrState) : (s.onPwr f).pins = s.pins := rfl
@[simp] theorem State.onPwr_sent (s : State) (f : PwrState → PwrState) : (s.onPwr f).sent = s.sent := rfl
@[simp] theorem State.onPwr_pending (s : State) (f : PwrState → PwrState) : (s.onPwr f).pending = s.pending := rfl

/-! ## onSpg -/

@[simp] theorem State.onSpg_regs (s : State) (f : SpgState → SpgState) : (s.onSpg f).regs = s.regs := rfl
@[simp] theorem State.onSpg_latches (s : State) (f : SpgState → SpgState) : (s.onSpg f).latches = s.latches := rfl
@[simp] theorem State.onSpg_mode (s : State) (f : SpgState → SpgState) : (s.onSpg f).mode = s.mode := rfl
@[simp] theorem State.onSpg_transition (s : State) (f : SpgState → SpgState) : (s.onSpg f).transition = s.transition := rfl
@[simp] theorem State.onSpg_now (s : State) (f : SpgState → SpgState) : (s.onSpg f).now = s.now := rfl
@[simp] theorem State.onSpg_tb (s : State) (f : SpgState → SpgState) : (s.onSpg f).tb = s.tb := rfl
@[simp] theorem State.onSpg_timers (s : State) (f : SpgState → SpgState) : (s.onSpg f).timers = s.timers := rfl
@[simp] theorem State.onSpg_drawn (s : State) (f : SpgState → SpgState) : (s.onSpg f).drawn = s.drawn := rfl
@[simp] theorem State.onSpg_err (s : State) (f : SpgState → SpgState) : (s.onSpg f).err = s.err := rfl
@[simp] theorem State.onSpg_bnd (s : State) (f : SpgState → SpgState) : (s.onSpg f).bnd = s.bnd := rfl
@[simp] theorem State.onSpg_churn (s : State) (f : SpgState → SpgState) : (s.onSpg f).churn = s.churn := rfl
@[simp] theorem State.onSpg_qos (s : State) (f : SpgState → SpgState) : (s.onSpg f).qos = s.qos := rfl
@[simp] theorem State.onSpg_fab (s : State) (f : SpgState → SpgState) : (s.onSpg f).fab = s.fab := rfl
@[simp] theorem State.onSpg_kfl (s : State) (f : SpgState → SpgState) : (s.onSpg f).kfl = s.kfl := rfl
@[simp] theorem State.onSpg_crb (s : State) (f : SpgState → SpgState) : (s.onSpg f).crb = s.crb := rfl
@[simp] theorem State.onSpg_svc (s : State) (f : SpgState → SpgState) : (s.onSpg f).svc = s.svc := rfl
@[simp] theorem State.onSpg_pwr (s : State) (f : SpgState → SpgState) : (s.onSpg f).pwr = s.pwr := rfl
@[simp] theorem State.onSpg_spg (s : State) (f : SpgState → SpgState) : (s.onSpg f).spg = f s.spg := rfl
@[simp] theorem State.onSpg_sec (s : State) (f : SpgState → SpgState) : (s.onSpg f).sec = s.sec := rfl
@[simp] theorem State.onSpg_pins (s : State) (f : SpgState → SpgState) : (s.onSpg f).pins = s.pins := rfl
@[simp] theorem State.onSpg_sent (s : State) (f : SpgState → SpgState) : (s.onSpg f).sent = s.sent := rfl
@[simp] theorem State.onSpg_pending (s : State) (f : SpgState → SpgState) : (s.onSpg f).pending = s.pending := rfl

/-! ## onSec -/

@[simp] theorem State.onSec_regs (s : State) (f : SecState → SecState) : (s.onSec f).regs = s.regs := rfl
@[simp] theorem State.onSec_latches (s : State) (f : SecState → SecState) : (s.onSec f).latches = s.latches := rfl
@[simp] theorem State.onSec_mode (s : State) (f : SecState → SecState) : (s.onSec f).mode = s.mode := rfl
@[simp] theorem State.onSec_transition (s : State) (f : SecState → SecState) : (s.onSec f).transition = s.transition := rfl
@[simp] theorem State.onSec_now (s : State) (f : SecState → SecState) : (s.onSec f).now = s.now := rfl
@[simp] theorem State.onSec_tb (s : State) (f : SecState → SecState) : (s.onSec f).tb = s.tb := rfl
@[simp] theorem State.onSec_timers (s : State) (f : SecState → SecState) : (s.onSec f).timers = s.timers := rfl
@[simp] theorem State.onSec_drawn (s : State) (f : SecState → SecState) : (s.onSec f).drawn = s.drawn := rfl
@[simp] theorem State.onSec_err (s : State) (f : SecState → SecState) : (s.onSec f).err = s.err := rfl
@[simp] theorem State.onSec_bnd (s : State) (f : SecState → SecState) : (s.onSec f).bnd = s.bnd := rfl
@[simp] theorem State.onSec_churn (s : State) (f : SecState → SecState) : (s.onSec f).churn = s.churn := rfl
@[simp] theorem State.onSec_qos (s : State) (f : SecState → SecState) : (s.onSec f).qos = s.qos := rfl
@[simp] theorem State.onSec_fab (s : State) (f : SecState → SecState) : (s.onSec f).fab = s.fab := rfl
@[simp] theorem State.onSec_kfl (s : State) (f : SecState → SecState) : (s.onSec f).kfl = s.kfl := rfl
@[simp] theorem State.onSec_crb (s : State) (f : SecState → SecState) : (s.onSec f).crb = s.crb := rfl
@[simp] theorem State.onSec_svc (s : State) (f : SecState → SecState) : (s.onSec f).svc = s.svc := rfl
@[simp] theorem State.onSec_pwr (s : State) (f : SecState → SecState) : (s.onSec f).pwr = s.pwr := rfl
@[simp] theorem State.onSec_spg (s : State) (f : SecState → SecState) : (s.onSec f).spg = s.spg := rfl
@[simp] theorem State.onSec_sec (s : State) (f : SecState → SecState) : (s.onSec f).sec = f s.sec := rfl
@[simp] theorem State.onSec_pins (s : State) (f : SecState → SecState) : (s.onSec f).pins = s.pins := rfl
@[simp] theorem State.onSec_sent (s : State) (f : SecState → SecState) : (s.onSec f).sent = s.sent := rfl
@[simp] theorem State.onSec_pending (s : State) (f : SecState → SecState) : (s.onSec f).pending = s.pending := rfl

/-! ## onPins -/

@[simp] theorem State.onPins_regs (s : State) (f : PinState → PinState) : (s.onPins f).regs = s.regs := rfl
@[simp] theorem State.onPins_latches (s : State) (f : PinState → PinState) : (s.onPins f).latches = s.latches := rfl
@[simp] theorem State.onPins_mode (s : State) (f : PinState → PinState) : (s.onPins f).mode = s.mode := rfl
@[simp] theorem State.onPins_transition (s : State) (f : PinState → PinState) : (s.onPins f).transition = s.transition := rfl
@[simp] theorem State.onPins_now (s : State) (f : PinState → PinState) : (s.onPins f).now = s.now := rfl
@[simp] theorem State.onPins_tb (s : State) (f : PinState → PinState) : (s.onPins f).tb = s.tb := rfl
@[simp] theorem State.onPins_timers (s : State) (f : PinState → PinState) : (s.onPins f).timers = s.timers := rfl
@[simp] theorem State.onPins_drawn (s : State) (f : PinState → PinState) : (s.onPins f).drawn = s.drawn := rfl
@[simp] theorem State.onPins_err (s : State) (f : PinState → PinState) : (s.onPins f).err = s.err := rfl
@[simp] theorem State.onPins_bnd (s : State) (f : PinState → PinState) : (s.onPins f).bnd = s.bnd := rfl
@[simp] theorem State.onPins_churn (s : State) (f : PinState → PinState) : (s.onPins f).churn = s.churn := rfl
@[simp] theorem State.onPins_qos (s : State) (f : PinState → PinState) : (s.onPins f).qos = s.qos := rfl
@[simp] theorem State.onPins_fab (s : State) (f : PinState → PinState) : (s.onPins f).fab = s.fab := rfl
@[simp] theorem State.onPins_kfl (s : State) (f : PinState → PinState) : (s.onPins f).kfl = s.kfl := rfl
@[simp] theorem State.onPins_crb (s : State) (f : PinState → PinState) : (s.onPins f).crb = s.crb := rfl
@[simp] theorem State.onPins_svc (s : State) (f : PinState → PinState) : (s.onPins f).svc = s.svc := rfl
@[simp] theorem State.onPins_pwr (s : State) (f : PinState → PinState) : (s.onPins f).pwr = s.pwr := rfl
@[simp] theorem State.onPins_spg (s : State) (f : PinState → PinState) : (s.onPins f).spg = s.spg := rfl
@[simp] theorem State.onPins_sec (s : State) (f : PinState → PinState) : (s.onPins f).sec = s.sec := rfl
@[simp] theorem State.onPins_pins (s : State) (f : PinState → PinState) : (s.onPins f).pins = f s.pins := rfl
@[simp] theorem State.onPins_sent (s : State) (f : PinState → PinState) : (s.onPins f).sent = s.sent := rfl
@[simp] theorem State.onPins_pending (s : State) (f : PinState → PinState) : (s.onPins f).pending = s.pending := rfl

/-! ## wr -/

@[simp] theorem State.wr_latches (s : State) (r : RegDesc) (i : Nat) (v : Word) : (s.wr r i v).latches = s.latches := rfl
@[simp] theorem State.wr_mode (s : State) (r : RegDesc) (i : Nat) (v : Word) : (s.wr r i v).mode = s.mode := rfl
@[simp] theorem State.wr_transition (s : State) (r : RegDesc) (i : Nat) (v : Word) : (s.wr r i v).transition = s.transition := rfl
@[simp] theorem State.wr_now (s : State) (r : RegDesc) (i : Nat) (v : Word) : (s.wr r i v).now = s.now := rfl
@[simp] theorem State.wr_tb (s : State) (r : RegDesc) (i : Nat) (v : Word) : (s.wr r i v).tb = s.tb := rfl
@[simp] theorem State.wr_timers (s : State) (r : RegDesc) (i : Nat) (v : Word) : (s.wr r i v).timers = s.timers := rfl
@[simp] theorem State.wr_drawn (s : State) (r : RegDesc) (i : Nat) (v : Word) : (s.wr r i v).drawn = s.drawn := rfl
@[simp] theorem State.wr_err (s : State) (r : RegDesc) (i : Nat) (v : Word) : (s.wr r i v).err = s.err := rfl
@[simp] theorem State.wr_bnd (s : State) (r : RegDesc) (i : Nat) (v : Word) : (s.wr r i v).bnd = s.bnd := rfl
@[simp] theorem State.wr_churn (s : State) (r : RegDesc) (i : Nat) (v : Word) : (s.wr r i v).churn = s.churn := rfl
@[simp] theorem State.wr_qos (s : State) (r : RegDesc) (i : Nat) (v : Word) : (s.wr r i v).qos = s.qos := rfl
@[simp] theorem State.wr_fab (s : State) (r : RegDesc) (i : Nat) (v : Word) : (s.wr r i v).fab = s.fab := rfl
@[simp] theorem State.wr_kfl (s : State) (r : RegDesc) (i : Nat) (v : Word) : (s.wr r i v).kfl = s.kfl := rfl
@[simp] theorem State.wr_crb (s : State) (r : RegDesc) (i : Nat) (v : Word) : (s.wr r i v).crb = s.crb := rfl
@[simp] theorem State.wr_svc (s : State) (r : RegDesc) (i : Nat) (v : Word) : (s.wr r i v).svc = s.svc := rfl
@[simp] theorem State.wr_pwr (s : State) (r : RegDesc) (i : Nat) (v : Word) : (s.wr r i v).pwr = s.pwr := rfl
@[simp] theorem State.wr_spg (s : State) (r : RegDesc) (i : Nat) (v : Word) : (s.wr r i v).spg = s.spg := rfl
@[simp] theorem State.wr_sec (s : State) (r : RegDesc) (i : Nat) (v : Word) : (s.wr r i v).sec = s.sec := rfl
@[simp] theorem State.wr_pins (s : State) (r : RegDesc) (i : Nat) (v : Word) : (s.wr r i v).pins = s.pins := rfl
@[simp] theorem State.wr_sent (s : State) (r : RegDesc) (i : Nat) (v : Word) : (s.wr r i v).sent = s.sent := rfl
@[simp] theorem State.wr_pending (s : State) (r : RegDesc) (i : Nat) (v : Word) : (s.wr r i v).pending = s.pending := rfl

/-! ## setFld -/

@[simp] theorem State.setFld_latches (s : State) (f : Fld) (i v : Nat) : (s.setFld f i v).latches = s.latches := rfl
@[simp] theorem State.setFld_mode (s : State) (f : Fld) (i v : Nat) : (s.setFld f i v).mode = s.mode := rfl
@[simp] theorem State.setFld_transition (s : State) (f : Fld) (i v : Nat) : (s.setFld f i v).transition = s.transition := rfl
@[simp] theorem State.setFld_now (s : State) (f : Fld) (i v : Nat) : (s.setFld f i v).now = s.now := rfl
@[simp] theorem State.setFld_tb (s : State) (f : Fld) (i v : Nat) : (s.setFld f i v).tb = s.tb := rfl
@[simp] theorem State.setFld_timers (s : State) (f : Fld) (i v : Nat) : (s.setFld f i v).timers = s.timers := rfl
@[simp] theorem State.setFld_drawn (s : State) (f : Fld) (i v : Nat) : (s.setFld f i v).drawn = s.drawn := rfl
@[simp] theorem State.setFld_err (s : State) (f : Fld) (i v : Nat) : (s.setFld f i v).err = s.err := rfl
@[simp] theorem State.setFld_bnd (s : State) (f : Fld) (i v : Nat) : (s.setFld f i v).bnd = s.bnd := rfl
@[simp] theorem State.setFld_churn (s : State) (f : Fld) (i v : Nat) : (s.setFld f i v).churn = s.churn := rfl
@[simp] theorem State.setFld_qos (s : State) (f : Fld) (i v : Nat) : (s.setFld f i v).qos = s.qos := rfl
@[simp] theorem State.setFld_fab (s : State) (f : Fld) (i v : Nat) : (s.setFld f i v).fab = s.fab := rfl
@[simp] theorem State.setFld_kfl (s : State) (f : Fld) (i v : Nat) : (s.setFld f i v).kfl = s.kfl := rfl
@[simp] theorem State.setFld_crb (s : State) (f : Fld) (i v : Nat) : (s.setFld f i v).crb = s.crb := rfl
@[simp] theorem State.setFld_svc (s : State) (f : Fld) (i v : Nat) : (s.setFld f i v).svc = s.svc := rfl
@[simp] theorem State.setFld_pwr (s : State) (f : Fld) (i v : Nat) : (s.setFld f i v).pwr = s.pwr := rfl
@[simp] theorem State.setFld_spg (s : State) (f : Fld) (i v : Nat) : (s.setFld f i v).spg = s.spg := rfl
@[simp] theorem State.setFld_sec (s : State) (f : Fld) (i v : Nat) : (s.setFld f i v).sec = s.sec := rfl
@[simp] theorem State.setFld_pins (s : State) (f : Fld) (i v : Nat) : (s.setFld f i v).pins = s.pins := rfl
@[simp] theorem State.setFld_sent (s : State) (f : Fld) (i v : Nat) : (s.setFld f i v).sent = s.sent := rfl
@[simp] theorem State.setFld_pending (s : State) (f : Fld) (i v : Nat) : (s.setFld f i v).pending = s.pending := rfl

/-! ## resetReg -/

@[simp] theorem State.resetReg_latches (s : State) (r : RegDesc) (i : Nat) : (s.resetReg r i).latches = s.latches := rfl
@[simp] theorem State.resetReg_mode (s : State) (r : RegDesc) (i : Nat) : (s.resetReg r i).mode = s.mode := rfl
@[simp] theorem State.resetReg_transition (s : State) (r : RegDesc) (i : Nat) : (s.resetReg r i).transition = s.transition := rfl
@[simp] theorem State.resetReg_now (s : State) (r : RegDesc) (i : Nat) : (s.resetReg r i).now = s.now := rfl
@[simp] theorem State.resetReg_tb (s : State) (r : RegDesc) (i : Nat) : (s.resetReg r i).tb = s.tb := rfl
@[simp] theorem State.resetReg_timers (s : State) (r : RegDesc) (i : Nat) : (s.resetReg r i).timers = s.timers := rfl
@[simp] theorem State.resetReg_drawn (s : State) (r : RegDesc) (i : Nat) : (s.resetReg r i).drawn = s.drawn := rfl
@[simp] theorem State.resetReg_err (s : State) (r : RegDesc) (i : Nat) : (s.resetReg r i).err = s.err := rfl
@[simp] theorem State.resetReg_bnd (s : State) (r : RegDesc) (i : Nat) : (s.resetReg r i).bnd = s.bnd := rfl
@[simp] theorem State.resetReg_churn (s : State) (r : RegDesc) (i : Nat) : (s.resetReg r i).churn = s.churn := rfl
@[simp] theorem State.resetReg_qos (s : State) (r : RegDesc) (i : Nat) : (s.resetReg r i).qos = s.qos := rfl
@[simp] theorem State.resetReg_fab (s : State) (r : RegDesc) (i : Nat) : (s.resetReg r i).fab = s.fab := rfl
@[simp] theorem State.resetReg_kfl (s : State) (r : RegDesc) (i : Nat) : (s.resetReg r i).kfl = s.kfl := rfl
@[simp] theorem State.resetReg_crb (s : State) (r : RegDesc) (i : Nat) : (s.resetReg r i).crb = s.crb := rfl
@[simp] theorem State.resetReg_svc (s : State) (r : RegDesc) (i : Nat) : (s.resetReg r i).svc = s.svc := rfl
@[simp] theorem State.resetReg_pwr (s : State) (r : RegDesc) (i : Nat) : (s.resetReg r i).pwr = s.pwr := rfl
@[simp] theorem State.resetReg_spg (s : State) (r : RegDesc) (i : Nat) : (s.resetReg r i).spg = s.spg := rfl
@[simp] theorem State.resetReg_sec (s : State) (r : RegDesc) (i : Nat) : (s.resetReg r i).sec = s.sec := rfl
@[simp] theorem State.resetReg_pins (s : State) (r : RegDesc) (i : Nat) : (s.resetReg r i).pins = s.pins := rfl
@[simp] theorem State.resetReg_sent (s : State) (r : RegDesc) (i : Nat) : (s.resetReg r i).sent = s.sent := rfl
@[simp] theorem State.resetReg_pending (s : State) (r : RegDesc) (i : Nat) : (s.resetReg r i).pending = s.pending := rfl

/-! ## resetRegs -/

@[simp] theorem State.resetRegs_latches (s : State) (p : Nat → Bool) : (s.resetRegs p).latches = s.latches := rfl
@[simp] theorem State.resetRegs_mode (s : State) (p : Nat → Bool) : (s.resetRegs p).mode = s.mode := rfl
@[simp] theorem State.resetRegs_transition (s : State) (p : Nat → Bool) : (s.resetRegs p).transition = s.transition := rfl
@[simp] theorem State.resetRegs_now (s : State) (p : Nat → Bool) : (s.resetRegs p).now = s.now := rfl
@[simp] theorem State.resetRegs_tb (s : State) (p : Nat → Bool) : (s.resetRegs p).tb = s.tb := rfl
@[simp] theorem State.resetRegs_timers (s : State) (p : Nat → Bool) : (s.resetRegs p).timers = s.timers := rfl
@[simp] theorem State.resetRegs_drawn (s : State) (p : Nat → Bool) : (s.resetRegs p).drawn = s.drawn := rfl
@[simp] theorem State.resetRegs_err (s : State) (p : Nat → Bool) : (s.resetRegs p).err = s.err := rfl
@[simp] theorem State.resetRegs_bnd (s : State) (p : Nat → Bool) : (s.resetRegs p).bnd = s.bnd := rfl
@[simp] theorem State.resetRegs_churn (s : State) (p : Nat → Bool) : (s.resetRegs p).churn = s.churn := rfl
@[simp] theorem State.resetRegs_qos (s : State) (p : Nat → Bool) : (s.resetRegs p).qos = s.qos := rfl
@[simp] theorem State.resetRegs_fab (s : State) (p : Nat → Bool) : (s.resetRegs p).fab = s.fab := rfl
@[simp] theorem State.resetRegs_kfl (s : State) (p : Nat → Bool) : (s.resetRegs p).kfl = s.kfl := rfl
@[simp] theorem State.resetRegs_crb (s : State) (p : Nat → Bool) : (s.resetRegs p).crb = s.crb := rfl
@[simp] theorem State.resetRegs_svc (s : State) (p : Nat → Bool) : (s.resetRegs p).svc = s.svc := rfl
@[simp] theorem State.resetRegs_pwr (s : State) (p : Nat → Bool) : (s.resetRegs p).pwr = s.pwr := rfl
@[simp] theorem State.resetRegs_spg (s : State) (p : Nat → Bool) : (s.resetRegs p).spg = s.spg := rfl
@[simp] theorem State.resetRegs_sec (s : State) (p : Nat → Bool) : (s.resetRegs p).sec = s.sec := rfl
@[simp] theorem State.resetRegs_pins (s : State) (p : Nat → Bool) : (s.resetRegs p).pins = s.pins := rfl
@[simp] theorem State.resetRegs_sent (s : State) (p : Nat → Bool) : (s.resetRegs p).sent = s.sent := rfl
@[simp] theorem State.resetRegs_pending (s : State) (p : Nat → Bool) : (s.resetRegs p).pending = s.pending := rfl

/-! ## setBitAt -/

@[simp] theorem State.setBitAt_latches (s : State) (a b : Nat) : (s.setBitAt a b).latches = s.latches := rfl
@[simp] theorem State.setBitAt_mode (s : State) (a b : Nat) : (s.setBitAt a b).mode = s.mode := rfl
@[simp] theorem State.setBitAt_transition (s : State) (a b : Nat) : (s.setBitAt a b).transition = s.transition := rfl
@[simp] theorem State.setBitAt_now (s : State) (a b : Nat) : (s.setBitAt a b).now = s.now := rfl
@[simp] theorem State.setBitAt_tb (s : State) (a b : Nat) : (s.setBitAt a b).tb = s.tb := rfl
@[simp] theorem State.setBitAt_timers (s : State) (a b : Nat) : (s.setBitAt a b).timers = s.timers := rfl
@[simp] theorem State.setBitAt_drawn (s : State) (a b : Nat) : (s.setBitAt a b).drawn = s.drawn := rfl
@[simp] theorem State.setBitAt_err (s : State) (a b : Nat) : (s.setBitAt a b).err = s.err := rfl
@[simp] theorem State.setBitAt_bnd (s : State) (a b : Nat) : (s.setBitAt a b).bnd = s.bnd := rfl
@[simp] theorem State.setBitAt_churn (s : State) (a b : Nat) : (s.setBitAt a b).churn = s.churn := rfl
@[simp] theorem State.setBitAt_qos (s : State) (a b : Nat) : (s.setBitAt a b).qos = s.qos := rfl
@[simp] theorem State.setBitAt_fab (s : State) (a b : Nat) : (s.setBitAt a b).fab = s.fab := rfl
@[simp] theorem State.setBitAt_kfl (s : State) (a b : Nat) : (s.setBitAt a b).kfl = s.kfl := rfl
@[simp] theorem State.setBitAt_crb (s : State) (a b : Nat) : (s.setBitAt a b).crb = s.crb := rfl
@[simp] theorem State.setBitAt_svc (s : State) (a b : Nat) : (s.setBitAt a b).svc = s.svc := rfl
@[simp] theorem State.setBitAt_pwr (s : State) (a b : Nat) : (s.setBitAt a b).pwr = s.pwr := rfl
@[simp] theorem State.setBitAt_spg (s : State) (a b : Nat) : (s.setBitAt a b).spg = s.spg := rfl
@[simp] theorem State.setBitAt_sec (s : State) (a b : Nat) : (s.setBitAt a b).sec = s.sec := rfl
@[simp] theorem State.setBitAt_pins (s : State) (a b : Nat) : (s.setBitAt a b).pins = s.pins := rfl
@[simp] theorem State.setBitAt_sent (s : State) (a b : Nat) : (s.setBitAt a b).sent = s.sent := rfl
@[simp] theorem State.setBitAt_pending (s : State) (a b : Nat) : (s.setBitAt a b).pending = s.pending := rfl

/-! ## arm -/

@[simp] theorem State.arm_regs (s : State) (k : TimerKind) (i d : Nat) : (s.arm k i d).regs = s.regs := rfl
@[simp] theorem State.arm_latches (s : State) (k : TimerKind) (i d : Nat) : (s.arm k i d).latches = s.latches := rfl
@[simp] theorem State.arm_mode (s : State) (k : TimerKind) (i d : Nat) : (s.arm k i d).mode = s.mode := rfl
@[simp] theorem State.arm_transition (s : State) (k : TimerKind) (i d : Nat) : (s.arm k i d).transition = s.transition := rfl
@[simp] theorem State.arm_now (s : State) (k : TimerKind) (i d : Nat) : (s.arm k i d).now = s.now := rfl
@[simp] theorem State.arm_tb (s : State) (k : TimerKind) (i d : Nat) : (s.arm k i d).tb = s.tb := rfl
@[simp] theorem State.arm_drawn (s : State) (k : TimerKind) (i d : Nat) : (s.arm k i d).drawn = s.drawn := rfl
@[simp] theorem State.arm_err (s : State) (k : TimerKind) (i d : Nat) : (s.arm k i d).err = s.err := rfl
@[simp] theorem State.arm_bnd (s : State) (k : TimerKind) (i d : Nat) : (s.arm k i d).bnd = s.bnd := rfl
@[simp] theorem State.arm_churn (s : State) (k : TimerKind) (i d : Nat) : (s.arm k i d).churn = s.churn := rfl
@[simp] theorem State.arm_qos (s : State) (k : TimerKind) (i d : Nat) : (s.arm k i d).qos = s.qos := rfl
@[simp] theorem State.arm_fab (s : State) (k : TimerKind) (i d : Nat) : (s.arm k i d).fab = s.fab := rfl
@[simp] theorem State.arm_kfl (s : State) (k : TimerKind) (i d : Nat) : (s.arm k i d).kfl = s.kfl := rfl
@[simp] theorem State.arm_crb (s : State) (k : TimerKind) (i d : Nat) : (s.arm k i d).crb = s.crb := rfl
@[simp] theorem State.arm_svc (s : State) (k : TimerKind) (i d : Nat) : (s.arm k i d).svc = s.svc := rfl
@[simp] theorem State.arm_pwr (s : State) (k : TimerKind) (i d : Nat) : (s.arm k i d).pwr = s.pwr := rfl
@[simp] theorem State.arm_spg (s : State) (k : TimerKind) (i d : Nat) : (s.arm k i d).spg = s.spg := rfl
@[simp] theorem State.arm_sec (s : State) (k : TimerKind) (i d : Nat) : (s.arm k i d).sec = s.sec := rfl
@[simp] theorem State.arm_pins (s : State) (k : TimerKind) (i d : Nat) : (s.arm k i d).pins = s.pins := rfl
@[simp] theorem State.arm_sent (s : State) (k : TimerKind) (i d : Nat) : (s.arm k i d).sent = s.sent := rfl
@[simp] theorem State.arm_pending (s : State) (k : TimerKind) (i d : Nat) : (s.arm k i d).pending = s.pending := rfl

/-! ## disarm -/

@[simp] theorem State.disarm_regs (s : State) (k : TimerKind) (i : Nat) : (s.disarm k i).regs = s.regs := rfl
@[simp] theorem State.disarm_latches (s : State) (k : TimerKind) (i : Nat) : (s.disarm k i).latches = s.latches := rfl
@[simp] theorem State.disarm_mode (s : State) (k : TimerKind) (i : Nat) : (s.disarm k i).mode = s.mode := rfl
@[simp] theorem State.disarm_transition (s : State) (k : TimerKind) (i : Nat) : (s.disarm k i).transition = s.transition := rfl
@[simp] theorem State.disarm_now (s : State) (k : TimerKind) (i : Nat) : (s.disarm k i).now = s.now := rfl
@[simp] theorem State.disarm_tb (s : State) (k : TimerKind) (i : Nat) : (s.disarm k i).tb = s.tb := rfl
@[simp] theorem State.disarm_drawn (s : State) (k : TimerKind) (i : Nat) : (s.disarm k i).drawn = s.drawn := rfl
@[simp] theorem State.disarm_err (s : State) (k : TimerKind) (i : Nat) : (s.disarm k i).err = s.err := rfl
@[simp] theorem State.disarm_bnd (s : State) (k : TimerKind) (i : Nat) : (s.disarm k i).bnd = s.bnd := rfl
@[simp] theorem State.disarm_churn (s : State) (k : TimerKind) (i : Nat) : (s.disarm k i).churn = s.churn := rfl
@[simp] theorem State.disarm_qos (s : State) (k : TimerKind) (i : Nat) : (s.disarm k i).qos = s.qos := rfl
@[simp] theorem State.disarm_fab (s : State) (k : TimerKind) (i : Nat) : (s.disarm k i).fab = s.fab := rfl
@[simp] theorem State.disarm_kfl (s : State) (k : TimerKind) (i : Nat) : (s.disarm k i).kfl = s.kfl := rfl
@[simp] theorem State.disarm_crb (s : State) (k : TimerKind) (i : Nat) : (s.disarm k i).crb = s.crb := rfl
@[simp] theorem State.disarm_svc (s : State) (k : TimerKind) (i : Nat) : (s.disarm k i).svc = s.svc := rfl
@[simp] theorem State.disarm_pwr (s : State) (k : TimerKind) (i : Nat) : (s.disarm k i).pwr = s.pwr := rfl
@[simp] theorem State.disarm_spg (s : State) (k : TimerKind) (i : Nat) : (s.disarm k i).spg = s.spg := rfl
@[simp] theorem State.disarm_sec (s : State) (k : TimerKind) (i : Nat) : (s.disarm k i).sec = s.sec := rfl
@[simp] theorem State.disarm_pins (s : State) (k : TimerKind) (i : Nat) : (s.disarm k i).pins = s.pins := rfl
@[simp] theorem State.disarm_sent (s : State) (k : TimerKind) (i : Nat) : (s.disarm k i).sent = s.sent := rfl
@[simp] theorem State.disarm_pending (s : State) (k : TimerKind) (i : Nat) : (s.disarm k i).pending = s.pending := rfl

/-! ## emit -/

@[simp] theorem State.emit_regs (s : State) (e : Emission) : (s.emit e).regs = s.regs := rfl
@[simp] theorem State.emit_latches (s : State) (e : Emission) : (s.emit e).latches = s.latches := rfl
@[simp] theorem State.emit_mode (s : State) (e : Emission) : (s.emit e).mode = s.mode := rfl
@[simp] theorem State.emit_transition (s : State) (e : Emission) : (s.emit e).transition = s.transition := rfl
@[simp] theorem State.emit_now (s : State) (e : Emission) : (s.emit e).now = s.now := rfl
@[simp] theorem State.emit_tb (s : State) (e : Emission) : (s.emit e).tb = s.tb := rfl
@[simp] theorem State.emit_timers (s : State) (e : Emission) : (s.emit e).timers = s.timers := rfl
@[simp] theorem State.emit_drawn (s : State) (e : Emission) : (s.emit e).drawn = s.drawn := rfl
@[simp] theorem State.emit_err (s : State) (e : Emission) : (s.emit e).err = s.err := rfl
@[simp] theorem State.emit_bnd (s : State) (e : Emission) : (s.emit e).bnd = s.bnd := rfl
@[simp] theorem State.emit_churn (s : State) (e : Emission) : (s.emit e).churn = s.churn := rfl
@[simp] theorem State.emit_qos (s : State) (e : Emission) : (s.emit e).qos = s.qos := rfl
@[simp] theorem State.emit_fab (s : State) (e : Emission) : (s.emit e).fab = s.fab := rfl
@[simp] theorem State.emit_kfl (s : State) (e : Emission) : (s.emit e).kfl = s.kfl := rfl
@[simp] theorem State.emit_crb (s : State) (e : Emission) : (s.emit e).crb = s.crb := rfl
@[simp] theorem State.emit_svc (s : State) (e : Emission) : (s.emit e).svc = s.svc := rfl
@[simp] theorem State.emit_pwr (s : State) (e : Emission) : (s.emit e).pwr = s.pwr := rfl
@[simp] theorem State.emit_spg (s : State) (e : Emission) : (s.emit e).spg = s.spg := rfl
@[simp] theorem State.emit_sec (s : State) (e : Emission) : (s.emit e).sec = s.sec := rfl
@[simp] theorem State.emit_pins (s : State) (e : Emission) : (s.emit e).pins = s.pins := rfl
@[simp] theorem State.emit_pending (s : State) (e : Emission) : (s.emit e).pending = s.pending := rfl

/-! ## drew -/

@[simp] theorem State.drew_regs (s : State) : (s.drew).regs = s.regs := rfl
@[simp] theorem State.drew_latches (s : State) : (s.drew).latches = s.latches := rfl
@[simp] theorem State.drew_mode (s : State) : (s.drew).mode = s.mode := rfl
@[simp] theorem State.drew_transition (s : State) : (s.drew).transition = s.transition := rfl
@[simp] theorem State.drew_now (s : State) : (s.drew).now = s.now := rfl
@[simp] theorem State.drew_tb (s : State) : (s.drew).tb = s.tb := rfl
@[simp] theorem State.drew_timers (s : State) : (s.drew).timers = s.timers := rfl
@[simp] theorem State.drew_err (s : State) : (s.drew).err = s.err := rfl
@[simp] theorem State.drew_bnd (s : State) : (s.drew).bnd = s.bnd := rfl
@[simp] theorem State.drew_churn (s : State) : (s.drew).churn = s.churn := rfl
@[simp] theorem State.drew_qos (s : State) : (s.drew).qos = s.qos := rfl
@[simp] theorem State.drew_fab (s : State) : (s.drew).fab = s.fab := rfl
@[simp] theorem State.drew_kfl (s : State) : (s.drew).kfl = s.kfl := rfl
@[simp] theorem State.drew_crb (s : State) : (s.drew).crb = s.crb := rfl
@[simp] theorem State.drew_svc (s : State) : (s.drew).svc = s.svc := rfl
@[simp] theorem State.drew_pwr (s : State) : (s.drew).pwr = s.pwr := rfl
@[simp] theorem State.drew_spg (s : State) : (s.drew).spg = s.spg := rfl
@[simp] theorem State.drew_sec (s : State) : (s.drew).sec = s.sec := rfl
@[simp] theorem State.drew_pins (s : State) : (s.drew).pins = s.pins := rfl
@[simp] theorem State.drew_sent (s : State) : (s.drew).sent = s.sent := rfl
@[simp] theorem State.drew_pending (s : State) : (s.drew).pending = s.pending := rfl

/-! ## setHost -/

@[simp] theorem State.setHost_regs (s : State) (vh : Nat) (u : HostUnit) (f : HostField) (v : Nat) : (s.setHost vh u f v).regs = s.regs := rfl
@[simp] theorem State.setHost_latches (s : State) (vh : Nat) (u : HostUnit) (f : HostField) (v : Nat) : (s.setHost vh u f v).latches = s.latches := rfl
@[simp] theorem State.setHost_mode (s : State) (vh : Nat) (u : HostUnit) (f : HostField) (v : Nat) : (s.setHost vh u f v).mode = s.mode := rfl
@[simp] theorem State.setHost_transition (s : State) (vh : Nat) (u : HostUnit) (f : HostField) (v : Nat) : (s.setHost vh u f v).transition = s.transition := rfl
@[simp] theorem State.setHost_now (s : State) (vh : Nat) (u : HostUnit) (f : HostField) (v : Nat) : (s.setHost vh u f v).now = s.now := rfl
@[simp] theorem State.setHost_tb (s : State) (vh : Nat) (u : HostUnit) (f : HostField) (v : Nat) : (s.setHost vh u f v).tb = s.tb := rfl
@[simp] theorem State.setHost_timers (s : State) (vh : Nat) (u : HostUnit) (f : HostField) (v : Nat) : (s.setHost vh u f v).timers = s.timers := rfl
@[simp] theorem State.setHost_drawn (s : State) (vh : Nat) (u : HostUnit) (f : HostField) (v : Nat) : (s.setHost vh u f v).drawn = s.drawn := rfl
@[simp] theorem State.setHost_err (s : State) (vh : Nat) (u : HostUnit) (f : HostField) (v : Nat) : (s.setHost vh u f v).err = s.err := rfl
@[simp] theorem State.setHost_churn (s : State) (vh : Nat) (u : HostUnit) (f : HostField) (v : Nat) : (s.setHost vh u f v).churn = s.churn := rfl
@[simp] theorem State.setHost_qos (s : State) (vh : Nat) (u : HostUnit) (f : HostField) (v : Nat) : (s.setHost vh u f v).qos = s.qos := rfl
@[simp] theorem State.setHost_fab (s : State) (vh : Nat) (u : HostUnit) (f : HostField) (v : Nat) : (s.setHost vh u f v).fab = s.fab := rfl
@[simp] theorem State.setHost_kfl (s : State) (vh : Nat) (u : HostUnit) (f : HostField) (v : Nat) : (s.setHost vh u f v).kfl = s.kfl := rfl
@[simp] theorem State.setHost_crb (s : State) (vh : Nat) (u : HostUnit) (f : HostField) (v : Nat) : (s.setHost vh u f v).crb = s.crb := rfl
@[simp] theorem State.setHost_svc (s : State) (vh : Nat) (u : HostUnit) (f : HostField) (v : Nat) : (s.setHost vh u f v).svc = s.svc := rfl
@[simp] theorem State.setHost_pwr (s : State) (vh : Nat) (u : HostUnit) (f : HostField) (v : Nat) : (s.setHost vh u f v).pwr = s.pwr := rfl
@[simp] theorem State.setHost_spg (s : State) (vh : Nat) (u : HostUnit) (f : HostField) (v : Nat) : (s.setHost vh u f v).spg = s.spg := rfl
@[simp] theorem State.setHost_sec (s : State) (vh : Nat) (u : HostUnit) (f : HostField) (v : Nat) : (s.setHost vh u f v).sec = s.sec := rfl
@[simp] theorem State.setHost_pins (s : State) (vh : Nat) (u : HostUnit) (f : HostField) (v : Nat) : (s.setHost vh u f v).pins = s.pins := rfl
@[simp] theorem State.setHost_sent (s : State) (vh : Nat) (u : HostUnit) (f : HostField) (v : Nat) : (s.setHost vh u f v).sent = s.sent := rfl
@[simp] theorem State.setHost_pending (s : State) (vh : Nat) (u : HostUnit) (f : HostField) (v : Nat) : (s.setHost vh u f v).pending = s.pending := rfl

/-! ## clearHost -/

@[simp] theorem State.clearHost_regs (s : State) (vh : Nat) : (s.clearHost vh).regs = s.regs := rfl
@[simp] theorem State.clearHost_latches (s : State) (vh : Nat) : (s.clearHost vh).latches = s.latches := rfl
@[simp] theorem State.clearHost_mode (s : State) (vh : Nat) : (s.clearHost vh).mode = s.mode := rfl
@[simp] theorem State.clearHost_transition (s : State) (vh : Nat) : (s.clearHost vh).transition = s.transition := rfl
@[simp] theorem State.clearHost_now (s : State) (vh : Nat) : (s.clearHost vh).now = s.now := rfl
@[simp] theorem State.clearHost_tb (s : State) (vh : Nat) : (s.clearHost vh).tb = s.tb := rfl
@[simp] theorem State.clearHost_timers (s : State) (vh : Nat) : (s.clearHost vh).timers = s.timers := rfl
@[simp] theorem State.clearHost_drawn (s : State) (vh : Nat) : (s.clearHost vh).drawn = s.drawn := rfl
@[simp] theorem State.clearHost_err (s : State) (vh : Nat) : (s.clearHost vh).err = s.err := rfl
@[simp] theorem State.clearHost_churn (s : State) (vh : Nat) : (s.clearHost vh).churn = s.churn := rfl
@[simp] theorem State.clearHost_qos (s : State) (vh : Nat) : (s.clearHost vh).qos = s.qos := rfl
@[simp] theorem State.clearHost_fab (s : State) (vh : Nat) : (s.clearHost vh).fab = s.fab := rfl
@[simp] theorem State.clearHost_kfl (s : State) (vh : Nat) : (s.clearHost vh).kfl = s.kfl := rfl
@[simp] theorem State.clearHost_crb (s : State) (vh : Nat) : (s.clearHost vh).crb = s.crb := rfl
@[simp] theorem State.clearHost_svc (s : State) (vh : Nat) : (s.clearHost vh).svc = s.svc := rfl
@[simp] theorem State.clearHost_pwr (s : State) (vh : Nat) : (s.clearHost vh).pwr = s.pwr := rfl
@[simp] theorem State.clearHost_spg (s : State) (vh : Nat) : (s.clearHost vh).spg = s.spg := rfl
@[simp] theorem State.clearHost_sec (s : State) (vh : Nat) : (s.clearHost vh).sec = s.sec := rfl
@[simp] theorem State.clearHost_pins (s : State) (vh : Nat) : (s.clearHost vh).pins = s.pins := rfl
@[simp] theorem State.clearHost_sent (s : State) (vh : Nat) : (s.clearHost vh).sent = s.sent := rfl
@[simp] theorem State.clearHost_pending (s : State) (vh : Nat) : (s.clearHost vh).pending = s.pending := rfl

/-! ## The fields an update changes -/

@[simp] theorem State.emit_sent (s : State) (e : Emission) : (s.emit e).sent = e :: s.sent := rfl
@[simp] theorem State.drew_drawn (s : State) : s.drew.drawn = s.drawn + 1 := rfl
@[simp] theorem State.resetReg_regs (s : State) (r : RegDesc) (i : Nat) : (s.resetReg r i).regs = drop (r.addr i) s.regs := rfl
@[simp] theorem State.resetRegs_regs (s : State) (p : Nat → Bool) : (s.resetRegs p).regs = s.regs.filter (fun e => !p e.1) := rfl
@[simp] theorem State.whenb_true (s : State) (f : State → State) : s.whenb true f = f s := rfl
@[simp] theorem State.whenb_false (s : State) (f : State → State) : s.whenb false f = s := rfl
@[simp] theorem State.each_nil {α : Type} (s : State) (f : State → α → State) : s.each [] f = s := rfl
@[simp] theorem State.each_cons {α : Type} (s : State) (a : α) (l : List α) (f : State → α → State) :
    s.each (a :: l) f = (f s a).each l f := rfl

end Sys2Proof.Machine
end

