-- ==== Sys2Proof/Laws/Sparse.lean ====
section
/-! SUPPORT. Sparse tables: what `put`, `drop` and `filter` do to a look-up, and that they keep the keys rising; and with that what a
write of a register does to every register. -/

namespace Sys2Proof.Laws

open Machine

variable {α : Type}

/-- Every key of the table is above `k`. -/
def Above (k : Nat) (l : List (Nat × α)) : Prop := ∀ e ∈ l, k < e.1

theorem rising_cons {e : Nat × α} {l : List (Nat × α)} : rising (e :: l) = true ↔ Above e.1 l ∧ rising l = true := by
  induction l generalizing e with
  | nil => simp [rising, Above]
  | cons b l ih =>
    constructor
    · intro h
      simp only [rising, Bool.and_eq_true, decide_eq_true_eq] at h
      refine ⟨fun x hx => ?_, h.2⟩
      rcases List.mem_cons.mp hx with rfl | hx
      · exact h.1
      · exact Nat.lt_trans h.1 ((ih.mp h.2).1 x hx)
    · intro h
      simp only [rising, Bool.and_eq_true, decide_eq_true_eq]
      exact ⟨h.1 b (by simp), h.2⟩

theorem look_above {k : Nat} {l : List (Nat × α)} (h : Above k l) : look k l = none := by
  induction l with
  | nil => rfl
  | cons e l ih =>
    obtain ⟨j, v⟩ := e
    have hj : k < j := h (j, v) (by simp)
    simp only [look, if_neg (Nat.ne_of_gt hj)]
    exact ih (fun x hx => h x (by simp [hx]))

/-- What is put is found. -/
theorem look_put_same {k : Nat} {v : α} (l : List (Nat × α)) : look k (put k v l) = some v := by
  induction l with
  | nil => simp [put, look]
  | cons e l ih =>
    obtain ⟨j, w⟩ := e
    simp only [put]
    split
    · simp [look]
    · split
      · simp [look]
      · rename_i h1 h2
        simp only [look, if_neg (Ne.symm h2)]
        exact ih

/-- A put changes no other key. -/
theorem look_put_ne {k j : Nat} {v : α} (l : List (Nat × α)) (h : j ≠ k) : look j (put k v l) = look j l := by
  induction l with
  | nil => simp [put, look, Ne.symm h]
  | cons e l ih =>
    obtain ⟨i, w⟩ := e
    simp only [put]
    split
    · simp only [look, if_neg (Ne.symm h)]
    · split
      · rename_i h1 h2
        subst h2
        simp only [look, if_neg (Ne.symm h)]
      · simp only [look, ih]

/-- A key that is dropped is gone. -/
theorem look_drop_same {k : Nat} {l : List (Nat × α)} (h : rising l = true) : look k (drop k l) = none := by
  induction l with
  | nil => rfl
  | cons e l ih =>
    obtain ⟨j, w⟩ := e
    obtain ⟨h1, h2⟩ := rising_cons.mp h
    simp only [drop]
    split
    · rename_i hj
      subst hj
      exact look_above h1
    · rename_i hj
      simp only [look, if_neg hj]
      exact ih h2

/-- A drop changes no other key. -/
theorem look_drop_ne {k j : Nat} (l : List (Nat × α)) (h : j ≠ k) : look j (drop k l) = look j l := by
  induction l with
  | nil => rfl
  | cons e l ih =>
    obtain ⟨i, w⟩ := e
    simp only [drop]
    split
    · rename_i hi
      subst hi
      simp only [look, if_neg (Ne.symm h)]
    · simp only [look, ih]

theorem mem_put {k : Nat} {v : α} {l : List (Nat × α)} {e : Nat × α} (h : e ∈ put k v l) : e = (k, v) ∨ e ∈ l := by
  induction l with
  | nil => simpa [put] using h
  | cons b l ih =>
    obtain ⟨j, w⟩ := b
    simp only [put] at h
    split at h
    · simpa using h
    · split at h
      · simp only [List.mem_cons] at h
        rcases h with h | h
        · exact .inl h
        · exact .inr (by simp [h])
      · simp only [List.mem_cons] at h
        rcases h with h | h
        · exact .inr (by simp [h])
        · rcases ih h with h | h
          · exact .inl h
          · exact .inr (by simp [h])

theorem mem_drop {k : Nat} {l : List (Nat × α)} {e : Nat × α} (h : e ∈ drop k l) : e ∈ l := by
  induction l with
  | nil => exact h
  | cons b l ih =>
    obtain ⟨j, w⟩ := b
    simp only [drop] at h
    split at h
    · simp [h]
    · simp only [List.mem_cons] at h
      rcases h with h | h
      · simp [h]
      · simp [ih h]

/-- A put keeps the keys rising. -/
theorem rising_put {k : Nat} {v : α} {l : List (Nat × α)} (h : rising l = true) : rising (put k v l) = true := by
  induction l with
  | nil => rfl
  | cons b l ih =>
    obtain ⟨j, w⟩ := b
    obtain ⟨h1, h2⟩ := rising_cons.mp h
    simp only [put]
    split
    · rename_i hk
      refine rising_cons.mpr ⟨fun e he => ?_, h⟩
      rcases List.mem_cons.mp he with rfl | he
      · exact hk
      · exact Nat.lt_trans hk (h1 e he)
    · split
      · rename_i hk
        subst hk
        exact rising_cons.mpr ⟨h1, h2⟩
      · rename_i hk hj
        refine rising_cons.mpr ⟨fun e he => ?_, ih h2⟩
        rcases mem_put he with rfl | he
        · simp only; omega
        · exact h1 e he

/-- A drop keeps the keys rising. -/
theorem rising_drop {k : Nat} {l : List (Nat × α)} (h : rising l = true) : rising (drop k l) = true := by
  induction l with
  | nil => rfl
  | cons b l ih =>
    obtain ⟨j, w⟩ := b
    obtain ⟨h1, h2⟩ := rising_cons.mp h
    simp only [drop]
    split
    · exact h2
    · exact rising_cons.mpr ⟨fun e he => h1 e (mem_drop he), ih h2⟩

/-- Taking entries out keeps the keys rising. -/
theorem rising_filter {p : Nat × α → Bool} {l : List (Nat × α)} (h : rising l = true) : rising (l.filter p) = true := by
  induction l with
  | nil => rfl
  | cons b l ih =>
    obtain ⟨h1, h2⟩ := rising_cons.mp h
    simp only [List.filter]
    split
    · exact rising_cons.mpr ⟨fun e he => h1 e (List.mem_filter.mp he).1, ih h2⟩
    · exact ih h2

/-! ## Registers -/

/-- A write of a register is read back. -/
theorem rd_wr_same {s : State} {r : RegDesc} {i : Nat} {v : Word} (h : rising s.regs = true) : (s.wr r i v).rd r i = v := by
  simp only [State.rd, State.wr, regAt]
  split
  · rename_i hv
    rw [look_drop_same h, hv]
    rfl
  · rw [look_put_same]
    rfl

/-- A write of a register changes no register at another place. -/
theorem rd_wr_other {s : State} {r r' : RegDesc} {i j : Nat} {v : Word} (h : r'.addr j ≠ r.addr i) :
    (s.wr r i v).rd r' j = s.rd r' j := by
  simp only [State.rd, State.wr, regAt]
  split
  · rw [look_drop_ne _ h]
  · rw [look_put_ne _ h]

/-- A write of a register keeps the keys rising. -/
theorem rising_wr {s : State} {r : RegDesc} {i : Nat} {v : Word} (h : rising s.regs = true) : rising (s.wr r i v).regs = true := by
  simp only [State.wr]
  split
  · exact rising_drop h
  · exact rising_put h

/-- Setting a field changes no register at another place. -/
theorem rd_setFld_other {s : State} {f : Fld} {r' : RegDesc} {i j v : Nat} (h : r'.addr j ≠ f.reg.addr i) :
    (s.setFld f i v).rd r' j = s.rd r' j := rd_wr_other h

/-- Setting a field keeps the keys rising. -/
theorem rising_setFld {s : State} {f : Fld} {i v : Nat} (h : rising s.regs = true) : rising (s.setFld f i v).regs = true := rising_wr h

/-- A register put back to its reset value reads it. -/
theorem rd_resetReg {s : State} {r : RegDesc} {i : Nat} (h : rising s.regs = true) : (s.resetReg r i).rd r i = r.resetWord i := by
  simp only [State.rd, State.resetReg, regAt, look_drop_same h]
  rfl

end Sys2Proof.Laws
end

