-- ==== Sys2Proof/Laws/Flash.lean ====
section
/-! SUPPORT. The flash as a memory: what programming and erasing do to each byte, and that both keep the canonical form. -/

namespace Sys2Proof.Laws

open Machine

/-- The byte a list of cells has at an offset. -/
def byteIn (l : List Host.Cell) (x : Nat) : Byte := (look x l).getD erasedByte

theorem all_put {p : Host.Cell → Bool} {k : Nat} {v : Byte} {l : List Host.Cell} (hl : l.all p = true) (hv : p (k, v) = true) :
    (put k v l).all p = true := by
  rw [List.all_eq_true] at *
  intro e he
  rcases mem_put he with rfl | h
  · exact hv
  · exact hl e h

theorem all_drop {p : Host.Cell → Bool} {k : Nat} {l : List Host.Cell} (hl : l.all p = true) : (drop k l).all p = true := by
  rw [List.all_eq_true] at *
  exact fun e he => hl e (mem_drop he)

/-- Storing a byte keeps the canonical form. -/
theorem wf_putByte {a : Nat} {b : Byte} {l : List Host.Cell} (h : Memory.wf l = true) : Memory.wf (putByte a b l) = true := by
  simp only [Memory.wf, Bool.and_eq_true] at *
  unfold putByte
  split
  · exact ⟨rising_drop h.1, all_drop h.2⟩
  · rename_i hb
    exact ⟨rising_put h.1, all_put h.2 (by simpa using hb)⟩

/-- A byte that is stored is read back, and no other changes. -/
theorem byte_putByte {a x : Nat} {b : Byte} {l : List Host.Cell} (h : Memory.wf l = true) :
    byteIn (putByte a b l) x = if x = a then b else byteIn l x := by
  simp only [Memory.wf, Bool.and_eq_true] at h
  unfold byteIn putByte
  by_cases hx : x = a
  · subst hx
    rw [if_pos rfl]
    split
    · rename_i hb; rw [look_drop_same h.1, hb]; rfl
    · rw [look_put_same]; rfl
  · rw [if_neg hx]
    split
    · rw [look_drop_ne _ hx]
    · rw [look_put_ne _ hx]

/-- Storing bytes keeps the canonical form. -/
theorem wf_putBytes {b : List Byte} {a : Nat} {l : List Host.Cell} (h : Memory.wf l = true) : Memory.wf (putBytes b a l) = true := by
  induction b generalizing a l with
  | nil => exact h
  | cons v b ih => exact ih (wf_putByte h)

/-- Bytes that are stored are read back, and no other changes. -/
theorem byte_putBytes {b : List Byte} {a x : Nat} {l : List Host.Cell} (h : Memory.wf l = true) :
    byteIn (putBytes b a l) x = if a ≤ x ∧ x < a + b.length then b.getD (x - a) 0 else byteIn l x := by
  induction b generalizing a l with
  | nil => rw [putBytes, if_neg (by simp only [List.length_nil]; omega)]
  | cons v b ih =>
    rw [putBytes, ih (wf_putByte h), byte_putByte h]
    by_cases h1 : a + 1 ≤ x ∧ x < a + 1 + b.length
    · rw [if_pos h1, if_pos (by simp; omega), show x - a = (x - (a + 1)) + 1 by omega, List.getD_cons_succ]
    · rw [if_neg h1]
      by_cases h2 : x = a
      · subst h2; simp
      · rw [if_neg h2, if_neg (by simp; omega)]

/-- Erasing keeps the canonical form. -/
theorem wf_erase {a n : Nat} {l : List Host.Cell} (h : Memory.wf l = true) : Memory.wf (eraseBytes a n l) = true := by
  simp only [Memory.wf, Bool.and_eq_true, List.all_eq_true] at *
  exact ⟨rising_filter h.1, fun e he => h.2 e (List.mem_filter.mp he).1⟩

/-- What a table holds at a key once entries have been taken out. -/
theorem look_filter {α : Type} {p : Nat → Bool} (l : List (Nat × α)) (k : Nat) :
    look k (l.filter (fun e => p e.1)) = if p k then look k l else none := by
  induction l with
  | nil => simp [look]
  | cons e l ih =>
    obtain ⟨j, v⟩ := e
    by_cases hj : p j = true
    · rw [List.filter_cons_of_pos (by simpa using hj)]
      by_cases hk : j = k
      · subst hk; simp [look, hj]
      · simp [look, hk, ih]
    · rw [List.filter_cons_of_neg (by simpa using hj), ih]
      by_cases hk : j = k
      · subst hk; simp [hj]
      · simp [look, hk]

/-- Bytes of an erased range read as erased, and no other changes. -/
theorem byte_erase {a n x : Nat} {l : List Host.Cell} :
    byteIn (eraseBytes a n l) x = if a ≤ x ∧ x < a + n then erasedByte else byteIn l x := by
  unfold byteIn eraseBytes
  rw [look_filter (p := fun k => !(decide (a ≤ k) && decide (k < a + n)))]
  by_cases h : a ≤ x ∧ x < a + n
  · simp [h]
  · by_cases h1 : a ≤ x
    · have : ¬ x < a + n := fun h2 => h ⟨h1, h2⟩
      simp [this]
    · simp [h1]

end Sys2Proof.Laws
end

