-- ==== Sys2Proof/Laws/Wire.lean ====
section
/-! SUPPORT. The Reed-Solomon decoder on the word of zeros, and what a received frame holds (R166, R167). -/

namespace Sys2Proof.Laws

open Machine

/-- Zero times any element of the field is zero. -/
theorem gfMul_zero (n x : Nat) : gfMul n 0 x = 0 := by
  induction n generalizing x with
  | zero => rfl
  | succ n ih => unfold gfMul; rw [show gfX 0 = 0 from rfl, ih, ite_self]; rfl

/-- The polynomial of zeros is zero at every point. -/
theorem polyAt_zero (n x : Nat) : polyAt (List.replicate n 0) x = 0 := by
  induction n with
  | zero => rfl
  | succ n ih =>
    rw [List.replicate_succ]
    show Nat.xor 0 (gfMul 10 (polyAt (List.replicate n 0) x) x) = 0
    rw [ih, gfMul_zero]; rfl

theorem sum_zero (n : Nat) : (List.replicate n 0).foldl (· + ·) 0 = 0 := by
  induction n with
  | zero => rfl
  | succ n ih => exact ih

theorem getD_zero (n t : Nat) : (List.replicate n 0).getD t 0 = 0 := by
  simp only [List.getD, List.getElem?_replicate]; split <;> rfl

/-- A lane that gives no levels gives symbols of zero. -/
theorem unlevel_nil (n : Nat) : unlevel n [] = List.replicate n 0 := by
  induction n with
  | zero => rfl
  | succ n ih => rw [List.replicate_succ, ← ih]; rfl

/-- The word of zeros is a codeword: it is decoded as it is, with nothing corrected (R167). -/
theorem rsDecode_zero : rsDecode (List.replicate 544 0) = some (List.replicate 544 0, 0) := by
  have hs : ∀ m, rsSyndromes (List.replicate m 0) = List.replicate 30 0 := by
    intro m; unfold rsSyndromes; rw [List.reverse_replicate]; simp only [polyAt_zero, List.map_const', List.length_range]
  have hk : (List.range 30).foldl (Locator.step (List.replicate 30 0)) {} = { gap := 31 } := by decide +kernel
  have hp : ∀ y, polyAt [1] y = 1 := by
    intro y; show Nat.xor 1 (gfMul 10 0 y) = 1; rw [gfMul_zero]; rfl
  unfold rsDecode
  generalize (544 : Nat) = m
  simp only [hs, hk, hp, getD_zero, Nat.one_ne_zero, if_false, List.map_const', List.length_range, List.map_replicate, sum_zero]
  rfl

/-- A frame of five flits is received whatever the lanes give (R166). -/
theorem frameIn_length (scr : Nat) (l : List (List Nat)) : (frameIn scr l).flits.length = 5 := by
  unfold frameIn; simp

/-- A frame of zeros on one lane has two good codewords. -/
theorem frameIn_zero (scr : Nat) : (frameIn scr [[]]).bad = false := by
  have h : ∀ n k : Nat, (List.range 544).map (fun t => (([[]].map (unlevel n)).getD (t % 1) []).getD (k + t / 1) 0) =
      List.replicate 544 0 := by
    intro n k
    rw [show (fun t => (([[]].map (unlevel n)).getD (t % 1) []).getD (k + t / 1) 0) = fun _ => 0 from funext fun t => by
      rw [Nat.mod_one]; show (unlevel n []).getD (k + t / 1) 0 = 0; rw [unlevel_nil, getD_zero]]
    rw [List.map_const', List.length_range]
  unfold frameIn
  simp only [List.length_cons, List.length_nil, Nat.zero_add]
  generalize 544 / 1 = m
  have g := fun k => h (2 * m) k
  have g0 := g 0
  simp only [Nat.mod_one, Nat.zero_add] at g g0 ⊢
  rw [g0, g, rsDecode_zero]; rfl

end Sys2Proof.Laws
end

