-- ==== Sys2Proof/Machine/Balls.lean ====
section
/-! DEFINITION. The ball grid (R391 to R396), and what Kalnum drives at its low-speed outputs (R354, R397, R405, Table 16.14). -/

namespace Sys2Proof.Machine

/-- What a ball carries (Tables 16.2 to 16.4). -/
inductive Ball where
  | txp (lane : Nat) | txn (lane : Nat) | rxp (lane : Nat) | rxn (lane : Nat)
  | refclkP (cluster : Nat) | refclkN (cluster : Nat) | coreClkP | coreClkN
  | perstOutN (port : Nat) | clkreqN (port : Nat)
  | prsntLN (guard : Nat) | prsntSN (guard : Nat) | preEn (guard : Nat) | gateEn (guard : Nat) | faultInN (guard : Nat)
  | ssbClk (bus : Nat) | ssbSync (bus : Nat) | ssbD (bus line : Nat)
  | avsClk (bus : Nat) | avsMdata (bus : Nat) | avsSdata (bus : Nat)
  /-- VDD_CORE_SNS_P, VDD_CORE_SNS_N, VDD_SDS_SNS_P, VDD_SDS_SNS_N. -/
  | sense (k : Nat)
  | testEn | rsvd (n : Nat) | gpio (i : Nat)
  | spiClk | spiCsN | spiDqs | spiIo (k : Nat) | spiResetN
  | tck | tms | tdi | tdo | trstN
  | uartTx | uartRx | ppsIn | ppsOut
  | smbScl | smbSda | smbAlertN | i3cScl | i3cSda | pmbScl | pmbSda | pmbAlertN
  | thermtripN | pwrWarnN | perstN
  | vss | vddCore | vddSds | vddaSds | vddIo | vddAux
  deriving DecidableEq, Repr

/-- Positions without a ball (R391): the corner gap and the centre keep-out. -/
def bare (r c : Nat) : Bool :=
  (r == 1 && c ≤ 8) || (c == 1 && 2 ≤ r && r ≤ 9) || (35 ≤ r && r ≤ 48 && 35 ≤ c && c ≤ 48)

/-- A perimeter ball (R394): PERST_OUT_N and CLKREQ_N of a side's 36 ports stand by turns from `first` on. -/
def portBall (base k : Nat) : Ball := if k < 72 then (if k % 2 = 0 then .perstOutN (base + k / 2) else .clkreqN (base + k / 2)) else .vss

/-- The balls of rows 001 and 082 and of columns 001 and 082 (R394). -/
def perimeterBall (r c : Nat) : Ball :=
  if r = 1 then portBall 0 (c - 9)
  else if r = 82 then (if 10 ≤ c && c ≤ 81 then portBall 72 (81 - c) else .vss)
  else if c = 82 then (if 74 ≤ r && r ≤ 77 then .vddAux else portBall 36 (r - 2))
  else if 10 ≤ r && r ≤ 81 then portBall 108 (81 - r) else .vss

/-- The cluster of a block of the ring (Table 16.2). -/
def blockCluster (br bc : Nat) : Option Nat :=
  if br = 0 && bc ≤ 8 then some bc
  else if bc = 9 && br ≤ 8 then some (9 + br)
  else if br = 9 && 1 ≤ bc && bc ≤ 9 then some (18 + (9 - bc))
  else if bc = 0 && 1 ≤ br && br ≤ 9 then some (27 + (9 - br)) else none

/-- A ball of a cluster's block (R392, R393), at row `dr` and column `dc` of the block. -/
def clusterBall (c dr dc : Nat) : Ball :=
  match dr with
  | 1 => .rxp (8 * c + dc)
  | 2 => .rxn (8 * c + dc)
  | 3 => if dc = 3 then .refclkP c else .vss
  | 4 => if dc = 3 then .refclkN c else .vss
  | 5 => .txp (8 * c + dc)
  | 6 => .txn (8 * c + dc)
  | _ => .vss

/-- A guard's balls (Table 16.4). -/
def guardBall (g j : Nat) : Ball :=
  match j with
  | 0 => .prsntLN g
  | 1 => .prsntSN g
  | 2 => .preEn g
  | 3 => .gateEn g
  | _ => .faultInN g

/-- Row 012 of the low-speed area, from column 010 on (Table 16.4). -/
def row12 (k : Nat) : Ball :=
  if k < 30 then (match k % 10 with | 0 => .ssbClk (k / 10) | 1 => .ssbSync (k / 10) | j => .ssbD (k / 10) (j - 2))
  else if k < 36 then (match (k - 30) % 3 with | 0 => .avsClk ((k - 30) / 3) | 1 => .avsMdata ((k - 30) / 3) | _ => .avsSdata ((k - 30) / 3))
  else if k < 40 then .sense (k - 36)
  else if k = 40 then .coreClkP else if k = 41 then .coreClkN else if k = 42 then .testEn
  else if k < 59 then .rsvd (k - 43) else .vss

/-- Row 013 of the low-speed area, from column 010 on (Table 16.4). -/
def row13 (k : Nat) : Ball :=
  if k < 32 then .gpio k
  else
    let l : List Ball := [.spiClk, .spiCsN, .spiDqs, .spiIo 0, .spiIo 1, .spiIo 2, .spiIo 3, .spiIo 4, .spiIo 5, .spiIo 6, .spiIo 7,
      .spiResetN, .tck, .tms, .tdi, .tdo, .trstN, .uartTx, .uartRx, .ppsIn, .ppsOut, .smbScl, .smbSda, .smbAlertN, .i3cScl, .i3cSda,
      .pmbScl, .pmbSda, .pmbAlertN, .thermtripN, .pwrWarnN, .perstN]
    l.getD (k - 32) .vss

/-- A power or ground ball of rows 014 to 073 (R396). -/
def powerBall (r c : Nat) : Ball :=
  let d := min (min (r - 14) (73 - r)) (min (c - 10) (73 - c))
  if (r + c) % 2 = 1 then .vss else if d ≤ 1 then .vddaSds else if d ≤ 5 then .vddSds else if d = 6 then .vddIo else .vddCore

/-- A ball of the inner area (R395, R396). -/
def innerBall (r c : Nat) : Ball :=
  if r ≤ 11 then (if c < 70 then guardBall (12 * (r - 10) + (c - 10) / 5) ((c - 10) % 5) else .vss)
  else if r = 12 then row12 (c - 10)
  else if r = 13 then row13 (c - 10)
  else powerBall r c

/-- The ball at a row and a column, both from 1 to 82. -/
def ballAt (r c : Nat) : Option Ball :=
  if r = 0 || 82 < r || c = 0 || 82 < c || bare r c then none
  else if r = 1 || r = 82 || c = 1 || c = 82 then some (perimeterBall r c)
  else match blockCluster ((r - 2) / 8) ((c - 2) / 8) with
    | some k => some (clusterBall k ((r - 2) % 8) ((c - 2) % 8))
    | none => some (innerBall r c)

/-! ## Levels at outputs -/

/-- What Kalnum does at an output. -/
inductive Level where
  | low | high | released
  /-- Electrical idle. -/
  | idle
  /-- A 1.00 Hz square wave of 50 % duty. -/
  | blink
  deriving DecidableEq, Repr

/-- An indicator's level, from its Slot Control encoding (PRESUMED, notes/assumptions/20: 1 on, 2 blink, 3 off). -/
def lamp (x : Nat) : Level := if x = 1 then .high else if x = 2 then .blink else .low

/-- What a GPIO drives: an input nothing, an indicator its level (Table 16.14); an output of the firmware is the firmware's
(notes/assumptions/44). -/
def State.gpioLevel (s : State) (i : Nat) : Option Level :=
  match look i s.pins.gpio with
  | none | some (0, _) | some (3, _) | some (5, _) => some .released
  | some (1, g) => some (lamp (s.fld F.SPG_SLOT_STATE.ATTN_IND g))
  | some (2, g) => some (lamp (s.fld F.SPG_SLOT_STATE.PWR_IND g))
  | _ => none

/-- The reset state of an output that nothing else is said of (Table 16.6). -/
def resetLevel : Ball → Option Level
  | .txp _ | .txn _ => some .idle
  | .clkreqN _ | .tdo | .gpio _ | .smbScl | .smbSda | .smbAlertN | .i3cScl | .i3cSda | .pmbScl | .pmbSda | .pmbAlertN => some .released
  | .ssbClk _ | .ssbSync _ | .avsClk _ | .avsMdata _ | .spiClk | .spiResetN => some .low
  | .spiCsN | .uartTx => some .high
  | _ => none

/-- PPS_OUT is high for 1.00 ms after its edge, while it is enabled and the timebase valid (R407). -/
def State.ppsHigh (s : State) : Bool :=
  s.flag F.PWR_TB_CFG.PPS_OUT_EN && s.tbValid && s.pins.ppsRose.any (fun t => s.now < t + ms 1)

/-- The rail of an output's pad is good (Table 16.6). -/
def State.padRail (s : State) : Ball → Bool
  | .thermtripN => true
  | .txp _ | .txn _ => s.pins.sds
  | _ => s.pins.io

/-- The level Kalnum itself gives an output, where the spec states one: the guards' enables and PERST_OUT_N (Table 14.1, R405),
THERMTRIP_N (R327), the indicators (R367), PPS_OUT (R407), and in RESET the states of Table 16.6.  PERST_OUT_N of a host-edge port is an
input (R404). -/
def State.coreLevel (s : State) : Ball → Option Level
  | .preEn g => some (if s.flag F.SPG_SLOT_STATE.PRE_EN g then .high else .low)
  | .gateEn g => some (if s.flag F.SPG_SLOT_STATE.GATE_EN g then .high else .low)
  | .perstOutN p => if s.isHostEdge p then some .released else some (if s.pins.released.contains p then .high else .low)
  | .thermtripN => some (if s.pins.tripped then .low else .released)
  | .ppsOut => some (if s.ppsHigh then .high else .low)
  | .gpio i => if s.mode = .reset then resetLevel (.gpio i) else s.gpioLevel i
  | b => if s.mode = .reset then resetLevel b else none

/-- The level at an output: high impedance until VDD_AUX has been good for 1.00 ms (R397) or while its own rail is not good (R413), and
under HIGHZ; the boundary register's under the
instructions that drive it (R412: its cells' order is the part's BSDL file, which the spec does not give), else Kalnum's own. -/
def State.level (s : State) (b : Ball) : Option Level :=
  if !s.pins.aux || s.now < s.pins.auxSince + ms 1 || !s.padRail b then some .released
  else match s.padMode with
    | .highZ => some .released
    | .driven => none
    | .functional => s.coreLevel b

end Sys2Proof.Machine
end

