-- ==== Sys2Proof/Machine/Latency.lean ====
section
/-! DEFINITION. The latency formula of chapter 09 (R247 to R255, R423), in nanoseconds as exact fractions.  It reads the state and
changes nothing: the block's clock carries no packet from ball to ball (notes/assumptions/1).  What the formula takes from outside,
the load ρ in percent, the length of a channel and the waits, are its arguments. -/

namespace Sys2Proof.Machine

/-! ## Tables -/

/-- Linear interpolation in a table of rising arguments, held at its ends (R251, R252). -/
def interpolate : List (Rat × Rat) → Rat → Rat
  | [], _ => 0
  | [(_, y)], _ => y
  | (x0, y0) :: (x1, y1) :: l, x =>
    if x ≤ x0 then y0
    else if x ≤ x1 then y0 + (y1 - y0) * (x - x0) / (x1 - x0)
    else interpolate ((x1, y1) :: l) x

/-- The bank-contention factor b(ρ) of a load in percent (Table 9.3). -/
def contention (rho : Rat) : Rat :=
  interpolate [(0, 1), (25, 101 / 100), (50, 103 / 100), (75, 105 / 100), (90, 108 / 100), (95, 110 / 100), (99, 112 / 100),
    (100, 112 / 100)] rho

/-- One voltage of Table 9.2: the highest k at −40, 25, 105 and 150 °C, given in hundredths. -/
def kRow (a b c d : Rat) (temp : Rat) : Rat :=
  interpolate [(-40, a / 100), (25, b / 100), (105, c / 100), (150, d / 100)] temp

/-- The highest k any device shows at a core voltage in millivolts and a junction temperature (R251, Table 9.2). -/
def highestK (mv temp : Rat) : Rat :=
  interpolate [(600, kRow 330 215 185 184 temp), (660, kRow 210 152 138 140 temp), (720, kRow 145 114 110 113 temp),
    (760, kRow 112 100 101 105 temp), (800, kRow 93 90 93 97 temp), (850, kRow 84 82 87 92 temp)] mv

/-! ## Terms (Table 9.1) -/

/-- The core delay factor k as the device reads it (R31). -/
def State.delayK (s : State) : Rat := (s.coreDelay : Rat) / 256

/-- T_cluster of a port: the shorter of the periods that the two ceilings of its cluster select, for every port of it (R20, R51,
Table 1.5). -/
def State.tCluster (s : State) (p : Nat) : Rat :=
  let c := clusterOf p
  let x := s.fld F.PCL_CLUSTER_CFG.CEIL_PCIE c
  let y := s.fld F.PCL_CLUSTER_CFG.CEIL_KFL c
  if y = 2 then 29 / 100 else if x = 7 || y = 1 then 50 / 100 else if 5 ≤ x then 1 else 2

/-- The rate of a port in Gb/s. -/
def State.gbps (s : State) (p : Nat) : Rat := (s.portRate p : Rat) / 10

/-- T_acc: the time to receive 2,048 bits (R249). -/
def State.tAcc (s : State) (p : Nat) : Rat := 2048 / s.gbps p

/-- A port runs at 64 or 128 GT/s. -/
def State.fast (s : State) (p : Nat) : Bool := 6 ≤ s.fld F.PCL_PORT_STATUS.RATE_NOW p

/-- T_rx, and T_rx,KFL at a fabric port. -/
def State.tRx (s : State) (p : Nat) : Rat :=
  if s.proto p = 2 then 300 / 100 + 450 / 100 + s.tAcc p
  else 360 / 100 + (if s.fast p then 240 / 100 else 120 / 100) + s.tAcc p

/-- T_tx, and T_tx,KFL at a fabric port. -/
def State.tTx (s : State) (p : Nat) : Rat :=
  if s.proto p = 2 then 150 / 100 + 300 / 100
  else (if s.fast p then 120 / 100 else 60 / 100) + 320 / 100

/-- T_x,in and T_x,out: a crossing of the port's cluster. -/
def State.tCross (s : State) (p : Nat) : Rat := 2 * (s.tCluster p + 42 / 100 * s.delayK)

/-- The transfers that data of `bytes` takes at a crossing of a cluster: one 256-byte word each (R39). -/
def crossWords (bytes : Nat) : Nat := ceilDiv bytes 256

/-- The time data of `bytes` occupies a crossing of the port's cluster one way (R39, R342): a transfer starts once the one before is
acknowledged. -/
def State.crossTime (s : State) (p bytes : Nat) : Rat := crossWords bytes * s.tCross p

/-- b(ρ)·T_core at a load. -/
def State.tCore (s : State) (rho : Rat) : Rat := contention rho * (924 / 100 * s.delayK)

/-- The channel term of a length in metres. -/
def tChannel (metres : Rat) : Rat := 5 * metres

/-- T_sf: what store-and-forward adds where R72 chooses it; `bytes` are TLP bytes, on a KFL ingress 16 times the slots (R250). -/
def State.tSf (s : State) (p q : Nat) (bytes : Nat) : Rat :=
  if s.storeForward p q then (bytes : Rat) * 8 / s.gbps p else 0

/-! ## Waits (R253, R254) -/

/-- T_pkt,out: the time of a packet of `bytes` TLP bytes and `slots` KFL slots on its egress port (R253).  A KFL slot takes 0.0810 ns
at x8 and 224 Gb/s, and at another width or lane rate in proportion to the frame time (Table 6.2). -/
def State.tPkt (s : State) (q bytes slots : Nat) : Rat :=
  if s.proto q = 2 then (slots : Rat) * (810 / 10000) * (1792 / s.gbps q) else ((bytes : Rat) + 24) * 8 / s.gbps q

/-- W_q: the mean egress wait at a utilisation in percent; the formula gives no figure for one of 100 (R253). -/
def egressWait (rho tPkt : Rat) : Option Rat := if 100 ≤ rho then none else some ((rho / 100) / (2 * (1 - rho / 100)) * tPkt)

/-- The longest wait at a shaper: what it is below 0, at its rate (R254). -/
def State.shaperWait (s : State) (b : BucketId) : Rat :=
  let (rate, _) := s.bucketCfg b
  let t := (s.bucket b).tokens
  if rate = 0 || decide (0 ≤ t) then 0 else ((-t : Int) : Rat) / 1024 * 8000 / rate

/-- The first of a run of stretches, from `t` ns on, at which `ok` holds of the stretches from there and the one before. -/
def firstStretch (ok : Option (Nat × Nat) → List (Nat × Nat) → Bool) : Option (Nat × Nat) → List (Nat × Nat) → Nat → Option Nat
  | _, [], _ => none
  | was, e :: l, t => if ok was (e :: l) then some t else firstStretch ok (some e) l (t + e.2)

/-- The longest wait at a gate: until the class's next opening in which a packet of `bytes` fits, or, for one that fits no window, the
start of the class's next window (R240, R254). -/
def State.gateWait (s : State) (q c bytes : Nat) : Option Nat :=
  if !s.gated q then some 0
  else match look q s.qos.gclRun, look q s.qos.gclNext with
    | some (cycle, _), some next =>
      let l := cutList cycle (s.operList q)
      let n := (bytes + s.fld F.QOS_PORT_CFG.OVH q) * 8 * 10
      let i := if s.qos.gclHeld.contains q then 0 else s.fld F.QOS_GCL_STATUS.CUR_ENTRY q + 1
      let ahead := (s.fld F.QOS_GCL_STATUS.CUR_GATES q, next - s.tb.toNat) :: (l.drop i ++ l ++ l)
      if l.all (fun e => bits e.1 c 1 == 1) then some 0
      else if longestWindow c l * s.portRate q < n then
        firstStretch (fun was r => was.elim false (fun e => bits e.1 c 1 == 0) && 0 < openRun c r) none ahead 0
      else firstStretch (fun _ r => decide (n ≤ openRun c r * s.portRate q)) none ahead 0
    | _, _ => some 0

/-- W_sched at this device, at most (R254): W_q, the shapers of the packet's queue, node and port, and its gate; none where a part has
no figure.  What other children take under R234 is in W_q. -/
def State.schedWait (s : State) (q n c bytes slots : Nat) (rho : Rat) : Option Rat :=
  match egressWait rho (s.tPkt q bytes slots), s.gateWait q c bytes with
  | some w, some g =>
    some (w + ([.sq (8 * n + c), .sqCs (8 * n + c), .node n, .nodeCs n, .port q].map s.shaperWait).foldl (· + ·) 0 + g)
  | _, _ => none

/-- W_reseq is at most SKEW for a flow whose BND_FAB_SKEW_EXC_CNT does not change (R254). -/
def State.reseqBound (s : State) : Rat := (s.fld F.BND_FAB_RESEQ_CFG.SKEW : Rat)

/-! ## Paths (R247, R255, R423) -/

/-- One KFL hop: the channel, the device it leads to, its ports on the path and its load. -/
structure HopAt where
  metres : Rat
  dev : State
  inPort : Nat
  outPort : Nat
  rho : Rat

/-- T_kfl of a hop that `p` of `s` sends (Table 9.1). -/
def State.tKfl (s : State) (p : Nat) (h : HopAt) : Rat :=
  s.tTx p + tChannel h.metres + h.dev.tRx h.inPort + h.dev.tCross h.inPort + h.dev.tCore h.rho + h.dev.tCross h.outPort

/-- The hops of a path that leaves `s` by `p`, with T_tx of the last device. -/
def State.hopsTime (s : State) (p : Nat) : List HopAt → Rat
  | [] => s.tTx p
  | h :: l => s.tKfl p h + State.hopsTime h.dev h.outPort l

/-- L of a packet that enters `s` at `p` and leaves it by `q` (R247): `waits` is the sum of W_sched over the path and `reseq` W_reseq. -/
def State.latency (s : State) (p q : Nat) (rho : Rat) (hops : List HopAt) (waits reseq : Rat) : Rat :=
  s.tRx p + s.tCross p + s.tCore rho + s.tCross q + s.hopsTime q hops + waits + reseq

/-- The latency of a packet that Kalnum originates: no ingress terms (R423). -/
def State.ownLatency (s : State) (q : Nat) (rho : Rat) (hops : List HopAt) (waits reseq : Rat) : Rat :=
  s.tCore rho + s.tCross q + s.hopsTime q hops + waits + reseq

/-- The bound of R255: b = 1.12 at every device and no waits, with `sf` the sum of T_sf over the path; for a path of more than 4 KFL
hops none is stated (R37). -/
def State.latencyBound (s : State) (p q : Nat) (hops : List HopAt) (sf : Rat) : Option Rat :=
  if 4 < hops.length then none else some (s.latency p q 100 (hops.map (fun h => { h with rho := 100 })) 0 0 + sf)

end Sys2Proof.Machine
end

