-- ==== Sys2Proof/Tests/Slice0.lean ====
section
/-! SUPPORT. The model's own tests: ill-formed commands, and for every statement with hypotheses a state and operands that meet them. -/

namespace Sys2Proof.Tests

open Machine

theorem test_request_of_completion_refused : Instr.wellFormed (.hostRequestRx 0 { kind := .cpl }) = false := by decide
theorem test_request_short_payload_refused : Instr.wellFormed (.hostRequestRx 0 { kind := .mwr, len := 4 }) = false := by decide
theorem test_target_request_of_completion_refused : Instr.wellFormed (.targetRequestRx 0 { kind := .cxlDrs }) = false := by decide
theorem test_completion_of_request_refused : Instr.wellFormed (.completionRx 0 { kind := .mrd, len := 4 }) = false := by decide
theorem test_fabric_feid_refused : Instr.wellFormed (.fabricPacketRx 0 { hdr := { dst := 4096 } }) = false := by decide
theorem test_fabric_source_refused : Instr.wellFormed (.fabricPacketRx 0 { hdr := { src := 4096 } }) = false := by decide
theorem test_fabric_payload_refused : Instr.wellFormed (.fabricPacketRx 0 { tlp := some { kind := .mwr, len := 4 } }) = false := by decide
theorem test_request_arrives : Instr.wellFormed (.hostRequestRx 0 { kind := .mrd, len := 4 }) = true := by decide
theorem test_upper_bytes_cross_nothing : crossesWord 0xF0 = false := by decide
theorem test_bytes_of_both_words_cross : crossesWord 0x18 = true := by decide

/-! ## Witnesses: for each statement with hypotheses, a state and operands that meet them, clause by clause -/

set_option Elab.async false

/-- A state with fields set: field, place, value. -/
def fields (l : List (Fld × Nat × Nat)) (s : State) : State := l.foldl (fun s e => s.setFld e.1 e.2.1 e.2.2) s
/-- A mode in which Malacel answers. -/
def inMode (m : Mode) : State := fields [(F.MGT_CRB_STATUS.FW_READY, 0, 1)] { State.reset with mode := m, now := 1000000000 }
/-- COMPOSED, Malacel answering. -/
def up : State := inMode .composed
/-- MAINTENANCE, entered from COMPOSED. -/
def maint : State := fields [(F.PWR_STATUS.ENTERED_FROM, 0, 3)] (inMode .maintenance)
/-- With a timer that is due. -/
def late (k : TimerKind) (i : Nat) (s : State) : State := { s with timers := ⟨k, i, 0⟩ :: s.timers }
/-- With a live port of a role, a protocol and a link state. -/
def port (p role proto st : Nat) (s : State) : State := fields [(F.PCL_SLOT_CFG.WIDTH, p, 3), (F.PCL_SLOT_CFG.ROLE, p, role),
  (F.PCL_SLOT_CFG.PROTO, p, proto), (F.PCL_PORT_STATUS.STATE, p, st), (F.PCL_PORT_STATUS.WIDTH_NOW, p, 4), (F.PCL_PORT_STATUS.RATE_NOW, p, 4),
  (F.PCL_CLUSTER_STATUS.CLK_STOPPED, clusterOf p, 0),
  (F.PCL_CLUSTER_STATUS.REFCLK_OK, clusterOf p, 1), (F.PCL_PORT_CTRL.ENABLE, p, 1)] s
/-- A request over the rings about an object: the widths and values of its body. -/
def ask (o : Nat) (b : List (Nat × Nat)) : CrbReq :=
  let l := (b.map (fun e => leBytes e.1 e.2)).flatten
  { src := .rings, object := o, length := l.length, body := l }
/-- A request for the words of registers as they are, but for word `k`. -/
def askSet (s : State) (o : Nat) (l : List (RegDesc × Nat)) (k v : Nat) : CrbReq :=
  ask o ((List.range l.length).map (fun j => let e := l.getD j (R.MGT_IDENT, 0); (4, if j = k then v else (s.rd e.1 e.2).toNat)))
/-- The edit session is open. -/
def session (h : Requester) (s : State) : State := s.onBnd (fun y => { y with session := some { holder := h, lastUse := 0 } })
/-- A binding entry is active, its vDSP's place with it, and its binding in a state. -/
def bound (i st : Nat) (b : BitVec 512) (s : State) : State :=
  fields [(F.BND_BIND_STATE.STATE, i, st)] (s.onBnd (fun y =>
    { y with active := { y.active with bind := [(i, b)], vdsp := [(64 * Bind.vh b + Bind.vdsp b, BitVec.ofNat 512 (3 + 4 * i))] } }))
/-- A KFL link at a port with its link state. -/
def kfl (p lst : Nat) (s : State) : State := fields [(F.KFL_LINK_STATUS.LSTATE, controllerOf p, lst)] (port p 2 2 3 s)
/-- A packet stored in the Churn, toward port 0. -/
def pktA : Pkt := { id := 1, inPort := 0, charge := 0, ord := .posted, vh := 0, tc := 0, dest := 0, gen := 7, len := 4, hdrLen := 16, stamp := 0, tIn := 0, binding := 0, tlp := some { kind := .mwr, len := 4, data := [1, 2, 3, 4] } }
/-- A packet of an earlier generation, toward port 1. -/
def pktB : Pkt := { id := 1, inPort := 0, charge := 0, ord := .posted, vh := 0, tc := 0, dest := 1, gen := 7, len := 4, hdrLen := 16, stamp := 0, tIn := 0 }
/-- A tracker entry. -/
def trkA : TrkEntry :=
  { state := .opn, vh := 0, bound := true, binding := 0, kind := .mrd, origRid := 0, origTag := 0,
    outRid := 0, outTag := 0, inPort := 0, outPort := 8, destFeid := 0, srcFeid := 0,
    bytesLeft := 8, bytesTotal := 8, acuTail := 0, gen := 0, tIssue := 0, fromHost := true, remote := false, quarEnd := 0, tlp := { kind := .mrd, len := 8 } }
/-- A flow context. -/
def flowA : FlowCtx := { idx := 0, closing := false, src := 7, vh := 0, ord := 0, expect := 0, closeSeq := 0, held := [], acked := 0, delivered := 0 }
/-- A plan toward the host. -/
def planA : Plan := { inPort := 0, charge := 0, vh := 0, bi := 0, dir := .down, check := false, abi := 0, rbi := 0, cid := 0, outTo := none, rid := 0, fresh := false, fromHost := true }
/-- A host edge at port 0, VH 0 active, and a target at port 8 behind binding 0 in a state. -/
def edge (st : Nat) (b : BitVec 512) (s : State) : State :=
  fields [(F.BND_VH_STATUS.STATE, 0, 2)] (port 0 0 0 3 (port 8 1 0 3 (bound 0 st b s)))
/-- The same, with nothing bound. -/
def edgeFree : State := fields [(F.BND_VH_STATUS.STATE, 0, 2)] (port 0 0 0 3 (port 8 1 0 3 up))
/-- A member of the fabric with a KFL link up, in a fabric state. -/
def member (st : Nat) : State :=
  fields [(F.BND_FAB_STATUS.STATE, 0, st), (F.BND_FAB_STATUS.FEID_NOW, 0, 5), (F.BND_FAB_STATUS.LEAD_KNOWN, 0, 1),
    (F.BND_FAB_STATUS.LEAD_FEID, 0, 9)] { kfl 0 5 up with mode := .fabric }
/-- Packets in the Churn. -/
def churned (l : List Pkt) (s : State) : State := s.onChurn (fun y => { y with pkts := l })
/-- Counting changes no link controller. -/
theorem stat_kl (s : State) (lo hi : RegDesc) (i n c : Nat) : (s.stat lo hi i n).kl c = s.kl c := rfl
/-- The first flit of a frame, the mark of its codewords, and the flits after it. -/
def flit1 (scr : Nat) (l : List (List Nat)) : List (BitVec 8) := ((frameIn scr l).flits.headD ([], false)).1
def mark1 (scr : Nat) (l : List (List Nat)) : Bool := ((frameIn scr l).flits.headD ([], false)).2
def flits2 (scr : Nat) (l : List (List Nat)) : List (List (BitVec 8) × Bool) := (frameIn scr l).flits.tail
theorem frame_flits (scr : Nat) (l : List (List Nat)) : (frameIn scr l).flits = (flit1 scr l, mark1 scr l) :: flits2 scr l := by
  have h := Laws.frameIn_length scr l
  unfold flit1 mark1 flits2
  cases e : (frameIn scr l).flits with
  | nil => rw [e] at h; cases h
  | cons x m => rfl

/-- The hypotheses of StepServesQueue can be met. -/
theorem witness_StepServesQueue :
    (∃ (s : State), s.pending = []) ∧
    (∃ (s : State), s.pending = [] ∧ s.mode = .reset) :=
  ⟨⟨(up : State), by decide +kernel⟩,
    ⟨(State.reset : State), by decide +kernel⟩⟩

/-- The hypotheses of EveryCommandCompletes can be met. -/
theorem witness_EveryCommandCompletes :
    (∃ (c : Instr), c.wellFormed = true) ∧
    (∃ (c : Instr), c.wellFormed = false) :=
  ⟨⟨(.quiesceLimit : Instr), by decide +kernel⟩,
    ⟨(.hostRequestRx 0 { kind := .cpl } : Instr), by decide +kernel⟩⟩

/-- The hypotheses of ResetState can be met. -/
theorem witness_ResetState :
    (∃ (s : State), s.mode = .reset) ∧
    (∃ (s : State), s.mode = .reset) ∧
    (∃ (s : State), s.mode = .reset) ∧
    (∃ (s : State), s.mode = .reset) :=
  ⟨⟨(State.reset : State), by decide +kernel⟩,
    ⟨(State.reset : State), by decide +kernel⟩,
    ⟨(State.reset : State), by decide +kernel⟩,
    ⟨(State.reset : State), by decide +kernel⟩⟩

/-- The hypotheses of RegistersAndCounters can be met. -/
theorem witness_RegistersAndCounters :
    (∃ (s : State) (r x : RegDesc) (i j : Nat), rising s.regs = true ∧ x.addr j ≠ r.addr i) ∧
    (∃ (s : State) (f : Fld), rising s.regs = true ∧ f.lo + f.width ≤ 32) ∧
    (∃ (s : State) (f : Fld) (g : Fld), g.reg = f.reg ∧ (g.lo + g.width ≤ f.lo ∨ f.lo + f.width ≤ g.lo) ∧ rising s.regs = true ∧ f.lo +
      f.width ≤ 32) ∧
    (∃ (s : State) (r : RegDesc) (i : Nat) (a : Nat) (b : Nat), rising s.regs = true ∧ r.kind = .sat (some (a, b)) ∧ a ≠ r.addr i) ∧
    (∃ (s : State) (r : RegDesc) (i : Nat) (n : Nat) (a : Nat) (b : Nat), rising s.regs = true ∧ r.kind = .sat (some (a, b)) ∧ a ≠ r.addr
      i ∧ 0xFFFFFFFF ≤ (s.rd r i).toNat + n ∧ n ≠ 0) ∧
    (∃ (s : State) (r : RegDesc) (i : Nat) (n : Nat) (a : Nat) (b : Nat), rising s.regs = true ∧ r.kind = .sat (some (a, b)) ∧ a ≠ r.addr
      i ∧ (s.rd r i).toNat + n < 0xFFFFFFFF) ∧
    (∃ (s : State) (lo : RegDesc) (hi : RegDesc) (i : Nat), rising s.regs = true ∧ lo.addr i ≠ hi.addr i) ∧
    (∃ (s : State) (f : Fld), rising s.regs = true ∧ f.lo + f.width ≤ 32 ∧ f.width = 16) ∧
    (∃ (s : State) (f : Fld) (i : Nat), s.flag f i = true) ∧
    (∃ (s : State) (f : Fld) (i : Nat), s.flag f i = false ∧ enableFor f = none) :=
  ⟨⟨up, R.PWR_EVT_EN, R.MGT_IDENT, 0, 0, by decide +kernel, by decide +kernel⟩,
    ⟨(up : State), (F.BND_VH_STATUS.STATE : Fld), by decide +kernel⟩,
    ⟨(up : State), (F.Q_CFG.DESC_LOG2 : Fld), (F.Q_CFG.CPL_LOG2 : Fld), rfl, by decide +kernel, by decide +kernel⟩,
    ⟨(up : State), (R.CHN_MC_STRIKE_CNT : RegDesc), (0 : Nat), (0x10000FC : Nat), (0 : Nat), by decide +kernel⟩,
    ⟨(up : State), (R.CHN_MC_STRIKE_CNT : RegDesc), (0 : Nat), (0xFFFFFFFF : Nat), (0x10000FC : Nat), (0 : Nat), by decide +kernel⟩,
    ⟨(up : State), (R.CHN_MC_STRIKE_CNT : RegDesc), (0 : Nat), (1 : Nat), (0x10000FC : Nat), (0 : Nat), by decide +kernel⟩,
    ⟨(up : State), (R.CHN_MIG_WORDS_LO : RegDesc), (R.CHN_MIG_WORDS_HI : RegDesc), (0 : Nat), by decide +kernel⟩,
    ⟨(up : State), (F.PWR_DROWSE_REFUSE_CNT.EVEN : Fld), by decide +kernel⟩,
    ⟨(fields [(F.CHN_EVT.BANK_FAIL, 0, 1)] up : State), (F.CHN_EVT.BANK_FAIL : Fld), (0 : Nat), by decide +kernel⟩,
    ⟨(up : State), (F.MGT_CNT_OVF.V : Fld), (0 : Nat), by decide +kernel⟩⟩

/-- The hypotheses of HolesReadZero can be met. -/
theorem witness_HolesReadZero :
    (∃ (s : State) (off : BitVec 26), s.mode ≠ .reset ∧ s.unoccupied (off.toNat / 4 * 4) = true) ∧
    (∃ (s : State) (off : BitVec 26) (be : BitVec 8), s.mode ≠ .reset ∧ s.unoccupied (off.toNat / 4 * 4) = true ∧ be.toNat / 16 = 0) ∧
    (∃ (s : State) (off : BitVec 26) (be : BitVec 8), s.mode ≠ .reset ∧ s.unoccupied (off.toNat / 4 * 4) = true ∧ be.toNat = 0xFF ∧
      s.unoccupied (off.toNat / 4 * 4 + 4) = true) :=
  ⟨⟨(up : State), (0x3FFFFF0 : BitVec 26), by decide +kernel⟩,
    ⟨(up : State), (0x3FFFFF0 : BitVec 26), (0 : BitVec 8), by decide +kernel⟩,
    ⟨(up : State), (0x3FFFFF0 : BitVec 26), (0xFF : BitVec 8), by decide +kernel⟩⟩

/-- The hypotheses of PacketsKept can be met. -/
theorem witness_PacketsKept :
    (∃ (q : CrbReq) (code : Nat), code < 65536 ∧ q.length < 65536 ∧ q.object < 65536 ∧ q.dk96 = false) ∧
    (∃ (q : CrbReq) (code : Nat), code < 65536 ∧ q.length < 65536 ∧ q.object < 65536 ∧ q.dk96 = true ∧ q.flags = 0 ∧ q.feid = 0) ∧
    (∃ (b : List Byte) (k : Nat), 1 ≤ b.length ∧ b.length ≤ 5120 ∧ k < ceilDiv b.length 20) :=
  ⟨⟨(ask 0 [] : CrbReq), (0 : Nat), by decide +kernel⟩,
    ⟨({ (ask 0 []) with dk96 := true } : CrbReq), (0 : Nat), by decide +kernel⟩,
    ⟨[0], 0, by decide +kernel, by decide +kernel, by decide +kernel⟩⟩

/-- The hypotheses of RepliesAndRecords can be met. -/
theorem witness_RepliesAndRecords :
    (∃ (q : CrbReq) (code : Nat) (st : Nat) (d : Nat) (final : Bool) (dup : Bool) (data : List Byte) (b : List Byte), b = replyBytes code
      q final dup st d data ∧ code < 65536 ∧ q.object < 65536 ∧ st < 65536 ∧ d < 65536 ∧ 4 + data.length < 65536 ∧ q.dk96 = false) ∧
    (∃ (e : JournalEntry), e.jseq < 2 ^ 32 ∧ e.time < 2 ^ 64 ∧ e.cls < 2 ^ 16 ∧ e.sev < 4 ∧ e.scope < 4 ∧ e.port < 256 ∧ e.vh < 256 ∧
      e.binding < 4096 ∧ e.feid < 4096 ∧ e.count < 65536 ∧ e.mode < 8 ∧ e.detail < 2 ^ 256) ∧
    (∃ (s : State), s.crb.ordered = []) ∧
    (∃ (s : State) (p : List Byte) (k : Nat) (i : Nat), k = ringSlots (p.length - 16) ∧ i = s.ringNext false ∧ s.crb.heldReplies = [] ∧ k
      ≤ ringFree s.crb.ringSet.rpl (s.fld F.MGT_CRB_RPL_HEAD.IDX) i) ∧
    (∃ (s : State) (p : List Byte) (k : Nat) (i : Nat), k = ringSlots (p.length - 16) ∧ i = s.ringNext false ∧ s.crb.heldReplies = [] ∧
      ringFree s.crb.ringSet.rpl (s.fld F.MGT_CRB_RPL_HEAD.IDX) i < k) ∧
    (∃ (n : Nat) (h : Nat) (t : Nat), h < 2 ^ n ∧ t < 2 ^ n) ∧
    (∃ (s : State) (t : State) (o : RingOut), t = (s.onCrb (fun c => { c with hostOut := c.hostOut.erase o })).setFld
      F.MGT_CRB_RPL_TAIL.IDX 0 ((o.slot + ringSlots (o.bytes.length - 16)) % 2 ^ s.crb.ringSet.rpl) ∧ o.evt = false) :=
  ⟨⟨(ask 0 [] : CrbReq), (0 : Nat), (0 : Nat), (0 : Nat), (false : Bool), (false : Bool), ([] : List Byte), _, rfl, by decide +kernel⟩,
    ⟨(⟨0, 0, 0, 0, 0, 0, false, false, 0, 0, 0, 0, 0, 0, 0, 0⟩ : JournalEntry), by decide +kernel⟩,
    ⟨(up : State), by decide +kernel⟩,
    ⟨(up : State), ([] : List Byte), _, _, rfl, rfl, by decide +kernel⟩,
    ⟨(up.setFld F.MGT_CRB_CTRL.RPL_LOG2 0 0 : State), (List.replicate 4096 0 : List Byte), _, _, rfl, rfl, by decide +kernel⟩,
    ⟨(0 : Nat), (0 : Nat), (0 : Nat), by decide +kernel⟩,
    ⟨(up : State), _, ({ evt := false, slot := 0, bytes := [] } : RingOut), rfl, by decide +kernel⟩⟩

/-- The hypotheses of EventsFrame can be met. -/
theorem witness_EventsFrame :
    (∃ (f : Fld) (i j : Nat) (r : RegDesc), r.addr j ≠ f.reg.addr i ∧ r.addr j ≠ R.MGT_CRB_EVT_TAIL.addr 0 ∧ r.addr j ≠
      R.MGT_CRB_EVT_LOST_CNT.addr 0 ∧ r.addr j ≠ R.MGT_CNT_OVF.addr 0) ∧
    (∃ (r : RegDesc) (j : Nat), ∀ x ∈ [R.ERR_JRNL_SEQ, R.ERR_JRNL_STATUS, R.ERR_JRNL_OVERWRITE_CNT, R.ERR_JRNL_COALESCE_CNT, R.ERR_STATUS,
      R.ERR_EVT, R.ERR_FLASH_FENCED_CNT, R.ERR_CNT_OVF, R.MGT_CRB_EVT_TAIL, R.MGT_CRB_EVT_LOST_CNT, R.MGT_CNT_OVF], r.addr j ≠ x.addr 0) :=
  ⟨⟨F.CHN_EVT.BANK_FAIL, 0, 0, R.MGT_IDENT, by decide +kernel, by decide +kernel, by decide +kernel, by decide +kernel⟩,
    ⟨R.MGT_IDENT, 0, by decide +kernel⟩⟩

/-- The hypotheses of QueriesFrame can be met. -/
theorem witness_QueriesFrame :
    (∃ (q : CrbReq) (r : RegDesc) (j : Nat), (∀ f, q.src ≠ .whey f) ∧ ∀ x ∈ [R.MGT_CRB_RPL_TAIL, R.MGT_CRB_STATUS, R.MGT_CRB_BUSY_CNT,
      R.MGT_CNT_OVF], r.addr j ≠ x.addr 0) ∧
    (∃ (s : State) (q : CrbReq), s.ready opGetMode q = true ∧ (∀ f, q.src ≠ .whey f) ∧ s.crb.ordered = []) :=
  ⟨⟨ask 0 [], R.MGT_IDENT, 0, nofun, by decide +kernel⟩,
    ⟨up, ask 0 [], by decide +kernel, nofun, by decide +kernel⟩⟩

/-- The hypotheses of FlashFrame can be met. -/
theorem witness_FlashFrame :
    ∃ (s : State) (o : Nat) (b : List Byte) (l : List (Nat × List Byte)), Memory.wf s.sec.flash = true ∧ s.openImage ≠ 3 ∧ s.sec.queue =
      (o, b) :: l :=
    ⟨({ (fields [(F.SEC_IMAGE_STATE.OPEN, 0, 1)] maint) with sec := { queue := [(0, [1])] } } : State), (0 : Nat), ([1] : List Byte), ([]
      : List (Nat × List Byte)), by decide +kernel⟩

/-- The hypotheses of PortsFrame can be met. -/
theorem witness_PortsFrame :
    (∃ (p : List Bool) (u : List Bool) (c : Instr), c ∈ [Instr.tapReset, .tapBypass u, .tapIdcode, .tapSamplePreload p u, .tapExtest p u,
      .tapClamp u, .tapHighz u, .tapExtestPulse p u, .tapExtestTrain p u]) ∧
    (∃ (d : Fin 40) (c : Fin 64) (w : List (BitVec 32)) (a : List (BitVec 32)) (n : Nat) (m : Nat) (i : Instr), i ∈ [Instr.valueTransfer d
      c w, .eventTransfer d c n m, .queueTransfer d c a]) :=
  ⟨⟨([] : List Bool), ([] : List Bool), (.tapReset : Instr), by decide +kernel⟩,
    ⟨(0 : Fin 40), (0 : Fin 64), ([] : List (BitVec 32)), ([] : List (BitVec 32)), (0 : Nat), (0 : Nat), (.valueTransfer 0 0 [] : Instr),
      by decide +kernel⟩⟩

/-- The hypotheses of ViolationsCounted can be met. -/
theorem witness_ViolationsCounted :
    (∃ (s : State) (t : State) (d : AcuDir) (p : Tlp) (bi : Nat) (abi : Nat) (rule : Nat) (addr : Nat) (len : Nat), t = (((s.bump
      R.ACU_VIOL_CNT).raise F.ACU_EVT.VIOLATION).capture d (writeClass p.kind) p.kind.isCxl addr len (s.bind abi).vh abi
      rule).reportBinding 0x0309 bi .completerAbort false p.header) ∧
    (∃ (s : State), rising s.regs = true) ∧
    (∃ (s : State), rising s.regs = true ∧ 0xFFFFFFFF ≤ (s.rd R.ACU_VIOL_CNT).toNat + 1) :=
  ⟨⟨(up : State), _, (.down : AcuDir), ({ kind := .mrd, len := 4 } : Tlp), (0 : Nat), (0 : Nat), (0 : Nat), (0 : Nat), (0 : Nat), rfl⟩,
    ⟨(up : State), by decide +kernel⟩,
    ⟨(up.wr R.ACU_VIOL_CNT 0 0xFFFFFFFF : State), by decide +kernel⟩⟩

/-- The hypotheses of AccessClasses can be met. -/
theorem witness_AccessClasses :
    (∃ (s : State) (blk : Nat) (vh : Nat) (bi : Nat) (d : AcuDir) (i : Nat) (r : BitVec 512), s.flag F.ACU_CFG.ENABLE = true ∧
      s.bnd.active.acu.find? (fun e => ruleMatches e.2 blk vh bi d) = some (i, r)) ∧
    (∃ (s : State) (k : TlpKind) (blk : Nat) (vh : Nat) (bi : Nat) (d : AcuDir) (i : Nat) (r : BitVec 512), s.flag F.ACU_CFG.ENABLE = true
      ∧ s.bnd.active.acu.find? (fun e => ruleMatches e.2 blk vh bi d) = some (i, r) ∧ k ≠ .atomicOp ∧ readClass k = true) ∧
    (∃ (s : State) (k : TlpKind) (blk : Nat) (vh : Nat) (bi : Nat) (d : AcuDir) (i : Nat) (r : BitVec 512), s.flag F.ACU_CFG.ENABLE = true
      ∧ s.bnd.active.acu.find? (fun e => ruleMatches e.2 blk vh bi d) = some (i, r) ∧ k ≠ .atomicOp ∧ writeClass k = true) :=
  ⟨⟨(fields [(F.ACU_CFG.ENABLE, 0, 1)] ((up).onBnd (fun y => { y with active := { y.active with acu := [(0, 1)] } })) : State), (0 :
      Nat), (0 : Nat), (0 : Nat), (.down : AcuDir), (0 : Nat), (1 : BitVec 512), by decide +kernel⟩,
    ⟨(fields [(F.ACU_CFG.ENABLE, 0, 1)] ((up).onBnd (fun y => { y with active := { y.active with acu := [(0, 1)] } })) : State), (.mrd :
      TlpKind), (0 : Nat), (0 : Nat), (0 : Nat), (.down : AcuDir), (0 : Nat), (1 : BitVec 512), by decide +kernel⟩,
    ⟨(fields [(F.ACU_CFG.ENABLE, 0, 1)] ((up).onBnd (fun y => { y with active := { y.active with acu := [(0, 1)] } })) : State), (.mwr :
      TlpKind), (0 : Nat), (0 : Nat), (0 : Nat), (.down : AcuDir), (0 : Nat), (1 : BitVec 512), by decide +kernel⟩⟩

/-- The hypotheses of RampOfAGuard can be met. -/
theorem witness_RampOfAGuard :
    (∃ (s : State) (t : State) (g : Fin 24), t = (((s.disarm .proofing g).setFld F.SPG_SLOT_STATE.STATE g gRamp).setFld
      F.SPG_SLOT_STATE.PRE_EN g 1).setFld F.SPG_SLOT_STATE.GATE_EN g 1) ∧
    (∃ (s : State) (g : Fin 24), s.due .ramp g = true ∧ s.gState g = gRamp ∧ 100 * s.fld F.SPG_SLOT_TELEM0.VOUT g < 95 * s.fld
      F.SPG_SLOT_ELEC.VIN_MV g) ∧
    (∃ (s : State) (t : State) (g : Fin 24), t = ((s.disarm .ramp g).gSet g gOn).onGuard g (fun y => { y with wanted := false }) ∧ s.due
      .ramp g = true ∧ s.gState g = gRamp ∧ 95 * s.fld F.SPG_SLOT_ELEC.VIN_MV g ≤ 100 * s.fld F.SPG_SLOT_TELEM0.VOUT g) ∧
    (∃ (s : State) (g : Fin 24), s.due .ramp g = false) ∧
    (∃ (s : State) (t : State) (g : Nat), t = ((s.setFld F.SPG_SLOT_STATE.STATE g gOn).setFld F.SPG_SLOT_STATE.PRE_EN g 0).setFld
      F.SPG_SLOT_STATE.GATE_EN g 1) :=
  ⟨⟨(up : State), _, (0 : Fin 24), rfl⟩,
    ⟨(late .ramp 0 (fields [(F.SPG_SLOT_ELEC.VIN_MV, 0, 100), (F.SPG_SLOT_TELEM0.VOUT, 0, 5)] (fields [(F.SPG_SLOT_STATE.STATE, 0, gRamp)]
      (up))) : State), (0 : Fin 24), by decide +kernel⟩,
    ⟨(late .ramp 0 (fields [(F.SPG_SLOT_ELEC.VIN_MV, 0, 100), (F.SPG_SLOT_TELEM0.VOUT, 0, 95)] (fields [(F.SPG_SLOT_STATE.STATE, 0,
      gRamp)] (up))) : State), _, (0 : Fin 24), rfl, by decide +kernel⟩,
    ⟨(up : State), (0 : Fin 24), by decide +kernel⟩,
    ⟨(up : State), _, (0 : Nat), rfl⟩⟩

/-- The hypotheses of TimebaseCorrections can be met. -/
theorem witness_TimebaseCorrections :
    (∃ (s : State) (t : State) (d : Int), t = s.wr R.PWR_TB_OFFSET 0 (BitVec.ofInt 32 d) ∧ d.natAbs < 1000) ∧
    (∃ (s : State) (t : State) (d : Int), t = s.wr R.PWR_TB_OFFSET 0 (BitVec.ofInt 32 d) ∧ 1000 ≤ d.natAbs) ∧
    (∃ (s : State) (t : State) (hi : BitVec 32), t = s.wr R.PWR_TB_SET_HI 0 hi) ∧
    (∃ (s : State), s.slewNow ≠ 0) ∧
    (∃ (s : State), s.pwr.slew ≠ 0) :=
  ⟨⟨(up : State), _, (5 : Int), rfl, by decide +kernel⟩,
    ⟨(up : State), _, (5000 : Int), rfl, by decide +kernel⟩,
    ⟨(up : State), _, (0 : BitVec 32), rfl⟩,
    ⟨(fields [(F.PWR_TB_CFG.SLEW_PPM, 0, 500)] ((up).onPwr (fun y => { y with slew := 5, slewAcc := 999999 })) : State),
      by decide +kernel⟩,
    ⟨((up).onPwr (fun y => { y with slew := 5 }) : State), by decide +kernel⟩⟩

/-- The hypotheses of DrowseRefused can be met. -/
theorem witness_DrowseRefused :
    (∃ (s : State) (t : State) (k : Fin 12) (f : Fld), f = (if (k.val + 1) % 2 = 1 then F.PWR_DROWSE_REFUSE_CNT.ODD else
      F.PWR_DROWSE_REFUSE_CNT.EVEN) ∧ t = s.bump16 f (k.val / 2) 1 ∧ rising s.regs = true) ∧
    (∃ (s : State) (t : State) (k : Fin 12) (f : Fld), f = (if (k.val + 1) % 2 = 1 then F.PWR_DROWSE_REFUSE_CNT.ODD else
      F.PWR_DROWSE_REFUSE_CNT.EVEN) ∧ t = s.bump16 f (k.val / 2) 1) ∧
    (∃ (s : State) (t : State) (k : Nat), t = s.bump16 F.PWR_DROWSE_REFUSE_CNT.ODD ((2 * k + 1 - 1) / 2) 1) ∧
    (∃ (s : State) (t : State) (k : Nat), t = s.bump16 F.PWR_DROWSE_REFUSE_CNT.EVEN ((2 * k + 2 - 1) / 2) 1) ∧
    (∃ (s : State) (q : CrbReq), s.ready opGetDrowseStats q = true) :=
  ⟨⟨(up : State), _, (0 : Fin 12), _, rfl, rfl, by decide +kernel⟩,
    ⟨(up : State), _, (0 : Fin 12), _, rfl, rfl⟩,
    ⟨(up : State), _, (0 : Nat), rfl⟩,
    ⟨(up : State), _, (0 : Nat), rfl⟩,
    ⟨(up : State), (ask 0 [] : CrbReq), by decide +kernel⟩⟩

/-- The hypotheses of DeviceQueries can be met. -/
theorem witness_DeviceQueries :
    (∃ (s : State) (q : CrbReq), s.ready opGetInfo q = true) ∧
    (∃ (s : State) (q : CrbReq), s.ready opGetMode q = true) ∧
    (∃ (s : State) (q : CrbReq), s.ready opEcho q = true) ∧
    (∃ (s : State) (q : CrbReq), s.ready opReadReg q = true ∧ q.num 0 4 % 4 = 0 ∧ 1 ≤ q.num 4 2 ∧ q.num 4 2 ≤ 256 ∧ q.num 0 4 + 4 * q.num
      4 2 ≤ barSize) ∧
    (∃ (s : State) (q : CrbReq), s.ready opGetTimebase q = true) ∧
    (∃ (s : State) (q : CrbReq), s.ready opUnsubscribe q = true) ∧
    (∃ (s : State) (q : CrbReq), s.ready opSubscribe q = true ∧ q.src = .rings ∧ q.fits 0 2 12 = true ∧ q.fits 2 1 2 = true) ∧
    (∃ (s : State) (q : CrbReq) (i : Nat), s.ready opSubscribe q = true ∧ q.src ≠ .rings ∧ q.fits 0 2 12 = true ∧ q.fits 2 1 2 = true ∧
      (s.judged q).crb.subs.find? (fun (b : Subscriber) => b.src == q.src) = none ∧ (List.range maxSubs).find? (fun i => 0 < i &&
      !(s.judged q).crb.subs.any (·.idx == i)) = some i) :=
  ⟨⟨(up : State), (ask 0 [] : CrbReq), by decide +kernel⟩,
    ⟨(up : State), (ask 0 [] : CrbReq), by decide +kernel⟩,
    ⟨(up : State), (ask 0 [] : CrbReq), by decide +kernel⟩,
    ⟨(up : State), (ask 0 [(4, 0), (2, 1)] : CrbReq), by decide +kernel⟩,
    ⟨(up : State), (ask 0 [] : CrbReq), by decide +kernel⟩,
    ⟨(up : State), (ask 0 [] : CrbReq), by decide +kernel⟩,
    ⟨(up : State), (ask 0 [(3, 0)] : CrbReq), by decide +kernel⟩,
    ⟨(up : State), ({ ask 0 [(3, 0)] with src := .malacel } : CrbReq), (1 : Nat), by decide +kernel⟩⟩

/-- The hypotheses of DeviceSettings can be met. -/
theorem witness_DeviceSettings :
    (∃ (s : State) (t : State) (q : CrbReq), (s.judged q).writeTriples q (q.body.length / 12) 0 (s.judged q) = ok t ∧ s.ready opWriteReg q
      = true) ∧
    (∃ (s0 : State) (s : State) (q : CrbReq) (n : Nat) (k : Nat), (s0.writeTriples q n k s).status ≠ stOk) ∧
    (∃ (s : State) (q : CrbReq) (k : Nat), (s.writeTriple q (q.num (12 * k) 4) (q.num (12 * k + 4) 4) (q.num (12 * k + 8) 4)).status ≠
      stOk) ∧
    (∃ (s : State) (q : CrbReq), s.ready opResetDevice q = true ∧ q.num 0 1 ≤ 1) ∧
    (∃ (s : State) (q : CrbReq), s.ready opGetBoardRecord q = true ∧ q.num 0 4 < 65536 ∧ q.num 4 2 ≤ 4076 ∧ q.num 0 4 + q.num 4 2 ≤ 65536) ∧
    (∃ (s : State) (q : CrbReq), s.ready opSetBoardRecord q = true ∧ q.num 0 4 + (q.body.drop 4).length ≤ 65536 ∧ ((s.judged q).stage
      (q.num 0 4) (q.body.drop 4)).recordWhole = false) ∧
    (∃ (s : State) (u : State) (q : CrbReq) (r : List Byte), u = (s.judged q).stage (q.num 0 4) (q.body.drop 4) ∧ r = u.stagedBytes
      (bodyNat (u.stagedBytes 12) 8 4) ∧ s.ready opSetBoardRecord q = true ∧ q.num 0 4 + (q.body.drop 4).length ≤ 65536 ∧ u.recordWhole =
      true ∧ 32 ≤ r.length ∧ boardFault r = none ∧ u.flag F.PWR_STATUS.SAG = false) ∧
    (∃ (s : State) (q : CrbReq), s.ready opSetChurn q = true ∧ q.sound (s.judged q) .churn [(R.CHN_CFG, 0), (R.CHN_ESC_CFG, 0),
      (R.CHN_MC_CFG, 0), (R.CHN_MC_TIMER, 0), (R.CHN_POOL_WM, 0)] = true) ∧
    (∃ (s : State) (t : State) (q : CrbReq), t = q.asked (s.judged q) [(R.CHN_ROT_CTRL, 0)] ∧ s.ready opSetRotation q = true ∧ q.sound
      (s.judged q) .rotation [(R.CHN_ROT_CTRL, 0)] = true) ∧
    (∃ (s : State), s.due .deviceReset 1 = false ∧ s.due .deviceReset 0 = true) ∧
    (∃ (s : State), s.due .deviceReset 1 = false ∧ s.due .deviceReset 0 = false) ∧
    (∃ (s : State), s.due .deviceReset 1 = true) :=
  ⟨⟨(up : State), (_ : State), (ask 0 [(4, R.PWR_EVT_EN.addr 0), (4, 1), (4, 1)] : CrbReq), rfl, by decide +kernel⟩,
    ⟨(up : State), (up : State), (ask 0 [(4, 1), (4, 1), (4, 1)] : CrbReq), (1 : Nat), (0 : Nat), by decide +kernel⟩,
    ⟨(up : State), (ask 0 [(4, 1), (4, 1), (4, 1)] : CrbReq), (0 : Nat), by decide +kernel⟩,
    ⟨(up : State), (ask 0 [(1, 0)] : CrbReq), by decide +kernel⟩,
    ⟨(up : State), (ask 0 [(6, 0)] : CrbReq), by decide +kernel⟩,
    ⟨(maint : State), (ask 0 [(4, 0), (1, 0)] : CrbReq), by decide +kernel⟩,
    ⟨(maint : State), _, (ask 0 [(4, 0), (4, 0x4B424352), (2, 1), (2, 0), (4, 32), (4, 0), (8, 0), (8, crc64 (leBytes 4 0x4B424352 ++
      leBytes 2 1 ++ leBytes 2 0 ++ leBytes 4 32 ++ leBytes 4 0 ++ leBytes 8 0))] : CrbReq), _, rfl, rfl, by decide +kernel⟩,
    ⟨(up : State), (askSet up 0 [(R.CHN_CFG, 0), (R.CHN_ESC_CFG, 0), (R.CHN_MC_CFG, 0), (R.CHN_MC_TIMER, 0), (R.CHN_POOL_WM, 0)] 0 3 :
      CrbReq), by decide +kernel⟩,
    ⟨(up : State), _, (askSet up 0 [(R.CHN_ROT_CTRL, 0)] 0 67518504 : CrbReq), rfl, by decide +kernel⟩,
    ⟨(late .deviceReset 0 up : State), by decide +kernel⟩,
    ⟨(up : State), by decide +kernel⟩,
    ⟨(late .deviceReset 1 up : State), by decide +kernel⟩⟩

/-- The hypotheses of PortOpcodes can be met. -/
theorem witness_PortOpcodes :
    (∃ (s : State) (q : CrbReq), s.ready opGetPort q = true ∧ q.object < 144 ∧ (s.judged q).live q.object = true) ∧
    (∃ (s : State) (q : CrbReq), s.ready opGetCluster q = true ∧ q.object < 36) ∧
    (∃ (s : State) (q : CrbReq), s.ready opGetLane q = true ∧ q.object < 288) ∧
    (∃ (s : State) (q : CrbReq), s.ready opSetCluster q = true ∧ q.object < 36 ∧ q.sound (s.judged q) (.cluster q.object) (clusterRegs
      q.object) = true) ∧
    (∃ (s : State) (q : CrbReq), s.ready opPortEnable q = true ∧ q.object < 144 ∧ (s.judged q).live q.object = true ∧ q.num 0 1 ≤ 1) ∧
    (∃ (s : State) (u : State) (t : State) (q : CrbReq), u = s.judged q ∧ t = (u.setFld F.PCL_SLOT_CFG.ROLE q.object (q.num 0 1)).setFld
      F.PCL_SLOT_CFG.PROTO q.object (q.num 1 1) ∧ s.ready opSetRole q = true ∧ q.object < 144 ∧ u.live q.object = true ∧ q.num 0 1 ≤ 2 ∧
      q.num 1 1 ≤ 2 ∧ t.regs ≠ u.regs ∧ u.paramFault t (.role q.object) = none ∧ u.preFault t (.role q.object) = none) ∧
    (∃ (s : State) (u : State) (t : State) (q : CrbReq), u = s.judged q ∧ t = u.setFld F.PCL_SLOT_CFG.KFL_LINK q.object (q.num 0 1) ∧
      s.ready opSetLinkIndex q = true ∧ q.object < 144 ∧ u.live q.object = true ∧ u.isFabric q.object = true ∧ q.num 0 1 ≤ 71 ∧ t.regs ≠
      u.regs ∧ u.linkState q.object = 0 ∧ t.indexHolder q.object = none) ∧
    (∃ (s : State) (u : State) (t : State) (q : CrbReq) (a : Ans), u = s.judged q ∧ a = q.set u (.cluster q.object) (clusterRegs q.object)
      ∧ t = u.each (List.range 4) (fun s k => s.abortRecal (4 * q.object + k) 5) ∧ q.object < 36 ∧ a.status = stBusy ∧ (List.range 4).any
      (fun k => bits (q.num (4 + 4 * k) 4) 0 3 != u.fld F.PCL_SLOT_CFG.WIDTH (4 * q.object + k)) = true) :=
  ⟨⟨(up : State), (ask 0 [] : CrbReq), by decide +kernel⟩,
    ⟨(up : State), (ask 0 [] : CrbReq), by decide +kernel⟩,
    ⟨(up : State), (ask 0 [] : CrbReq), by decide +kernel⟩,
    ⟨(up : State), (askSet up 0 (clusterRegs 0) 0 57 : CrbReq), by decide +kernel⟩,
    ⟨(up : State), (ask 0 [(1, 0)] : CrbReq), by decide +kernel⟩,
    ⟨(up : State), _, _, (ask 0 [(1, 1), (1, 0)] : CrbReq), rfl, rfl, by decide +kernel⟩,
    ⟨(port 0 2 2 0 up : State), _, _, (ask 0 [(1, 1)] : CrbReq), rfl, rfl, by decide +kernel⟩,
    ⟨((port 0 0 0 3 up) : State), _, _, (askSet (port 0 0 0 3 up) 0 (clusterRegs 0) 1 0x382 : CrbReq), (_ : Ans), rfl, rfl, rfl,
      by decide +kernel⟩⟩

/-- The hypotheses of LinkOpcodes can be met. -/
theorem witness_LinkOpcodes :
    (∃ (s : State) (q : CrbReq) (p : Nat), s.ready opGetKfl q = true ∧ q.object < 72 ∧ (s.judged q).portOfLink q.object = some p) ∧
    (∃ (s : State) (u : State) (t : State) (q : CrbReq) (p : Nat), u = s.judged q ∧ t = q.asked u [(R.KFL_LINK_CFG, controllerOf p),
      (R.KFL_TIMER_A, controllerOf p), (R.KFL_TIMER_B, controllerOf p), (R.KFL_TIMER_C, controllerOf p)] ∧ s.ready opSetKfl q = true ∧
      q.object < 72 ∧ u.portOfLink q.object = some p ∧ q.sound u (.kfl (controllerOf p)) [(R.KFL_LINK_CFG, controllerOf p),
      (R.KFL_TIMER_A, controllerOf p), (R.KFL_TIMER_B, controllerOf p), (R.KFL_TIMER_C, controllerOf p)] = true) ∧
    (∃ (s : State) (u : State) (q : CrbReq) (p : Nat), u = s.judged q ∧ s.ready opKflDisable q = true ∧ q.object < 72 ∧ u.portOfLink
      q.object = some p ∧ u.peerHolds (controllerOf p) = false ∧ (u.kl (controllerOf p)).stopping = none ∧ 5 ≤ u.lst (controllerOf p)) ∧
    (∃ (s : State) (u : State) (q : CrbReq), u = s.judged q ∧ s.ready opRecalibrate q = true ∧ q.object < 144 ∧ u.live q.object = true ∧
      (u.proto q.object ≠ 2 ∨ u.peerHolds (controllerOf q.object) = false) ∧ u.flag F.PCL_CLUSTER_STATUS.RECAL_BUSY (clusterOf q.object) =
      false ∧ (u.linkState q.object = 0 ∨ u.linkState q.object = 6)) ∧
    (∃ (s : State) (u : State) (q : CrbReq), u = s.judged q ∧ s.ready opRecalibrate q = true ∧ q.object < 144 ∧ u.live q.object = true ∧
      (u.proto q.object ≠ 2 ∨ u.peerHolds (controllerOf q.object) = false) ∧ u.flag F.PCL_CLUSTER_STATUS.RECAL_BUSY (clusterOf q.object) =
      false ∧ u.linkState q.object ≠ 0 ∧ u.linkState q.object ≠ 6 ∧ u.active q.object = true ∧ u.canBorrow q.object = true) ∧
    (∃ (s : State) (u : State) (q : CrbReq), u = s.judged q ∧ s.ready opMargin q = true ∧ q.object < 144 ∧ u.live q.object = true ∧ q.num
      0 2 ≠ 0 ∧ q.num 0 2 < 2 ^ (u.lanesOf q.object).length ∧ q.num 2 1 ≤ 1 ∧ q.num 3 1 ≤ 1 ∧ 1 ≤ q.num 4 1 ∧ q.num 4 1 ≤ (if q.num 2 1 =
      1 then 64 else 32) ∧ 1 ≤ q.num 5 1 ∧ q.num 5 1 ≤ 63 ∧ u.active q.object = true) ∧
    (∃ (s : State) (u : State) (q : CrbReq), u = s.judged q ∧ s.ready opSetPortPool q = true ∧ q.object < 144 ∧ u.live q.object = true ∧
      q.sound u (.pool q.object) [(R.CHN_PORT_CFG, q.object), (R.CHN_PORT_RES, q.object)] = true) :=
  ⟨⟨(kfl 0 5 up : State), (ask 0 [] : CrbReq), (0 : Nat), by decide +kernel⟩,
    ⟨((kfl 0 5 up) : State), _, _, (askSet (kfl 0 5 up) 0 [(R.KFL_LINK_CFG, 0), (R.KFL_TIMER_A, 0), (R.KFL_TIMER_B, 0), (R.KFL_TIMER_C,
      0)] 0 68356100 : CrbReq), (0 : Nat), rfl, rfl, by decide +kernel⟩,
    ⟨(kfl 0 5 up : State), _, (ask 0 [] : CrbReq), (0 : Nat), rfl, by decide +kernel⟩,
    ⟨(up : State), _, (ask 0 [] : CrbReq), rfl, by decide +kernel⟩,
    ⟨(fields [(F.PCL_PORT_STATUS.FLIT, 0, 1), (F.PCL_PORT_CTRL.L0P_EN, 0, 1)] (port 0 1 0 3 up) : State), _, (ask 0 [] : CrbReq), rfl,
      by decide +kernel⟩,
    ⟨(port 0 1 0 3 up : State), _, (ask 0 [(2, 1), (1, 0), (1, 0), (1, 1), (1, 1)] : CrbReq), rfl, by decide +kernel⟩,
    ⟨(up : State), _, (askSet up 0 [(R.CHN_PORT_CFG, 0), (R.CHN_PORT_RES, 0)] 0 12811 : CrbReq), rfl, by decide +kernel⟩⟩

/-- The hypotheses of SessionOpcodes can be met. -/
theorem witness_SessionOpcodes :
    (∃ (s : State) (q : CrbReq), s.ready opSessionOpen q = true ∧ (s.judged q).bnd.session = none ∧ (s.judged q).flag
      F.BND_GEN_STATUS.SHADOW_READY = true) ∧
    (∃ (s : State) (q : CrbReq) (x : Session), s.ready opCommitInfo q = true ∧ (s.judged q).bnd.session = some x ∧ x.holder = q.src ∧
      (s.judged q).bnd.committing = false) ∧
    (∃ (s : State) (q : CrbReq) (x : Session), s.ready opSessionAbort q = true ∧ (s.judged q).bnd.session = some x ∧ x.holder = q.src ∧
      (s.judged q).bnd.committing = false) ∧
    (∃ (s : State) (q : CrbReq), s.ready opQuiesceInfo q = true ∧ 1000 ≤ q.num 0 4 ∧ q.num 0 4 ≤ 10000000 ∧ (s.judged q).older = 0) ∧
    (∃ (s : State) (q : CrbReq), s.ready opQuiesceInfo q = true ∧ 1000 ≤ q.num 0 4 ∧ q.num 0 4 ≤ 10000000 ∧ (s.judged q).older ≠ 0) ∧
    (∃ (s : State) (u : State) (q : CrbReq) (t : Table) (x : Session), u = s.judged q ∧ s.ready opWriteEntry q = true ∧ Table.ofCode
      (q.num 0 1) = some t ∧ q.body.length = 1 + t.size ∧ q.object < t.count ∧ (t = .attach → 144 ≤ q.object) ∧ t.firstReserved (CrbEntry
      q.body 1 t) = none ∧ (u.fixedBinds = true → 3 < q.num 0 1) ∧ (t = .route ∨ t = .group → u.mayRoute q.src = true) ∧ u.bnd.session =
      some x ∧ x.holder = q.src ∧ u.bnd.committing = false) ∧
    (∃ (s : State) (q : CrbReq) (t : Table), s.ready opReadEntry q = true ∧ Table.ofCode (q.num 0 1) = some t ∧ q.object < t.count ∧ q.num
      1 1 ≤ 1) ∧
    (∃ (s : State) (u : State) (q : CrbReq) (x : Session), u = s.judged q ∧ s.ready opBind q = true ∧ q.object < 4096 ∧ q.num 0 1 ≤ 143 ∧
      q.num 1 1 ≤ 63 ∧ Bind.vh (CrbEntry q.body 2 .bind) = q.num 0 1 ∧ Bind.vdsp (CrbEntry q.body 2 .bind) = q.num 1 1 ∧
      Table.bind.firstReserved (CrbEntry q.body 2 .bind) = none ∧ u.fixedBinds = false ∧ u.bnd.session = some x ∧ x.holder = q.src ∧
      u.bnd.committing = false) ∧
    (∃ (s : State) (u : State) (q : CrbReq) (x : Session), u = s.judged q ∧ s.ready opUnbind q = true ∧ q.object < 4096 ∧ q.num 0 1 ≤ 1 ∧
      Bind.valid (u.bnd.shadow.entry .bind q.object) = true ∧ u.fixedBinds = false ∧ u.bnd.session = some x ∧ x.holder = q.src ∧
      u.bnd.committing = false) :=
  ⟨⟨(fields [(F.BND_GEN_STATUS.SHADOW_READY, 0, 1)] up : State), (ask 0 [] : CrbReq), by decide +kernel⟩,
    ⟨(session .rings up : State), (ask 0 [] : CrbReq), ({ holder := .rings, lastUse := 1000000000 } : Session), by decide +kernel⟩,
    ⟨(session .rings up : State), (ask 0 [] : CrbReq), ({ holder := .rings, lastUse := 1000000000 } : Session), by decide +kernel⟩,
    ⟨(up : State), (ask 0 [(4, 1000)] : CrbReq), by decide +kernel⟩,
    ⟨(churned [pktB] up : State), (ask 0 [(4, 1000)] : CrbReq), by decide +kernel⟩,
    ⟨(session .rings up : State), _, (ask 0 [(1, 0), (64, 0)] : CrbReq), (.bind : Table), ({ holder := .rings, lastUse := 1000000000 } :
      Session), rfl, by decide +kernel⟩,
    ⟨(up : State), (ask 0 [(2, 0)] : CrbReq), (.bind : Table), by decide +kernel⟩,
    ⟨(session .rings up : State), _, (ask 0 [(66, 0)] : CrbReq), ({ holder := .rings, lastUse := 1000000000 } : Session), rfl,
      by decide +kernel⟩,
    ⟨(session .rings (up.onBnd (fun y => { y with shadow := { y.shadow with bind := [(0, 1)] } })) : State), _, (ask 0 [(1, 0)] : CrbReq),
      ({ holder := .rings, lastUse := 1000000000 } : Session), rfl, by decide +kernel⟩⟩

/-- The hypotheses of BindingOpcodes can be met. -/
theorem witness_BindingOpcodes :
    (∃ (s : State) (u : State) (q : CrbReq), u = s.judged q ∧ s.ready opResumeBinding q = true ∧ q.object < 4096 ∧ u.bindState q.object =
      2 ∧ u.bindLocked q.object = false ∧ u.fld F.BND_BIND_STATE.SUSPEND_CAUSE q.object ≠ 3) ∧
    (∃ (s : State) (u : State) (q : CrbReq), u = s.judged q ∧ s.ready opResetBinding q = true ∧ q.object < 4096 ∧ Bind.valid (u.bind
      q.object) = true ∧ (u.bindState q.object = 1 ∨ u.bindState q.object = 3)) ∧
    (∃ (s : State) (q : CrbReq), s.ready opGetBinding q = true ∧ q.object < 4096) ∧
    (∃ (s : State) (q : CrbReq), s.ready opSetVhTags q = true ∧ q.object < 144 ∧ q.sound (s.judged q) (.vhTags q.object) [(R.BND_VH_TAGS,
      q.object)] = true) ∧
    (∃ (s : State) (u : State) (q : CrbReq), u = s.judged q ∧ s.ready opSetMgmtVh q = true ∧ q.object < 144 ∧ q.object ≠ u.bnd.mgmtVh ∧
      u.live q.object = true ∧ u.isHostEdge q.object = true ∧ u.fld F.BND_VH_STATUS.STATE q.object = 0 ∧ u.fld F.BND_VH_STATUS.STATE
      u.bnd.mgmtVh = 0) ∧
    (∃ (s : State) (q : CrbReq), s.ready opSetTrkTimeout q = true ∧ q.sound (s.judged q) .plain [(R.BND_TRK_TIMEOUT, 0)] = true) ∧
    (∃ (s : State) (q : CrbReq), s.ready opGetVh q = true ∧ q.object < 144) ∧
    (∃ (s : State) (q : CrbReq), s.ready opCxlFm q = true) :=
  ⟨⟨(bound 0 2 1 up : State), _, (ask 0 [] : CrbReq), rfl, by decide +kernel⟩,
    ⟨(bound 0 1 1 up : State), _, (ask 0 [] : CrbReq), rfl, by decide +kernel⟩,
    ⟨(up : State), (ask 0 [] : CrbReq), by decide +kernel⟩,
    ⟨(up : State), (askSet up 0 [(R.BND_VH_TAGS, 0)] 0 2147483905 : CrbReq), by decide +kernel⟩,
    ⟨(port 4 0 0 0 up : State), _, (ask 4 [] : CrbReq), rfl, by decide +kernel⟩,
    ⟨(up : State), (askSet up 0 [(R.BND_TRK_TIMEOUT, 0)] 0 1001 : CrbReq), by decide +kernel⟩,
    ⟨(up : State), (ask 0 [] : CrbReq), by decide +kernel⟩,
    ⟨(up : State), (ask 0 [(12, 0)] : CrbReq), by decide +kernel⟩⟩

/-- The hypotheses of FabricOpcodes can be met. -/
theorem witness_FabricOpcodes :
    (∃ (s : State) (t : State) (q : CrbReq), t = (q.asked (s.judged q) [(R.BND_FAB_CFG, 0)]).showAdmitted ∧ s.ready opSetFabric q = true ∧
      q.sound (s.judged q) .fabric [(R.BND_FAB_CFG, 0)] = true) ∧
    (∃ (s : State) (q : CrbReq), s.ready opGetFabric q = true) ∧
    (∃ (s : State) (q : CrbReq), s.ready opGetMembers q = true ∧ (s.judged q).fs = fsLead) ∧
    (∃ (s : State) (q : CrbReq), s.ready opSetFabTimers q = true ∧ q.sound (s.judged q) .plain [(R.BND_FAB_TIMERS, 0),
      (R.BND_FAB_RESEQ_CFG, 0), (R.BND_FAB_HOLD_CFG, 0)] = true) ∧
    (∃ (s : State) (q : CrbReq), s.ready opGetFlow q = true ∧ q.object < 4096) :=
  ⟨⟨(up : State), _, (askSet up 0 [(R.BND_FAB_CFG, 0)] 0 131073 : CrbReq), rfl, by decide +kernel⟩,
    ⟨(up : State), (ask 0 [] : CrbReq), by decide +kernel⟩,
    ⟨(fields [(F.BND_FAB_STATUS.STATE, 0, 5)] up : State), (ask 0 [] : CrbReq), by decide +kernel⟩,
    ⟨(up : State), (askSet up 0 [(R.BND_FAB_TIMERS, 0), (R.BND_FAB_RESEQ_CFG, 0), (R.BND_FAB_HOLD_CFG, 0)] 0 330763 : CrbReq),
      by decide +kernel⟩,
    ⟨(up : State), (ask 0 [] : CrbReq), by decide +kernel⟩⟩

/-- The hypotheses of TrafficOpcodes can be met. -/
theorem witness_TrafficOpcodes :
    (∃ (s : State) (u : State) (q : CrbReq), u = s.judged q ∧ s.ready opSetPolicer q = true ∧ q.object < 4096 ∧ q.sound u (.policer
      q.object) [(R.QOS_POL_CFG, q.object), (R.QOS_POL_CIR, q.object), (R.QOS_POL_PIR, q.object), (R.QOS_POL_CBS, q.object),
      (R.QOS_POL_PBS, q.object)] = true) ∧
    (∃ (s : State) (q : CrbReq), s.ready opGetPolicer q = true ∧ q.object < 4096) ∧
    (∃ (s : State) (u : State) (t : State) (q : CrbReq), u = s.judged q ∧ t = q.asked u [(R.QOS_NODE_CFG, q.object), (R.QOS_NODE_TCMAP,
      q.object), (R.QOS_NODE_RATE, q.object), (R.QOS_NODE_BURST, q.object), (R.QOS_NODE_CS_RATE, q.object), (R.QOS_NODE_CS_HI, q.object)]
      ∧ s.ready opSetNode q = true ∧ q.object < 4096 ∧ q.sound u (.node q.object) [(R.QOS_NODE_CFG, q.object), (R.QOS_NODE_TCMAP,
      q.object), (R.QOS_NODE_RATE, q.object), (R.QOS_NODE_BURST, q.object), (R.QOS_NODE_CS_RATE, q.object), (R.QOS_NODE_CS_HI, q.object)]
      = true) ∧
    (∃ (s : State) (u : State) (t : State) (q : CrbReq), u = s.judged q ∧ t = q.asked u [(R.QOS_SQ_CFG, q.object), (R.QOS_SQ_RATE,
      q.object), (R.QOS_SQ_BURST, q.object), (R.QOS_SQ_CS_RATE, q.object), (R.QOS_SQ_CS_HI, q.object)] ∧ s.ready opSetQueue q = true ∧
      q.object < 32768 ∧ q.sound u (.queue q.object) [(R.QOS_SQ_CFG, q.object), (R.QOS_SQ_RATE, q.object), (R.QOS_SQ_BURST, q.object),
      (R.QOS_SQ_CS_RATE, q.object), (R.QOS_SQ_CS_HI, q.object)] = true) ∧
    (∃ (s : State) (u : State) (t : State) (q : CrbReq), u = s.judged q ∧ t = q.asked u [(R.QOS_PORT_CFG, q.object), (R.QOS_PORT_RATE,
      q.object), (R.QOS_PORT_BURST, q.object)] ∧ s.ready opSetPortShaper q = true ∧ q.object < 144 ∧ u.live q.object = true ∧ q.sound u
      (.shaper q.object) [(R.QOS_PORT_CFG, q.object), (R.QOS_PORT_RATE, q.object), (R.QOS_PORT_BURST, q.object)] = true) ∧
    (∃ (s : State) (q : CrbReq) (n : Nat), n = (q.body.length - 1) / 4 ∧ s.ready opWriteGcl q = true ∧ q.object < 144 ∧ (s.judged q).live
      q.object = true ∧ q.num 0 1 + n ≤ 256) ∧
    (∃ (s : State) (u : State) (t : State) (q : CrbReq), u = (((((s.judged q).setFld F.QOS_GCL_CYCLE.CYCLE_NS q.object (q.num 0 4)).wr
      R.QOS_GCL_BASE_LO q.object (BitVec.ofNat 32 (q.num 4 4))).wr R.QOS_GCL_BASE_HI q.object (BitVec.ofNat 32 (q.num 8 4))).setFld
      F.QOS_GCL_CTRL.ADMIN_LAST q.object (q.num 12 1)).setFld F.QOS_GCL_CTRL.GATE_EN q.object (q.num 13 1) ∧ u.gclChange q.object = some t
      ∧ s.ready opGclChange q = true ∧ q.object < 144 ∧ (s.judged q).live q.object = true ∧ 1000 ≤ q.num 0 4 ∧ q.num 0 4 ≤ 1000000000 ∧
      q.num 13 1 ≤ 1) ∧
    (∃ (s : State) (q : CrbReq), s.ready opSetQos q = true ∧ q.sound (s.judged q) .plain [(R.QOS_CFG, 0)] = true) ∧
    (∃ (s : State) (q : CrbReq), s.ready opSetAcu q = true ∧ q.sound (s.judged q) .plain [(R.ACU_CFG, 0)] = true) ∧
    (∃ (s : State) (q : CrbReq), s.ready opGetViolation q = true) ∧
    (∃ (s : State) (q : CrbReq), s.ready opClearViolation q = true) ∧
    (∃ (s : State) (q : Fin 144) (cycle : Nat) (base : Nat) (e : Nat) (i : Nat) (left : Nat) (l : List (Nat × Nat)), l = cutList cycle
      (s.operList q) ∧ look q.val s.qos.gclRun = some (cycle, base) ∧ look q.val s.qos.gclNext = some e ∧ e ≤ s.tb.toNat ∧ stretchAt l
      ((s.tb.toNat - base) % cycle) = (i, left)) ∧
    (∃ (s : State) (t : State) (u : State) (q : Fin 144) (g : GclPending), t = s.onQos (fun y =>
      { y with gclPending := [], gclOper := ((List.range g.entries.length).zip g.entries).foldl (fun l e => put (256 * q + e.1) e.2 l) (y.gclOper.filter (fun e => e.1 / 256 != q.val)), gclRun := (q.val, g.cycle, g.base) :: y.gclRun.filter (fun e => e.1 != q.val) })
      ∧ u = ((((t.setFld F.QOS_GCL_STATUS.OPER_LAST q (g.entries.length - 1)).setFld F.QOS_GCL_STATUS.OPER_VALID q 1).setFld
      F.QOS_GCL_STATUS.CHANGE_PENDING q 0).setFld F.QOS_STATUS.GCL_PENDING 0 0).raise F.QOS_EVT.GCL_SWITCH ∧ s.qos.gclPending = [g] ∧
      g.port = q ∧ g.start ≤ s.tb.toNat) :=
  ⟨⟨(up : State), _, (askSet up 0 [(R.QOS_POL_CFG, 0), (R.QOS_POL_CIR, 0), (R.QOS_POL_PIR, 0), (R.QOS_POL_CBS, 0), (R.QOS_POL_PBS, 0)] 0
      1048579 : CrbReq), rfl, by decide +kernel⟩,
    ⟨(up : State), (ask 0 [] : CrbReq), by decide +kernel⟩,
    ⟨(up : State), _, _, (askSet up 0 [(R.QOS_NODE_CFG, 0), (R.QOS_NODE_TCMAP, 0), (R.QOS_NODE_RATE, 0), (R.QOS_NODE_BURST, 0),
      (R.QOS_NODE_CS_RATE, 0), (R.QOS_NODE_CS_HI, 0)] 0 264 : CrbReq), rfl, rfl, by decide +kernel⟩,
    ⟨(up : State), _, _, (askSet up 0 [(R.QOS_SQ_CFG, 0), (R.QOS_SQ_RATE, 0), (R.QOS_SQ_BURST, 0), (R.QOS_SQ_CS_RATE, 0), (R.QOS_SQ_CS_HI,
      0)] 0 256 : CrbReq), rfl, rfl, by decide +kernel⟩,
    ⟨(up : State), _, _, (askSet up 0 [(R.QOS_PORT_CFG, 0), (R.QOS_PORT_RATE, 0), (R.QOS_PORT_BURST, 0)] 0 22579 : CrbReq), rfl, rfl,
      by decide +kernel⟩,
    ⟨(up : State), (ask 0 [(5, 0)] : CrbReq), _, rfl, by decide +kernel⟩,
    ⟨(up : State), _, (_ : State), (ask 0 [(4, 1000), (8, 0), (1, 0), (1, 0)] : CrbReq), rfl, rfl, by decide +kernel⟩,
    ⟨(up : State), (askSet up 0 [(R.QOS_CFG, 0)] 0 3 : CrbReq), by decide +kernel⟩,
    ⟨(up : State), (askSet up 0 [(R.ACU_CFG, 0)] 0 0 : CrbReq), by decide +kernel⟩,
    ⟨(up : State), (ask 0 [] : CrbReq), by decide +kernel⟩,
    ⟨(up : State), (ask 0 [] : CrbReq), by decide +kernel⟩,
    ⟨(up.onQos (fun y => { y with gclRun := [(0, 1000, 0)], gclNext := [(0, 0)] }) : State), (0 : Fin 144), (1000 : Nat), (0 : Nat), (0 :
      Nat), (0 : Nat), (1000 : Nat), _, rfl, by decide +kernel⟩,
    ⟨(up.onQos (fun y => { y with gclPending := [⟨0, 1000, 0, 0, [0]⟩] }) : State), _, _, (0 : Fin 144), (⟨0, 1000, 0, 0, [0]⟩ :
      GclPending), rfl, rfl, by decide +kernel⟩⟩

/-- The hypotheses of SlotOpcodes can be met. -/
theorem witness_SlotOpcodes :
    (∃ (s : State) (q : CrbReq), s.ready opGetSlot q = true ∧ q.object < 24) ∧
    (∃ (s : State) (u : State) (q : CrbReq), u = s.judged q ∧ s.ready opSetSlot q = true ∧ q.object < 24 ∧ q.sound u (.slot q.object)
      [(R.SPG_SLOT_CFG, q.object), (R.SPG_SLOT_ELEC, q.object), (R.SPG_SLOT_TIME, q.object), (R.SPG_SLOT_RETRY, q.object),
      (R.SPG_SLOT_THERM, q.object), (R.SPG_SLOT_MODEL, q.object)] = true) ∧
    (∃ (s : State) (u : State) (q : CrbReq) (st : Nat), u = s.judged q ∧ st = u.gState q.object ∧ s.ready opSlotPowerInfo q = true ∧
      q.object < 24 ∧ q.num 0 1 = 1 ∧ st ≠ gDisabled ∧ st ≠ gRetry ∧ st ≠ gLockout ∧ st ≠ gOn) ∧
    (∃ (s : State) (u : State) (q : CrbReq) (st : Nat), u = s.judged q ∧ st = u.gState q.object ∧ s.ready opSlotPowerInfo q = true ∧
      q.object < 24 ∧ q.num 0 1 = 0 ∧ (st = gProofing ∨ st = gRamp ∨ st = gOn) ∧ (u.bindingsOn (u.gPort q.object)).any (fun e =>
      u.bindState e.1 == 1) = false) ∧
    (∃ (s : State) (u : State) (q : CrbReq), u = s.judged q ∧ s.ready opClearLockout q = true ∧ q.object < 24 ∧ u.gState q.object =
      gLockout) ∧
    (∃ (s : State) (u : State) (q : CrbReq), u = s.judged q ∧ s.ready opSetSlotCap q = true ∧ q.object < 24 ∧ q.num 0 4 < 2 ^ 24 ∧ q.sound
      u (.slotCap q.object) [(R.SPG_SLOT_CAP, q.object)] = true) ∧
    (∃ (s : State) (q : CrbReq), s.ready opSetIndicators q = true ∧ q.object < 24 ∧ q.num 0 1 ≤ 3 ∧ q.num 1 1 ≤ 3) :=
  ⟨⟨(up : State), (ask 0 [] : CrbReq), by decide +kernel⟩,
    ⟨((port 1 1 0 0 up) : State), _, (askSet (port 1 1 0 0 up) 0 [(R.SPG_SLOT_CFG, 0), (R.SPG_SLOT_ELEC, 0), (R.SPG_SLOT_TIME, 0),
      (R.SPG_SLOT_RETRY, 0), (R.SPG_SLOT_THERM, 0), (R.SPG_SLOT_MODEL, 0)] 0 1538 : CrbReq), rfl, by decide +kernel⟩,
    ⟨(fields [(F.SPG_SLOT_STATE.STATE, 0, gReadyOff)] (up) : State), _, (ask 0 [(1, 1)] : CrbReq), _, rfl, rfl, by decide +kernel⟩,
    ⟨(fields [(F.SPG_SLOT_STATE.STATE, 0, gOn)] (up) : State), _, (ask 0 [(1, 0)] : CrbReq), _, rfl, rfl, by decide +kernel⟩,
    ⟨(fields [(F.SPG_SLOT_STATE.STATE, 0, gLockout)] (up) : State), _, (ask 0 [] : CrbReq), rfl, by decide +kernel⟩,
    ⟨(up : State), _, (askSet up 0 [(R.SPG_SLOT_CAP, 0)] 0 1 : CrbReq), rfl, by decide +kernel⟩,
    ⟨(up : State), (ask 0 [(2, 0)] : CrbReq), by decide +kernel⟩⟩

/-- The hypotheses of TrustOpcodes can be met. -/
theorem witness_TrustOpcodes :
    (∃ (s : State) (q : CrbReq), s.ready opGetCert q = true ∧ q.num 0 1 ≤ 1 ∧ q.num 1 4 + q.num 5 2 ≤ (Config.certChain (q.num 0
      1)).length ∧ q.num 5 2 ≤ 4076) ∧
    (∃ (s : State) (q : CrbReq), s.ready opGetMeasurements q = true ∧ q.num 0 4 + q.num 4 2 ≤ (s.judged q).measureBytes.length ∧ q.num 4 2
      ≤ 4076) ∧
    (∃ (s : State) (q : CrbReq), s.ready opTokenWrite q = true ∧ q.object + q.body.length / 4 ≤ tokenRoom ∧ (s.judged q).verifying =
      false) ∧
    (∃ (s : State) (q : CrbReq), s.ready opTokenVerify q = true ∧ (s.judged q).verifying = false) ∧
    (∃ (s : State) (q : CrbReq), s.ready opRelock q = true) ∧
    (∃ (s : State) (u : State) (v : State) (q : CrbReq) (i : Nat), u = s.judged q ∧ i = q.num 0 1 ∧ v = u.onSec (fun y =>
      { y with size := q.num 1 4, ranges := [], queue := [], programmed := 0, erased := [], fenced := y.fenced.filter (· != i) }) ∧
      s.ready opFwBegin q = true ∧ i ≤ 1 ∧ i ≠ u.runningImage ∧ 0x6000 ≤ q.num 1 4 ∧ q.num 1 4 ≤ 0x605000 ∧ (u.openImage = 3 ∨ u.openImage
      = i) ∧ u.flag F.PWR_STATUS.SAG = false ∧ u.sec.finishing = none) ∧
    (∃ (s : State) (u : State) (q : CrbReq) (o : Nat) (n : Nat), u = s.judged q ∧ o = q.num 0 4 ∧ n = q.body.length - 4 ∧ s.ready
      opFwWrite q = true ∧ u.openImage ≠ 3 ∧ o + n ≤ u.sec.size ∧ u.sec.ranges.any (rangesMeet (o, n)) = false ∧ u.flag F.PWR_STATUS.SAG =
      false ∧ u.flag F.SEC_IMAGE_STATE.WRITE_FENCED = false ∧ u.sec.finishing = none ∧ u.queueBytes + n ≤ 65536) ∧
    (∃ (s : State) (u : State) (q : CrbReq), u = s.judged q ∧ s.ready opFwFinish q = true ∧ u.openImage ≠ 3 ∧ u.flag F.PWR_STATUS.SAG =
      false ∧ u.flag F.SEC_IMAGE_STATE.WRITE_FENCED = false ∧ u.sec.finishing = none) ∧
    (∃ (s : State) (u : State) (q : CrbReq), u = s.judged q ∧ s.ready opFwSelect q = true ∧ q.num 0 1 ≤ 1 ∧ q.num 0 1 ≠ u.runningImage ∧
      u.imageState (q.num 0 1) = 3 ∧ u.sec.floor ≤ u.imageSvn (q.num 0 1) ∧ u.flag F.PWR_STATUS.SAG = false) ∧
    (∃ (s : State) (u : State) (v : State) (q : CrbReq), u = s.judged q ∧ v = u.setBoot (fun c => { c with preferred := q.num 0 1 }) ∧
      s.ready opFwSelect q = true ∧ q.num 0 1 ≤ 1 ∧ q.num 0 1 = u.runningImage ∧ u.sec.floor ≤ u.fld F.SEC_SVN.RUNNING_SVN ∧ u.flag
      F.PWR_STATUS.SAG = false) ∧
    (∃ (s : State) (q : CrbReq), s.ready opGetFw q = true) :=
  ⟨⟨(up : State), (ask 0 [(7, 0)] : CrbReq), by decide +kernel⟩,
    ⟨(up : State), (ask 0 [(6, 0)] : CrbReq), by decide +kernel⟩,
    ⟨(up : State), (ask 0 [(4, 0)] : CrbReq), by decide +kernel⟩,
    ⟨(up : State), (ask 0 [] : CrbReq), by decide +kernel⟩,
    ⟨(up : State), (ask 0 [] : CrbReq), by decide +kernel⟩,
    ⟨(fields [(F.SEC_IMAGE_STATE.OPEN, 0, 3)] maint : State), _, _, (ask 0 [(1, 1), (4, 0x6000)] : CrbReq), _, rfl, rfl, rfl,
      by decide +kernel⟩,
    ⟨({ (fields [(F.SEC_IMAGE_STATE.OPEN, 0, 1)] maint) with sec := { size := 100000 } } : State), _, (ask 0 [(4, 0), (4, 0)] : CrbReq),
      _, _, rfl, rfl, rfl, by decide +kernel⟩,
    ⟨({ (fields [(F.SEC_IMAGE_STATE.OPEN, 0, 1)] maint) with sec := { size := 100000 } } : State), _, (ask 0 [] : CrbReq), rfl,
      by decide +kernel⟩,
    ⟨(fields [(F.SEC_BOOT_STATUS.RUNNING, 0, 0)] (maint.setBoot (fun c => { c with stateB := 3 })) : State), _, (ask 0 [(1, 1)] : CrbReq),
      rfl, by decide +kernel⟩,
    ⟨(fields [(F.SEC_BOOT_STATUS.RUNNING, 0, 0)] maint : State), _, _, (ask 0 [(1, 0)] : CrbReq), rfl, rfl, by decide +kernel⟩,
    ⟨(up : State), (ask 0 [] : CrbReq), by decide +kernel⟩⟩

/-- The hypotheses of PowerAndTestOpcodes can be met. -/
theorem witness_PowerAndTestOpcodes :
    (∃ (s : State) (u : State) (q : CrbReq), u = s.judged q ∧ s.ready opSetModeInfo q = true ∧ q.num 0 1 ≤ 7 ∧ u.transition = false ∧
      u.mayGo (Mode.ofCode (q.num 0 1)) = true ∧ q.num 0 1 = 5) ∧
    (∃ (s : State) (u : State) (q : CrbReq), u = s.judged q ∧ s.ready opSetModeInfo q = true ∧ q.num 0 1 ≤ 7 ∧ u.transition = false ∧
      u.mayGo (Mode.ofCode (q.num 0 1)) = true ∧ q.num 0 1 ≠ 5) ∧
    (∃ (s : State) (q : CrbReq), s.ready opGetPower q = true) ∧
    (∃ (s : State) (q : CrbReq), s.ready opSetVoltPolicy q = true ∧ q.sound (s.judged q) .power [(R.PWR_VPOL_CFG, 0), (R.PWR_VPOL_TIME,
      0)] = true) ∧
    (∃ (s : State) (u : State) (q : CrbReq) (rest : List Nat), u = s.judged q ∧ rest = u.pwr.gating.filter (· != q.object) ∧ s.ready
      opSetGating q = true ∧ q.object < 8 ∧ q.num 0 1 ≤ 1) ∧
    (∃ (s : State) (q : CrbReq), s.ready opGetCoreDelay q = true) ∧
    (∃ (s : State) (u : State) (q : CrbReq), u = s.judged q ∧ s.ready opSelfTestInfo q = true ∧ q.num 0 1 ≤ 7 ∧ u.mode = .maintenance ∧
      u.pwr.testing = false) ∧
    (∃ (s : State) (u : State) (q : CrbReq), u = s.judged q ∧ s.ready opTestBankInfo q = true ∧ q.object < 256 ∧ u.fld
      F.CHN_BANK_STATE.STATE q.object ≠ 6 ∧ u.churn.namedTest = none) ∧
    (∃ (s : State) (u : State) (q : CrbReq) (o : Nat), u = s.judged q ∧ o = (if q.num 0 2 = 0x0604 then 0 else q.object) ∧ s.ready
      opInjectError q = true ∧ (injectKind (q.num 0 2)).isSome = true ∧ u.injectable (q.num 0 2) o = true) ∧
    (∃ (s : State) (q : CrbReq), s.ready opGetWatchdog q = true) :=
  ⟨⟨(up : State), _, (ask 0 [(1, 5)] : CrbReq), rfl, by decide +kernel⟩,
    ⟨(up : State), _, (ask 0 [(1, 6)] : CrbReq), rfl, by decide +kernel⟩,
    ⟨(up : State), (ask 0 [] : CrbReq), by decide +kernel⟩,
    ⟨(up : State), (askSet up 0 [(R.PWR_VPOL_CFG, 0), (R.PWR_VPOL_TIME, 0)] 0 407718609 : CrbReq), by decide +kernel⟩,
    ⟨(up : State), _, (ask 0 [(1, 0)] : CrbReq), _, rfl, rfl, by decide +kernel⟩,
    ⟨(up : State), (ask 0 [] : CrbReq), by decide +kernel⟩,
    ⟨(maint : State), _, (ask 0 [(1, 0)] : CrbReq), rfl, by decide +kernel⟩,
    ⟨(maint : State), _, (ask 0 [] : CrbReq), rfl, by decide +kernel⟩,
    ⟨(maint : State), _, (ask 0 [(2, 0x0604)] : CrbReq), _, rfl, rfl, by decide +kernel⟩,
    ⟨(up : State), (ask 0 [] : CrbReq), by decide +kernel⟩⟩

/-- The hypotheses of ServiceOpcodes can be met. -/
theorem witness_ServiceOpcodes :
    (∃ (s : State) (u : State) (q : CrbReq) (f : Nat) (l : Nat), u = s.judged q ∧ f = q.num 0 2 ∧ l = q.num 2 1 ∧ s.ready opQueueAssign q
      = true ∧ q.object < 16384 ∧ f < 2048 ∧ u.flag F.SVC_QMAP.ASSIGNED q.object = false ∧ u.hasQueue f l = false ∧ u.heldOf R.SVC_QMAP f
      < 256) ∧
    (∃ (s : State) (u : State) (q : CrbReq) (f : Nat) (l : Nat) (g : Nat), u = s.judged q ∧ f = q.num 0 2 ∧ l = q.num 2 1 ∧ g = u.fld
      F.SVC_QMAP.FN q.object ∧ s.ready opQueueAssign q = true ∧ q.object < 16384 ∧ f < 2048 ∧ u.flag F.SVC_QMAP.ASSIGNED q.object = true ∧
      g ≠ f ∧ u.hasQueue f l = false ∧ u.heldOf R.SVC_QMAP f < 256 ∧ u.queueFixed q.object = false) ∧
    (∃ (s : State) (u : State) (q : CrbReq) (f : Nat), u = s.judged q ∧ f = u.fld F.SVC_QMAP.FN q.object ∧ s.ready opQueueRelease q = true
      ∧ q.object < 16384 ∧ u.flag F.SVC_QMAP.ASSIGNED q.object = true ∧ u.queueFixed q.object = false) ∧
    (∃ (s : State) (u : State) (q : CrbReq) (f : Nat) (l : Nat), u = s.judged q ∧ f = q.num 0 2 ∧ l = q.num 2 1 ∧ s.ready opVectorAssign q
      = true ∧ q.object < 16384 ∧ f < 2048 ∧ u.flag F.SVC_VMAP.ASSIGNED q.object = false ∧ u.mapAt R.SVC_VMAP f l = none ∧ u.heldOf
      R.SVC_VMAP f < 256) ∧
    (∃ (s : State) (u : State) (q : CrbReq) (f : Nat), u = s.judged q ∧ f = u.fld F.SVC_VMAP.FN q.object ∧ s.ready opVectorRelease q =
      true ∧ q.object < 16384 ∧ u.flag F.SVC_VMAP.ASSIGNED q.object = true ∧ u.vectorFixed q.object = false) ∧
    (∃ (s : State) (q : CrbReq), s.ready opSetShare q = true ∧ q.object < 2048 ∧ 1 ≤ q.num 0 2 ∧ q.num 0 2 < 1024 ∧ q.num 2 2 ≤ 800) ∧
    (∃ (s : State) (u : State) (q : CrbReq) (f : Nat) (t : Nat), u = s.judged q ∧ f = q.num 0 2 ∧ t = q.num 2 1 ∧ s.ready opTraceAssign q
      = true ∧ q.object < 512 ∧ f < 2048 ∧ t < 8 ∧ q.num 3 8 % 0x200000 = 0 ∧ 1 ≤ q.num 11 3 ∧ u.trcState q.object = 0 ∧ u.slotHolder f t
      q.object = none) ∧
    (∃ (s : State) (u : State) (q : CrbReq), u = s.judged q ∧ s.ready opTraceRelease q = true ∧ q.object < 512 ∧ u.trcState q.object = 0) ∧
    (∃ (s : State) (q : CrbReq), s.ready opSetDm q = true ∧ q.sound (s.judged q) .plain [(R.SVC_CFG, 0)] = true) ∧
    (∃ (s : State) (q : CrbReq), s.ready opGetDm q = true ∧ q.object < 2048) :=
  ⟨⟨(up : State), _, (ask 0 [(3, 0)] : CrbReq), _, _, rfl, rfl, rfl, by decide +kernel⟩,
    ⟨(fields [(F.SVC_QMAP.ASSIGNED, 0, 1), (F.SVC_QMAP.FN, 0, 1)] up : State), _, (ask 0 [(3, 0)] : CrbReq), _, _, _, rfl, rfl, rfl, rfl,
      by decide +kernel⟩,
    ⟨(fields [(F.SVC_QMAP.ASSIGNED, 0, 1), (F.SVC_QMAP.FN, 0, 1)] up : State), _, (ask 0 [] : CrbReq), _, rfl, rfl, by decide +kernel⟩,
    ⟨(up : State), _, (ask 0 [(3, 0)] : CrbReq), _, _, rfl, rfl, rfl, by decide +kernel⟩,
    ⟨(fields [(F.SVC_VMAP.ASSIGNED, 0, 1), (F.SVC_VMAP.FN, 0, 1)] up : State), _, (ask 0 [] : CrbReq), _, rfl, rfl, by decide +kernel⟩,
    ⟨(up : State), (ask 0 [(2, 1), (2, 0)] : CrbReq), by decide +kernel⟩,
    ⟨(up : State), _, (ask 0 [(2, 0), (1, 0), (8, 0), (3, 1)] : CrbReq), _, _, rfl, rfl, rfl, by decide +kernel⟩,
    ⟨(up : State), _, (ask 0 [] : CrbReq), rfl, by decide +kernel⟩,
    ⟨(up : State), (askSet up 0 [(R.SVC_CFG, 0)] 0 663571 : CrbReq), by decide +kernel⟩,
    ⟨(up : State), (ask 0 [] : CrbReq), by decide +kernel⟩⟩

/-- The hypotheses of ErrorOpcodes can be met. -/
theorem witness_ErrorOpcodes :
    (∃ (s : State) (q : CrbReq), s.ready opReadJournal q = true ∧ 1 ≤ q.num 4 1 ∧ q.num 4 1 ≤ 63) ∧
    (∃ (s : State) (q : CrbReq), s.ready opReadFlashJournal q = true) ∧
    (∃ (s : State) (q : CrbReq), s.ready opReadCounters q = true ∧ (counterOffsets q).all (fun o => ((s.judged q).counterAt o).isSome) =
      true) ∧
    (∃ (s : State) (q : CrbReq), s.ready opClearCounters q = true ∧ (counterOffsets q).all (fun o => ((s.judged q).counterAt o).isSome) =
      true) ∧
    (∃ (s : State) (q : CrbReq), s.ready opReadPfl q = true ∧ q.object < 144 ∧ q.num 0 1 ≤ 63 ∧ 1 ≤ q.num 1 1 ∧ q.num 1 1 ≤ 64) ∧
    (∃ (s : State) (u : State) (q : CrbReq), u = s.judged q ∧ s.ready opSetErr q = true ∧ q.object = 0xFFFF ∧ q.body.length = 8 ∧ q.sound
      u .plain [(R.ERR_CFG, 0), (R.ERR_WDOG_CFG, 0)] = true) ∧
    (∃ (s : State) (u : State) (q : CrbReq), u = s.judged q ∧ s.ready opSetErr q = true ∧ q.object < 144 ∧ q.body.length = 4 ∧ q.sound u
      .plain [(R.ERR_VH_CFG, q.object)] = true) :=
  ⟨⟨(up : State), (ask 0 [(4, 0), (1, 1)] : CrbReq), by decide +kernel⟩,
    ⟨(up : State), (ask 0 [] : CrbReq), by decide +kernel⟩,
    ⟨(up : State), (ask 0 [(4, R.ACU_VIOL_CNT.addr 0)] : CrbReq), by decide +kernel⟩,
    ⟨(up : State), (ask 0 [(4, R.ACU_VIOL_CNT.addr 0)] : CrbReq), by decide +kernel⟩,
    ⟨(up : State), (ask 0 [(1, 0), (1, 1)] : CrbReq), by decide +kernel⟩,
    ⟨(up : State), _, (askSet up 0xFFFF [(R.ERR_CFG, 0), (R.ERR_WDOG_CFG, 0)] 0 86039 : CrbReq), rfl, by decide +kernel⟩,
    ⟨(up : State), _, (askSet up 0 [(R.ERR_VH_CFG, 0)] 0 3 : CrbReq), rfl, by decide +kernel⟩⟩

/-- The hypotheses of DirectRegisterAccess can be met. -/
theorem witness_DirectRegisterAccess :
    (∃ (s : State) (off : BitVec 26) (be : BitVec 8) (r : RegDesc) (i : Nat), s.mode ≠ .reset ∧ be.toNat / 16 = 0 ∧ s.regAtOff (off.toNat
      / 4 * 4) = some (r, i)) ∧
    (∃ (s : State) (f : Fin 2048) (off : BitVec 26) (be : BitVec 8) (r : RegDesc) (i : Nat), s.mode ≠ .reset ∧ be.toNat / 16 = 0 ∧ findReg
      (fnOffset f (off.toNat / 4 * 4)) = some (r, i)) ∧
    (∃ (s : State), s.mode ≠ .reset) ∧
    (∃ (r : RegDesc) (m : Nat), m ≠ 0 ∧ ([R.PCL_PORT_CTRL, R.PCL_LANE_RXADAPT_CTRL, R.PCL_PRBS_CTRL, R.PWR_TB_SET_HI, R.Q_CTRL, R.TS_CTRL,
      R.MGT_CRB_CTRL, R.MGT_CRB_RPL_HEAD].any (fun x => x.base == r.base)) = false) ∧
    (∃ (s : State) (r : RegDesc) (i : Nat) (m : Nat) (v : Nat), s.mode ≠ .maintenance ∧ s.stopped r i = false ∧ mergeBits (s.rd r i).toNat
      v (Nat.land m (s.coMask r i)) ≠ (s.rd r i).toNat) ∧
    (∃ (s : State) (off : BitVec 26) (t : Table) (i : Nat) (b : Nat), windowAt (off.toNat / 4 * 4) = some (t, i, b) ∧ (t = .attach → 144 ≤
      i) ∧ s.mode = .maintenance ∧ s.ringsHold = true) ∧
    (∃ (s : State) (off : BitVec 26) (be : BitVec 4) (value : BitVec 32) (t : Table) (i : Nat) (b : Nat), windowAt (off.toNat / 4 * 4) =
      some (t, i, b) ∧ (t = .attach → 144 ≤ i) ∧ s.mode ≠ .reset ∧ (s.mode ≠ .maintenance ∨ s.ringsHold = false) ∧ entryWord
      (s.viewBank.entry t i) b (enabledBits be.toNat) value.toNat ≠ s.viewBank.entry t i) ∧
    (∃ (s : State) (off : BitVec 26) (o : Nat) (r : RegDesc) (i : Nat), o = off.toNat / 4 * 4 ∧ s.regAtOff o = some (r, i) ∧ s.mode ≠
      .reset ∧ isLow r = true) ∧
    (∃ (s : State) (off : BitVec 26) (r : RegDesc) (i : Nat), s.regAtOff (off.toNat / 4 * 4) = some (r, i) ∧ s.mode ≠ .reset ∧ r.kind =
      .hwm ∧ isLow r = false ∧ isHigh r = false) ∧
    (∃ (s : State) (p : Fin 144) (cycle : Nat) (base : Nat) (start : Nat) (l : List Word), cycle = s.fld F.QOS_GCL_CYCLE.CYCLE_NS p ∧ base
      = (s.rd R.QOS_GCL_BASE_LO p).toNat + 2 ^ 32 * (s.rd R.QOS_GCL_BASE_HI p).toNat ∧ l = s.adminList p (s.fld F.QOS_GCL_CTRL.ADMIN_LAST
      p) ∧ start = cycleStart base cycle s.tb.toNat ∧ gclOk cycle l = true) ∧
    (∃ (s : State) (be : BitVec 8), s.mode ≠ .reset ∧ be.toNat / 16 ≠ 0 ∧ be.toNat % 16 = 0) ∧
    (∃ (s : State) (be : BitVec 8), s.mode ≠ .reset ∧ be.toNat / 16 ≠ 0 ∧ crossesWord be.toNat = true) :=
  ⟨(by
    have h : (State.regAtOff up ((BitVec.ofNat 26 (R.PWR_EVT_EN.addr 0)).toNat / 4 * 4)).isSome = true := by decide +kernel
    obtain ⟨⟨r, i⟩, e⟩ := Option.isSome_iff_exists.mp h
    exact ⟨up, BitVec.ofNat 26 (R.PWR_EVT_EN.addr 0), 1, r, i, by decide +kernel, by decide +kernel, e⟩),
    (by
    have h : (findReg (fnOffset ((0 : Fin 2048) : Nat) ((0 : BitVec 26).toNat / 4 * 4))).isSome = true := by decide +kernel
    obtain ⟨⟨r, i⟩, e⟩ := Option.isSome_iff_exists.mp h
    exact ⟨up, 0, 0, 1, r, i, by decide +kernel, by decide +kernel, e⟩),
    ⟨(up : State), by decide +kernel⟩,
    ⟨(R.PWR_EVT_EN : RegDesc), (1 : Nat), by decide +kernel⟩,
    ⟨(up : State), (R.PCL_CLUSTER_CFG : RegDesc), (0 : Nat), (0xFFFFFFFF : Nat), (57 : Nat), by decide +kernel⟩,
    ⟨(session .rings maint : State), (BitVec.ofNat 26 Table.bind.base : BitVec 26), (.bind : Table), (0 : Nat), (0 : Nat),
      by decide +kernel⟩,
    ⟨(up : State), (BitVec.ofNat 26 Table.bind.base : BitVec 26), (1 : BitVec 4), (1 : BitVec 32), (.bind : Table), (0 : Nat), (0 : Nat),
      by decide +kernel⟩,
    ⟨(up : State), (BitVec.ofNat 26 (R.CHN_MIG_WORDS_LO.addr 0) : BitVec 26), _, (R.CHN_MIG_WORDS_LO : RegDesc), (0 : Nat), rfl, rfl,
      by decide +kernel⟩,
    ⟨(up : State), (BitVec.ofNat 26 (R.BND_TRK_HWM.addr 0) : BitVec 26), (R.BND_TRK_HWM : RegDesc), (0 : Nat), rfl, by decide +kernel⟩,
    ⟨(up : State), (0 : Fin 144), _, _, _, _, rfl, rfl, rfl, rfl, by decide +kernel⟩,
    ⟨(up : State), (0xF0 : BitVec 8), by decide +kernel⟩,
    ⟨(up : State), (0x18 : BitVec 8), by decide +kernel⟩⟩

/-- The hypotheses of DebugPort can be met. -/
theorem witness_DebugPort :
    (∃ (s : State) (v : BitVec 32), s.verifying = false ∧ v ≠ 0) ∧
    (∃ (s : State), s.verifying = false) ∧
    (∃ (s : State), s.verifying = true) ∧
    (∃ (s : State), s.verifying = false) ∧
    (∃ (s : State) (t : State), t = s.setFld F.DBG_STATUS.UNLOCKED 0 0 ∧ t.verifying = true ∧ s.verifying = true) ∧
    (∃ (s : State) (t : State), t = s.setFld F.DBG_STATUS.UNLOCKED 0 0 ∧ t.verifying = false ∧ s.flag F.DBG_STATUS.UNLOCKED = true) ∧
    (∃ (s : State) (t : State) (r : Nat), r = s.tokenResult s.tokenBytes ∧ t = (if s.flag F.DBG_STATUS.UNLOCKED = true then s else s.onSec
      (fun y => { y with unlocks := y.unlocks + 1 })) ∧ s.verifying = true) ∧
    (∃ (s : State) (t : State) (addr : BitVec 36), t = s.emit (.data ((look (addr.toNat / 4 * 4) s.sec.sram).getD (Config.sramWord
      (addr.toNat / 4 * 4))).toNat) ∧ s.mode ≠ .reset ∧ barSize ≤ addr.toNat / 4 * 4 ∧ (debugRegion (addr.toNat / 4 * 4)).filter
      s.debugLocked = none ∧ inSram (addr.toNat / 4 * 4) = true) ∧
    (∃ (s : State) (addr : BitVec 36) (reg : Nat), s.mode ≠ .reset ∧ barSize ≤ addr.toNat / 4 * 4 ∧ (debugRegion (addr.toNat / 4 *
      4)).filter s.debugLocked = some reg) :=
  ⟨⟨(up : State), (1 : BitVec 32), by decide +kernel⟩,
    ⟨(up : State), by decide +kernel⟩,
    ⟨(fields [(F.DBG_STATUS.VERIFYING, 0, 1)] up : State), by decide +kernel⟩,
    ⟨(up : State), by decide +kernel⟩,
    ⟨(fields [(F.DBG_STATUS.VERIFYING, 0, 1)] up : State), _, rfl, by decide +kernel⟩,
    ⟨(fields [(F.DBG_STATUS.UNLOCKED, 0, 1)] up : State), _, rfl, by decide +kernel⟩,
    ⟨(fields [(F.DBG_STATUS.VERIFYING, 0, 1)] up : State), _, _, rfl, rfl, by decide +kernel⟩,
    ⟨(up : State), _, (0x100000000 : BitVec 36), rfl, by decide +kernel⟩,
    ⟨(up : State), (0x102000000 : BitVec 36), (3 : Nat), by decide +kernel⟩⟩

/-- The hypotheses of LanesAndLinks can be met. -/
theorem witness_LanesAndLinks :
    (∃ (s : State) (l : Fin 288) (p : Nat), s.generating l = true ∧ s.portOfLane l = some p) ∧
    (∃ (s : State) (l : Fin 288), s.prbsOn l = true) ∧
    (∃ (s : State) (t : State) (l : Fin 288) (n : Fin 65) (v : Nat) (k : Nat), v = s.fld F.PCL_PRBS_ERR.ERR_COUNT l + n ∧ t = (s.setFld
      F.PCL_PRBS_ERR.ERR_COUNT l (min v 0xFFFFFFFF)).whenb (0xFFFFFFFF ≤ v) (fun s => s.setFld F.PCL_PRBS_STATUS.OVF l 1) ∧ k = (look
      l.val t.pins.prbsRun).getD 0 + 1 ∧ s.checking l = true ∧ s.flag F.PCL_PRBS_STATUS.LOCK l = true ∧ n.val ≠ 0 ∧ k < 16) ∧
    (∃ (s : State) (t : State) (l : Fin 288) (n : Fin 65) (v : Nat) (k : Nat), v = s.fld F.PCL_PRBS_ERR.ERR_COUNT l + n ∧ t = (s.setFld
      F.PCL_PRBS_ERR.ERR_COUNT l (min v 0xFFFFFFFF)).whenb (0xFFFFFFFF ≤ v) (fun s => s.setFld F.PCL_PRBS_STATUS.OVF l 1) ∧ k = (look
      l.val t.pins.prbsRun).getD 0 + 1 ∧ s.checking l = true ∧ s.flag F.PCL_PRBS_STATUS.LOCK l = true ∧ n.val ≠ 0 ∧ 16 ≤ k) ∧
    (∃ (s : State) (t : State) (p : Fin 144), t = s.setFld F.PCL_PORT_CTRL.TEST p 1 ∧ s.live p = true ∧ s.clockRuns (clusterOf p) = true ∧
      t.flag F.PCL_PORT_CTRL.ENABLE p = false ∧ t.linkState p = 0) ∧
    (∃ (s : State) (t : State) (l : Fin 288) (v : BitVec 32), t = s.wr R.PCL_LANE_RXADAPT_CTRL l (BitVec.ofNat 32 (Nat.land v.toNat
      R.PCL_LANE_RXADAPT_CTRL.mask)) ∧ s.clockRuns (l / 8) = true ∧ t.flag F.PCL_LANE_RXADAPT_CTRL.OVERRIDE l = true) ∧
    (∃ (s : State) (t : State) (l : Fin 288) (v : BitVec 32), t = s.wr R.PCL_LANE_RXADAPT_CTRL l (BitVec.ofNat 32 (Nat.land v.toNat
      R.PCL_LANE_RXADAPT_CTRL.mask)) ∧ s.clockRuns (l / 8) = true ∧ t.flag F.PCL_LANE_RXADAPT_CTRL.OVERRIDE l = false) ∧
    (∃ (s : State) (t : State) (u : State) (p : Fin 144) (rate : Fin 8) (width : Fin 17) (flit : Bool) (rev : Bool), t = s.linkActive p
      rate width flit false rev ∧ u = t.each (s.lanesOf p) State.findPolarity ∧ s.mode ≠ .reset ∧ s.mode ≠ .boot ∧ s.mayTrain p = true ∧
      s.proto p = 0 ∧ (s.linkState p = 1 ∨ s.linkState p = 2) ∧ rate.val ≠ 0 ∧ rate.val ≤ s.rateCap p flit ∧ width.val ≠ 0 ∧ width.val ≤
      (s.lanesOf p).length ∧ t.isHostEdge p = true ∧ t.proto p = 0) ∧
    (∃ (s : State) (t : State) (p : Fin 144) (rate : Fin 8), t = ((((s.abortRecal p 1).setFld F.PCL_PORT_STATUS.STATE p 3).setFld
      F.PCL_PORT_STATUS.RATE_NOW p rate).setFld F.PCL_PORT_STATUS.WIDTH_NOW p (s.fld F.PCL_PORT_STATUS.WIDTH_NOW p)).setFld
      F.PCL_PORT_STATUS.CXL_ACTIVE p 0 ∧ s.proto p = 0 ∧ s.linkState p = 4 ∧ rate.val ≠ 0 ∧ rate.val ≤ s.rateCap p (s.flag
      F.PCL_PORT_STATUS.FLIT p) ∧ s.fld F.PCL_PORT_STATUS.WIDTH_NOW p ≠ 0 ∧ s.fld F.PCL_PORT_STATUS.WIDTH_NOW p ≤ (s.lanesOf p).length ∧
      rate.val ≠ s.fld F.PCL_PORT_STATUS.RATE_NOW p) ∧
    (∃ (s : State) (p : Fin 144) (w : Fin 17), s.active p = true ∧ s.proto p ≠ 2 ∧ s.flag F.PCL_PORT_STATUS.FLIT p = true ∧ s.flag
      F.PCL_PORT_CTRL.L0P_EN p = true ∧ 2 ≤ s.fullOf p ∧ w.val ≠ 0 ∧ w.val ≤ s.fullOf p ∧ s.fld F.PCL_PORT_STATUS.WIDTH_NOW p < w.val ∧
      [1, 2, 4, 8, 16].contains w.val = true ∧ s.flag F.PCL_PORT_STATUS.RECAL_BORROW p = false ∧ s.recalMine p w = false ∧ s.cutThroughTo
      p = false) ∧
    (∃ (s : State) (p : Fin 144), s.proto p ≠ 2 ∧ s.active p = true ∧ s.linkUp p = true ∧ s.flag F.PCL_PORT_CTRL.L1_EN p = true ∧
      s.aspmAllows p 2 = true ∧ s.recalOn p = false) ∧
    (∃ (s : State) (t : State) (p : Fin 144) (n : Nat), n = s.fld F.PCL_PORT_STATUS.LPSTATE p ∧ t = ((s.setFld F.PCL_PORT_STATUS.STATE p
      3).setFld F.PCL_PORT_STATUS.LPSTATE p 0).pllUpdate (clusterOf p) ∧ s.linkState p = 5 ∧ s.proto p ≠ 2) ∧
    (∃ (s : State) (r : RegDesc) (l : Nat), s.rxAdapts r l = true) ∧
    (∃ (s : State) (r : RegDesc) (l : Nat), s.rxAdapts r l = false) ∧
    (∃ (s : State) (r : RegDesc) (l : Nat), s.rxAdapts r l = false ∧ (look (heldRx r l) s.regs).isSome = true) ∧
    (∃ (s : State) (r : RegDesc) (l : Nat), s.rxAdapts r l = false ∧ (look (heldRx r l) s.regs).isSome = false) ∧
    (∃ (s : State) (r : RegDesc) (l : Nat), (s.rxZero r l = true ∨ s.flag F.PCL_LANE_STATUS.ADAPT_CONVERGED l = false)) :=
  ⟨⟨(fields [(F.PCL_PRBS_CTRL.PATTERN, 0, 1), (F.PCL_PRBS_CTRL.GEN_EN, 0, 1)] (port 0 1 0 6 up) : State), (0 : Fin 288), (0 : Nat),
      by decide +kernel⟩,
    ⟨((port 0 1 0 6 up) : State), (0 : Fin 288), by decide +kernel⟩,
    ⟨(fields [(F.PCL_PRBS_CTRL.PATTERN, 0, 1), (F.PCL_PRBS_CTRL.CHK_EN, 0, 1), (F.PCL_PRBS_STATUS.LOCK, 0, 1)] (port 0 1 0 6 up) : State),
      _, (0 : Fin 288), (1 : Fin 65), _, _, rfl, rfl, rfl, by decide +kernel⟩,
    ⟨((fields [(F.PCL_PRBS_CTRL.PATTERN, 0, 1), (F.PCL_PRBS_CTRL.CHK_EN, 0, 1), (F.PCL_PRBS_STATUS.LOCK, 0, 1)] (port 0 1 0 6 up)).onPins
      (fun y => { y with prbsRun := [(0, 15)] }) : State), _, (0 : Fin 288), (1 : Fin 65), _, _, rfl, rfl, rfl, by decide +kernel⟩,
    ⟨(fields [(F.PCL_PORT_CTRL.ENABLE, 0, 0)] (port 0 1 0 0 up) : State), _, (0 : Fin 144), rfl, by decide +kernel⟩,
    ⟨(port 0 1 0 3 up : State), _, (0 : Fin 288), (BitVec.ofNat 32 (2 ^ F.PCL_LANE_RXADAPT_CTRL.OVERRIDE.lo) : BitVec 32), rfl,
      by decide +kernel⟩,
    ⟨(port 0 1 0 3 up : State), _, (0 : Fin 288), (BitVec.ofNat 32 (2 ^ F.PCL_LANE_RXADAPT_CTRL.FREEZE.lo) : BitVec 32), rfl,
      by decide +kernel⟩,
    ⟨(port 0 0 0 1 up : State), _, _, (0 : Fin 144), (1 : Fin 8), (4 : Fin 17), (false : Bool), (false : Bool), rfl, rfl,
      by decide +kernel⟩,
    ⟨(port 0 1 0 4 up : State), _, (0 : Fin 144), (3 : Fin 8), rfl, by decide +kernel⟩,
    ⟨(fields [(F.PCL_PORT_STATUS.WIDTH_NOW, 0, 2), (F.PCL_PORT_STATUS.FLIT, 0, 1), (F.PCL_PORT_CTRL.L0P_EN, 0, 1)] ((port 0 1 0 3
      up).onChurn (fun y => { y with fullWidth := [(0, 4)] })) : State), (0 : Fin 144), (4 : Fin 17), by decide +kernel⟩,
    ⟨(fields [(F.PCL_PORT_CTRL.L1_EN, 0, 1)] (port 0 1 0 3 up) : State), (0 : Fin 144), by decide +kernel⟩,
    ⟨(port 0 1 0 5 up : State), _, (0 : Fin 144), _, rfl, rfl, by decide +kernel⟩,
    ⟨(fields [(F.PCL_LANE_RXADAPT_CTRL.CTLE_ADAPT_EN, 0, 1)] (port 0 1 0 3 up) : State), (R.PCL_LANE_CTLE : RegDesc), (0 : Nat),
      by decide +kernel⟩,
    ⟨(fields [(F.PCL_LANE_RXADAPT_CTRL.CTLE_ADAPT_EN, 0, 0)] (port 0 1 0 3 up) : State), (R.PCL_LANE_CTLE : RegDesc), (0 : Nat),
      by decide +kernel⟩,
    ⟨(({ fields [(F.PCL_LANE_RXADAPT_CTRL.CTLE_ADAPT_EN, 0, 0)] (port 0 1 0 3 up) with regs := put (heldRx R.PCL_LANE_CTLE 0) 5 (fields [(F.PCL_LANE_RXADAPT_CTRL.CTLE_ADAPT_EN, 0, 0)] (port 0 1 0 3 up)).regs }
      : State) : State), (R.PCL_LANE_CTLE : RegDesc), (0 : Nat), by decide +kernel⟩,
    ⟨(fields [(F.PCL_LANE_RXADAPT_CTRL.CTLE_ADAPT_EN, 0, 0)] (port 0 1 0 3 up) : State), (R.PCL_LANE_CTLE : RegDesc), (0 : Nat),
      by decide +kernel⟩,
    ⟨(fields [(F.PCL_LANE_RXADAPT_CTRL.CTLE_ADAPT_EN, 0, 0)] (port 0 1 0 3 up) : State), (R.PCL_LANE_CTLE : RegDesc), (0 : Nat),
      by decide +kernel⟩⟩

/-- The hypotheses of ClocksAndMargins can be met. -/
theorem witness_ClocksAndMargins :
    (∃ (s : State) (t : State) (c : Fin 36), t = s.onPins (fun y => { y with refclk := y.refclk.filter (· != c.val) }) ∧ s.mode ≠ .reset) ∧
    (∃ (s : State) (t : State) (c : Fin 36), t = s.onPins (fun y => { y with refclk := c.val :: y.refclk.filter (· != c.val) }) ∧ s.mode ≠
      .reset) ∧
    (∃ (s : State) (p : Fin 144) (lane : Fin 16) (type : Fin 8) (payload : BitVec 8) (l : Nat) (r : Nat × Nat), l = firstLane p + lane ∧ r
      = s.marginReply p l type payload.toNat ∧ s.proto p ≠ 2 ∧ s.active p = true ∧ 4 ≤ s.fld F.PCL_PORT_STATUS.RATE_NOW p ∧ lane.val <
      (s.lanesOf p).length ∧ s.recalOn p = false) ∧
    (∃ (s : State) (p : Fin 144) (lane : Fin 16) (type : Fin 8) (payload : BitVec 8) (l : Nat) (r : Nat × Nat), l = firstLane p + lane ∧ r
      = s.marginReply p l type payload.toNat ∧ s.proto p ≠ 2 ∧ s.active p = true ∧ 4 ≤ s.fld F.PCL_PORT_STATUS.RATE_NOW p ∧ lane.val <
      (s.lanesOf p).length ∧ s.recalOn p = true) ∧
    (∃ (s : State) (t : State) (p : Fin 144), t = s.emit (.link p (.l0p (s.fullOf p))) ∧ s.recalOn p = true ∧ s.flag
      F.PCL_PORT_STATUS.RECAL_BORROW p = true ∧ s.proto p ≠ 2 ∧ s.cutThroughTo p = false) ∧
    (∃ (s : State) (t : State) (p : Fin 144), t = s.emit (.link p (.l0p (s.fullOf p))) ∧ s.recalOn p = true ∧ s.flag
      F.PCL_PORT_STATUS.RECAL_BORROW p = true ∧ s.proto p = 2) ∧
    (∃ (s : State) (t : State) (l : Fin 288) (p : Nat), t = s.setFld F.PCL_LANE_STATUS.CDR_LOCK l 0 ∧ t.portOfLane l = some p ∧ t.proto p
      ≠ 2) ∧
    (∃ (s : State) (t : State) (l : Fin 288) (p : Nat), t = s.setFld F.PCL_LANE_STATUS.CDR_LOCK l 0 ∧ t.portOfLane l = some p ∧ t.proto p
      = 2 ∧ (lanesIn (t.fld F.KFL_LINK_STATUS.LANES_ACTIVE (controllerOf p))).any (fun i => t.physLane (controllerOf p) i == l.val) =
      true) ∧
    (∃ (s : State) (p : Fin 144), s.mayReleasePerst p = true) ∧
    (∃ (s : State) (p : Fin 144), s.proto p = 0 ∧ s.active p = true ∧ s.linkUp p = true ∧ s.flag F.PCL_PORT_CTRL.L0S_EN p = true ∧ s.flag
      F.PCL_PORT_STATUS.FLIT p = false ∧ s.aspmAllows p 1 = true) ∧
    (∃ (s : State) (p : Fin 144) (st : Fin 5), 3 ≤ st.val ∧ s.proto p ≠ 2 ∧ s.active p = true ∧ s.linkUp p = true ∧ s.flag
      F.PCL_PORT_CTRL.L1SS_EN p = true ∧ s.aspmAllows p st = true ∧ s.recalOn p = false) :=
  ⟨⟨(up : State), _, (0 : Fin 36), rfl, by decide +kernel⟩,
    ⟨(up : State), _, (0 : Fin 36), rfl, by decide +kernel⟩,
    ⟨(port 0 1 0 3 up : State), (0 : Fin 144), (0 : Fin 16), (0 : Fin 8), (0 : BitVec 8), _, _, rfl, rfl, by decide +kernel⟩,
    ⟨(fields [(F.PCL_RECAL_STATUS.STATE, 0, 1)] (port 0 1 0 3 up) : State), (0 : Fin 144), (0 : Fin 16), (0 : Fin 8), (0 : BitVec 8), _,
      _, rfl, rfl, by decide +kernel⟩,
    ⟨(fields [(F.PCL_RECAL_STATUS.STATE, 0, 1), (F.PCL_PORT_STATUS.RECAL_BORROW, 0, 1)] (port 0 1 0 3 up) : State), _, (0 : Fin 144), rfl,
      by decide +kernel⟩,
    ⟨(fields [(F.PCL_RECAL_STATUS.STATE, 0, 1), (F.PCL_PORT_STATUS.RECAL_BORROW, 0, 1)] (kfl 0 5 up) : State), _, (0 : Fin 144), rfl,
      by decide +kernel⟩,
    ⟨(port 0 1 0 3 up : State), _, (0 : Fin 288), (0 : Nat), rfl, by decide +kernel⟩,
    ⟨(fields [(F.KFL_LINK_STATUS.LANES_ACTIVE, 0, 15)] (kfl 0 5 up) : State), _, (0 : Fin 288), (0 : Nat), rfl, by decide +kernel⟩,
    ⟨(port 0 1 0 3 up : State), (0 : Fin 144), by decide +kernel⟩,
    ⟨(fields [(F.PCL_PORT_CTRL.L0S_EN, 0, 1)] (port 0 1 0 3 up) : State), (0 : Fin 144), by decide +kernel⟩,
    ⟨(fields [(F.PCL_PORT_CTRL.L1SS_EN, 0, 1)] (port 0 1 0 3 up) : State), (0 : Fin 144), (3 : Fin 5), by decide +kernel⟩⟩

/-- The hypotheses of CorberTransports can be met. -/
theorem witness_CorberTransports :
    (∃ (s : State) (t : State) (tail : BitVec 12) (be : BitVec 2), t = s.setFld F.MGT_CRB_REQ_TAIL.IDX 0 (s.reqTail tail be % 2 ^
      s.crb.ringSet.req) ∧ s.mode ≠ .reset ∧ s.mode ≠ .drowse ∧ t.fld F.MGT_CRB_STATUS.STATE ≠ 1) ∧
    (∃ (s : State) (t : State) (tail : BitVec 12) (be : BitVec 2), t = s.setFld F.MGT_CRB_REQ_TAIL.IDX 0 (s.reqTail tail be % 2 ^
      s.crb.ringSet.req) ∧ s.mode ≠ .reset ∧ s.mode ≠ .drowse ∧ t.fld F.MGT_CRB_STATUS.STATE = 1) ∧
    (∃ (s : State) (t : State) (tail : BitVec 12) (be : BitVec 2), t = s.setFld F.MGT_CRB_REQ_TAIL.IDX 0 (s.reqTail tail be % 2 ^
      s.crb.ringSet.req) ∧ s.mode ≠ .reset ∧ s.mode ≠ .drowse ∧ t.fld F.MGT_CRB_STATUS.STATE = 1 ∧ (t.ringsRun && t.ringEnds.ringsRun &&
      t.ringEnds.crb.heldReplies.isEmpty && t.ringEnds.crb.ringWait.isEmpty) = true) ∧
    (∃ (s : State) (t : State) (tail : BitVec 12) (be : BitVec 2), t = s.setFld F.MGT_CRB_REQ_TAIL.IDX 0 (s.reqTail tail be % 2 ^
      s.crb.ringSet.req) ∧ s.mode ≠ .reset ∧ s.mode ≠ .drowse) ∧
    (∃ (s : State) (t : State) (tail : BitVec 12) (be : BitVec 2), t = s.setFld F.MGT_CRB_REQ_TAIL.IDX 0 (s.reqTail tail be % 2 ^
      s.crb.ringSet.req) ∧ s.mode ≠ .reset ∧ s.mode ≠ .drowse ∧ t.fld F.MGT_CRB_STATUS.STATE = 1 ∧ t.ringEnds = t ∧ t.ringsRun = true ∧
      t.crb.heldReplies = [] ∧ t.crb.ringWait = [] ∧ t.ringWaiting ≠ 0 ∧ t.ringReading = false ∧ t.fnRuns 0 = none) ∧
    (∃ (s : State), s.mode ≠ .reset) ∧
    (∃ (s : State) (t : State) (a : Fin 16) (b : Fin 16) (c : Fin 16), t = (s.wr R.MGT_CRB_CTRL 0 (BitVec.ofNat 32 (4 * a.val + 64 * b +
      1024 * c))).setFld F.MGT_CRB_CTRL.ENABLE 0 1 ∧ rising s.regs = true ∧ s.mode ≠ .reset ∧ s.flag F.MGT_CRB_CTRL.ENABLE = false ∧ 4 ≤
      a.val ∧ a.val ≤ 12 ∧ 4 ≤ b.val ∧ b.val ≤ 12 ∧ 4 ≤ c.val ∧ c.val ≤ 12) ∧
    (∃ (s : State) (a : Fin 16) (b : Fin 16) (c : Fin 16), rising s.regs = true ∧ s.mode ≠ .reset ∧ s.flag F.MGT_CRB_CTRL.ENABLE = false ∧
      (badLog2 a || badLog2 b || badLog2 c) = true) ∧
    (∃ (s : State) (t : State), t = ([F.MGT_CRB_REQ_TAIL.IDX, F.MGT_CRB_REQ_HEAD.IDX, F.MGT_CRB_RPL_HEAD.IDX, F.MGT_CRB_RPL_TAIL.IDX,
      F.MGT_CRB_EVT_HEAD.IDX, F.MGT_CRB_EVT_TAIL.IDX].foldl (fun s f => s.setFld f 0 0) s).ringsDrop ∧ s.mode ≠ .reset) ∧
    (∃ (s : State) (m : Fin 3) (b : List (BitVec 8)), s.mode ≠ .reset ∧ s.mctpOn m = true ∧ 16 ≤ b.length) ∧
    (∃ (s : State) (m : Fin 3) (b : List (BitVec 8)), s.mode ≠ .reset ∧ s.mctpOn m = true ∧ 12 ≤ b.length) ∧
    (∃ (s : State) (m : Fin 3) (b : List (BitVec 8)), s.mode ≠ .reset ∧ s.mctpOn m = true ∧ 12 ≤ b.length ∧ s.mode ≠ .drowse) ∧
    (∃ (s : State) (m : Fin 3), s.mode ≠ .reset ∧ s.mctpOn m = true) ∧
    (∃ (s : State) (o : BitVec 12) (b : List (BitVec 8)) (msg : Nat) (n : Nat), msg = bodyNat b 0 1 ∧ n = bits (bodyNat b 2 1) 1 5 ∧
      bodyNat b 1 1 = 0 ∧ bits (bodyNat b 2 1) 0 1 = 0 ∧ n ≠ 0 ∧ n ≤ 20 ∧ b.length = 4 + n ∧ s.crb.reasm.find? (fun (x : Reasm) =>
      x.origin == o.toNat && x.msgId == msg) = none ∧ s.crb.reasm.length < 16) ∧
    (∃ (s : State) (o : BitVec 12) (b : List (BitVec 8)) (x : Reasm) (n : Nat), n = bits (bodyNat b 2 1) 1 5 ∧ s.crb.reasm.find? (fun (x :
      Reasm) => x.origin == o.toNat && x.msgId == bodyNat b 0 1) = some x ∧ x.nextFrag = bodyNat b 1 1 ∧ bits (bodyNat b 2 1) 0 1 = 1 ∧ n
      ≠ 0 ∧ n ≤ 20 ∧ b.length = 4 + n) ∧
    (∃ (s : State) (o : BitVec 12) (m : BitVec 8), s.due .reasm (reasmKey o.toNat m.toNat) = true ∧ s.crb.reasm.any (fun (x : Reasm) =>
      x.origin == o.toNat && x.msgId == m.toNat) = true) ∧
    (∃ (s : State), s.mode ≠ .reset ∧ s.mode ≠ .boot ∧ s.flag F.MGT_CRB_STATUS.FW_READY = false) :=
  ⟨⟨(up : State), _, (0 : BitVec 12), (0 : BitVec 2), rfl, by decide +kernel⟩,
    ⟨(fields [(F.MGT_CRB_STATUS.STATE, 0, 1)] up : State), _, (0 : BitVec 12), (0 : BitVec 2), rfl, by decide +kernel⟩,
    ⟨(fields [(F.MGT_CRB_STATUS.STATE, 0, 1)] up : State), _, (0 : BitVec 12), (0 : BitVec 2), rfl, by decide +kernel⟩,
    ⟨(up : State), _, (0 : BitVec 12), (0 : BitVec 2), rfl, by decide +kernel⟩,
    ⟨(fields [(F.MGT_CRB_STATUS.STATE, 0, 1)] ((bound 0 1 (1 + 8 * 2 ^ 18) up).onCrb (fun y =>
      { y with ringSet := { y.ringSet with req := 4 } })) : State), _, (1 : BitVec 12), (3 : BitVec 2), rfl, by decide +kernel⟩,
    ⟨(up : State), by decide +kernel⟩,
    ⟨(up : State), _, (4 : Fin 16), (12 : Fin 16), (8 : Fin 16), rfl, by decide +kernel⟩,
    ⟨(up : State), (0 : Fin 16), (0 : Fin 16), (0 : Fin 16), by decide +kernel⟩,
    ⟨(up : State), _, rfl, by decide +kernel⟩,
    ⟨(fields [(F.MGT_MCTP_CFG.VDM_EN, 0, 1)] up : State), (0 : Fin 3), (leBytes 16 0 : List (BitVec 8)), by decide +kernel⟩,
    ⟨(fields [(F.MGT_MCTP_CFG.VDM_EN, 0, 1)] up : State), (0 : Fin 3), (leBytes 16 0 : List (BitVec 8)), by decide +kernel⟩,
    ⟨(fields [(F.MGT_MCTP_CFG.VDM_EN, 0, 1)] up : State), (0 : Fin 3), (leBytes 16 0 : List (BitVec 8)), by decide +kernel⟩,
    ⟨(fields [(F.MGT_MCTP_CFG.VDM_EN, 0, 1)] up : State), (0 : Fin 3), by decide +kernel⟩,
    ⟨(up : State), (0 : BitVec 12), ([7, 0, 8, 0, 1, 2, 3, 4] : List (BitVec 8)), _, _, rfl, rfl, by decide +kernel⟩,
    ⟨(up.onCrb (fun y => { y with reasm := [⟨5, 7, 1, []⟩] }) : State), (5 : BitVec 12), ([7, 1, 9, 0, 1, 2, 3, 4] : List (BitVec 8)),
      (⟨5, 7, 1, []⟩ : Reasm), _, rfl, by decide +kernel⟩,
    ⟨(late .reasm 1287 (up.onCrb (fun y => { y with reasm := [⟨5, 7, 1, []⟩] })) : State), (5 : BitVec 12), (7 : BitVec 8),
      by decide +kernel⟩,
    ⟨({ State.reset with mode := .composed } : State), by decide +kernel⟩⟩

/-- The hypotheses of HostConfiguration can be met. -/
theorem witness_HostConfiguration :
    (∃ (s : State) (vh : Fin 144) (u : HostUnit) (f : HostField), s.cfgOpen vh u = true ∧ f ∈ [.primaryBus, .secondaryBus,
      .subordinateBus, .memEn, .ioEn, .busMaster, .memBase, .memLimit, .prefBase, .prefLimit, .ioBase, .ioLimit, .uncMask, .uncSeverity,
      .corMask, .errEnables, .dpcTrigEn, .dpcCplCa, .acsSv, .acsTb, .acsRr, .acsCr, .acsUf, .acsDt, .poisonBlock, .slotVector, .mcEnable,
      .mcBase, .mcIndexPos, .mcNumGroup, .mcReceive]) ∧
    (∃ (s : State) (vh : Fin 144) (u : HostUnit) (f : HostField), s.cfgOpen vh u = true ∧ f ∈ [.uncStatus, .corStatus, .attention,
      .presenceChanged, .dllChanged, .powerFault]) ∧
    (∃ (s : State) (vh : Fin 144) (i : Nat), s.cfgOpen vh (.fn i) = true) ∧
    (∃ (s : State) (vh : Fin 144) (u : HostUnit) (f : HostField), s.cfgOpen vh u = true ∧ f ∈ [.presence, .dllActive, .headerLog,
      .dpcStatus, .dpcReason, .bindGen]) ∧
    (∃ (s : State) (t : State) (vh : Fin 144) (i : Fin 64) (off : BitVec 12) (w : BitVec 32), t = s.setHost vh (.fn i) (.bar ((off.toNat /
      4 * 4 - 0x10) / 4)) (s.barValue vh i ((off.toNat / 4 * 4 - 0x10) / 4) w.toNat) ∧ s.cfgOpen vh (.fn i) = true ∧ 0x10 ≤ off.toNat / 4
      * 4 ∧ off.toNat / 4 * 4 < 0x28) ∧
    (∃ (s : State) (vh : Fin 144) (i : Fin 64) (off : BitVec 12), s.cfgOpen vh (.fn i) = true ∧ 0x10 ≤ off.toNat / 4 * 4 ∧ off.toNat / 4 *
      4 < 0x28) ∧
    (∃ (s : State) (u : State) (vh : Fin 144) (i : Fin 64) (off : BitVec 12) (w : BitVec 32) (rid : BitVec 16) (tag : BitVec 14) (t :
      BitVec 14) (bi : Nat) (c : Tlp) (e : TrkEntry), c =
      { kind := .cfgwr, rid := 0x00FF, tag := t, target := BitVec.ofNat 16 (s.bind bi).rid, idRouted := true, addr := off.toNat / 4 * 4, len := 4, data := leBytes 4 w.toNat, ld := if (s.bind bi).kind = 4 then some ⟨(s.bind bi).ldId % 16, Nat.mod_lt _ (by decide)⟩ else none }
      ∧ e =
      { state := .opn, vh := 255, bound := false, binding := bi, kind := .cfgwr, origRid := 0x00FF, origTag := t, outRid := 0x00FF, outTag := t, inPort := 144, outPort := (s.bind bi).port, destFeid := 0, srcFeid := s.ownFeid, bytesLeft := 4, bytesTotal := 4, acuTail := 0, gen := s.fld F.BND_GEN_STATUS.ACTIVE_GEN % 256, tIssue := s.tb.toNat % 2 ^ 32, fromHost := false, remote := false, quarEnd := 0, tlp := c, found := s.bind bi, srcFound := s.bind bi }
      ∧ u = (s.drew.onBnd (fun y => { y with trk := y.trk ++ [e], proxied := y.proxied ++ [(t.toNat, vh.val, bi, rid, tag)] })).arm .proxy
      t.toNat (ms 50) ∧ s.proxyTag 4 = some t ∧ s.cfgOpen vh (.fn i) = true ∧ s.bindingOf vh i = some bi ∧ off.toNat / 4 * 4 ≠ 4 ∧ (s.bind
      bi).kind ≠ 5 ∧ (s.bind bi).kind ≠ 3 ∧ s.bnd.proxyWaits = []) ∧
    (∃ (s : State) (t : State) (tag : BitVec 14) (htag : BitVec 14) (k : Nat) (v : Nat) (bi : Nat) (rid : BitVec 16), t = ((s.onBnd (fun y
      => { y with proxied := y.proxied.filter (fun e => e.1 != tag.toNat) })).disarm .proxy tag.toNat).onEntries (fun e => e.inPort == 144
      && e.outTag.toNat == tag.toNat && e.state == .opn) (fun e => { e with state := .quarantine, quarEnd := s.now + s.quarTime }) ∧ s.due
      .proxy tag.toNat = true ∧ s.bnd.proxied.find? (fun e => e.1 == tag.toNat) = some (k, v, bi, rid, htag)) ∧
    (∃ (s : State) (vh : Fin 144) (i : Fin 64) (bi : Nat), s.cfgOpen vh (.fn i) = true ∧ s.bindingOf vh i = some bi) ∧
    (∃ (s : State) (t : State) (bi : Nat) (resume : Bool) (c : Nat → Tlp), t = ((s.setBindState bi 3 0).onBnd (fun y =>
      { y with resets := (s.setBindState bi 3 0).bnd.resets ++ [(bi, 1, resume)] })).arm .bindReset bi (ms 1000) ∧ c = (fun x =>
      { kind := .cfgwr, rid := 0x00FF, target := BitVec.ofNat 16 (s.bind bi).rid, idRouted := true, len := 4, data := leBytes 4 x }) ∧
      (s.bind bi).valid = true ∧ (s.bind bi).kind = 1 ∧ s.bindState bi = 1 ∧ t.isDeviceEnd (s.bind bi) = false) ∧
    (∃ (s : State) (t : State) (vh : Fin 144) (i : Fin 64) (bi : Nat), t = s.setHost vh (.vdsp i) .powerCtlOff 1 ∧ s.cfgOpen vh (.vdsp i)
      = true ∧ t.bindingOf vh i = some bi ∧ t.bindState bi = 4) ∧
    (∃ (s : State) (t : State) (vh : Fin 144) (i : Fin 64) (bi : Nat) (g : Nat), t = s.setHost vh (.vdsp i) .powerCtlOff 0 ∧ s.cfgOpen vh
      (.vdsp i) = true ∧ t.bindingOf vh i = some bi ∧ t.bindState bi = 1 ∧ (t.bind bi).kind = 0 ∧ t.guardOf (t.bind bi).port = some g ∧
      t.flag F.SPG_SLOT_CFG.HOST_PWR g = true) ∧
    (∃ (s : State) (vh : Fin 144) (i : Fin 64) (off : BitVec 12), s.cfgOpen vh (.fn i) = true ∧ off.toNat / 4 * 4 ≠ 4) ∧
    (∃ (s : State) (t : State) (vh : Fin 144) (i : Fin 64) (off : BitVec 12) (rid : BitVec 16) (tag : BitVec 14) (bi : Nat), t = s.onBnd
      (fun y => { y with proxyWaits := [⟨vh, i, off.toNat / 4 * 4, none, rid, tag⟩] }) ∧ s.cfgOpen vh (.fn i) = true ∧ s.bindingOf vh i =
      some bi ∧ (s.bind bi).kind ≠ 5 ∧ s.bnd.proxyWaits = [] ∧ s.mayTake 0 = false ∧ t.bindingOf vh i = some bi ∧ t.mayTake 0 = false ∧
      t.poolEvents = t) :=
  ⟨⟨(edge 1 (1 + 8 * 2 ^ 18) up : State), (0 : Fin 144), (.vusp : HostUnit), (.memEn : HostField), by decide +kernel⟩,
    ⟨(edge 1 (1 + 8 * 2 ^ 18) up : State), (0 : Fin 144), (.vusp : HostUnit), (.corStatus : HostField), by decide +kernel⟩,
    ⟨(edge 1 (1 + 8 * 2 ^ 18) up : State), (0 : Fin 144), (0 : Nat), by decide +kernel⟩,
    ⟨(edge 1 (1 + 8 * 2 ^ 18) up : State), (0 : Fin 144), (.vusp : HostUnit), (.presence : HostField), by decide +kernel⟩,
    ⟨(edge 1 (1 + 8 * 2 ^ 18) up : State), _, (0 : Fin 144), (0 : Fin 64), (0x10 : BitVec 12), (0 : BitVec 32), rfl, by decide +kernel⟩,
    ⟨(edge 1 (1 + 8 * 2 ^ 18) up : State), (0 : Fin 144), (0 : Fin 64), (0x10 : BitVec 12), by decide +kernel⟩,
    ⟨(edge 1 (3 + 8 * 2 ^ 18) up : State), _, (0 : Fin 144), (0 : Fin 64), (8 : BitVec 12), (0 : BitVec 32), (0 : BitVec 16), (0 : BitVec
      14), (BitVec.ofNat 14 (Config.freeValue 0 + 0) : BitVec 14), (0 : Nat), _, _, rfl, rfl, rfl,
      (by rw [State.proxyTag, if_pos (by decide +kernel)]; rfl), by decide +kernel⟩,
    ⟨(late .proxy 0 (up.onBnd (fun y => { y with proxied := [(0, 0, 0, 0, 0)] })) : State), _, (0 : BitVec 14), (0 : BitVec 14), (0 :
      Nat), (0 : Nat), (0 : Nat), (0 : BitVec 16), rfl, by decide +kernel⟩,
    ⟨(edge 1 (1 + 8 * 2 ^ 18) up : State), (0 : Fin 144), (0 : Fin 64), (0 : Nat), by decide +kernel⟩,
    ⟨(edge 1 (3 + 8 * 2 ^ 18) up : State), _, (0 : Nat), (false : Bool), _, rfl, rfl, by decide +kernel⟩,
    ⟨(edge 4 (1 + 8 * 2 ^ 18) up : State), _, (0 : Fin 144), (0 : Fin 64), (0 : Nat), rfl, by decide +kernel⟩,
    ⟨(edge 1 (1 + 8 * 2 ^ 18) (fields [(F.SPG_SLOT_CFG.ENABLE, 0, 1), (F.SPG_SLOT_CFG.PORT, 0, 8), (F.SPG_SLOT_CFG.HOST_PWR, 0, 1)] up) :
      State), _, (0 : Fin 144), (0 : Fin 64), (0 : Nat), (0 : Nat), rfl, by decide +kernel⟩,
    ⟨(edge 1 (3 + 8 * 2 ^ 18) up : State), (0 : Fin 144), (0 : Fin 64), (8 : BitVec 12), by decide +kernel⟩,
    ⟨(fields [(F.BND_VH_TAGS.MIN, 0, 0), (F.BND_VH_TAGS.MAX, 0, 0)] (edge 1 (3 + 8 * 2 ^ 18) up) : State), _, (0 : Fin 144), (0 : Fin 64),
      (0 : BitVec 12), (0 : BitVec 16), (0 : BitVec 14), (0 : Nat), rfl, by decide +kernel⟩⟩

/-- The hypotheses of HierarchyResets can be met. -/
theorem witness_HierarchyResets :
    (∃ (s : State) (vh : Fin 144) (i : Fin 64) (bi : Nat), s.cfgOpen vh (.vdsp i) = true ∧ s.bindingOf vh i = some bi) ∧
    (∃ (s : State) (t : State) (vh : Fin 144) (i : Fin 64), t = (((s.setHost vh (.vdsp i) .dpcStatus 1).setHost vh (.vdsp i) .dpcReason
      3).bump R.ERR_DPC_CNT).raise F.ERR_EVT.DPC ∧ s.cfgOpen vh (.vdsp i) = true ∧ s.dpcOn vh i = false ∧ t.bindingOf vh i = none) ∧
    (∃ (s : State) (t : State) (u : State) (v : State) (w : State) (vh : Fin 144) (i : Fin 64) (bi : Nat), t = (((s.setHost vh (.vdsp i)
      .dpcStatus 1).setHost vh (.vdsp i) .dpcReason 3).bump R.ERR_DPC_CNT).raise F.ERR_EVT.DPC ∧ u = (((t.leaveBound bi).setBindState bi 2
      3).showSlot vh i false false).raise F.BND_EVT.BIND_SUSPEND ∧ v = (if (t.bind bi).kind = 0 then u.linkEnds (t.bind bi).port 0 5 else
      u) ∧ w = v.each (v.bnd.trk.filter (fun (e : TrkEntry) => e.state == .opn && e.bound && (e.binding == bi || (e.peer && e.srcBinding
      == bi)))) (fun s e => if e.fromHost then s.synth e (v.dpcStatusOf vh i) else if s.linkUp e.inPort then s.synth e .ur else
      s.freeEntries (·.same e)) ∧ s.cfgOpen vh (.vdsp i) = true ∧ s.dpcOn vh i = false ∧ t.bindingOf vh i = some bi) ∧
    (∃ (s : State) (vh : Fin 144) (i : Fin 64), s.cfgOpen vh (.vdsp i) = true ∧ s.dpcOn vh i = true) ∧
    (∃ (s : State) (t : State) (vh : Fin 144) (i : Fin 64) (bi : Nat), t = (s.setHost vh (.vdsp i) .dpcStatus 0).setHost vh (.vdsp i)
      .dpcReason 0 ∧ s.cfgOpen vh (.vdsp i) = true ∧ s.dpcOn vh i = true ∧ t.bindingOf vh i = some bi ∧ t.bindState bi = 2 ∧ t.fld
      F.BND_BIND_STATE.SUSPEND_CAUSE bi = 3) ∧
    (∃ (s : State) (t : State) (vh : Fin 144) (i : Fin 64) (cons : Fin 64) (used : Nat), used = (s.fld F.ERR_PFL_IDX.PROD vh + 64 - s.fld
      F.ERR_PFL_IDX.CONS vh) % 64 ∧ t = s.setFld F.ERR_PFL_IDX.CONS vh cons ∧ s.cfgOpen vh (.vdsp i) = true) ∧
    (∃ (s : State) (p : Fin 144), s.isPoolEdge p = true ∧ s.linkUp p = true) ∧
    (∃ (s : State) (p : Fin 144), s.isHostEdge p = true ∧ s.linkUp p = true) ∧
    (∃ (s : State) (t : State) (u : State) (v : Nat), t = ((((((s.setFld F.BND_VH_STATUS.STATE v 1).raise F.BND_EVT.VH_RESET v).bump
      R.BND_VH_RESET_CNT v).endHolds v).endToward v).onEntries (fun e => e.vh == v && e.state == .opn) (fun e =>
      { e with state := .orphan })) ∧ u = ((t.clearHost v).each (t.bindingsOf v) (fun s e => if s.bindState e.1 == 1 || s.bindState e.1 ==
      3 then s.slotIs v (Bind.vdsp e.2) true true else s)).onBnd (fun y =>
      { y with resetting := v :: y.resetting, proxyWaits := y.proxyWaits.filter (fun (q : ProxyWait) => q.vh != v), proxied := y.proxied.filter (fun e => e.2.1 != v) })
      ∧ s.bnd.resetting.contains v = false ∧ v ≠ s.bnd.mgmtVh) ∧
    (∃ (s : State) (t : State) (v : Fin 144), t = s.onBnd (fun y => { y with resetting := s.bnd.resetting.filter (· != v.val) }) ∧
      s.bnd.resetting.contains v.val = true ∧ t.linkUp v = true ∧ (t.setFld F.BND_VH_STATUS.STATE v 2).vhActive v = true) ∧
    (∃ (s : State) (t : State) (v : Fin 144), t = s.onBnd (fun y => { y with resetting := s.bnd.resetting.filter (· != v.val) }) ∧
      s.bnd.resetting.contains v.val = true ∧ t.linkUp v = false ∧ (t.setFld F.BND_VH_STATUS.STATE v 0).vhActive v = false) :=
  ⟨⟨(edge 1 (1 + 8 * 2 ^ 18) up : State), (0 : Fin 144), (0 : Fin 64), (0 : Nat), by decide +kernel⟩,
    ⟨(edgeFree : State), _, (0 : Fin 144), (0 : Fin 64), rfl, by decide +kernel⟩,
    ⟨(edge 1 (1 + 8 * 2 ^ 18) up : State), _, _, _, _, (0 : Fin 144), (0 : Fin 64), (0 : Nat), rfl, rfl, rfl, rfl, by decide +kernel⟩,
    ⟨((edge 1 (1 + 8 * 2 ^ 18) up).setHost 0 (.vdsp 0) .dpcStatus 1 : State), (0 : Fin 144), (0 : Fin 64), by decide +kernel⟩,
    ⟨(fields [(F.BND_BIND_STATE.SUSPEND_CAUSE, 0, 3)] ((edge 2 (1 + 8 * 2 ^ 18) up).setHost 0 (.vdsp 0) .dpcStatus 1) : State), _, (0 :
      Fin 144), (0 : Fin 64), (0 : Nat), rfl, by decide +kernel⟩,
    ⟨(edge 1 (1 + 8 * 2 ^ 18) up : State), _, (0 : Fin 144), (0 : Fin 64), (0 : Fin 64), _, rfl, rfl, by decide +kernel⟩,
    ⟨(edge 1 (1 + 8 * 2 ^ 18) up : State), (8 : Fin 144), by decide +kernel⟩,
    ⟨(edge 1 (1 + 8 * 2 ^ 18) up : State), (0 : Fin 144), by decide +kernel⟩,
    ⟨(up : State), _, _, (1 : Nat), rfl, rfl, by decide +kernel⟩,
    ⟨((edge 1 (1 + 8 * 2 ^ 18) up).onBnd (fun y => { y with resetting := [0] }) : State), _, (0 : Fin 144), rfl, by decide +kernel⟩,
    ⟨(up.onBnd (fun y => { y with resetting := [0] }) : State), _, (0 : Fin 144), rfl, by decide +kernel⟩⟩

/-- The hypotheses of BindingResets can be met. -/
theorem witness_BindingResets :
    (∃ (s : State) (bi : Fin 4096), s.bindState bi = 3 ∧ (s.bind bi).kind = 0 ∧ s.linkUp (s.bind bi).port = true) ∧
    (∃ (s : State) (t : State) (bi : Nat), t = ((((s.onBnd (fun y => { y with resets := y.resets.filter (fun r => r.1 != bi) })).disarm
      .bindReset bi).setBindState bi 1 0).cfgReady bi true) ∧ s.bnd.resets.any (fun r => r.1 == bi && r.2.2) = false ∧ t.isDeviceEnd
      (t.bind bi) = false) ∧
    (∃ (s : State) (bi : Fin 4096) (told : Bool), s.bindState bi = 3 ∧ (s.bind bi).kind = 1 ∧ (told = true ∨ look bi.val s.bnd.methods =
      some 2)) ∧
    (∃ (s : State) (t : State) (bi : Fin 4096), t = ((((s.onBnd (fun y =>
      { y with resets := y.resets.filter (fun r => r.1 != bi.val) })).disarm .bindReset bi).setBindState bi 2 5).raise
      F.BND_EVT.BIND_SUSPEND) ∧ s.due .bindReset bi = true ∧ s.bindState bi = 3 ∧ t.isDeviceEnd (t.bind bi) = false) ∧
    (∃ (s : State) (bi : Fin 4096), s.due .unbindButton bi = true ∧ s.bindState bi = 4) :=
  ⟨⟨(edge 3 (1 + 8 * 2 ^ 18) up : State), (0 : Fin 4096), by decide +kernel⟩,
    ⟨(edge 1 (1 + 8 * 2 ^ 18) up : State), _, (0 : Nat), rfl, by decide +kernel⟩,
    ⟨(edge 3 (3 + 8 * 2 ^ 18) up : State), (0 : Fin 4096), (true : Bool), by decide +kernel⟩,
    ⟨(late .bindReset 0 (edge 3 (1 + 8 * 2 ^ 18) up) : State), _, (0 : Fin 4096), rfl, by decide +kernel⟩,
    ⟨(late .unbindButton 0 (edge 4 (1 + 8 * 2 ^ 18) up) : State), (0 : Fin 4096), by decide +kernel⟩⟩

/-- The hypotheses of RequestsAtEdges can be met. -/
theorem witness_RequestsAtEdges :
    (∃ (s : State) (a : State) (p : Fin 144) (t : Tlp), a = (s.releaseRequests.tlpArrives p).poisonIn (.vusp p) p 0xFFF t ∧ t.wellFormed =
      true ∧ t.kind.ord ≠ .completion ∧ s.hearsTlp p true = true ∧ s.mode ≠ .drowse ∧ s.releaseRequests.isHostEdge p = true ∧ t.kind ≠
      .cfgrd ∧ t.kind ≠ .cfgwr ∧ (s.releaseRequests.tlpArrives p).flag F.ERR_STATUS.FENCE = false ∧ a.mcGroup p t = none ∧ a.hostClaim p t
      = none) ∧
    (∃ (s : State) (a : State) (p : Fin 144) (t : Tlp) (i : Nat) (bi : Nat), a = (s.releaseRequests.tlpArrives p).poisonIn (.vusp p) p
      0xFFF t ∧ t.wellFormed = true ∧ t.kind.ord ≠ .completion ∧ s.hearsTlp p true = true ∧ s.mode ≠ .drowse ∧
      s.releaseRequests.isHostEdge p = true ∧ t.kind ≠ .cfgrd ∧ t.kind ≠ .cfgwr ∧ (s.releaseRequests.tlpArrives p).flag F.ERR_STATUS.FENCE
      = false ∧ a.mcGroup p t = none ∧ a.hostClaim p t = some i ∧ a.bindingOf p i = some bi ∧ t.ide = false ∧ t.at_ = 0 ∧ t.ep = false ∧
      a.forwards bi = true ∧ (a.bind bi).isPortKind = true) ∧
    (∃ (s : State) (a : State) (p : Fin 144) (t : Tlp) (i : Nat) (bi : Nat) (w : BitVec 512), a = (s.releaseRequests.tlpArrives
      p).poisonIn (.vusp p) p 0xFFF t ∧ t.wellFormed = true ∧ t.kind.ord ≠ .completion ∧ s.hearsTlp p true = true ∧ s.mode ≠ .drowse ∧
      s.releaseRequests.isHostEdge p = true ∧ t.kind.isMem = true ∧ (s.releaseRequests.tlpArrives p).flag F.ERR_STATUS.FENCE = false ∧
      a.mcGroup p t = none ∧ a.hostClaim p t = some i ∧ a.bindingOf p i = some bi ∧ t.ide = false ∧ t.at_ = 0 ∧ t.ep = false ∧ a.forwards
      bi = true ∧ (a.bind bi).isPortKind = false ∧ a.barHit (a.bind bi) t.addr = some w ∧ ef w 32 1 = 1 ∧ ef w 33 1 = 1) ∧
    (∃ (pl : Plan) (t : Tlp) (room : Nat), pl.check = false ∧ max 1 t.len ≤ room) ∧
    (∃ (s : State) (p : Fin 144) (t : Tlp), t.wellFormed = true ∧ t.kind.ord ≠ .completion ∧ s.hearsTlp p false = true ∧ s.mode ≠ .drowse
      ∧ s.releaseRequests.isHostEdge p = false ∧ (s.releaseRequests.tlpArrives p).flag F.ERR_STATUS.FENCE = true) ∧
    (∃ (s : State) (p : Fin 144) (t : Tlp), t.wellFormed = true ∧ t.kind.ord ≠ .completion ∧ s.hearsTlp p true = true ∧ s.mode = .drowse) ∧
    (∃ (s : State) (a : State) (p : Fin 144) (t : Tlp) (bi : Nat), a = s.releaseRequests.tlpArrives p ∧ t.wellFormed = true ∧ t.kind.ord ≠
      .completion ∧ s.hearsTlp p false = true ∧ s.mode ≠ .drowse ∧ s.releaseRequests.isHostEdge p = false ∧ a.flag F.ERR_STATUS.FENCE =
      false ∧ a.classify p t = some bi ∧ a.isDeviceEnd (a.bind bi) = false ∧ a.vhActive (a.bind bi).vh = false) ∧
    (∃ (s : State) (a : State) (p : Fin 144) (t : Tlp) (bi : Nat), a = s.releaseRequests.tlpArrives p ∧ t.wellFormed = true ∧ t.kind.ord ≠
      .completion ∧ s.hearsTlp p false = true ∧ s.mode ≠ .drowse ∧ s.releaseRequests.isHostEdge p = false ∧ a.flag F.ERR_STATUS.FENCE =
      false ∧ a.classify p t = some bi ∧ a.isDeviceEnd (a.bind bi) = false ∧ a.vhActive (a.bind bi).vh = true ∧ t.ep = false ∧ t.ide =
      false ∧ a.forwards bi = true) ∧
    (∃ (t : Tlp), t.wellFormed = false) :=
  ⟨⟨(edgeFree : State), _, (0 : Fin 144), ({ kind := .mrd, len := 4 } : Tlp), rfl, by decide +kernel⟩,
    ⟨((((edge 1 (1 + 8 * 2 ^ 18) up).setHost 0 (.vdsp 0) .memEn 1).setHost 0 (.vdsp 0) .memBase 0x1000).setHost 0 (.vdsp 0) .memLimit
      0x1FFF : State), _, (0 : Fin 144), ({ kind := .mrd, len := 4, addr := 0x1000 } : Tlp), (0 : Nat), (0 : Nat), rfl, by decide +kernel⟩,
    ⟨(((((((edge 1 (3 + 8 * 2 ^ 18 + 1 * 2 ^ 108) up).setHost 0 (.vdsp 0) .memEn 1).setHost 0 (.vdsp 0) .memBase 0x1000).setHost 0 (.vdsp
      0) .memLimit 0x1FFF).setHost 0 (.fn 0) .memEn 1).setHost 0 (.fn 0) (.bar 0) 0x1000).onBnd (fun y =>
      { y with active := { y.active with win := [(0, 1 + 2 ^ 32 + 2 ^ 33)] } }) : State), _, (0 : Fin 144),
      ({ kind := .mrd, len := 4, addr := 0x1000 } : Tlp), (0 : Nat), (0 : Nat), (1 + 2 ^ 32 + 2 ^ 33 : BitVec 512), rfl,
      by decide +kernel⟩,
    ⟨(planA : Plan), ({ kind := .mrd, len := 4 } : Tlp), (4 : Nat), by decide +kernel⟩,
    ⟨(fields [(F.ERR_STATUS.FENCE, 0, 1)] (edge 1 (1 + 8 * 2 ^ 18) up) : State), (8 : Fin 144), ({ kind := .mrd, len := 4 } : Tlp),
      by decide +kernel⟩,
    ⟨({ edge 1 (1 + 8 * 2 ^ 18) up with mode := .drowse } : State), (0 : Fin 144), ({ kind := .mrd, len := 4 } : Tlp), by decide +kernel⟩,
    ⟨(fields [(F.BND_VH_STATUS.STATE, 0, 0)] (edge 1 (1 + 8 * 2 ^ 18) up) : State), _, (8 : Fin 144), ({ kind := .mrd, len := 4 } : Tlp),
      (0 : Nat), rfl, by decide +kernel⟩,
    ⟨(edge 1 (1 + 8 * 2 ^ 18) up : State), _, (8 : Fin 144), ({ kind := .mrd, len := 4 } : Tlp), (0 : Nat), rfl, by decide +kernel⟩,
    ⟨({ kind := .mwr, len := 4 } : Tlp), by decide +kernel⟩⟩

/-- The hypotheses of CompletionsAndErrors can be met. -/
theorem witness_CompletionsAndErrors :
    (∃ (s : State) (a : State) (p : Fin 144) (t : Tlp), a = s.tlpArrives p ∧ t.wellFormed = true ∧ t.kind.ord = .completion ∧ t.ep = false
      ∧ s.mode ≠ .reset ∧ s.mode ≠ .boot ∧ s.linkUp p = true ∧ s.isFabric p = false ∧ a.bnd.trk = [] ∧ a.svc.waits = [] ∧ a.isPoolEdge p =
      false) ∧
    (∃ (s : State) (a : State) (p : Fin 144) (t : Tlp) (e : TrkEntry), a = s.tlpArrives p ∧ t.wellFormed = true ∧ t.kind.ord = .completion
      ∧ t.kind.isCxl = false ∧ t.ide = false ∧ t.ep = false ∧ s.mode ≠ .reset ∧ s.mode ≠ .boot ∧ s.linkUp p = true ∧ s.isFabric p = false
      ∧ a.bnd.trk = [e] ∧ a.err.armed = [] ∧ a.svc.waits = [] ∧ a.isPoolEdge p = false ∧ e.cxl = false ∧ e.outRid = t.rid ∧ e.outTag =
      t.tag ∧ e.destFeid = 0 ∧ e.state = .opn ∧ e.peer = false ∧ 0 < (e.after t).bytesLeft) ∧
    (∃ (s : State) (a : State) (p : Fin 144) (t : Tlp) (e : TrkEntry), a = s.tlpArrives p ∧ t.wellFormed = true ∧ t.kind.ord = .completion
      ∧ t.kind.isCxl = false ∧ t.ide = false ∧ t.ep = false ∧ s.mode ≠ .reset ∧ s.mode ≠ .boot ∧ s.linkUp p = true ∧ s.isFabric p = false
      ∧ a.bnd.trk = [e] ∧ a.err.armed = [] ∧ a.svc.waits = [] ∧ a.isPoolEdge p = false ∧ e.cxl = false ∧ e.outRid = t.rid ∧ e.outTag =
      t.tag ∧ e.destFeid = 0 ∧ e.state = .quarantine) ∧
    (∃ (s : State) (a : State) (p : Fin 144) (t : Tlp), a = s.tlpArrives p ∧ t.wellFormed = true ∧ t.kind = .msg ∧ s.carries = true ∧
      s.linkUp p = true ∧ s.isPoolEdge p = true ∧ a.flag F.MGT_CRB_STATUS.FW_READY = false ∧ a.err.msgQueue.length < 256) ∧
    (∃ (s : State) (a : State) (p : Fin 144) (t : Tlp), a = s.tlpArrives p ∧ t.wellFormed = true ∧ t.kind = .msg ∧ s.carries = true ∧
      s.linkUp p = true ∧ s.isPoolEdge p = true ∧ a.flag F.MGT_CRB_STATUS.FW_READY = true ∧ a.classify p t = none ∧ (a.bindingsOn p).any
      (fun e => Bind.kind e.2 == 4) = false) ∧
    (∃ (s : State) (a : State) (p : Fin 144) (t : Tlp) (bi : Nat), a = s.tlpArrives p ∧ t.wellFormed = true ∧ t.kind = .msg ∧ s.carries =
      true ∧ s.linkUp p = true ∧ s.isPoolEdge p = true ∧ a.flag F.MGT_CRB_STATUS.FW_READY = true ∧ a.classify p t = some bi ∧ a.forwards
      bi = true ∧ (a.bind bi).isPortKind = true) ∧
    (∃ (s : State) (t : State) (rid : BitVec 16) (tag : BitVec 14) (e : TrkEntry), t = (s.bump R.ERR_TRK_TIMEOUT_CNT).raise
      F.ERR_EVT.TRK_TIMEOUT ∧ s.bnd.trk = [e] ∧ e.outRid = rid ∧ e.outTag = tag ∧ s.overdue e = true ∧ e.bound = true ∧ s.isDeviceEnd
      e.found = false) ∧
    (∃ (s : State) (rid : BitVec 16) (tag : BitVec 14), s.bnd.trk.any (fun e => e.outRid == rid && e.outTag == tag) = false) ∧
    (∃ (s : State) (t : State), t = s.onBnd (fun y =>
      { y with trk := s.bnd.trk.filter (fun (e : TrkEntry) => !(e.state == .quarantine && decide (e.quarEnd ≤ s.now))) })) :=
  ⟨⟨(edge 1 (1 + 8 * 2 ^ 18) up : State), _, (0 : Fin 144), ({ kind := .cpl, len := 4, data := [1, 2, 3, 4] } : Tlp), rfl,
      by decide +kernel⟩,
    ⟨((edge 1 (1 + 8 * 2 ^ 18) up).onBnd (fun y => { y with trk := [trkA] }) : State), _, (0 : Fin 144),
      ({ kind := .cpl, len := 4, data := [1, 2, 3, 4] } : Tlp), (trkA : TrkEntry), rfl, by decide +kernel⟩,
    ⟨((edge 1 (1 + 8 * 2 ^ 18) up).onBnd (fun y => { y with trk := [{ trkA with state := .quarantine }] }) : State), _, (0 : Fin 144),
      ({ kind := .cpl, len := 4, data := [1, 2, 3, 4] } : Tlp), ({ trkA with state := .quarantine } : TrkEntry), rfl, by decide +kernel⟩,
    ⟨(fields [(F.MGT_CRB_STATUS.FW_READY, 0, 0)] (edge 1 (1 + 8 * 2 ^ 18) up) : State), _, (8 : Fin 144), ({ kind := .msg, len := 0 } :
      Tlp), rfl, by decide +kernel⟩,
    ⟨(edgeFree : State), _, (8 : Fin 144), ({ kind := .msg, len := 0 } : Tlp), rfl, by decide +kernel⟩,
    ⟨(edge 1 (1 + 8 * 2 ^ 18) up : State), _, (8 : Fin 144), ({ kind := .msg, len := 0 } : Tlp), (0 : Nat), rfl, by decide +kernel⟩,
    ⟨({ (edge 1 (1 + 8 * 2 ^ 18) up).onBnd (fun y => { y with trk := [trkA] }) with tb := 4000000000 } : State), _, (0 : BitVec 16), (0 :
      BitVec 14), (trkA : TrkEntry), rfl, by decide +kernel⟩,
    ⟨(up : State), (0 : BitVec 16), (0 : BitVec 14), by decide +kernel⟩,
    ⟨(up : State), _, rfl⟩⟩

/-- The hypotheses of FabricPackets can be met. -/
theorem witness_FabricPackets :
    (∃ (s : State) (p : Fin 144) (f : FabPkt), f.tlp.elim true (·.wellFormed) = true ∧ f.hdr.dst < 0xC00 ∧ f.hdr.src < 4096 ∧
      s.fabForwards = true ∧ s.isFabric p = true ∧ s.carries = true ∧ f.hdr.dst = s.ownFeid ∧ s.flowOf f.hdr.src f.hdr.vh f.hdr.ord = none
      ∧ f.hdr.opn = false) ∧
    (∃ (s : State) (p : Fin 144) (f : FabPkt), f.tlp.elim true (·.wellFormed) = true ∧ f.hdr.dst < 0xC00 ∧ f.hdr.src < 4096 ∧
      s.fabForwards = true ∧ s.isFabric p = true ∧ s.carries = true ∧ f.hdr.dst ≠ s.ownFeid) ∧
    (∃ (s : State) (p : Fin 144) (f : FabPkt), f.tlp.elim true (·.wellFormed) = true ∧ 0xC00 ≤ f.hdr.dst ∧ f.hdr.dst < 4096 ∧ f.hdr.src <
      4096 ∧ s.fabForwards = true ∧ s.isFabric p = true ∧ s.carries = true ∧ routeValid (s.routeOf f.hdr.dst) = false) ∧
    (∃ (f : FabPkt), 7 ≤ f.hdr.ptype) ∧
    (∃ (s : State) (src : Fin 4096) (bi : Fin 4096), (s.bind bi).valid = true ∧ (s.bind bi).feid = src ∧ s.isDeviceEnd (s.bind bi) = false
      ∧ (s.bind bi).kind = 2) ∧
    (∃ (s : State) (src : Fin 4096) (bi : Fin 4096) (sig : BitVec 8), (sig = 0x11 ∨ sig = 0x13) ∧ (s.bind bi).feid ≠ src) ∧
    (∃ (s : State) (u : State) (src : Fin 4096) (bi : Fin 4096), u = (s.resetYields src bi).onPins (fun y =>
      { y with farPerst := y.farPerst.filter (· != (s.bind bi).port) }) ∧ (s.bind bi).valid = true ∧ (s.bind bi).feid = src ∧
      s.isDeviceEnd (s.bind bi) = true ∧ u.mayReleasePerst (s.bind bi).port = true) ∧
    (∃ (s : State) (u : State) (src : Fin 4096) (bi : Fin 4096), u = (s.resetYields src bi).onPins (fun y =>
      { y with farPerst := y.farPerst.filter (· != (s.bind bi).port) }) ∧ (s.bind bi).valid = true ∧ (s.bind bi).feid = src ∧
      s.isDeviceEnd (s.bind bi) = true ∧ u.mayReleasePerst (s.bind bi).port = false) :=
  ⟨⟨(fields [(F.BND_FAB_STATUS.STATE, 0, 5), (F.BND_FAB_STATUS.ADMITTED, 0, 1), (F.BND_FAB_STATUS.FEID_NOW, 0, 5)]
      ({ (kfl 0 5 up) with mode := .fabric }) : State), (0 : Fin 144), ({ hdr := { dst := 5, src := 7 } } : FabPkt), by decide +kernel⟩,
    ⟨(fields [(F.BND_FAB_STATUS.STATE, 0, 5), (F.BND_FAB_STATUS.ADMITTED, 0, 1), (F.BND_FAB_STATUS.FEID_NOW, 0, 5)]
      ({ (kfl 0 5 up) with mode := .fabric }) : State), (0 : Fin 144), ({ hdr := { dst := 6, src := 7 } } : FabPkt), by decide +kernel⟩,
    ⟨(fields [(F.BND_FAB_STATUS.STATE, 0, 5), (F.BND_FAB_STATUS.ADMITTED, 0, 1), (F.BND_FAB_STATUS.FEID_NOW, 0, 5)]
      ({ (kfl 0 5 up) with mode := .fabric }) : State), (0 : Fin 144), ({ hdr := { dst := 0xC00, src := 7 } } : FabPkt),
      by decide +kernel⟩,
    ⟨({ hdr := { ptype := 7 } } : FabPkt), by decide +kernel⟩,
    ⟨(bound 0 1 (5 + 8 * 2 ^ 18) up : State), (0 : Fin 4096), (0 : Fin 4096), by decide +kernel⟩,
    ⟨(up : State), (1 : Fin 4096), (0 : Fin 4096), (0x11 : BitVec 8), .inl rfl, by decide +kernel⟩,
    ⟨(fields [(F.PCL_PORT_CTRL.ENABLE, 8, 1), (F.PCL_CLUSTER_STATUS.REFCLK_OK, 2, 1)] (fields [(F.PCL_SLOT_CFG.WIDTH, 8, 3),
      (F.PCL_SLOT_CFG.ROLE, 8, 1)] (bound 0 1 (1 + 8 * 2 ^ 18 + 7 * 2 ^ 46) up)) : State), _, (7 : Fin 4096), (0 : Fin 4096), rfl,
      by decide +kernel⟩,
    ⟨(fields [(F.PCL_PORT_CTRL.ENABLE, 8, 0)] (fields [(F.PCL_SLOT_CFG.WIDTH, 8, 3), (F.PCL_SLOT_CFG.ROLE, 8, 1)] (bound 0 1 (1 + 8 * 2 ^
      18 + 7 * 2 ^ 46) up)) : State), _, (7 : Fin 4096), (0 : Fin 4096), rfl, by decide +kernel⟩⟩

/-- The hypotheses of EgressScheduling can be met. -/
theorem witness_EgressScheduling :
    (∃ (s : State) (t : State) (q : Fin 144) (pc : PartnerCredit) (n : Nat) (c : Nat) (k : Pkt) (qs : QosState) (tl : Tlp), t =
      State.chargeStart { s with qos := qs } q n c k ∧ s.schedule q pc = some (n, c, k, qs) ∧ State.gateFit { s with qos := qs } q c
      k.tlpBytes ≠ some true ∧ s.mayStart q = true ∧ s.starvedNext q pc = none ∧ t.err.armed = [] ∧ t.isFabric q = false ∧ k.tlpOf = some
      tl) ∧
    (∃ (s : State) (t : State) (q : Fin 144) (pc : PartnerCredit) (n : Nat) (c : Nat) (k : Pkt) (qs : QosState), t = State.chargeStart
      { s with qos := qs } q n c k ∧ s.schedule q pc = some (n, c, k, qs) ∧ State.gateFit { s with qos := qs } q c k.tlpBytes ≠ some true
      ∧ s.mayStart q = true ∧ s.starvedNext q pc = none) ∧
    (∃ (s : State) (q : Fin 144) (pc : PartnerCredit), s.mayStart q = true ∧ s.starvedNext q pc = none ∧ s.schedule q pc = none) ∧
    (∃ (s : State) (q : Fin 144) (id : Nat) (k : Pkt), s.pkt id = some k ∧ k.readers.contains q.val = true ∧ k.coming = false) ∧
    (∃ (s : State) (p : Fin 144) (c : Fin 6), s.churn.asks = [] ∧ s.linkUp p = true ∧ s.outOfReset p = true ∧ c.val < s.classes p ∧
      s.kfl.frozen = false ∧ s.paceHolds p = false ∧ s.withheld p c = true ∧ s.churn.stalled.contains p.val = false) ∧
    (∃ (s : State) (t : State) (p : Fin 144) (c : Fin 6) (h : BitVec 16) (d : BitVec 16) (chg : Charge) (g : Grant), t = s.onChurn (fun y
      => { y with stalled := y.stalled.filter (· != p.val), turn := (p.val + 1) % 144 }) ∧ s.churn.asks = [] ∧ s.linkUp p = true ∧
      s.outOfReset p = true ∧ c.val < s.classes p ∧ s.kfl.frozen = false ∧ s.paceHolds p = false ∧ s.withheld p c = false ∧ s.proto p ≠ 2
      ∧ s.grantCharge p c (backing h.toNat d.toNat) = some chg ∧ s.pacedRate p = none ∧ t.pacedRate p = none ∧ s.grantOf p c = some g) ∧
    (∃ (s : State) (p : Nat) (b : Nat) (tp : Bucket) (tc : Bucket) (n : Int), tp = s.bucket (.polP p) ∧ tc = s.bucket (.polC p) ∧ n = (b *
      1024 : Nat) ∧ tp.tokens < n) ∧
    (∃ (s : State) (p : Nat) (b : Nat) (tp : Bucket) (tc : Bucket) (n : Int), tp = s.bucket (.polP p) ∧ tc = s.bucket (.polC p) ∧ n = (b *
      1024 : Nat) ∧ n ≤ tp.tokens ∧ (s.fld F.QOS_POL_CIR.RATE p = 0 ∨ tc.tokens < n)) ∧
    (∃ (s : State) (p : Nat) (b : Nat) (tp : Bucket) (tc : Bucket) (n : Int), tp = s.bucket (.polP p) ∧ tc = s.bucket (.polC p) ∧ n = (b *
      1024 : Nat) ∧ n ≤ tp.tokens ∧ s.fld F.QOS_POL_CIR.RATE p ≠ 0 ∧ n ≤ tc.tokens) ∧
    (∃ (s : State) (t : State) (u : State) (p : Fin 4096) (h : Hold) (k : Pkt) (col : Colour), u = (t.countColour p (s.policed p k)
      col).onPkt k.id (fun k => { k with held := false, yellow := col == .yellow }) ∧ s.qos.holds = [h] ∧ h.policer = p ∧ h.behind = none
      ∧ s.pkt h.pkt = some k ∧ s.meter p (s.policed p k) = (col, t) ∧ col ≠ .red) ∧
    (∃ (s : State) (t : State) (p : Fin 4096) (h : Hold) (k : Pkt), s.qos.holds = [h] ∧ h.policer = p ∧ h.behind = none ∧ h.metered =
      false ∧ s.pkt h.pkt = some k ∧ s.meter p (s.policed p k) = (.red, t)) ∧
    (∃ (s : State) (q : Fin 144) (n : Fin 4096) (c : Fin 8) (k : Pkt) (l : List Pkt) (since : Nat), l = s.churn.pkts.filter (fun (k : Pkt)
      => k.waitsAt q && s.nodeAt k q == n.val && s.clsAt k q == c.val) ∧ since = max ((look (8 * n.val + c.val) s.qos.served).getD 0)
      ((l.map (·.queuedAt)).foldl min s.now) ∧ s.headOf q n c {} = some k ∧ k.ord = .completion ∧ since + us (s.fld
      F.QOS_PORT_CFG.STARVE_US q) ≤ s.now ∧ us (s.fld F.QOS_PORT_CFG.STARVE_US q) ≠ 0 ∧ s.qos.starved.contains (q.val, n.val, c.val) =
      false) ∧
    (∃ (s : State) (t : State) (p : Fin 144) (c : Fin 6) (h : BitVec 16) (d : BitVec 16), t = s.onChurn (fun y =>
      { y with asks := put (8 * p.val + c.val) (h.toNat, d.toNat) y.asks })) :=
  ⟨⟨(churned [pktA] (fields [(F.QOS_NODE_CFG.ENABLE, 0, 1), (F.QOS_SQ_CFG.ENABLE, 0, 1)] (port 0 0 0 3 up)) : State), _, (0 : Fin 144),
      ({} : PartnerCredit), (0 : Nat), (0 : Nat), (((State.schedule (churned [pktA] (fields [(F.QOS_NODE_CFG.ENABLE, 0, 1),
      (F.QOS_SQ_CFG.ENABLE, 0, 1)] (port 0 0 0 3 up))) 0 {}).get (by decide +kernel)).2.2.1 : Pkt), (((State.schedule (churned [pktA]
      (fields [(F.QOS_NODE_CFG.ENABLE, 0, 1), (F.QOS_SQ_CFG.ENABLE, 0, 1)] (port 0 0 0 3 up))) 0 {}).get (by decide +kernel)).2.2.2 :
      QosState), ({ kind := .mwr, len := 4, data := [1, 2, 3, 4] } : Tlp), rfl, by decide +kernel, by decide +kernel, by decide +kernel⟩,
    ⟨(churned [pktA] (fields [(F.QOS_NODE_CFG.ENABLE, 0, 1), (F.QOS_SQ_CFG.ENABLE, 0, 1)] (port 0 0 0 3 up)) : State), _, (0 : Fin 144),
      ({} : PartnerCredit), (0 : Nat), (0 : Nat), (((State.schedule (churned [pktA] (fields [(F.QOS_NODE_CFG.ENABLE, 0, 1),
      (F.QOS_SQ_CFG.ENABLE, 0, 1)] (port 0 0 0 3 up))) 0 {}).get (by decide +kernel)).2.2.1 : Pkt), (((State.schedule (churned [pktA]
      (fields [(F.QOS_NODE_CFG.ENABLE, 0, 1), (F.QOS_SQ_CFG.ENABLE, 0, 1)] (port 0 0 0 3 up))) 0 {}).get (by decide +kernel)).2.2.2 :
      QosState), rfl, by decide +kernel, by decide +kernel, by decide +kernel⟩,
    ⟨(edge 1 (1 + 8 * 2 ^ 18) up : State), (0 : Fin 144), ({} : PartnerCredit), by decide +kernel⟩,
    ⟨(up.onChurn (fun y => { y with pkts := [{ pktB with readers := [0] }] }) : State), (0 : Fin 144), (1 : Nat),
      ({ pktB with readers := [0] } : Pkt), by decide +kernel⟩,
    ⟨(edge 1 (1 + 8 * 2 ^ 18) up |>.onChurn (fun y =>
      { y with pkts := [{ pktB with chg := { mc := (0, 0) }, residue := some { residue := 1, struck := 0, destSet := 1, group := 0, held := false } }] })
      : State), (0 : Fin 144), (0 : Fin 6), by decide +kernel⟩,
    ⟨((port 0 0 0 3 up).onChurn (fun y => { y with grants := [⟨0, 0, 0, 0, (0, 0), (0, 0), (0, 0)⟩] }) : State), _, (0 : Fin 144), (0 :
      Fin 6), (0 : BitVec 16), (0 : BitVec 16), ({} : Charge), (⟨0, 0, 0, 0, (0, 0), (0, 0), (0, 0)⟩ : Grant), rfl, by decide +kernel⟩,
    ⟨(fields [(F.QOS_POL_PBS.SIZE, 0, 0)] up : State), (0 : Nat), (1 : Nat), _, _, _, rfl, rfl, rfl, by decide +kernel⟩,
    ⟨(fields [(F.QOS_POL_CIR.RATE, 0, 0), (F.QOS_POL_PBS.SIZE, 0, 1000)] up : State), (0 : Nat), (1 : Nat), _, _, _, rfl, rfl, rfl,
      by decide +kernel⟩,
    ⟨(fields [(F.QOS_POL_CIR.RATE, 0, 100), (F.QOS_POL_PBS.SIZE, 0, 1000), (F.QOS_POL_CBS.SIZE, 0, 1000)] up : State), (0 : Nat), (1 :
      Nat), _, _, _, rfl, rfl, rfl, by decide +kernel⟩,
    ⟨((churned [pktA] (fields [(F.QOS_POL_PBS.SIZE, 0, 1000)] up)).onQos (fun y => { y with holds := [⟨1, 0, false, none, false⟩] }) :
      State), ((State.meter ((churned [pktA] (fields [(F.QOS_POL_PBS.SIZE, 0, 1000)] up)).onQos (fun y =>
      { y with holds := [⟨1, 0, false, none, false⟩] })) 0 (State.policed ((churned [pktA] (fields [(F.QOS_POL_PBS.SIZE, 0, 1000)]
      up)).onQos (fun y => { y with holds := [⟨1, 0, false, none, false⟩] })) 0 pktA)).2 : State), _, (0 : Fin 4096), (⟨1, 0, false, none,
      false⟩ : Hold), (pktA : Pkt), (.yellow : Colour), rfl, by decide +kernel⟩,
    ⟨((churned [pktA] (fields [(F.QOS_POL_PBS.SIZE, 0, 0)] up)).onQos (fun y => { y with holds := [⟨1, 0, false, none, false⟩] }) :
      State), ((State.meter ((churned [pktA] (fields [(F.QOS_POL_PBS.SIZE, 0, 0)] up)).onQos (fun y =>
      { y with holds := [⟨1, 0, false, none, false⟩] })) 0 (State.policed ((churned [pktA] (fields [(F.QOS_POL_PBS.SIZE, 0, 0)] up)).onQos
      (fun y => { y with holds := [⟨1, 0, false, none, false⟩] })) 0 pktA)).2 : State), (0 : Fin 4096), (⟨1, 0, false, none, false⟩ :
      Hold), (pktA : Pkt), by decide +kernel⟩,
    ⟨(churned [{ pktA with ord := .completion }] (fields [(F.QOS_PORT_CFG.STARVE_US, 0, 1)] up) : State), (0 : Fin 144), (0 : Fin 4096),
      (0 : Fin 8), ({ pktA with ord := .completion } : Pkt), _, _, rfl, rfl, by decide +kernel⟩,
    ⟨(up : State), _, (0 : Fin 144), (0 : Fin 6), (0 : BitVec 16), (0 : BitVec 16), rfl⟩⟩

/-- The hypotheses of ChurnUpkeep can be met. -/
theorem witness_ChurnUpkeep :
    (∃ (s : State) (t : State) (u : State) (id : Nat) (k : Pkt) (r : Residue) (gone : BitVec 144), t = s.disarm .residue id ∧ gone =
      notReading r.residue k.readers ∧ u = (((t.bumpBy R.CHN_MC_TIMEOUT_CNT 0 (portsIn gone).length).raise F.CHN_EVT.MC_TIMEOUT).journal
      0x0501 { vh := k.vh, detail := r.group + 2 ^ 16 * k.vh + 2 ^ 32 * k.tIn + 2 ^ 64 * gone.toNat }).onPkt id (fun k =>
      { k with residue := k.residue.map (fun r => { r with residue := r.residue &&&    gone }) }) ∧ s.due .residue id = true ∧ t.pkt id =
      some k ∧ k.residue = some r ∧ portsIn gone ≠ []) ∧
    (∃ (s : State) (t : State) (id : Nat) (k : Pkt) (r : Residue), t = s.onPkt id (fun k =>
      { k with residue := some { r with held := true } }) ∧ s.pkt id = some k ∧ k.residue = some r ∧ k.chg.mc = (0, 0) ∧ r.held = true ∧
      curdsOf k.len ≤ t.mcFree.1 ∧ 1 ≤ t.mcFree.2) ∧
    (∃ (s : State) (t : State) (next : Option Nat), next = s.nextBank (s.fld F.CHN_ROT_STATUS.SPARE_BANK) ∧ t = s.rotate next ∧ s.due
      .rotation 0 = true ∧ s.rotating = true ∧ s.churn.namedTest = none ∧ s.fld F.CHN_ROT_STATUS.STEP_STATE = 0 ∧ s.flag
      F.CHN_ROT_STATUS.SPARE_VALID = true ∧ next.elim false (fun n => n ≤ s.fld F.CHN_ROT_STATUS.SPARE_BANK) = false ∧ t.fld
      F.CHN_ROT_STATUS.STEP_STATE ≠ 0) ∧
    (∃ (s : State) (t : State) (b : Nat), t = (((((s.setFld F.CHN_BANK_STATE.STATE (s.fld F.CHN_ROT_STATUS.SPARE_BANK) 0).setFld
      F.CHN_BANK_STATE.STATE b 1).setFld F.CHN_ROT_STATUS.STEP_BANK 0 b).setFld F.CHN_ROT_STATUS.STEP_STATE 0 1).setFld
      F.CHN_ROT_STATUS.SPARE_VALID 0 0).setFld F.CHN_STATUS.ROT_ACTIVE 0 1 ∧ s.flag F.CHN_ROT_STATUS.SPARE_VALID = true) ∧
    (∃ (s : State) (t : State) (b : Fin 256), t = ((s.disarm .drainBank b).setFld F.CHN_BANK_STATE.STATE b 2).setFld
      F.CHN_ROT_STATUS.STEP_STATE 0 2 ∧ s.due .drainBank b = true ∧ (s.disarm .drainBank b).fld F.CHN_BANK_STATE.STATE b = 1 ∧ (s.disarm
      .drainBank b).emptying b = true ∧ 0 < t.wordsLive b) ∧
    (∃ (s : State) (t : State) (b : Fin 256), t = ((s.migrate b).disarm .drainBank b).setFld F.CHN_BANK_STATE.STATE b 2 ∧ t.wordsLive b =
      0 ∧ s.fld F.CHN_BANK_STATE.STATE b = 2 ∧ 0 < s.wordsLive b ∧ t.churn.retiring.contains b.val = false ∧ t.churn.pkts.any (fun (k :
      Pkt) => k.old.any (·.1 == b.val)) = false) ∧
    (∃ (s : State) (t : State) (b : Fin 256), t = ((s.migrate b).disarm .drainBank b).setFld F.CHN_BANK_STATE.STATE b 2 ∧ s.fld
      F.CHN_BANK_STATE.STATE b = 2 ∧ 0 < s.wordsLive b ∧ t.churn.retiring.contains b.val = false ∧ t.churn.pkts.any (fun (k : Pkt) =>
      k.old.any (·.1 == b.val)) = true) ∧
    (∃ (s : State) (t : State) (b : Fin 256) (n : Nat), t = (s.setFld F.CHN_ROT_STATUS.STEP_STATE 0 0).setFld F.CHN_STATUS.ROT_ACTIVE 0 0
      ∧ s.fld F.CHN_BANK_STATE.STATE b = 3 ∧ t.churn.namedTest = none ∧ t.nextBank b = some n ∧ b.val < n ∧ t.failedBanks = 0 ∧
      t.churn.retiring = []) ∧
    (∃ (s : State) (t : State) (b : Fin 256) (n : Nat), t = (s.setFld F.CHN_ROT_STATUS.STEP_STATE 0 0).setFld F.CHN_STATUS.ROT_ACTIVE 0 0
      ∧ s.fld F.CHN_BANK_STATE.STATE b = 3 ∧ t.churn.namedTest = none ∧ t.nextBank b = some n ∧ b.val < n ∧ (t.failedBanks ≠ 0 ∨
      t.churn.retiring ≠ [])) ∧
    (∃ (s : State) (t : State) (b : Fin 256) (n : Nat), t = (s.setFld F.CHN_ROT_STATUS.STEP_STATE 0 0).setFld F.CHN_STATUS.ROT_ACTIVE 0 0
      ∧ s.fld F.CHN_BANK_STATE.STATE b = 3 ∧ t.churn.namedTest = none ∧ t.nextBank b = some n ∧ b.val < n) ∧
    (∃ (s : State), s.flag F.CHN_CFG.SCRUB_EN = true) ∧
    (∃ (s : State), s.flag F.CHN_CFG.SCRUB_EN = false) ∧
    (∃ (s : State) (t : State) (p : Fin 144), t = s.journal 0x0105 { port := p } ∧ s.linkUp p = true ∧ s.proto p ≠ 2 ∧ s.isPoolEdge p =
      false ∧ t.isHostEdge p = true) ∧
    (∃ (s : State) (t : State) (p : Fin 144), t = (s.bump R.PCL_PORT_FEC_UNCORR_CNT p).journal 0x0106 { port := p } ∧ s.linkUp p = true ∧
      s.proto p ≠ 2 ∧ (s.bump R.PCL_PORT_FEC_UNCORR_CNT p).isPoolEdge p = false ∧ t.isHostEdge p = true) ∧
    (∃ (s : State) (p : Fin 144), s.linkUp p = true ∧ s.proto p ≠ 2) ∧
    (∃ (s : State) (src : Fin 4096) (bi : Fin 4096) (vh : BitVec 8) (r : Fin 16) (mine : Wfn → Bool), mine = (fun w => w.src == src.val &&
      w.vh == vh.toNat && w.bindIdx == bi.val && w.reason == r.val) ∧ s.due .wfn (((src * 256 + vh.toNat) * 4096 + bi) * 16 + r) = true) :=
  ⟨⟨(late .residue 1 (churned [{ pktA with residue := some ({ residue := 1, struck := 0, destSet := 1, group := 0 } : Residue) }] (up)) :
      State), _, _, (1 : Nat), ({ pktA with residue := some ({ residue := 1, struck := 0, destSet := 1, group := 0 } : Residue) } : Pkt),
      (({ residue := 1, struck := 0, destSet := 1, group := 0 } : Residue) : Residue), _, rfl, rfl, rfl, by decide +kernel⟩,
    ⟨(churned [{ pktA with residue := some ({ residue := 1, struck := 0, destSet := 1, group := 0 } : Residue) }] (up) : State), _, (1 :
      Nat), ({ pktA with residue := some ({ residue := 1, struck := 0, destSet := 1, group := 0 } : Residue) } : Pkt),
      (({ residue := 1, struck := 0, destSet := 1, group := 0 } : Residue) : Residue), rfl, by decide +kernel⟩,
    ⟨(late .rotation 0 (fields [(F.CHN_ROT_CTRL.ENABLE, 0, 1), (F.CHN_ROT_STATUS.SPARE_VALID, 0, 1)] up) : State), _, _, rfl, rfl,
      by decide +kernel⟩,
    ⟨(fields [(F.CHN_ROT_STATUS.SPARE_VALID, 0, 1)] up : State), _, (0 : Nat), rfl, by decide +kernel⟩,
    ⟨(late .drainBank 0 ((fields [(F.CHN_BANK_STATE.STATE, 0, 1)] up).onChurn (fun y =>
      { y with pkts := [{ pktB with words := [(0, 0)] }] })) : State), _, (0 : Fin 256), rfl, by decide +kernel⟩,
    ⟨((fields [(F.CHN_BANK_STATE.STATE, 5, 2)] up).onChurn (fun y => { y with pkts := [{ pktB with words := [(5, 0)] }] }) : State), _, (5
      : Fin 256), rfl, Laws.migrate_empties (s := (fields [(F.CHN_BANK_STATE.STATE, 5, 2)] up).onChurn (fun y =>
      { y with pkts := [{ pktB with words := [(5, 0)] }] })) (b := 5) (by decide +kernel) (by decide), by decide +kernel⟩,
    ⟨((fields [(F.CHN_BANK_STATE.STATE, 0, 2)] up).onChurn (fun y => { y with pkts := [{ pktB with words := [(0, 0)], readers := [1] }] })
      : State), _, (0 : Fin 256), rfl, by decide +kernel⟩,
    ⟨(fields [(F.CHN_BANK_STATE.STATE, 0, 3)] up : State), _, (0 : Fin 256), (1 : Nat), rfl, by decide +kernel⟩,
    ⟨((fields [(F.CHN_BANK_STATE.STATE, 0, 3)] up).onChurn (fun y => { y with retiring := [9] }) : State), _, (0 : Fin 256), (1 : Nat),
      rfl, by decide +kernel⟩,
    ⟨(fields [(F.CHN_BANK_STATE.STATE, 0, 3)] up : State), _, (0 : Fin 256), (1 : Nat), rfl, by decide +kernel⟩,
    ⟨(fields [(F.CHN_CFG.SCRUB_EN, 0, 1)] up : State), by decide +kernel⟩,
    ⟨(fields [(F.CHN_CFG.SCRUB_EN, 0, 0)] up : State), by decide +kernel⟩,
    ⟨(port 0 0 0 3 up : State), _, (0 : Fin 144), rfl, by decide +kernel⟩,
    ⟨(port 0 0 0 3 up : State), _, (0 : Fin 144), rfl, by decide +kernel⟩,
    ⟨(port 0 0 0 3 up : State), (0 : Fin 144), by decide +kernel⟩,
    ⟨(late .wfn 0 up : State), (0 : Fin 4096), (0 : Fin 4096), (0 : BitVec 8), (0 : Fin 16), _, rfl, by decide +kernel⟩⟩

/-- The hypotheses of KflFlits can be met. -/
theorem witness_KflFlits :
    (∃ (s : State) (t : State) (c : Fin 72) (b : List (BitVec 8)) (ok : Bool) (rest : List (List (BitVec 8) × Bool)), t = (s.onKl c (fun k
      => { k with rxFlits := rest })).stat R.KFL_RX_FLITS_LO R.KFL_RX_FLITS_HI c 1 ∧ s.isKfl c = true ∧ s.flits c = true ∧ (s.kl
      c).rxFlits = (b, ok) :: rest ∧ (ok && leNat (b.drop 248) == crc64 (b.take 248)) = false) ∧
    (∃ (s : State) (t : State) (u : State) (c : Fin 72) (b : List (BitVec 8)) (rest : List (List (BitVec 8) × Bool)) (h : FlitHdr), (s.kl
      c).rxFlits = (b, true) :: rest ∧ h = flitHdrOf (leNat (b.take 8)) ∧ t = (s.onKl c (fun k => { k with rxFlits := rest })).stat
      R.KFL_RX_FLITS_LO R.KFL_RX_FLITS_HI c 1 ∧ u = (t.ackIn c h.ack).creditIn c h.crVc h.crCum ∧ (h.lseq = t.expectRx c → t.seqBroken c h
      b = false) ∧ s.isKfl c = true ∧ s.flits c = true ∧ leNat (b.drop 248) = crc64 (b.take 248) ∧ h.ftype = 1 ∧ 2 * h.wheyN + h.dslots ≤
      15 ∧ (t.ackIn c h.ack).flits c = true ∧ u.flits c = true) ∧
    (∃ (s : State) (t : State) (u : State) (c : Nat) (a : Nat) (left : Nat) (out : Nat → Bool), t = (s.setFld F.KFL_SEQ_TX.ACK_LAST c
      a).setFld F.KFL_REPLAY_STATUS.CONSEC c 0 ∧ left = t.outstanding c ∧ out = (fun q => 1 ≤ sub12 q a && sub12 q a ≤ left) ∧ u =
      ((t.onKl c (fun k =>
      { k with unacked := k.unacked.filter (fun (f : KflFlit) => out f.lseq), tx := k.tx.filter (fun (t : KflPkt) => !t.slots.isEmpty || t.lastSeq == 4096 || out t.lastSeq || t.coming) })).showOut
      c) ∧ 1 ≤ sub12 a (s.ackLast c) ∧ sub12 a (s.ackLast c) ≤ s.outstanding c ∧ 0 < left ∧ ((u.arm .replay c (u.replayTime c)).kl
      c).stopping = none) ∧
    (∃ (s : State) (c : Fin 72), s.isKfl c = true ∧ s.flits c = true ∧ s.training c = false ∧ s.lst c ≠ 7 ∧ s.lst c ≠ 8 ∧ s.fld
      F.KFL_LINK_CFG.COMP_INTERVAL c ≤ (s.kl c).sinceIdle + 1 ∧ (s.kl c).maskNext = none ∧ (s.kl c).shedAsk = none) ∧
    (∃ (s : State) (c : Fin 72), s.isKfl c = true ∧ s.lst c = 7 ∧ (s.kl c).maskNext = none ∧ s.wheyOf c ≠ [] ∧ (s.kl c).shedAsk = none) ∧
    (∃ (s : State) (t : State) (u : State) (c : Fin 72) (n : Nat), n = s.fld F.KFL_REPLAY_STATUS.CONSEC c + 1 ∧ t = ((s.setFld
      F.KFL_REPLAY_STATUS.CONSEC c n).setFld F.KFL_REPLAY_STATUS.REPLAYING c 1).bump R.KFL_REPLAY_CNT c ∧ u = t.onKl c (fun k =>
      { k with replayNext := some ((t.ackLast c + 1) % 4096) }) ∧ s.due .replay c = true ∧ s.flits c = true ∧ s.outstanding c ≠ 0 ∧ n ≤
      s.fld F.KFL_TIMER_A.REPLAY_NUM c) ∧
    (∃ (s : State) (c : Fin 72), s.due .replay c = true ∧ s.flits c = true ∧ s.outstanding c ≠ 0 ∧ s.fld F.KFL_TIMER_A.REPLAY_NUM c <
      s.fld F.KFL_REPLAY_STATUS.CONSEC c + 1) ∧
    (∃ (s : State) (c : Fin 72) (v : Fin 7), s.due .credit (8 * c + v) = true ∧ s.flits c = true) ∧
    (∃ (s : State) (c : Fin 72), s.due .recovery c = true ∧ s.lst c = 6) ∧
    (∃ (s : State) (t : State) (u : State) (c : Fin 72) (lanes : List (Fin 8)) (levels : List (List (Fin 4))) (age : Nat) (ok : Bool) (f :
      FrameIn) (b : List (BitVec 8)) (rest : List (List (BitVec 8) × Bool)), f = frameIn (s.kl c).rxScr ((lanesIn (s.kl c).rxMask).map
      (fun i => ((laneLevels lanes levels).find? (fun e => s.lanePos c e.1 == some i)).elim [] (·.2))) ∧ t = ((s.onKl c (fun k =>
      { k with rxScr := f.scr, rxFlits := f.flits, rxTb := s.tb - BitVec.ofNat 64 age })).stat R.KFL_FEC_CORR_SYM_LO R.KFL_FEC_CORR_SYM_HI
      c f.corrected).stat R.PCL_PORT_FEC_CORR_LO R.PCL_PORT_FEC_CORR_HI (portOfCtl c) f.corrected ∧ u = t.onKl c (fun k =>
      { k with rxFlits := rest }) ∧ f.bad = false ∧ f.flits = (b, ok) :: rest ∧ (t.kl c).rxFlits = (b, ok) :: rest ∧ s.isKfl c = true ∧
      s.flits c = true) ∧
    (∃ (s : State) (t : State) (c : Fin 72) (b : List (BitVec 8)) (rest : List (List (BitVec 8) × Bool)) (h : FlitHdr), (s.kl c).rxFlits =
      (b, true) :: rest ∧ h = flitHdrOf (leNat (b.take 8)) ∧ t = (s.onKl c (fun k => { k with rxFlits := rest })).stat R.KFL_RX_FLITS_LO
      R.KFL_RX_FLITS_HI c 1 ∧ s.isKfl c = true ∧ s.flits c = true ∧ leNat (b.drop 248) = crc64 (b.take 248) ∧ h.ftype = 1 ∧ (15 < 2 *
      h.wheyN + h.dslots ∨ (h.lseq = t.expectRx c ∧ t.seqBroken c h b = true))) :=
  ⟨⟨((kfl 0 5 up).onKl 0 (fun k => { k with rxFlits := [([], false)] }) : State), _, (0 : Fin 72), ([] : List (BitVec 8)), (false :
      Bool), ([] : List (List (BitVec 8) × Bool)), rfl, by decide +kernel⟩,
    ⟨((kfl 0 5 up).onKl 0 (fun k =>
      { k with rxFlits := [(((leBytes 8 (1 + 15 * 2 ^ 47) ++ leBytes 240 0) ++ leBytes 8 (crc64 (leBytes 8 (1 + 15 * 2 ^ 47) ++ leBytes 240 0))), true)] })
      : State), _, _, (0 : Fin 72), (((leBytes 8 (1 + 15 * 2 ^ 47) ++ leBytes 240 0) ++ leBytes 8 (crc64 (leBytes 8 (1 + 15 * 2 ^ 47) ++
      leBytes 240 0))) : List (BitVec 8)), ([] : List (List (BitVec 8) × Bool)), _, rfl, rfl, rfl, rfl, by decide +kernel,
      by decide +kernel⟩,
    ⟨(fields [(F.KFL_SEQ_TX.NEXT_TX, 0, 3), (F.KFL_SEQ_TX.ACK_LAST, 0, 0)] (kfl 0 5 up) : State), _, _, (0 : Nat), (1 : Nat), _, _, rfl,
      rfl, rfl, rfl, by decide +kernel⟩,
    ⟨(fields [(F.KFL_LINK_CFG.COMP_INTERVAL, 0, 0)] (kfl 0 5 up) : State), (0 : Fin 72), by decide +kernel⟩,
    ⟨((kfl 0 7 up).onKfl (fun y => { y with whey := [(0, {})] }) : State), (0 : Fin 72), by decide +kernel⟩,
    ⟨(late .replay 0 (fields [(F.KFL_SEQ_TX.NEXT_TX, 0, 3), (F.KFL_SEQ_TX.ACK_LAST, 0, 0), (F.KFL_TIMER_A.REPLAY_NUM, 0, 3)] (kfl 0 5 up))
      : State), _, _, (0 : Fin 72), _, rfl, rfl, rfl, by decide +kernel⟩,
    ⟨(late .replay 0 (fields [(F.KFL_REPLAY_STATUS.CONSEC, 0, 3)] (fields [(F.KFL_SEQ_TX.NEXT_TX, 0, 3), (F.KFL_SEQ_TX.ACK_LAST, 0, 0),
      (F.KFL_TIMER_A.REPLAY_NUM, 0, 3)] (kfl 0 5 up))) : State), (0 : Fin 72), by decide +kernel⟩,
    ⟨(late .credit 0 (kfl 0 5 up) : State), (0 : Fin 72), (0 : Fin 7), by decide +kernel⟩,
    ⟨(late .recovery 0 (kfl 0 6 up) : State), (0 : Fin 72), by decide +kernel⟩,
    ⟨((kfl 0 5 up).onKl 0 (fun k => { k with rxMask := 1 }) : State), _, _, (0 : Fin 72), ([] : List (Fin 8)), ([] : List (List (Fin 4))),
      (0 : Nat), (mark1 0x7FFFFFFF [[]] : Bool), _, (flit1 0x7FFFFFFF [[]] : List (BitVec 8)), (flits2 0x7FFFFFFF [[]] : List (List
      (BitVec 8) × Bool)), rfl, rfl, rfl, Laws.frameIn_zero _, frame_flits _ _, (by rw [stat_kl, stat_kl]; exact frame_flits _ _),
      by decide +kernel⟩,
    ⟨((kfl 0 5 up).onKl 0 (fun k =>
      { k with rxFlits := [(((leBytes 8 (1 + 2 ^ 41 + 15 * 2 ^ 43 + 15 * 2 ^ 47) ++ leBytes 240 0) ++ leBytes 8 (crc64 (leBytes 8 (1 + 2 ^ 41 + 15 * 2 ^ 43 + 15 * 2 ^ 47) ++ leBytes 240 0))), true)] })
      : State), _, (0 : Fin 72), (((leBytes 8 (1 + 2 ^ 41 + 15 * 2 ^ 43 + 15 * 2 ^ 47) ++ leBytes 240 0) ++ leBytes 8 (crc64 (leBytes 8 (1
      + 2 ^ 41 + 15 * 2 ^ 43 + 15 * 2 ^ 47) ++ leBytes 240 0))) : List (BitVec 8)), ([] : List (List (BitVec 8) × Bool)), _, rfl, rfl,
      rfl, by decide +kernel⟩⟩

/-- The hypotheses of KflTraining can be met. -/
theorem witness_KflTraining :
    (∃ (s : State) (t : State) (c : Fin 72) (lane : Fin 8) (block : BitVec 256) (skew : Nat) (k : Kts), t = s.setFld
      F.PCL_LANE_STATUS.POLARITY_INV (firstLane (portOfCtl c) + lane) 0 ∧ s.isKfl c = true ∧ s.mode ≠ .reset ∧ s.lst c ≠ 0 ∧ lane.val < 4
      * s.widthCfg c ∧ bits block.toNat 0 32 = 0x3B6EA2D4 ∧ ktsOf block.toNat = some k ∧ skew ≤ 64000 ∧ 1 ≤ t.lst c ∧ t.lst c ≤ 4) ∧
    (∃ (s : State) (c : Fin 72) (lane : Fin 8) (block : BitVec 256), s.isKfl c = true ∧ s.mode ≠ .reset ∧ s.lst c ≠ 0 ∧ lane.val < 4 *
      s.widthCfg c ∧ bits block.toNat 0 32 = 0xC4915D2B ∧ ktsOf (2 ^ 256 - 1 - block.toNat % 2 ^ 256) = none) ∧
    (∃ (s : State) (t : State) (c : Fin 72) (lane : Fin 8) (block : BitVec 256) (k : Kts), t = s.setFld F.PCL_LANE_STATUS.POLARITY_INV
      (firstLane (portOfCtl c) + lane) 0 ∧ s.isKfl c = true ∧ s.mode ≠ .reset ∧ s.lst c ≠ 0 ∧ lane.val < 4 * s.widthCfg c ∧ bits
      block.toNat 0 32 = 0x3B6EA2D4 ∧ ktsOf block.toNat = some k ∧ t.lst c = 5 ∧ (k.phase ≠ 5 ∨ (t.kl c).marks ≠ []) ∧ bits (t.fld
      F.KFL_LINK_STATUS.LANES_ACTIVE c) k.lane 1 = 1) ∧
    (∃ (s : State) (t : State) (c : Fin 72), t = s.whenb ((s.kl c).phase == 1 || (s.kl c).phase == 3) (fun s => s.raise
      F.PCL_PORT_EVT.EQ_FAIL (portOfCtl c)) ∧ s.due .training c = true ∧ 1 ≤ s.lst c ∧ s.lst c ≤ 4 ∧ ((t.kflDown c 6).linkOff (portOfCtl
      c) (t.restState (portOfCtl c))).flag F.KFL_LINK_CFG.TRAIN_EN c = true) ∧
    (∃ (s : State) (c : Fin 72), s.due .trainRetry c = true ∧ (s.disarm .trainRetry c).lst c = 0 ∧ (s.disarm .trainRetry c).flag
      F.KFL_LINK_CFG.TRAIN_EN c = true) ∧
    (∃ (s : State) (c : Fin 72), s.hears c = true ∧ (s.kl c).stopping = none) ∧
    (∃ (s : State) (c : Fin 72) (r : Nat), s.due .drain c = true ∧ (s.kl c).stopping = some r ∧ (s.kl c).downSeq = none) ∧
    (∃ (s : State) (c : Fin 72) (r : Nat) (q : _), s.due .drain c = true ∧ (s.kl c).stopping = some r ∧ (s.kl c).downSeq = some q) ∧
    (∃ (s : State) (t : State) (u : State) (c : Nat) (cause : Nat) (msgs : List Whey), msgs = (((s.kl c).unacked.map (·.whey)).flatten ++
      s.wheyOf c).filter (fun (w : Whey) => w.carry == 2) ∧ t = ((((s.bump R.KFL_BROKEN_CNT c).raise F.KFL_LINK_EVT.BROKEN c).journal
      0x0103 { port := portOfCtl c, detail := cause }).kflDown c cause).onKfl (fun y =>
      { y with whey := y.whey.filter (fun e => e.1 != c) }) ∧ u = (((((t.setFld F.PCL_PORT_STATUS.STATE (portOfCtl c) 4).strikePort
      (portOfCtl c)).maskLink (t.linkIdx c)).linkDown (portOfCtl c) 2).each (s.kl c).tx State.untake).each msgs (fun s w => (s.wheyRouted
      w).1) ∧ s.lst c ≠ 0 ∧ cause ≠ 4 ∧ (s.kl c).stopping = none) ∧
    (∃ (s : State) (t : State) (c : Fin 72) (lane : Fin 8) (a : Nat) (m : BitVec 64) (x : LaneMark), t = s.onKl c (fun k =>
      { k with rxScr := 0x7FFFFFFF, rxFlits := [], deskew := [(lane.val, 0)] }) ∧ x = (look lane.val (t.kl c).marks).getD {} ∧ s.isKfl c =
      true ∧ s.framing c = true ∧ bits m.toNat 0 32 = 0xC5A31E6B ∧ a ≤ 64000 ∧ (List.range 8).filter (fun l => (s.lanePos c l).elim false
      (fun i => bits (s.kl c).rxMask i 1 == 1)) = [lane.val] ∧ t.framing c = true ∧ x.bad < 2 ∧ parity 32 (m.toNat / 2 ^ 32) = 0 ∧ bits
      m.toNat 38 8 = x.next ∧ bits m.toNat 36 2 = widthCode (lanesIn (s.kl c).rxMask).length) ∧
    (∃ (s : State) (t : State) (u : State) (c : Fin 72) (lane : Fin 8) (a : Nat) (m : BitVec 64) (x : LaneMark), (t = s.onKl c (fun k =>
      { k with rxScr := 0x7FFFFFFF, rxFlits := [], deskew := if bits m.toNat 0 32 = 0xC5A31E6B ∧ a ≤ 64000 then [(lane.val, 0)] else [] }))
      ∧ x = (look lane.val (t.kl c).marks).getD {} ∧ u = (t.bump R.KFL_MARKER_ERR_CNT c).onKl c (fun k =>
      { k with marks := put lane.val { next := (x.next + 1) % 256, bad := x.bad + 1 } k.marks }) ∧ s.isKfl c = true ∧ s.framing c = true ∧
      (bits m.toNat 0 32 = 0xC5A31E6B → a ≤ 64000 → parity 32 (m.toNat / 2 ^ 32) = 1) ∧ (List.range 8).filter (fun l => (s.lanePos c
      l).elim false (fun i => bits (s.kl c).rxMask i 1 == 1)) = [lane.val] ∧ t.framing c = true ∧ x.bad < 2) ∧
    (∃ (s : State) (t : State) (c : Fin 72) (lane : Fin 8), t = s.onKl c (fun k =>
      { k with rxScr := 0x7FFFFFFF, rxFlits := [], deskew := [] }) ∧ s.isKfl c = true ∧ s.framing c = true ∧ (List.range 8).filter (fun l
      => (s.lanePos c l).elim false (fun i => bits (s.kl c).rxMask i 1 == 1)) = [lane.val] ∧ t.framing c = true ∧ 2 ≤ ((look lane.val
      (t.kl c).marks).getD {}).bad) :=
  ⟨⟨(fields [(F.KFL_LINK_STATUS.LANES_ACTIVE, 0, 15)] (kfl 0 1 up) : State), _, (0 : Fin 72), (0 : Fin 8), (BitVec.ofNat 256 (0x3B6EA2D4
      + 2 ^ 240 * crc16 0x3B6EA2D4) : BitVec 256), (0 : Nat), ((ktsOf (0x3B6EA2D4 + 2 ^ 240 * crc16 0x3B6EA2D4)).get (by decide +kernel) :
      Kts), rfl, by decide +kernel⟩,
    ⟨(kfl 0 1 up : State), (0 : Fin 72), (0 : Fin 8), (0xC4915D2B : BitVec 256), by decide +kernel⟩,
    ⟨(fields [(F.KFL_LINK_STATUS.LANES_ACTIVE, 0, 15)] (kfl 0 5 up) : State), _, (0 : Fin 72), (0 : Fin 8), (BitVec.ofNat 256 (0x3B6EA2D4
      + 2 ^ 240 * crc16 0x3B6EA2D4) : BitVec 256), ((ktsOf (0x3B6EA2D4 + 2 ^ 240 * crc16 0x3B6EA2D4)).get (by decide +kernel) : Kts), rfl,
      by decide +kernel⟩,
    ⟨(late .training 0 (fields [(F.KFL_LINK_CFG.TRAIN_EN, 0, 1)] (kfl 0 1 up)) : State), _, (0 : Fin 72), rfl, by decide +kernel⟩,
    ⟨(late .trainRetry 0 (fields [(F.KFL_LINK_CFG.TRAIN_EN, 0, 1)] (kfl 0 0 up)) : State), (0 : Fin 72), by decide +kernel⟩,
    ⟨(kfl 0 5 up : State), (0 : Fin 72), by decide +kernel⟩,
    ⟨(late .drain 0 ((kfl 0 5 up).onKl 0 (fun k => { k with stopping := some 0 })) : State), (0 : Fin 72), (0 : Nat), by decide +kernel⟩,
    ⟨(late .drain 0 ((kfl 0 5 up).onKl 0 (fun k => { k with stopping := some 0, downSeq := some 0 })) : State), (0 : Fin 72), (0 : Nat),
      (0 : Nat), by decide +kernel⟩,
    ⟨(kfl 0 5 up : State), _, _, (0 : Nat), (0 : Nat), _, rfl, rfl, rfl, by decide +kernel⟩,
    ⟨(((fields [(F.KFL_LINK_STATUS.WIDTH_NOW, 0, 1)] (kfl 0 5 up))).onKl 0 (fun k => { k with rxMask := 1 }) : State), _, (0 : Fin 72), (0
      : Fin 8), (0 : Nat), (BitVec.ofNat 64 0xC5A31E6B : BitVec 64), _, rfl, rfl, by decide +kernel⟩,
    ⟨(((fields [(F.KFL_LINK_STATUS.WIDTH_NOW, 0, 1)] (kfl 0 5 up))).onKl 0 (fun k => { k with rxMask := 1 }) : State), _, _, (0 : Fin 72),
      (0 : Fin 8), (0 : Nat), (BitVec.ofNat 64 (0xC5A31E6B + 2 ^ 32 * 1) : BitVec 64), _, rfl, rfl, rfl, by decide +kernel⟩,
    ⟨(((fields [(F.KFL_LINK_STATUS.WIDTH_NOW, 0, 1)] (kfl 0 5 up))).onKl 0 (fun k =>
      { k with rxMask := 1, marks := [(0, { next := 0, bad := 2 })] }) : State), _, (0 : Fin 72), (0 : Fin 8), rfl, by decide +kernel⟩⟩

/-- The hypotheses of KflWidthAndTime can be met. -/
theorem witness_KflWidthAndTime :
    (∃ (s : State) (c : Fin 72) (m : BitVec 8), s.hears c = true ∧ s.lst c = 5 ∧ (s.kl c).shed = none ∧ (s.kl c).stopping = none ∧ s.fld
      F.KFL_LINK_STATUS.LANES_ACTIVE c = (s.kl c).fullMask ∧ 4 ≤ (lanesIn (s.fld F.KFL_LINK_STATUS.LANES_ACTIVE c)).length ∧ m.toNat =
      (halves (s.fld F.KFL_LINK_STATUS.LANES_ACTIVE c)).1 ∧ (s.kl c).maskNext = none ∧ (s.kl c).shedAsk = none ∧ (s.kl c).rx = none) ∧
    (∃ (s : State) (c : Fin 72) (m : BitVec 8), s.hears c = true ∧ s.lst c = 5 ∧ (s.kl c).shed = none ∧ (s.kl c).stopping = none ∧ s.fld
      F.KFL_LINK_STATUS.LANES_ACTIVE c = (s.kl c).fullMask ∧ 4 ≤ (lanesIn (s.fld F.KFL_LINK_STATUS.LANES_ACTIVE c)).length ∧ m.toNat =
      (halves (s.fld F.KFL_LINK_STATUS.LANES_ACTIVE c)).1 ∧ (s.kl c).maskNext = none ∧ (s.kl c).shedAsk = none ∧ (s.kl c).rx ≠ none) ∧
    (∃ (s : State) (c : Fin 72), s.hears c = true ∧ s.lst c = 5 ∧ (s.kl c).shed = none ∧ (s.kl c).stopping = none ∧ s.fld
      F.KFL_LINK_STATUS.LANES_ACTIVE c ≠ (s.kl c).fullMask) ∧
    (∃ (s : State) (t : State) (c : Fin 72) (tok : BitVec 8) (want : Nat) (m : Nat), t = (s.onKl c (fun k =>
      { k with shed := none })).disarm .shed c ∧ s.hears c = true ∧ (s.kl c).shed = some (want, m) ∧ want = tok.toNat) ∧
    (∃ (s : State) (t : State) (c : Fin 72) (tok : BitVec 8) (want : Nat) (m : Nat), t = (s.onKl c (fun k =>
      { k with shed := none })).disarm .shed c ∧ s.hears c = true ∧ (s.kl c).shed = some (want, m) ∧ want ≠ tok.toNat) ∧
    (∃ (s : State) (t : State) (c : Fin 72) (m : BitVec 8), t = s.onKl c (fun k =>
      { k with locked := s.fld F.KFL_LINK_STATUS.LANES_ACTIVE c }) ∧ s.hears c = true ∧ s.lst c = 5 ∧ s.fld F.KFL_LINK_STATUS.LANES_ACTIVE
      c ≠ (s.kl c).fullMask ∧ m.toNat = (s.kl c).fullMask ∧ (s.kl c).stopping = none) ∧
    (∃ (s : State) (t : State) (c : Fin 72) (tok : BitVec 8) (m : Nat), t = (s.onKl c (fun k => { k with restore := none })).disarm .shed
      c ∧ s.hears c = true ∧ (s.kl c).restore = some (tok.toNat, m)) ∧
    (∃ (s : State) (c : Fin 72), s.due .shed c = true ∧ (s.kl c).restore = none) ∧
    (∃ (s : State) (c : Fin 72) (deep : Bool), s.hears c = true ∧ s.lst c = 5 ∧ (s.kl c).lp = none ∧ s.maySleep c (b2n deep) = true) ∧
    (∃ (s : State) (c : Fin 72) (deep : Bool), s.hears c = true ∧ s.lst c = 5 ∧ (s.kl c).lp = none ∧ s.maySleep c (b2n deep) = false) ∧
    (∃ (s : State) (c : Fin 72) (tok : BitVec 8) (st : Nat), s.hears c = true ∧ s.lst c = 5 ∧ (s.kl c).lp = some (tok.toNat, st) ∧ (s.kl
      c).sleep = none ∧ st ≠ 2 ∧ ((s.onKl c (fun k => { k with lp := none, lastBusy := k.lastBusy, sleep := k.sleep })).kl c).sleep =
      none) ∧
    (∃ (s : State) (c : Fin 72), (s.kl c).lp = none ∧ (s.kl c).sleep = none ∧ s.isKfl c = true ∧ s.maySleep c 1 = true) ∧
    (∃ (s : State) (c : Fin 72), s.hears c = true ∧ s.flag F.KFL_LINK_CFG.TIME_EN c = true) ∧
    (∃ (s : State) (c : Fin 72), s.hears c = true ∧ s.flag F.KFL_LINK_CFG.TIME_EN c = false) ∧
    (∃ (s : State) (t : State) (c : Fin 72) (t1 : BitVec 64) (t2 : BitVec 64) (t3 : BitVec 64) (off : Int) (delay : Int), off = s.half
      ((t2 - t1).toInt - (s.tb - t3).toInt) ∧ delay = s.drew.half ((s.tb - t1).toInt - (t3 - t2).toInt) ∧ t = ((s.drew.drew.wr
      R.KFL_TIME_OFFSET c (BitVec.ofInt 32 off)).setFld F.KFL_TIME_DELAY.DELAY c (BitVec.ofInt 16 delay).toNat).raise
      F.KFL_LINK_EVT.TIME_SYNC c ∧ s.hears c = true) ∧
    (∃ (s : State) (t : State) (c : Fin 72), t = s.arm .timeReq c (ms (s.fld F.KFL_TIMER_C.TIME_INTERVAL c)) ∧ s.due .timeReq c = true ∧
      s.flag F.KFL_LINK_CFG.TIME_REQ_EN c = true ∧ s.asleep c = false ∧ t.lst c = 5) :=
  ⟨⟨((fields [(F.KFL_LINK_STATUS.LANES_ACTIVE, 0, 15)] (kfl 0 5 up)).onKl 0 (fun k => { k with fullMask := 15 }) : State), (0 : Fin 72),
      (3 : BitVec 8), by decide +kernel⟩,
    ⟨((fields [(F.KFL_LINK_STATUS.LANES_ACTIVE, 0, 15)] (kfl 0 5 up)).onKl 0 (fun k =>
      { k with fullMask := 15, rx := some ⟨0, 0, 0, [], none, none⟩ }) : State), (0 : Fin 72), (3 : BitVec 8), by decide +kernel⟩,
    ⟨((fields [(F.KFL_LINK_STATUS.LANES_ACTIVE, 0, 15)] (kfl 0 5 up)).onKl 0 (fun k => { k with fullMask := 255 }) : State), (0 : Fin 72),
      by decide +kernel⟩,
    ⟨((kfl 0 5 up).onKl 0 (fun k => { k with shed := some (1, 3) }) : State), _, (0 : Fin 72), (1 : BitVec 8), (1 : Nat), (3 : Nat), rfl,
      by decide +kernel⟩,
    ⟨((kfl 0 5 up).onKl 0 (fun k => { k with shed := some (1, 3) }) : State), _, (0 : Fin 72), (2 : BitVec 8), (1 : Nat), (3 : Nat), rfl,
      by decide +kernel⟩,
    ⟨((fields [(F.KFL_LINK_STATUS.LANES_ACTIVE, 0, 15)] (kfl 0 5 up)).onKl 0 (fun k => { k with fullMask := 255 }) : State), _, (0 : Fin
      72), (255 : BitVec 8), rfl, by decide +kernel⟩,
    ⟨((kfl 0 5 up).onKl 0 (fun k => { k with restore := some (1, 15) }) : State), _, (0 : Fin 72), (1 : BitVec 8), (15 : Nat), rfl,
      by decide +kernel⟩,
    ⟨(late .shed 0 (kfl 0 5 up) : State), (0 : Fin 72), by decide +kernel⟩,
    ⟨(fields [(F.PCL_PORT_CTRL.KFL_STBY_EN, 0, 1), (F.PCL_PORT_CTRL.KFL_DEEP_EN, 0, 1)] (kfl 0 5 up) : State), (0 : Fin 72), (false :
      Bool), by decide +kernel⟩,
    ⟨(fields [(F.PCL_PORT_CTRL.KFL_STBY_EN, 0, 0)] (kfl 0 5 up) : State), (0 : Fin 72), (false : Bool), by decide +kernel⟩,
    ⟨((kfl 0 5 up).onKl 0 (fun k => { k with lp := some (1, 0) }) : State), (0 : Fin 72), (1 : BitVec 8), (0 : Nat), by decide +kernel⟩,
    ⟨(fields [(F.PCL_PORT_CTRL.KFL_STBY_EN, 0, 1), (F.PCL_PORT_CTRL.KFL_DEEP_EN, 0, 1)] (kfl 0 5 up) : State), (0 : Fin 72),
      by decide +kernel⟩,
    ⟨(fields [(F.KFL_LINK_CFG.TIME_EN, 0, 1)] (kfl 0 5 up) : State), (0 : Fin 72), by decide +kernel⟩,
    ⟨(fields [(F.KFL_LINK_CFG.TIME_EN, 0, 0)] (kfl 0 5 up) : State), (0 : Fin 72), by decide +kernel⟩,
    ⟨(kfl 0 5 up : State), _, (0 : Fin 72), (0 : BitVec 64), (0 : BitVec 64), (0 : BitVec 64), _, _, rfl, rfl, rfl, by decide +kernel⟩,
    ⟨(late .timeReq 0 (fields [(F.KFL_LINK_CFG.TIME_REQ_EN, 0, 1)] (kfl 0 5 up)) : State), _, (0 : Fin 72), rfl, by decide +kernel⟩⟩

/-- The hypotheses of FabricMembership can be met. -/
theorem witness_FabricMembership :
    (∃ (s : State) (t : State) (c : Fin 72) (serial : BitVec 64) (feid : BitVec 12) (term : BitVec 16), t = ((s.onFab (fun y =>
      { y with hello := (c.val, feid.toNat, serial.toNat, 0) :: y.hello.filter (fun e => e.1 != c.val) })).heardTerm term.toNat).hello c ∧
      s.hears c = true ∧ s.fs ≠ 0 ∧ s.fab.hello.find? (fun e => e.1 == c.val) = none ∧ feid.toNat ≠ 0 ∧ look c.val t.fab.peer = some
      feid.toNat) ∧
    (∃ (s : State) (t : State) (u : State) (c : Fin 72) (origin : BitVec 12) (feid : BitVec 12) (hops : BitVec 4) (serial : BitVec 64)
      (term : BitVec 16) (seq : BitVec 16), u = (t.heardTerm term.toNat).onFab (fun y =>
      { y with claim := some (feid.toNat, serial.toNat) }) ∧ s.hears c = true ∧ s.fs ≠ 0 ∧ s.floodRx c (envelope 0x21 1 origin 0xFFF hops
      [(feid.toNat, 12), (serial.toNat, 64), (term.toNat, 16), (seq.toNat, 16)]) seq.toNat = (true, t) ∧ t.fab.claim = none ∧ (t.heardTerm
      term.toNat).fab.claim = none ∧ u.fab.claiming = true ∧ feid.toNat < u.ownFeid) ∧
    (∃ (s : State) (c : Fin 72) (term : BitVec 16), s.hears c = true ∧ term.toNat < s.fld F.BND_FAB_LEAD_INFO.TERM) ∧
    (∃ (s : State) (t : State) (u : State) (c : Fin 72) (origin : BitVec 12) (lead : BitVec 12) (hops : BitVec 4) (term : BitVec 16) (seq
      : BitVec 16) (m : BitVec 7), u = t.heardTerm term.toNat ∧ s.hears c = true ∧ s.fs ≠ 0 ∧ s.fld F.BND_FAB_LEAD_INFO.TERM ≤ term.toNat
      ∧ s.floodRx c (envelope 0x22 1 origin 0xFFF hops [(lead.toNat, 12), (term.toNat, 16), (seq.toNat, 16), (m.toNat, 7)]) seq.toNat =
      (true, t) ∧ u.fs = 4 ∧ u.lead = some lead.toNat) ∧
    (∃ (s : State) (t : State) (c : Fin 72) (origin : BitVec 12) (dest : BitVec 12) (feid : BitVec 12) (serial : BitVec 64) (m : Member),
      t = s.onFab (fun y => { y with relay := put (4096 + serial.toNat) (s.linkIdx c) (put origin.toNat (s.linkIdx c) y.relay) }) ∧
      s.hears c = true ∧ s.fs = 5 ∧ dest.toNat = s.ownFeid ∧ feid.toNat ≠ 0 ∧ t.fab.members.find? (fun (m : Member) => m.feid ==
      feid.toNat && m.serial != serial.toNat) = some m) ∧
    (∃ (s : State) (t : State) (c : Fin 72) (origin : BitVec 12) (dest : BitVec 12) (feid : BitVec 12) (serial : BitVec 64), t = s.onFab
      (fun y => { y with relay := put (4096 + serial.toNat) (s.linkIdx c) (put origin.toNat (s.linkIdx c) y.relay) }) ∧ s.hears c = true ∧
      s.fs = 5 ∧ dest.toNat = s.ownFeid ∧ feid.toNat ≠ 0 ∧ feid.toNat < 0x800 ∧ t.fab.members.find? (fun (m : Member) => m.feid ==
      feid.toNat && m.serial != serial.toNat) = none ∧ t.fab.members.length < 64) ∧
    (∃ (s : State) (c : Fin 72) (r : Fin 4), s.hears c = true ∧ s.fs = 3 ∧ r.val ≠ 0) ∧
    (∃ (s : State) (t : State) (u : State) (v : State) (c : Fin 72) (feid : BitVec 12), t = s.takeFeid feid.toNat ∧ u = ((t.admitted
      true).setFs 4).arm .heartbeatLoss 0 (t.fld F.BND_FAB_TIMERS.HB_MISS * t.hbTime) ∧ v = u.each (allPorts.filter u.isFabric) (fun s p
      => s.topoReport (s.linkOf p) (if s.linkLive (s.linkOf p) then 1 else if s.linkUp p then 2 else 0) ((look (controllerOf p)
      s.fab.peer).getD 0)) ∧ s.hears c = true ∧ s.fs = 3) ∧
    (∃ (s : State) (c : Fin 72) (dest : BitVec 12), s.hears c = true ∧ dest.toNat = s.ownFeid ∧ s.fs = 5) ∧
    (∃ (s : State) (t : State) (c : Fin 72) (origin : BitVec 12) (dest : BitVec 12) (peer : BitVec 12) (hops : BitVec 4) (link : BitVec 7)
      (st : Fin 4) (w : Whey), t = s.onFab (fun y => { y with relay := put origin.toNat (s.linkIdx c) y.relay }) ∧ w = envelope 0x25 2
      origin dest hops [(link.toNat, 7), (st.val, 2), (peer.toNat, 12)] ∧ s.hears c = true ∧ s.fs ≠ 0 ∧ dest.toNat ≠ s.ownFeid) ∧
    (∃ (s : State) (t : State), t = s.disarm .settle 0 ∧ s.due .settle 0 = true ∧ t.fs = 1) ∧
    (∃ (s : State) (t : State), t = s.disarm .settle 0 ∧ s.due .settle 0 = true ∧ t.fs = 2 ∧ t.fab.claiming = true) ∧
    (∃ (s : State) (t : State), t = s.nextFlood ∧ s.due .heartbeat 0 = true ∧ s.fs = 5) ∧
    (∃ (s : State) (t : State), t = ((s.disarm .heartbeatLoss 0).raise F.BND_FAB_EVT.HB_LOST).setLead none ∧ s.due .heartbeatLoss 0 = true
      ∧ (s.disarm .heartbeatLoss 0).fs = 4 ∧ t.bnd.session = none) ∧
    (∃ (s : State) (l : Nat), s.due .refused 0 = true ∧ (s.disarm .refused 0).fs = 6 ∧ (s.disarm .refused 0).lead = some l) :=
  ⟨⟨((member 4).onFab (fun y => { y with peer := [(0, 7)] }) : State), _, (0 : Fin 72), (0 : BitVec 64), (7 : BitVec 12), (0 : BitVec
      16), rfl, by decide +kernel⟩,
    ⟨((member 2).onFab (fun y => { y with claiming := true }) : State), ((State.floodRx ((member 2).onFab (fun y =>
      { y with claiming := true })) 0 (envelope 0x21 1 3 0xFFF 0 [(3, 12), (0, 64), (0, 16), (0, 16)]) 0).2 : State), _, (0 : Fin 72), (3
      : BitVec 12), (3 : BitVec 12), (0 : BitVec 4), (0 : BitVec 64), (0 : BitVec 16), (0 : BitVec 16), rfl, by decide +kernel⟩,
    ⟨(fields [(F.BND_FAB_LEAD_INFO.TERM, 0, 2)] (member 4) : State), (0 : Fin 72), (1 : BitVec 16), by decide +kernel⟩,
    ⟨(member 4 : State), ((State.floodRx (member 4) 0 (envelope 0x22 1 9 0xFFF 0 [(9, 12), (0, 16), (0, 16), (0, 7)]) 0).2 : State), _, (0
      : Fin 72), (9 : BitVec 12), (9 : BitVec 12), (0 : BitVec 4), (0 : BitVec 16), (0 : BitVec 16), (0 : BitVec 7), rfl,
      by decide +kernel⟩,
    ⟨((member 5).onFab (fun y => { y with members := [⟨7, 1, false, false, 0⟩] }) : State), _, (0 : Fin 72), (0 : BitVec 12), (5 : BitVec
      12), (7 : BitVec 12), (2 : BitVec 64), (⟨7, 1, false, false, 0⟩ : Member), rfl, by decide +kernel⟩,
    ⟨(member 5 : State), _, (0 : Fin 72), (0 : BitVec 12), (5 : BitVec 12), (7 : BitVec 12), (2 : BitVec 64), rfl, by decide +kernel⟩,
    ⟨(member 3 : State), (0 : Fin 72), (1 : Fin 4), by decide +kernel⟩,
    ⟨(member 3 : State), _, _, _, (0 : Fin 72), (0 : BitVec 12), rfl, rfl, rfl, by decide +kernel⟩,
    ⟨(member 5 : State), (0 : Fin 72), (5 : BitVec 12), by decide +kernel⟩,
    ⟨(member 5 : State), _, (0 : Fin 72), (0 : BitVec 12), (6 : BitVec 12), (0 : BitVec 12), (0 : BitVec 4), (0 : BitVec 7), (0 : Fin 4),
      _, rfl, rfl, by decide +kernel⟩,
    ⟨(late .settle 0 (member 1) : State), _, rfl, by decide +kernel⟩,
    ⟨(late .settle 0 ((member 2).onFab (fun y => { y with claiming := true })) : State), _, rfl, by decide +kernel⟩,
    ⟨(late .heartbeat 0 (member 5) : State), _, rfl, by decide +kernel⟩,
    ⟨(late .heartbeatLoss 0 (member 4) : State), _, rfl, by decide +kernel⟩,
    ⟨(late .refused 0 (member 6) : State), (9 : Nat), by decide +kernel⟩⟩

/-- The hypotheses of FabricFlows can be met. -/
theorem witness_FabricFlows :
    (∃ (s : State) (c : Fin 72) (dest : BitVec 12) (dst : BitVec 12) (vh : BitVec 8) (ord : Fin 4), s.hears c = true ∧ s.fs ≠ 0 ∧
      dest.toNat = s.ownFeid ∧ s.fab.sends.any (fun (e : SendEntry) => e.is dst.toNat vh.toNat ord) = true) ∧
    (∃ (s : State) (c : Fin 72) (dest : BitVec 12) (dst : BitVec 12) (vh : BitVec 8) (ord : Fin 4), s.hears c = true ∧ s.fs ≠ 0 ∧
      dest.toNat = s.ownFeid ∧ s.fab.sends.any (fun (e : SendEntry) => e.is dst.toNat vh.toNat ord) = false) ∧
    (∃ (s : State) (t : State) (c : Fin 72) (dest : BitVec 12) (dst : BitVec 12) (vh : BitVec 8) (ord : Fin 4), t = (((s.onFab (fun y =>
      { y with sends := y.sends.filter (fun (e : SendEntry) => !e.is dst.toNat vh.toNat ord), retry := y.retry ++ [(dst.toNat, vh.toNat, ord.val)] })).bump
      R.BND_FAB_FLOW_PINNED_CNT).raise F.BND_FAB_EVT.FLOW_PINNED).disarm .flowIdle (flowKey dst.toNat vh.toNat ord) ∧ s.hears c = true ∧
      s.fs ≠ 0 ∧ dest.toNat = s.ownFeid ∧ s.fab.sends.any (fun (e : SendEntry) => e.is dst.toNat vh.toNat ord) = true) ∧
    (∃ (s : State) (c : Fin 72) (dest : BitVec 12), s.hears c = true ∧ s.fs ≠ 0 ∧ dest.toNat = s.ownFeid) ∧
    (∃ (s : State) (c : Fin 72) (dest : BitVec 12) (src : BitVec 12) (vh : BitVec 8) (ord : Fin 4) (f : FlowCtx), s.hears c = true ∧ s.fs
      ≠ 0 ∧ dest.toNat = s.ownFeid ∧ s.flowOf src.toNat vh.toNat ord = some f) ∧
    (∃ (s : State) (dst : Fin 4096) (vh : BitVec 8) (ord : Fin 3), s.due .flowRetry (flowKey dst vh.toNat ord) = true) ∧
    (∃ (s : State) (t : State) (dst : Fin 4096) (vh : BitVec 8) (ord : Fin 3) (e : SendEntry), t = s.disarm .flowIdle (flowKey dst
      vh.toNat ord) ∧ s.due .flowIdle (flowKey dst vh.toNat ord) = true ∧ t.fab.sends = [e] ∧ t.flowWaits (flowKey dst vh.toNat ord) =
      false ∧ flowKey e.dst e.vh e.ord = flowKey dst vh.toNat ord ∧ e.granted = true) ∧
    (∃ (s : State) (t : State) (i : Fin 4096) (c : FlowCtx), t = s.disarm .flowAck i ∧ s.due .flowAck i = true ∧ t.flow i = some c) ∧
    (∃ (s : State) (t : State) (u : State) (i : Fin 4096) (c : FlowCtx) (bi : Nat), t = s.disarm .hole i ∧ bi = (((c.held.find? (fun (h :
      HeldSeq) => !h.waits)).orElse (fun _ => c.held.head?)).map (fun h => (t.hdrOf h.pkt).bindIdx)).getD 0xFFF ∧ u = ((t.bump
      R.BND_FAB_RESEQ_HOLE_CNT).raise F.BND_FAB_EVT.RESEQ_HOLE).journal 0x0402
      { vh := c.vh, binding := bi, feid := c.src, detail := leNat (packFields (flowFields c.src t.ownFeid c.vh c.ord ++ [(c.expect, 16)])) }
      ∧ s.timers.any (fun (t : Timer) => t.kind == .hole && t.idx == i.val && decide (t.due < s.now)) = true ∧ t.flow i = some c ∧ (t.bind
      bi).valid = false) ∧
    (∃ (s : State) (i : Fin 4096) (c : FlowCtx) (h : HeldSeq), s.due .skew i = true ∧ s.flow i = some c ∧ c.held = [h] ∧ h.waits = false ∧
      h.counted = false ∧ h.since + 10 * s.fld F.BND_FAB_RESEQ_CFG.SKEW ≤ s.now) :=
  ⟨⟨((member 4).onFab (fun y => { y with sends := [⟨7, 0, 0, 0, 0, false, true, 0⟩] }) : State), (0 : Fin 72), (5 : BitVec 12), (7 :
      BitVec 12), (0 : BitVec 8), (0 : Fin 4), by decide +kernel⟩,
    ⟨(member 4 : State), (0 : Fin 72), (5 : BitVec 12), (7 : BitVec 12), (0 : BitVec 8), (0 : Fin 4), by decide +kernel⟩,
    ⟨((member 4).onFab (fun y => { y with sends := [⟨7, 0, 0, 0, 0, false, true, 0⟩] }) : State), _, (0 : Fin 72), (5 : BitVec 12), (7 :
      BitVec 12), (0 : BitVec 8), (0 : Fin 4), rfl, by decide +kernel⟩,
    ⟨(member 4 : State), (0 : Fin 72), (5 : BitVec 12), by decide +kernel⟩,
    ⟨((member 4).onFab (fun y => { y with flows := [flowA] }) : State), (0 : Fin 72), (5 : BitVec 12), (7 : BitVec 12), (0 : BitVec 8), (0
      : Fin 4), (flowA : FlowCtx), by decide +kernel⟩,
    ⟨(late .flowRetry (flowKey 7 0 0) (member 4) : State), (7 : Fin 4096), (0 : BitVec 8), (0 : Fin 3), by decide +kernel⟩,
    ⟨(late .flowIdle (flowKey 7 0 0) ((member 4).onFab (fun y => { y with sends := [⟨7, 0, 0, 0, 0, true, true, 0⟩] })) : State), _, (7 :
      Fin 4096), (0 : BitVec 8), (0 : Fin 3), (⟨7, 0, 0, 0, 0, true, true, 0⟩ : SendEntry), rfl, by decide +kernel⟩,
    ⟨(late .flowAck 0 ((member 4).onFab (fun y => { y with flows := [flowA] })) : State), _, (0 : Fin 4096), (flowA : FlowCtx), rfl,
      by decide +kernel⟩,
    ⟨(late .hole 0 ((member 4).onFab (fun y => { y with flows := [flowA] })) : State), _, _, (0 : Fin 4096), (flowA : FlowCtx), _, rfl,
      rfl, rfl, by decide +kernel⟩,
    ⟨(late .skew 0 ((member 4).onFab (fun y => { y with flows := [{ flowA with held := [⟨0, 1, 0, false, false⟩] }] })) : State), (0 : Fin
      4096), ({ flowA with held := [⟨0, 1, 0, false, false⟩] } : FlowCtx), (⟨0, 1, 0, false, false⟩ : HeldSeq), by decide +kernel⟩⟩

/-- The hypotheses of FabricNotices can be met. -/
theorem witness_FabricNotices :
    (∃ (s : State) (t : State) (c : Fin 72) (dest : BitVec 12) (w : Wfn) (x : Wfn), t = s.bump R.ERR_WFN_RX_CNT ∧ x = wfnOfBody s.ownFeid
      (packFields (wfnFields w)) ∧ s.hears c = true ∧ s.fs ≠ 0 ∧ dest.toNat = s.ownFeid ∧ t.bindings.find? (fun e => t.isDeviceEnd e.2 &&
      Bind.remote e.2 == x.bindIdx && Bind.vh e.2 == x.vh) = none) ∧
    (∃ (w : Wfn), w.addr < 2 ^ 64 ∧ w.len < 2 ^ 13 ∧ w.vh < 2 ^ 8 ∧ w.bindIdx < 2 ^ 12 ∧ w.reason < 2 ^ 4 ∧ w.failFeid < 2 ^ 12 ∧ w.tFail
      < 2 ^ 32 ∧ w.fseq < 2 ^ 16 ∧ w.genTag < 2 ^ 8 ∧ w.count < 2 ^ 8) ∧
    (∃ (s : State) (t : State) (c : Fin 72) (dest : BitVec 12) (w : Wfn) (x : Wfn), t = s.bump R.ERR_WFN_RX_CNT ∧ x = wfnOfBody s.ownFeid
      (packFields (wfnFields w)) ∧ s.hears c = true ∧ s.fs ≠ 0 ∧ dest.toNat = s.ownFeid) ∧
    (∃ (s : State) (c : Fin 72) (dest : BitVec 12), s.hears c = true ∧ s.fs ≠ 0 ∧ dest.toNat = s.ownFeid) ∧
    (∃ (s : State) (c : Fin 72), s.hears c = false) ∧
    (∃ (s : State) (t : State) (id : Nat), t = (s.onFab (fun y => { y with unreach := y.unreach.filter (fun e => e.1 != id) })).disarm
      .unreach id ∧ s.due .unreach id = true ∧ s.fab.unreach.any (fun e => e.1 == id) = true) ∧
    (∃ (s : State) (f : Fin 4096) (e : Nat × Nat × Nat), s.fab.pinSwap.find? (fun e => e.1 == f.val) = some e ∧ (s.fab.pinSwap.erase
      e).find? (fun e => e.1 == f.val) = none ∧ e.2.1 + us (10 * s.fld F.BND_FAB_HOLD_CFG.PIN_SETTLE) ≤ s.now ∧ s.olderToward f e.2.2 =
      false) ∧
    (∃ (s : State) (t : State) (c : Fin 72) (dest : BitVec 12) (w : Wfn) (x : Wfn) (e : Nat × Bind), t = s.bump R.ERR_WFN_RX_CNT ∧ x =
      wfnOfBody s.ownFeid (packFields (wfnFields w)) ∧ s.hears c = true ∧ s.fs ≠ 0 ∧ dest.toNat = s.ownFeid ∧ t.bindings.find? (fun e =>
      t.isDeviceEnd e.2 && Bind.remote e.2 == x.bindIdx && Bind.vh e.2 == x.vh) = some e ∧ x.dir = true) ∧
    (∃ (s : State) (c : Fin 72) (dest : BitVec 12) (hops : BitVec 4), s.hears c = true ∧ s.fs ≠ 0 ∧ dest.toNat ≠ s.ownFeid ∧ s.fld
      F.BND_FAB_CFG.HOP_LIMIT < hops.toNat + 1) :=
  ⟨⟨(member 4 : State), _, (0 : Fin 72), (5 : BitVec 12), (⟨3, 0x1000, 4, 0, 0, false, 1, 2, 0, 0, 0, 1⟩ : Wfn), _, rfl, rfl,
      by decide +kernel⟩,
    ⟨(⟨3, 0x1000, 4, 0, 0, false, 1, 2, 0, 0, 0, 1⟩ : Wfn), by decide +kernel⟩,
    ⟨(member 4 : State), _, (0 : Fin 72), (5 : BitVec 12), (⟨3, 0x1000, 4, 0, 0, false, 1, 2, 0, 0, 0, 1⟩ : Wfn), _, rfl, rfl,
      by decide +kernel⟩,
    ⟨(member 4 : State), (0 : Fin 72), (5 : BitVec 12), by decide +kernel⟩,
    ⟨(up : State), (0 : Fin 72), by decide +kernel⟩,
    ⟨(late .unreach 1 ((member 4).onFab (fun y => { y with unreach := [(1, 0)] })) : State), _, (1 : Nat), rfl, by decide +kernel⟩,
    ⟨((member 4).onFab (fun y => { y with pinSwap := [(7, 0, 0)] }) : State), (7 : Fin 4096), ((7, 0, 0) : Nat × Nat × Nat),
      by decide +kernel⟩,
    ⟨(fields [(F.BND_BIND_STATE.STATE, 0, 1)] ((member 4).onBnd (fun y =>
      { y with active := { y.active with bind := [(0, (1 + 8 * 2 ^ 18 + 7 * 2 ^ 46))] } })) : State), _, (0 : Fin 72), (5 : BitVec 12),
      ({ src := 3, addr := 0x1000, len := 4, vh := 0, bindIdx := 0, dir := true, reason := 1, failFeid := 2, tFail := 0, fseq := 0, genTag := 0, count := 1 }
      : Wfn), _, ((0, (((1 + 8 * 2 ^ 18 + 7 * 2 ^ 46)) : Bind)) : Nat × Bind), rfl, rfl, by decide +kernel⟩,
    ⟨(member 4 : State), (0 : Fin 72), (6 : BitVec 12), (15 : BitVec 4), by decide +kernel⟩⟩

/-- The hypotheses of GenerationSwap can be met. -/
theorem witness_GenerationSwap :
    (∃ (s : State) (x : Session), s.due .session 0 = true ∧ s.bnd.session = some x ∧ s.bnd.committing = false) ∧
    (∃ (s : State), s.bnd.committing = true) ∧
    (∃ (s : State) (t : State) (found : List (Nat × BitVec 64 × Fin 3)), t = ((s.readSerials (found.map (fun e => (e.1,
      e.2.1)))).readMethods (found.map (fun e => (e.1, e.2.2)))).swap ∧ s.bnd.committing = true ∧ s.validate = none ∧ s.unbindBusy =
      false) ∧
    (∃ (s : State) (t : State) (u : State) (tab : Nat) (i : Nat) (r : Nat), t = (s.onBnd (fun y =>
      { y with committing := false })).useSession ∧ u = ((((t.wr R.BND_GEN_REJECT 0 (BitVec.ofNat 32 (tab + 2 ^ 4 * i + 2 ^ 20 *
      r))).setFld F.BND_GEN_STATUS.LAST_COMMIT 0 1).raise F.BND_EVT.COMMIT_REJECT).finishAny 0x0301 stParam 0xFFFF (leBytes 4 (tab + 2 ^ 4
      * i + 2 ^ 20 * r))) ∧ s.bnd.committing = true ∧ s.validate = some (tab, i, r) ∧ r ≠ 5 ∧ r ≠ 6 ∧ s.unasked = false) ∧
    (∃ (s : State) (t : State), t = ((s.onBnd (fun y => { y with committing := false })).useSession).finishAny 0x0301 stBusy 2 [] ∧
      s.bnd.committing = true ∧ s.validate = none ∧ s.unbindBusy = true ∧ s.unasked = false) ∧
    (∃ (s : State) (t : State) (u : State), t = ((((((s.onBnd (fun y =>
      { y with active := s.bnd.shadow, shadow := s.bnd.active, session := none, committing := false, copying := true })).setFld
      F.BND_GEN_STATUS.ACTIVE_GEN 0 ((s.fld F.BND_GEN_STATUS.ACTIVE_GEN + 1) % 65536)).setFld F.BND_GEN_STATUS.SHADOW_READY 0 0).setFld
      F.BND_GEN_STATUS.SESSION_OPEN 0 0).setFld F.BND_GEN_STATUS.SHADOW_DIRTY 0 0).setFld F.BND_GEN_STATUS.LAST_COMMIT 0 0).disarm
      .session 0 ∧ u = ((((((t.proxyUpdate.each t.proxyUpdate.bindings (fun s e => s.startUnbind e)).bindGens s.bnd.active).pinUpdate
      s.bnd.active).nodeUpdate s.bnd.active).renewPeers.timeUpdate).dropHolds).limitsAgain.raise F.BND_EVT.COMMIT_DONE ∧ s.removed = [] ∧
      s.added = []) ∧
    (∃ (s : State), s.bnd.copying = true) ∧
    (∃ (s : State) (t : State), t = (s.setFld F.BND_GEN_STATUS.QUIESCED 0 1).raise F.BND_EVT.QUIESCED ∧ s.older = 0 ∧ s.flag
      F.BND_GEN_STATUS.QUIESCED = false) ∧
    (∃ (s : State), s.older ≠ 0) ∧
    (∃ (s : State) (t : State), t = s.finishIf (fun o => o.opcode == 0x0303 && s.due .quiesce (s.reqKey o.req.src o.req.tag)) stBusy 2
      (leBytes 4 s.older) ∧ s.older ≠ 0) :=
  ⟨⟨(late .session 0 (session .rings up) : State), ({ holder := .rings, lastUse := 0 } : Session), by decide +kernel⟩,
    ⟨((up).onBnd (fun y => { y with committing := true }) : State), by decide +kernel⟩,
    ⟨((up).onBnd (fun y => { y with committing := true }) : State), _, ([] : List (Nat × BitVec 64 × Fin 3)), rfl, by decide +kernel⟩,
    ⟨(((up).onCrb (fun y => { y with outst := [{ opcode := 0x0301, req := ask 0 [], accepted := true }] })).onBnd (fun y =>
      { y with committing := true, shadow := { y.shadow with bind := [(0, 1)] } }) : State), _, _, (0 : Nat), (0 : Nat), (1 : Nat), rfl,
      rfl, by decide +kernel⟩,
    ⟨((bound 0 4 1 ((up).onCrb (fun y => { y with outst := [{ opcode := 0x0301, req := ask 0 [], accepted := true }] }))).onBnd (fun y =>
      { y with committing := true }) : State), _, rfl, by decide +kernel⟩,
    ⟨(up : State), _, _, rfl, rfl, by decide +kernel⟩,
    ⟨((up).onBnd (fun y => { y with copying := true }) : State), by decide +kernel⟩,
    ⟨(fields [(F.BND_GEN_STATUS.QUIESCED, 0, 0)] up : State), _, rfl, by decide +kernel⟩,
    ⟨(churned [pktB] up : State), by decide +kernel⟩,
    ⟨(churned [pktB] up : State), _, rfl, by decide +kernel⟩⟩

/-- The hypotheses of DataMover can be met. -/
theorem witness_DataMover :
    (∃ (s : State) (f : Fin 2048) (q : Fin 256), s.hasQueue f q = true) ∧
    (∃ (s : State) (f : Fin 2048) (q : Fin 256), s.hasQueue f q = false) ∧
    (∃ (s : State) (f : Fin 2048) (q : Fin 256), s.hasQueue f q = true) ∧
    (∃ (s : State) (f : Fin 2048) (q : Fin 256), s.hasQueue f q = false) ∧
    (∃ (s : State) (f : Fin 2048) (q : Fin 256) (bi : Nat), s.hasQueue f q = true ∧ 6 ≤ s.fld F.Q_CFG.DESC_LOG2 (256 * f + q) ∧ s.fld
      F.Q_CFG.DESC_LOG2 (256 * f + q) ≤ 16 ∧ 6 ≤ s.fld F.Q_CFG.CPL_LOG2 (256 * f + q) ∧ s.fld F.Q_CFG.CPL_LOG2 (256 * f + q) ≤ 16 ∧ s.flag
      F.Q_CFG.INT_EN (256 * f + q) = false ∧ s.fnRuns f = some bi) ∧
    (∃ (s : State) (f : Fin 2048) (q : Fin 256), s.hasQueue f q = true ∧ s.fld F.Q_CFG.DESC_LOG2 (256 * f + q) < 6 ∧ s.qState (256 * f +
      q) = 0) ∧
    (∃ (s : State) (t : State) (f : Fin 2048) (q : Fin 256), t = s.setFld F.Q_CTRL.ENABLE (256 * f + q) 0 ∧ s.hasQueue f q = true ∧
      t.qState (256 * f + q) ≠ 0) ∧
    (∃ (s : State) (f : Fin 2048) (q : Fin 256) (most : Fin 16) (code : Fin 8) (bi : Nat) (i : Nat) (n : Nat) (h : Nat) (k : Nat) (base :
      Nat) (size : Nat → Nat), i = 256 * f + q ∧ n = 2 ^ s.fld F.Q_CFG.DESC_LOG2 i ∧ h = s.fld F.Q_DESC_HEAD.HEAD i % n ∧ k = min (min
      (most.val + 1) ((s.fld F.Q_DESC_TAIL.TAIL i + n - h) % n)) (min (s.cplFree i - (s.descsOf i).length) (65536 - s.svc.descs.length)) ∧
      base = s.pair R.Q_DESC_BASE_LO R.Q_DESC_BASE_HI i / 64 * 64 ∧ size = (fun a => min (s.dmSize bi (min code (s.fld F.SVC_CFG.MRRS)) a)
      (toBound a)) ∧ s.fnRuns f = some bi ∧ s.carries = true ∧ s.qState i = 1 ∧ s.svc.own = [] ∧ 1 ≤ k) ∧
    (∃ (s : State) (f : Fin 2048) (q : Fin 256), s.qState (256 * f + q) ≠ 1) ∧
    (∃ (s : State) (t : State) (u : State) (f : Fin 2048) (q : Fin 256) (slot : Nat) (bi : Nat) (d : DmDesc) (e : DmDesc), t = s.dmRun ∧ u
      = (t.closeDesc bi d).closeDesc bi e ∧ t.fnRuns f = some bi ∧ (t.descsOf (256 * f + q)).find? (fun (d : DmDesc) => d.slot == slot) =
      some d ∧ t.carries = true ∧ (t.closeDesc bi d).svc.descs.find? (fun (x : DmDesc) => x.name == d.name) = some e) ∧
    (∃ (s : State) (d : DmDesc), d.closed = false ∧ s.descEnded d = true ∧ s.writesLeft d = true ∧ d.flush = false) ∧
    (∃ (s : State) (t : State) (f : Fin 2048) (q : Fin 256), t = (s.onSvc (fun y =>
      { y with unsignalled := drop (256 * f + q) y.unsignalled })).disarm .coalesce (256 * f + q) ∧ s.due .coalesce (256 * f + q) = true ∧
      t.flag F.Q_CFG.INT_EN (256 * f + q) = true) ∧
    (∃ (s : State) (f : Nat) (q : Nat) (bi : Nat) (i : Nat) (n : Nat) (h : Nat) (c : DmChunk) (d : DmDesc) (b : _), i = 256 * f + q ∧ n =
      2 ^ s.fld F.Q_CFG.DESC_LOG2 i ∧ s.fnRuns f = some bi ∧ s.qState i = 1 ∧ h < n ∧ c.bytesAt (32 * h) 32 = some b ∧ d =
      { fn := f, q := q, slot := h, name := s.svc.nextName, words := BitVec.ofNat 256 (bodyNat b 0 32) }) ∧
    (∃ (s : State) (t : State) (f : Nat) (q : Nat) (bi : Nat) (i : Nat) (n : Nat) (h : Nat) (c : DmChunk), i = 256 * f + q ∧ n = 2 ^ s.fld
      F.Q_CFG.DESC_LOG2 i ∧ t = ((s.onSvc (fun y =>
      { y with descs := y.descs ++ [{ fn := f, q := q, slot := h, name := s.svc.nextName, words := 0, status := some 0x0A, closed := true }], nextName := y.nextName + 1 })).setFld
      F.Q_DESC_HEAD.HEAD i h).bump R.SVC_FETCH_FAIL_CNT ∧ s.fnRuns f = some bi ∧ s.qState i = 1 ∧ h < n ∧ c.bytesAt (32 * h) 32 = none) :=
  ⟨⟨(fields [(F.SVC_QMAP.ASSIGNED, 0, 1), (F.Q_CFG.DESC_LOG2, 0, 6), (F.Q_CFG.CPL_LOG2, 0, 6)] up : State), (0 : Fin 2048), (0 : Fin
      256), by decide +kernel⟩,
    ⟨(up : State), (0 : Fin 2048), (0 : Fin 256), by decide +kernel⟩,
    ⟨(fields [(F.SVC_QMAP.ASSIGNED, 0, 1), (F.Q_CFG.DESC_LOG2, 0, 6), (F.Q_CFG.CPL_LOG2, 0, 6)] up : State), (0 : Fin 2048), (0 : Fin
      256), by decide +kernel⟩,
    ⟨(up : State), (0 : Fin 2048), (0 : Fin 256), by decide +kernel⟩,
    ⟨(fields [(F.SVC_QMAP.ASSIGNED, 0, 1), (F.Q_CFG.DESC_LOG2, 0, 6), (F.Q_CFG.CPL_LOG2, 0, 6)] up : State), (0 : Fin 2048), (0 : Fin
      256), (4096 : Nat), by decide +kernel⟩,
    ⟨(fields [(F.SVC_QMAP.ASSIGNED, 0, 1), (F.Q_CFG.DESC_LOG2, 0, 5), (F.Q_CFG.CPL_LOG2, 0, 6)] up : State), (0 : Fin 2048), (0 : Fin
      256), by decide +kernel⟩,
    ⟨(fields [(F.Q_STATUS.STATE, 0, 1)] (fields [(F.SVC_QMAP.ASSIGNED, 0, 1), (F.Q_CFG.DESC_LOG2, 0, 6), (F.Q_CFG.CPL_LOG2, 0, 6)] up) :
      State), _, (0 : Fin 2048), (0 : Fin 256), rfl, by decide +kernel⟩,
    ⟨((fields [(F.Q_STATUS.STATE, 0, 1), (F.Q_DESC_TAIL.TAIL, 0, 1)] (fields [(F.SVC_QMAP.ASSIGNED, 0, 1), (F.Q_CFG.DESC_LOG2, 0, 6),
      (F.Q_CFG.CPL_LOG2, 0, 6)] up)).setHost 0 (.fn 0) .busMaster 1 : State), (0 : Fin 2048), (0 : Fin 256), (0 : Fin 16), (0 : Fin 8),
      (4096 : Nat), _, _, _, _, _, _, rfl, rfl, rfl, rfl, rfl, rfl, by decide +kernel⟩,
    ⟨(up : State), (0 : Fin 2048), (0 : Fin 256), by decide +kernel⟩,
    ⟨((fields [(F.SVC_QMAP.ASSIGNED, 0, 1), (F.Q_CFG.DESC_LOG2, 0, 6), (F.Q_CFG.CPL_LOG2, 0, 6)] up).onSvc (fun y =>
      { y with descs := [({ fn := 0, q := 0, slot := 0, name := 0, words := 0 } : DmDesc)] }) : State), _, _, (0 : Fin 2048), (0 : Fin
      256), (0 : Nat), (4096 : Nat), (((((State.dmRun ((fields [(F.SVC_QMAP.ASSIGNED, 0, 1), (F.Q_CFG.DESC_LOG2, 0, 6), (F.Q_CFG.CPL_LOG2,
      0, 6)] up).onSvc (fun y => { y with descs := [({ fn := 0, q := 0, slot := 0, name := 0, words := 0 } : DmDesc)] })))).descsOf
      0).find? (fun (d : DmDesc) => d.slot == 0)).get (by decide +kernel) : DmDesc), (((((State.dmRun ((fields [(F.SVC_QMAP.ASSIGNED, 0,
      1), (F.Q_CFG.DESC_LOG2, 0, 6), (F.Q_CFG.CPL_LOG2, 0, 6)] up).onSvc (fun y =>
      { y with descs := [({ fn := 0, q := 0, slot := 0, name := 0, words := 0 } : DmDesc)] })))).closeDesc 4096 (((((State.dmRun ((fields
      [(F.SVC_QMAP.ASSIGNED, 0, 1), (F.Q_CFG.DESC_LOG2, 0, 6), (F.Q_CFG.CPL_LOG2, 0, 6)] up).onSvc (fun y =>
      { y with descs := [({ fn := 0, q := 0, slot := 0, name := 0, words := 0 } : DmDesc)] })))).descsOf 0).find? (fun (d : DmDesc) =>
      d.slot == 0)).get (by decide +kernel))).svc.descs.find? (fun (x : DmDesc) => x.name == 0)).get (by decide +kernel) : DmDesc), rfl,
      rfl, by decide +kernel⟩,
    ⟨((fields [(F.SVC_QMAP.ASSIGNED, 0, 1), (F.Q_CFG.DESC_LOG2, 0, 6), (F.Q_CFG.CPL_LOG2, 0, 6)] up).onSvc (fun y =>
      { y with descs := [({ fn := 0, q := 0, slot := 0, name := 0, words := 0 } : DmDesc)] }) : State),
      (({ fn := 0, q := 0, slot := 0, name := 0, words := 0 } : DmDesc) : DmDesc), by decide +kernel⟩,
    ⟨(late .coalesce 0 (fields [(F.Q_CFG.INT_EN, 0, 1)] (fields [(F.SVC_QMAP.ASSIGNED, 0, 1), (F.Q_CFG.DESC_LOG2, 0, 6),
      (F.Q_CFG.CPL_LOG2, 0, 6)] up)) : State), _, (0 : Fin 2048), (0 : Fin 256), rfl, by decide +kernel⟩,
    ⟨(fields [(F.Q_STATUS.STATE, 0, 1)] up : State), (0 : Nat), (0 : Nat), (4096 : Nat), _, _, (0 : Nat), (⟨0, 0, 0, 32, [], [(0, leBytes
      32 0)], none⟩ : DmChunk), ({ fn := 0, q := 0, slot := 0, name := 0, words := 0 } : DmDesc), leBytes 32 0, rfl, rfl,
      by decide +kernel⟩,
    ⟨(fields [(F.Q_STATUS.STATE, 0, 1)] up : State), _, (0 : Nat), (0 : Nat), (4096 : Nat), _, _, (0 : Nat), (⟨0, 0, 0, 32, [], [], some
      0⟩ : DmChunk), rfl, rfl, rfl, by decide +kernel⟩⟩

/-- The hypotheses of Tracing can be met. -/
theorem witness_Tracing :
    (∃ (s : State) (f : Fin 2048) (k : Fin 8) (c : _), s.ctxOf f k = some c ∧ s.trcState c = 0) ∧
    (∃ (s : State) (f : Fin 2048) (k : Fin 8), s.ctxOf f k = none) ∧
    (∃ (s : State) (t : State) (f : Fin 2048) (k : Fin 8) (c : Nat), t = s.setFld F.TS_CTRL.ENABLE (8 * f + k) 0 ∧ s.ctxOf f k = some c ∧
      s.trcState c = 1) ∧
    (∃ (s : State) (t : State) (f : Fin 2048) (k : Fin 8) (c : Nat), t = s.setFld F.TS_CTRL.ENABLE (8 * f + k) 0 ∧ s.ctxOf f k = some c ∧
      s.trcState c = 3) ∧
    (∃ (s : State) (f : Fin 2048) (k : Fin 8) (c : Nat), s.ctxOf f k = some c ∧ s.trcState c = 1) ∧
    (∃ (s : State) (f : Fin 2048) (k : Fin 8) (c : Nat), s.ctxOf f k = some c ∧ s.trcState c = 2) ∧
    (∃ (s : State) (t : State) (u : State) (c : Fin 512) (b : Fin 2) (n : Nat) (bi : Nat) (old : BitVec 512) (l : TraceLine) (q : Tlp), t
      = (s.onSvc (fun y => { y with lines := y.lines.filter (fun (x : TraceLine) => x != l) })).disarm .traceAge (lineKey c b n) ∧ q =
      { kind := .mwr, addr := s.bufBase c b + 64 * n, len := 64, data := leBytes 64 (old ||| l.bits).toNat } ∧ u = t.issue
      { t.upPlan bi 145 0 q true (t.upPolicer (t.bind bi)) t.ownFeid with bitmap := true } q q.addr (2 ^ 64) ∧ s.dueLine c b n = some l ∧
      (s.svc.lines.filter (fun (x : TraceLine) => x != l)).any (fun (x : TraceLine) => x.isFor c b n) = false ∧ s.fnRuns (s.fld
      F.SVC_TRC_CFG.OWNER c) = some bi ∧ t.isDeviceEnd (t.bind bi) = false ∧ t.masterOff bi = false ∧ 64 ≤ wroteBytes t u) ∧
    (∃ (s : State) (c : Fin 512) (b : Fin 2) (n : Nat) (l : TraceLine), s.dueLine c b n = some l ∧ (s.svc.lines.filter (fun (x :
      TraceLine) => x != l)).any (fun (x : TraceLine) => x.isFor c b n) = false) ∧
    (∃ (s : State) (g : Fin 8) (j : Fin 64) (c : Nat) (b : Fin 2) (n : Nat), c = 8 * j + g ∧ (s.dueLine c b n = none ∨ s.ownReading (· ==
      .line c b n) = true)) ∧
    (∃ (s : State) (t : State) (u : State) (g : Fin 8) (j : Fin 64) (c : Nat), c = 8 * j + g ∧ t = (s.onSvc (fun y =>
      { y with swapRead := drop c y.swapRead, swaps := drop c y.swaps })).setFld F.SVC_TRC_STATUS.ACTIVE_BUF c (1 - s.fld
      F.SVC_TRC_STATUS.ACTIVE_BUF c) ∧ u = ((((t.setFld F.SVC_TRC_STATUS.EPOCH c (t.fld F.SVC_TRC_STATUS.EPOCH c + 1)).setFld
      F.SVC_TRC_STATUS.PREV_OOR c (t.fld F.SVC_TRC_STATUS.OUT_OF_RANGE c)).setFld F.SVC_TRC_STATUS.OUT_OF_RANGE c 0).setFld
      F.SVC_TRC_STATUS.STATE c 1) ∧ look c s.svc.swapRead = some true) ∧
    (∃ (s : State) (g : Fin 8) (j : Fin 64) (c : Nat) (b : Fin 2) (n : Nat) (l : TraceLine) (bi : _), c = 8 * j + g ∧ s.dueLine c b n =
      some l ∧ s.ownReading (· == .line c b n) = false ∧ s.fnRuns (s.fld F.SVC_TRC_CFG.OWNER c) = some bi) ∧
    (∃ (s : State) (g : Fin 8) (j : Fin 64) (c : Nat) (b : Fin 2) (n : Nat) (l : TraceLine), c = 8 * j + g ∧ s.dueLine c b n = some l ∧
      s.ownReading (· == .line c b n) = false ∧ s.fnRuns (s.fld F.SVC_TRC_CFG.OWNER c) = none) ∧
    (∃ (s : State) (g : Fin 8) (j : Fin 64) (c : Nat), c = 8 * j + g ∧ look c s.svc.swapRead = some false) ∧
    (∃ (s : State) (g : Fin 8) (j : Fin 64) (c : Nat), c = 8 * j + g ∧ look c s.svc.swapRead = none) :=
  ⟨⟨(fields [(F.SVC_TRC_CFG.ASSIGNED, 0, 1), (F.SVC_TRC_STATUS.STATE, 0, 0)] up : State), (0 : Fin 2048), (0 : Fin 8), (0 : Nat),
      by decide +kernel⟩,
    ⟨(up : State), (0 : Fin 2048), (0 : Fin 8), by decide +kernel⟩,
    ⟨(fields [(F.SVC_TRC_CFG.ASSIGNED, 0, 1), (F.SVC_TRC_STATUS.STATE, 0, 1)] up : State), _, (0 : Fin 2048), (0 : Fin 8), (0 : Nat), rfl,
      by decide +kernel⟩,
    ⟨(fields [(F.SVC_TRC_CFG.ASSIGNED, 0, 1), (F.SVC_TRC_STATUS.STATE, 0, 3)] up : State), _, (0 : Fin 2048), (0 : Fin 8), (0 : Nat), rfl,
      by decide +kernel⟩,
    ⟨(fields [(F.SVC_TRC_CFG.ASSIGNED, 0, 1), (F.SVC_TRC_STATUS.STATE, 0, 1)] up : State), (0 : Fin 2048), (0 : Fin 8), (0 : Nat),
      by decide +kernel⟩,
    ⟨(fields [(F.SVC_TRC_CFG.ASSIGNED, 0, 1), (F.SVC_TRC_STATUS.STATE, 0, 2)] up : State), (0 : Fin 2048), (0 : Fin 8), (0 : Nat),
      by decide +kernel⟩,
    ⟨(((fields [(F.SVC_TRC_CFG.ASSIGNED, 0, 1), (F.SVC_TRC_STATUS.STATE, 0, 1)] edgeFree).onSvc (fun y =>
      { y with lines := [⟨0, 0, 0, 1, 0, 0, true⟩] })).setHost 0 (.fn 0) .busMaster 1 : State), _, _, (0 : Fin 512), (0 : Fin 2), (0 :
      Nat), (4096 : Nat), (0 : BitVec 512), (⟨0, 0, 0, 1, 0, 0, true⟩ : TraceLine), _, rfl, rfl, rfl, by decide +kernel⟩,
    ⟨((up).onSvc (fun y => { y with lines := [⟨0, 0, 0, 1, 0, 0, true⟩] }) : State), (0 : Fin 512), (0 : Fin 2), (0 : Nat), (⟨0, 0, 0, 1,
      0, 0, true⟩ : TraceLine), by decide +kernel⟩,
    ⟨(up : State), (0 : Fin 8), (0 : Fin 64), _, (0 : Fin 2), (0 : Nat), rfl, by decide +kernel⟩,
    ⟨((fields [(F.SVC_TRC_CFG.ASSIGNED, 0, 1), (F.SVC_TRC_STATUS.STATE, 0, 2)] up).onSvc (fun y => { y with swapRead := [(0, true)] }) :
      State), _, _, (0 : Fin 8), (0 : Fin 64), _, rfl, rfl, rfl, by decide +kernel⟩,
    ⟨((fields [(F.BND_BIND_STATE.STATE, 4096, 1)] (fields [(F.SVC_TRC_CFG.ASSIGNED, 0, 1), (F.SVC_TRC_STATUS.STATE, 0, 1)] up)).onSvc (fun
      y => { y with lines := [(⟨0, 0, 0, 0, 0, 0, true⟩ : TraceLine)] }) : State), (0 : Fin 8), (0 : Fin 64), _, (0 : Fin 2), (0 : Nat),
      ((⟨0, 0, 0, 0, 0, 0, true⟩ : TraceLine) : TraceLine), 4096, rfl, by decide +kernel⟩,
    ⟨((bound 0 1 (1 + 8 * 2 ^ 18) (fields [(F.SVC_TRC_CFG.ASSIGNED, 0, 1), (F.SVC_TRC_STATUS.STATE, 0, 1)] up)).onSvc (fun y =>
      { y with lines := [(⟨0, 0, 0, 0, 0, 0, true⟩ : TraceLine)] }) : State), (0 : Fin 8), (0 : Fin 64), _, (0 : Fin 2), (0 : Nat), ((⟨0,
      0, 0, 0, 0, 0, true⟩ : TraceLine) : TraceLine), rfl, by decide +kernel⟩,
    ⟨((fields [(F.SVC_TRC_CFG.ASSIGNED, 0, 1), (F.SVC_TRC_STATUS.STATE, 0, 2)] up).onSvc (fun y => { y with swapRead := [(0, false)] }) :
      State), (0 : Fin 8), (0 : Fin 64), _, rfl, by decide +kernel⟩,
    ⟨(up : State), (0 : Fin 8), (0 : Fin 64), _, rfl, by decide +kernel⟩⟩

/-- The hypotheses of ResetsAndBoot can be met. -/
theorem witness_ResetsAndBoot :
    (∃ (s : State) (t : State), t = s.onPins (fun y => { y with perst := false }) ∧ s.mode = .reset ∧ s.pins.tripped = false ∧ s.pins.aux
      = true ∧ s.pins.core = true ∧ s.pins.sds = true ∧ s.pins.sdsA = true ∧ s.pins.io = true) ∧
    (∃ (s : State) (t : State), t = s.onPins (fun y => { y with core := true, sds := true, sdsA := true, io := true }) ∧ s.mode = .reset ∧
      s.pins.perst = false ∧ s.pins.tripped = false ∧ s.pins.aux = true) ∧
    (∃ (s : State), s.pins.perst = false ∧ s.pins.aux = true) ∧
    (∃ (s : State), s.mode ≠ .boot) ∧
    (∃ (s : State), s.pins.aux = true) ∧
    (∃ (s : State) (t : State) (u : State) (ok : Bool), t = s.setFld F.SEC_BOOT_STATUS.RESULT_A 0 (s.imageResult 0 ok) ∧ u = t.bump
      R.SEC_IMAGE_FAIL_CNT ∧ s.mode = .boot ∧ s.bootNext = some 0 ∧ 1 < s.imageState 0) ∧
    (∃ (s : State) (t : State) (ok : Bool), t = (s.setFld F.SEC_BOOT_STATUS.RESULT_B 0 (s.imageResult 1 ok)).bump R.SEC_IMAGE_FAIL_CNT ∧
      s.mode = .boot ∧ s.bootNext = some 1 ∧ 1 < s.imageState 1 ∧ s.imageResult 1 ok ≠ 1 ∧ t.bootNext = none) ∧
    (∃ (s : State) (bad : List (Fin 256)), s.mode = .boot ∧ s.runningImage ≠ 3 ∧ (s.banksTested (bad.map (·.val))).mode = .safeHold) ∧
    (∃ (s : State) (t : State) (a : State) (b : State) (c : State) (d : State) (e : State) (f : State) (g : State) (h : State) (k : State)
      (bad : List (Fin 256)) (m : Mode), t = s.banksTested (bad.map (·.val)) ∧ a = (if t.fld F.PWR_AUX_STATUS.LAST_RESET = 3 then t else
      t.boardAtBoot.setFld F.PWR_MODE_CFG.RESUME_MODE 0 2) ∧ m = Mode.ofCode (if a.fld F.PWR_AUX_STATUS.LAST_RESET = 3 then a.fld
      F.PWR_MODE_CFG.RESUME_MODE else a.fld F.PWR_MODE_CFG.START_MODE) ∧ (b = (if m = .transparent ∨ m = .maintenance then
      a.fixComposition else a)) ∧ c = (if m = .maintenance then b.setFld F.PWR_STATUS.ENTERED_FROM 0 2 else b) ∧ d = (c.onBnd (fun y =>
      { y with shadow := y.active, copying := false })).setFld F.BND_GEN_STATUS.SHADOW_READY 0 1 ∧ e = (d.each (List.range 36) (fun s x =>
      s.showLive x)).each d.bindings (fun s x => s.putIn x) ∧ f = (if m = .fabric then (e.enterMode m).fabEnter else e.enterMode m) ∧ g =
      (f.setFld F.MGT_CRB_STATUS.FW_READY 0 1).refSense ∧ h = (if g.flag F.SEC_BOOT_STATUS.FALLBACK = true then (g.arm .rotation 0 (ms
      (g.fld F.CHN_ROT_CTRL.INTERVAL_MS))).raise F.SEC_EVT.FALLBACK else g.arm .rotation 0 (ms (g.fld F.CHN_ROT_CTRL.INTERVAL_MS))) ∧ k =
      (if h.pins.sag = true then h.sagOn else h) ∧ s.mode = .boot ∧ s.runningImage ≠ 3 ∧ t.mode ≠ .safeHold) :=
  ⟨⟨(({ State.reset with now := 1000 }).onPins (fun y => { y with core := true, sds := true, sdsA := true, io := true, aux := true }) :
      State), _, rfl, by decide +kernel⟩,
    ⟨(({ State.reset with now := 1000 }).onPins (fun y => { y with aux := true, perst := false }) : State), _, rfl, by decide +kernel⟩,
    ⟨((up).onPins (fun y => { y with aux := true, perst := false }) : State), by decide +kernel⟩,
    ⟨(up : State), by decide +kernel⟩,
    ⟨((up).onPins (fun y => { y with aux := true }) : State), by decide +kernel⟩,
    ⟨({ State.reset with mode := .boot } : State), _, _, (false : Bool), rfl, rfl, by decide +kernel⟩,
    ⟨(fields [(F.SEC_BOOT_STATUS.RESULT_A, 0, 2)] ({ State.reset with mode := .boot }) : State), _, (false : Bool), rfl,
      by decide +kernel⟩,
    ⟨(fields ((F.SEC_BOOT_STATUS.RUNNING, 0, 0) :: (List.range 8).map (fun b => (F.CHN_BANK_STATE.STATE, b, 6)))
      ({ State.reset with mode := .boot }) : State), ([9] : List (Fin 256)), by decide +kernel⟩,
    ⟨(fields [(F.SEC_BOOT_STATUS.RUNNING, 0, 0)] ({ State.reset with mode := .boot }) : State), _, _, _, _, _, _, _, _, _, _, ([] : List
      (Fin 256)), _, rfl, rfl, rfl, rfl, rfl, rfl, rfl, rfl, rfl, rfl, rfl, by decide +kernel⟩⟩

/-- The hypotheses of WatchdogsAndHeat can be met. -/
theorem witness_WatchdogsAndHeat :
    (∃ (s : State) (t : State), t = s.fired .lookup ∧ s.mode ≠ .reset ∧ t.mode ≠ .safeHold) ∧
    (∃ (s : State) (t : State), t = ((s.fired .malacel).spendInjection 0x0604 0).journal 0x0604 {} ∧ s.mode ≠ .reset ∧ t.firedIn 9 0 (ms
      60000) < 3) ∧
    (∃ (s : State), s.mode ≠ .reset) ∧
    (∃ (s : State) (t : State) (u : WatchUnit), t = s.onErr (fun y =>
      { y with firings := ((watchCode u).1, (watchCode u).2, s.now) :: y.firings.filter (fun f => decide (s.now < f.2.2 + ms 60000)) })) ∧
    (∃ (s : State) (t : State) (g : Fin 12) (v : BitVec 9), t = ((s.setFld F.PWR_THERM_REG.TEMP g v.toNat).setFld F.PWR_THERM_REG.WARN g
      0).setFld F.PWR_THERM_REG.THROTTLED g 0 ∧ s.mode ≠ .reset ∧ s.flag F.PWR_THERM_REG.WARN g = false ∧ s.flag F.PWR_THERM_REG.THROTTLED
      g = false ∧ v.toInt < s.fld F.PWR_THERM_CFG.WARN_C ∧ v.toInt < s.fld F.PWR_THERM_CFG.THROTTLE_C ∧ (t.setFld F.PWR_STATUS.THROTTLING
      0 (b2n ((List.range 12).any (fun r => t.flag F.PWR_THERM_REG.THROTTLED r)))).warm g = false) ∧
    (∃ (s : State) (t : State) (u : State) (g : Fin 12) (v : BitVec 9), t = ((s.setFld F.PWR_THERM_REG.TEMP g v.toNat).setFld
      F.PWR_THERM_REG.WARN g 1).setFld F.PWR_THERM_REG.THROTTLED g 1 ∧ u = ((t.setFld F.PWR_STATUS.THROTTLING 0 (b2n ((List.range 12).any
      (fun r => t.flag F.PWR_THERM_REG.THROTTLED r)))).raise F.PWR_EVT.THERM_WARN).raise F.PWR_EVT.THERM_THROTTLE ∧ s.mode ≠ .reset ∧
      s.flag F.PWR_THERM_REG.WARN g = false ∧ s.flag F.PWR_THERM_REG.THROTTLED g = false ∧ (s.fld F.PWR_THERM_CFG.WARN_C : Int) ≤ v.toInt
      ∧ (s.fld F.PWR_THERM_CFG.THROTTLE_C : Int) ≤ v.toInt ∧ u.warm g = true) ∧
    (∃ (s : State), s.pwr.testing = true ∧ s.mode ≠ .safeHold) :=
  ⟨⟨(up : State), _, rfl, by decide +kernel⟩,
    ⟨(up : State), _, rfl, by decide +kernel⟩,
    ⟨(up : State), by decide +kernel⟩,
    ⟨(up : State), _, (.lookup : WatchUnit), rfl⟩,
    ⟨(up : State), _, (0 : Fin 12), (0 : BitVec 9), rfl, by decide +kernel⟩,
    ⟨(up : State), _, _, (0 : Fin 12), (255 : BitVec 9), rfl, rfl, by decide +kernel⟩,
    ⟨((maint).onPwr (fun y => { y with testing := true }) : State), by decide +kernel⟩⟩

/-- The hypotheses of DrowseAndVoltage can be met. -/
theorem witness_DrowseAndVoltage :
    (∃ (s : State), s.transition = false ∧ s.due .autoIdle 0 = true ∧ s.idleCheck.running .autoIdle 0 = true) ∧
    (∃ (s : State), s.transition = false ∧ s.due .autoIdle 0 = false) ∧
    (∃ (s : State) (c : Nat) (i : Nat), s.pwr.drowse = .waiting ∧ s.firstRefuser = some (c, i) ∧ s.due .drowseWait 0 = true) ∧
    (∃ (s : State) (c : Nat) (i : Nat), s.pwr.drowse = .waiting ∧ s.firstRefuser = some (c, i) ∧ s.due .drowseWait 0 = false) ∧
    (∃ (s : State), s.pwr.drowse = .waiting ∧ s.firstRefuser = none) ∧
    (∃ (s : State) (t : State) (id : BitVec 12), t = (s.wakeRecord 1 id.toNat).disarm .wake 0 ∧ s.pwr.drowse = .asleep ∧ bits (s.rd
      R.PWR_WAKE_EN).toNat 1 1 = 1) ∧
    (∃ (s : State), bits (s.rd R.PWR_WAKE_EN).toNat 1 1 = 0) ∧
    (∃ (s : State), s.due .wake 0 = true) ∧
    (∃ (s : State), s.due .wake 0 = false) ∧
    (∃ (s : State) (up : Bool) (n : Nat), s.pwr.avs = some (.drowse, up, n)) ∧
    (∃ (s : State) (up : Bool) (n : Nat), s.pwr.avs = some (.wake, up, n)) ∧
    (∃ (s : State) (t : State) (n : Nat), t = (s.onPwr (fun y => { y with sds := none })).disarm .avs 1 ∧ s.pwr.sds = some n) ∧
    (∃ (s : State) (up : Bool) (n : Nat), s.due .avs 0 = true ∧ s.pwr.avs = some (.policy, up, n) ∧ n < 3) ∧
    (∃ (s : State) (up : Bool) (n : Nat), s.due .avs 0 = true ∧ s.pwr.avs = some (.policy, up, n) ∧ 3 ≤ n) ∧
    (∃ (s : State) (up : Bool) (n : Nat), s.pwr.avs = some (.drowse, up, n) ∧ s.due .avs 0 = true) ∧
    (∃ (s : State) (up : Bool) (n : Nat), s.pwr.avs = some (.drowse, up, n) ∧ s.due .avs 0 = false) ∧
    (∃ (s : State) (r : Regulator), s.mode ≠ .reset ∧ s.mode ≠ .boot ∧ s.pwr.regulators = [r]) ∧
    (∃ (s : State) (t : State), t = s.onPins (fun y => { y with sag := true }) ∧ s.mode ≠ .reset ∧ s.mode ≠ .boot ∧ t.flag
      F.PWR_STATUS.SAG = false) ∧
    (∃ (s : State) (t : State), t = s.onPins (fun y => { y with sag := false }) ∧ t.flag F.PWR_STATUS.SAG = true) :=
  ⟨⟨(late .autoIdle 0 (fields [(F.PWR_DROWSE_CFG.AUTO_EN, 0, 1)] up) : State), by decide +kernel⟩,
    ⟨(up : State), by decide +kernel⟩,
    ⟨(late .drowseWait 0 (((session .rings up).onBnd (fun y => { y with committing := true })).onPwr (fun y =>
      { y with drowse := .waiting })) : State), (((State.firstRefuser (((session .rings up).onBnd (fun y =>
      { y with committing := true })).onPwr (fun y => { y with drowse := .waiting }))).get (by decide +kernel)).1 : Nat),
      (((State.firstRefuser (((session .rings up).onBnd (fun y => { y with committing := true })).onPwr (fun y =>
      { y with drowse := .waiting }))).get (by decide +kernel)).2 : Nat), by decide +kernel⟩,
    ⟨(((session .rings up).onBnd (fun y => { y with committing := true })).onPwr (fun y => { y with drowse := .waiting }) : State),
      (((State.firstRefuser (((session .rings up).onBnd (fun y => { y with committing := true })).onPwr (fun y =>
      { y with drowse := .waiting }))).get (by decide +kernel)).1 : Nat), (((State.firstRefuser (((session .rings up).onBnd (fun y =>
      { y with committing := true })).onPwr (fun y => { y with drowse := .waiting }))).get (by decide +kernel)).2 : Nat),
      by decide +kernel⟩,
    ⟨(fields [(F.BND_GEN_STATUS.SHADOW_READY, 0, 1)] ((up).onPwr (fun y => { y with drowse := .waiting })) : State), by decide +kernel⟩,
    ⟨(fields [] ((up).onPwr (fun y => { y with drowse := .asleep }))|>.wr R.PWR_WAKE_EN 0 2 : State), _, (0 : BitVec 12), rfl,
      by decide +kernel⟩,
    ⟨(up.wr R.PWR_WAKE_EN 0 0 : State), by decide +kernel⟩,
    ⟨(late .wake 0 up : State), by decide +kernel⟩,
    ⟨(up : State), by decide +kernel⟩,
    ⟨((up).onPwr (fun y => { y with avs := some (.drowse, false, 0) }) : State), (false : Bool), (0 : Nat), by decide +kernel⟩,
    ⟨((up).onPwr (fun y => { y with avs := some (.wake, true, 0) }) : State), (true : Bool), (0 : Nat), by decide +kernel⟩,
    ⟨((up).onPwr (fun y => { y with sds := some 0 }) : State), _, (0 : Nat), rfl, by decide +kernel⟩,
    ⟨(late .avs 0 ((up).onPwr (fun y => { y with avs := some (.policy, false, 0) })) : State), (false : Bool), (0 : Nat),
      by decide +kernel⟩,
    ⟨(late .avs 0 ((up).onPwr (fun y => { y with avs := some (.policy, false, 3) })) : State), (false : Bool), (3 : Nat),
      by decide +kernel⟩,
    ⟨(late .avs 0 ((up).onPwr (fun y => { y with avs := some (.drowse, false, 0) })) : State), (false : Bool), (0 : Nat),
      by decide +kernel⟩,
    ⟨((up).onPwr (fun y => { y with avs := some (.drowse, false, 0) }) : State), (false : Bool), (0 : Nat), by decide +kernel⟩,
    ⟨((up).onPwr (fun y => { y with regulators := [⟨0, 64, 0, 0, 0, 0⟩] }) : State), (⟨0, 64, 0, 0, 0, 0⟩ : Regulator), by decide +kernel⟩,
    ⟨(up : State), _, rfl, by decide +kernel⟩,
    ⟨(fields [(F.PWR_STATUS.SAG, 0, 1)] up : State), _, rfl, by decide +kernel⟩⟩

/-- The hypotheses of TimeAndCrossings can be met. -/
theorem witness_TimeAndCrossings :
    (∃ (s : State) (t : State), t = (((s.onPwr (fun y => { y with ppsOffsets := [ppsOffset s.tb.toNat] })).arm .pps 0 (ms 2000)).wr
      R.PWR_TB_OFFSET 0 (BitVec.ofInt 32 (ppsOffset s.tb.toNat))) ∧ s.mode ≠ .reset ∧ s.pwr.ppsOffsets = [] ∧ t.fld F.PWR_TB_CFG.SRC = 0) ∧
    (∃ (s : State) (t : State), t = (((s.onPwr (fun y => { y with ppsOffsets := [ppsOffset s.tb.toNat] })).arm .pps 0 (ms 2000)).wr
      R.PWR_TB_OFFSET 0 (BitVec.ofInt 32 (ppsOffset s.tb.toNat))) ∧ s.mode ≠ .reset ∧ s.pwr.ppsOffsets = [] ∧ t.fld F.PWR_TB_CFG.SRC = 1) ∧
    (∃ (s : State) (t : State), t = (s.disarm .pps 0).onPwr (fun y => { y with ppsOffsets := [] }) ∧ s.due .pps 0 = true ∧ t.flag
      F.PWR_TB_STATUS.PPS_LOCK = true) ∧
    (∃ (s : State) (t : State) (q0 : BitVec 16) (q1 : BitVec 16) (q2 : BitVec 16) (q3 : BitVec 16) (n : BitVec 16) (e : BitVec 16) (u :
      BitVec 16) (w : BitVec 16) (l : List Nat), l = [q0.toNat, q1.toNat, q2.toNat, q3.toNat, n.toNat, e.toNat, u.toNat, w.toNat] ∧ t =
      (s.onPwr (fun y => { y with replicas := l })).setFld F.PWR_CORE_DELAY.CORE_DELAY_FACTOR 0 (largest l).1 ∧ s.mode ≠ .reset ∧ s.mode ≠
      .drowse) ∧
    (∃ (l : List Nat) (x : Nat), x ∈ l) ∧
    (∃ (c : Fin 64), c.val ≠ 0) ∧
    (∃ (s : State) (k : Nat) (v : ValueChan) (h : Word) (n : Word), look k s.pwr.values = some v ∧ v.hold = some h ∧ v.next = some n) ∧
    (∃ (s : State) (d : Fin 40) (c : Fin 64) (e : EventChan), look (64 * d + c) s.pwr.events = some e ∧ e.pend < 65535 ∧ e.ovf = false) ∧
    (∃ (e : EventChan) (n : Nat), 65535 ≤ e.pend + n) ∧
    (∃ (s : State) (d : Fin 40) (c : Fin 64) (q : QueueChan) (w : Word) (l : List Word), look (64 * d + c) s.pwr.queues = some q ∧
      q.entries = w :: l) ∧
    (∃ (s : State) (t : State) (d : Fin 40), t = s.onPwr (fun y =>
      { y with queues := y.queues.map (fun e => if e.1 / 64 == d.val then (e.1, { e.2 with entries := [] }) else e), values := y.values.map (fun e => if e.1 / 64 == d.val then (e.1, { hold := none, next := none, dest := e.2.next <|> e.2.hold <|> e.2.dest }) else e) })) ∧
    (∃ (s : State) (t : State) (d : Fin 40), t = s.onPwr (fun y =>
      { y with queues := y.queues.map (fun e => if e.1 / 64 == d.val then (e.1, { e.2 with entries := [] }) else e), values := y.values.map (fun e => if e.1 / 64 == d.val then (e.1, { e.2 with hold := none, next := none }) else e), events := y.events.map (fun e => if e.1 / 64 == d.val then (e.1, { e.2 with pend := 0, ovf := false }) else e) })) ∧
    (∃ (s : State) (d : Fin 40), d.val ≠ 37 ∧ s.flag F.PWR_XD_STATUS.IN_RESET d = false) :=
  ⟨⟨(fields [(F.PWR_TB_CFG.SRC, 0, 0)] up : State), _, rfl, by decide +kernel⟩,
    ⟨(fields [(F.PWR_TB_CFG.SRC, 0, 1)] up : State), _, rfl, by decide +kernel⟩,
    ⟨(late .pps 0 (fields [(F.PWR_TB_STATUS.PPS_LOCK, 0, 1)] up) : State), _, rfl, by decide +kernel⟩,
    ⟨(up : State), _, (700 : BitVec 16), (710 : BitVec 16), (720 : BitVec 16), (730 : BitVec 16), (740 : BitVec 16), (750 : BitVec 16),
      (760 : BitVec 16), (770 : BitVec 16), _, rfl, rfl, by decide +kernel⟩,
    ⟨([3] : List Nat), (3 : Nat), by decide +kernel⟩,
    ⟨(1 : Fin 64), by decide +kernel⟩,
    ⟨((up).onPwr (fun y => { y with values := [(0, ⟨some 1, some 2, none⟩)] }) : State), (0 : Nat), (⟨some 1, some 2, none⟩ : ValueChan),
      (1 : Word), (2 : Word), by decide +kernel⟩,
    ⟨((up).onPwr (fun y => { y with events := [(0, {})] }) : State), (0 : Fin 40), (0 : Fin 64), ({} : EventChan), by decide +kernel⟩,
    ⟨({ pend := 65535 } : EventChan), (0 : Nat), by decide +kernel⟩,
    ⟨((up).onPwr (fun y => { y with queues := [(0, ⟨[1], none⟩)] }) : State), (0 : Fin 40), (0 : Fin 64), (⟨[1], none⟩ : QueueChan), (1 :
      Word), ([] : List Word), by decide +kernel⟩,
    ⟨(up : State), _, (0 : Fin 40), rfl⟩,
    ⟨(up : State), _, (0 : Fin 40), rfl⟩,
    ⟨(up : State), (0 : Fin 40), by decide +kernel⟩⟩

/-- The hypotheses of SlotSeating can be met. -/
theorem witness_SlotSeating :
    (∃ (s : State) (t : State) (u : State) (g : Fin 24), t = (s.setFld F.SPG_SLOT_STATE.PRSNT_L g 1).setFld F.SPG_SLOT_STATE.PRSNT_S g 1 ∧
      u = (t.onGuard g (fun y => { y with seatedAt := some t.now })).arm .debounce g (ms (t.fld F.SPG_SLOT_TIME.DEBOUNCE_MS g)) ∧ s.seated
      g = false ∧ t.gState g = gEmpty) ∧
    (∃ (s : State) (t : State) (u : State) (g : Fin 24) (l : Bool), t = (s.setFld F.SPG_SLOT_STATE.PRSNT_L g (b2n l)).setFld
      F.SPG_SLOT_STATE.PRSNT_S g 0 ∧ u = ((t.onGuard g (fun y => { y with seatedAt := none })).setFld F.SPG_SLOT_STATE.CONFIRMED g
      0).disarm .debounce g ∧ s.seated g = true ∧ u.powered g = true) ∧
    (∃ (s : State) (t : State) (g : Fin 24), t = ((s.disarm .debounce g).setFld F.SPG_SLOT_STATE.CONFIRMED g 1).raise
      F.SPG_SLOT_EVT.CONFIRMED g ∧ s.due .debounce g = true ∧ s.seated g = true ∧ t.gState g = gDebounce) ∧
    (∃ (s : State) (g : Fin 24), s.due .debounce g = false) ∧
    (∃ (s : State) (t : State) (g : Fin 24), t = s.onGuard g (fun y => { y with faultIn := true }) ∧ t.mode ≠ .reset ∧ t.powered g = true) ∧
    (∃ (s : State) (t : State) (g : Fin 24), t = s.onGuard g (fun y => { y with faultIn := true }) ∧ t.mode ≠ .reset ∧ t.powered g = false
      ∧ t.gJustRemoved g = false) ∧
    (∃ (s : State) (t : State) (g : Fin 24), t = s.onGuard g (fun y => { y with faultIn := true }) ∧ t.mode ≠ .reset ∧ t.powered g = false
      ∧ t.gJustRemoved g = true) ∧
    (∃ (s : State) (g : Fin 24) (f : BitVec 64), s.mode ≠ .reset ∧ s.gState g ≠ gDisabled ∧ s.goodFrame g f = false) ∧
    (∃ (s : State) (g : Fin 24), s.mode ≠ .reset ∧ s.gState g = gDisabled) ∧
    (∃ (s : State) (t : State) (g : Nat), t = (((s.bump R.SPG_SLOT_SSB_ERR_CNT g).onGuard g (fun y =>
      { y with bad := y.bad + 1, good := 0 })).setFld F.SPG_SLOT_STATE.SENSE_OK g 0).raise F.SPG_SLOT_EVT.SENSE_LOST g ∧ t.gState g = gOn
      ∧ ((((s.bump R.SPG_SLOT_SSB_ERR_CNT g).onGuard g (fun y => { y with bad := y.bad + 1, good := 0 })).setFld F.SPG_SLOT_STATE.SENSE_OK
      g 0).guard g).bad = 4) ∧
    (∃ (s : State) (g : Fin 24) (f : BitVec 64), s.mode ≠ .reset ∧ s.gState g ≠ gDisabled ∧ s.goodFrame g f = true ∧ s.injected 0x0701 g =
      false ∧ s.injected 0x0702 g = false) :=
  ⟨⟨(fields [(F.SPG_SLOT_STATE.STATE, 0, gEmpty)] (up) : State), _, _, (0 : Fin 24), rfl, rfl, by decide +kernel⟩,
    ⟨(fields [(F.SPG_SLOT_STATE.PRE_EN, 0, 1)] (fields [(F.SPG_SLOT_STATE.PRSNT_L, 0, 1), (F.SPG_SLOT_STATE.PRSNT_S, 0, 1)] up) : State),
      _, _, (0 : Fin 24), (false : Bool), rfl, rfl, by decide +kernel⟩,
    ⟨(late .debounce 0 (fields [(F.SPG_SLOT_STATE.PRSNT_L, 0, 1), (F.SPG_SLOT_STATE.PRSNT_S, 0, 1)] (fields [(F.SPG_SLOT_STATE.STATE, 0,
      gDebounce)] (up))) : State), _, (0 : Fin 24), rfl, by decide +kernel⟩,
    ⟨(up : State), (0 : Fin 24), by decide +kernel⟩,
    ⟨(fields [(F.SPG_SLOT_STATE.PRE_EN, 0, 1)] up : State), _, (0 : Fin 24), rfl, by decide +kernel⟩,
    ⟨(up : State), _, (0 : Fin 24), rfl, by decide +kernel⟩,
    ⟨((fields [(F.SPG_SLOT_STATE.STATE, 0, gRetry)] (up) |> fields [(F.SPG_SLOT_FAULT.CLASS, 0, 9)]).arm .retry 0 (ms ((up).fld
      F.SPG_SLOT_RETRY.RETRY_MS 0)) : State), _, (0 : Fin 24), rfl, by decide +kernel⟩,
    ⟨(fields [(F.SPG_SLOT_STATE.STATE, 0, gOn)] (up) : State), (0 : Fin 24), (1 : BitVec 64), by decide +kernel⟩,
    ⟨(fields [(F.SPG_SLOT_STATE.STATE, 0, gDisabled)] (up) : State), (0 : Fin 24), by decide +kernel⟩,
    ⟨((fields [(F.SPG_SLOT_STATE.STATE, 0, gOn)] (up)).onGuard 0 (fun y => { y with bad := 3 }) : State), _, (0 : Nat), rfl,
      by decide +kernel⟩,
    ⟨(fields [(F.SPG_SLOT_STATE.STATE, 0, gOn)] (up) : State), (0 : Fin 24), (BitVec.ofNat 64 (256 * (1 + 2) + crc8 (frameBits
      (BitVec.ofNat 64 768) 63 8)) : BitVec 64), by decide +kernel⟩⟩

/-- The hypotheses of SlotPowering can be met. -/
theorem witness_SlotPowering :
    (∃ (s : State) (g : Fin 24), s.due .proofing g = true ∧ s.gState g = gProofing) ∧
    (∃ (s : State) (g : Fin 24), s.due .proofing g = false) ∧
    (∃ (s : State) (g : Fin 24), s.due .ramp g = true ∧ s.gState g = gRamp ∧ 100 * s.fld F.SPG_SLOT_TELEM0.VOUT g < 95 * s.fld
      F.SPG_SLOT_ELEC.VIN_MV g) ∧
    (∃ (s : State) (t : State) (g : Fin 24), t = ((s.disarm .ramp g).gSet g gOn).onGuard g (fun y => { y with wanted := false }) ∧ s.due
      .ramp g = true ∧ s.gState g = gRamp ∧ 95 * s.fld F.SPG_SLOT_ELEC.VIN_MV g ≤ 100 * s.fld F.SPG_SLOT_TELEM0.VOUT g) ∧
    (∃ (s : State) (t : State) (g : Fin 24), t = (s.disarm .perst g).setFld F.SPG_SLOT_STATE.PERST_REL g 1 ∧ s.due .perst g = true ∧
      s.gState g = gOn ∧ t.mayReleasePerst (s.gPort g) = true) ∧
    (∃ (s : State) (g : Fin 24), s.due .retry g = true ∧ s.gState g = gRetry ∧ s.seated g = false) ∧
    (∃ (s : State) (g : Fin 24), s.due .retry g = true ∧ s.gState g = gRetry ∧ s.seated g = true) ∧
    (∃ (s : State) (g : Fin 24), s.due .powerGate g = true ∧ (s.guard g).offing = true) ∧
    (∃ (s : State) (g : Fin 24), s.due .powerOff g = true ∧ (s.guard g).offing = true) ∧
    (∃ (s : State) (g : Fin 24), s.due .powerOff g = false) ∧
    (∃ (s : State) (g : Fin 24) (e : Nat × Bool), s.due .slotRequest g = true ∧ s.gState g = gEmpty ∧ (s.guard g).asks = [e]) ∧
    (∃ (s : State) (g : Fin 24) (t : Nat) (v : Nat) (c : Bool) (l : List (Nat × Bool)), s.due .slotRequest g = true ∧ s.gState g = gEmpty
      ∧ (s.guard g).asks = (t, false) :: (v, c) :: l) ∧
    (∃ (s : State) (t : State) (g : Fin 24) (bi : Nat) (b : Bind), t = s.arm .slotReport g (ms 10) ∧ s.gState g = gOn ∧ s.due .slotReport
      g = true ∧ t.gBinding g = some (bi, b) ∧ t.isDeviceEnd b = true) ∧
    (∃ (s : State) (g : Fin 24), s.gState g ≠ gOn) ∧
    (∃ (s : State) (t : State) (u : State) (g : Nat), t = (((s.gRecord g 0x0701).raise F.SPG_SLOT_EVT.FAULT g).bump R.SPG_SLOT_FAULT_CNT
      g).gPowerFault g ∧ u = t.onGuard g (fun y =>
      { y with faults := t.now :: t.gRecent g, wanted := false, asks := [], offing := false }) ∧ 3 ≤ (u.gRecent g).length) :=
  ⟨⟨(late .proofing 0 (fields [(F.SPG_SLOT_STATE.STATE, 0, gProofing)] (up)) : State), (0 : Fin 24), by decide +kernel⟩,
    ⟨(up : State), (0 : Fin 24), by decide +kernel⟩,
    ⟨(late .ramp 0 (fields [(F.SPG_SLOT_ELEC.VIN_MV, 0, 100), (F.SPG_SLOT_TELEM0.VOUT, 0, 5)] (fields [(F.SPG_SLOT_STATE.STATE, 0, gRamp)]
      (up))) : State), (0 : Fin 24), by decide +kernel⟩,
    ⟨(late .ramp 0 (fields [(F.SPG_SLOT_ELEC.VIN_MV, 0, 100), (F.SPG_SLOT_TELEM0.VOUT, 0, 95)] (fields [(F.SPG_SLOT_STATE.STATE, 0,
      gRamp)] (up))) : State), _, (0 : Fin 24), rfl, by decide +kernel⟩,
    ⟨(late .perst 0 (fields [(F.SPG_SLOT_STATE.STATE, 0, gOn)] (port 0 1 0 0 up)) : State), _, (0 : Fin 24), rfl, by decide +kernel⟩,
    ⟨(late .retry 0 (fields [(F.SPG_SLOT_STATE.STATE, 0, gRetry)] (up)) : State), (0 : Fin 24), by decide +kernel⟩,
    ⟨(late .retry 0 (fields [(F.SPG_SLOT_STATE.PRSNT_L, 0, 1), (F.SPG_SLOT_STATE.PRSNT_S, 0, 1)] (fields [(F.SPG_SLOT_STATE.STATE, 0,
      gRetry)] (up))) : State), (0 : Fin 24), by decide +kernel⟩,
    ⟨(late .powerGate 0 (up.onGuard 0 (fun y => { y with offing := true })) : State), (0 : Fin 24), by decide +kernel⟩,
    ⟨(late .powerOff 0 (up.onGuard 0 (fun y => { y with offing := true })) : State), (0 : Fin 24), by decide +kernel⟩,
    ⟨(up : State), (0 : Fin 24), by decide +kernel⟩,
    ⟨(late .slotRequest 0 ((fields [(F.SPG_SLOT_STATE.STATE, 0, gEmpty)] (up)).onGuard 0 (fun y => { y with asks := [(5, true)] })) :
      State), (0 : Fin 24), ((5, true) : Nat × Bool), by decide +kernel⟩,
    ⟨(late .slotRequest 0 ((fields [(F.SPG_SLOT_STATE.STATE, 0, gEmpty)] (up)).onGuard 0 (fun y =>
      { y with asks := [(5, false), (6, true)] })) : State), (0 : Fin 24), (5 : Nat), (6 : Nat), (true : Bool), ([] : List (Nat × Bool)),
      by decide +kernel⟩,
    ⟨(late .slotReport 0 (fields [(F.SPG_SLOT_STATE.STATE, 0, gOn)] (bound 0 1 (1 + 0 * 2 ^ 18 + 7 * 2 ^ 46) up)) : State), _, (0 : Fin
      24), (0 : Nat), ((1 + 0 * 2 ^ 18 + 7 * 2 ^ 46) : Bind), rfl, by decide +kernel⟩,
    ⟨(fields [(F.SPG_SLOT_STATE.STATE, 0, gEmpty)] (up) : State), (0 : Fin 24), by decide +kernel⟩,
    ⟨(up.onGuard 0 (fun y => { y with faults := [1000000000, 1000000000, 1000000000] }) : State), _, _, (0 : Nat), rfl, rfl,
      by decide +kernel⟩⟩

/-- The hypotheses of FirmwareUpdate can be met. -/
theorem witness_FirmwareUpdate :
    (∃ (s : State) (t : State) (o : Nat) (b : List Byte) (l : List (Nat × List Byte)), t = (s.eraseFor s.openImage o
      b.length).flashProgram (slotBase s.openImage + o) b ∧ s.openImage ≠ 3 ∧ s.sec.queue = (o, b) :: l) ∧
    (∃ (s : State), s.sec.queue = []) ∧
    (∃ (s : State) (t : State) (i : Nat) (r : Nat) (ok : Bool), r = s.imageResult i ok ∧ t = (if r = 1 then s else s.bump
      R.SEC_IMAGE_FAIL_CNT).setImage i (if r = 1 then 3 else 2) ∧ s.sec.finishing = some i ∧ s.sec.queue = [] ∧ (List.range 128).filter
      (fun k => s.sec.size ≤ sector * k && s.holdsData i k) = []) ∧
    (∃ (s : State), s.sec.finishing = none) :=
  ⟨⟨({ (fields [(F.SEC_IMAGE_STATE.OPEN, 0, 1)] maint) with sec := { queue := [(0, [1])] } } : State), _, (0 : Nat), ([1] : List Byte),
      ([] : List (Nat × List Byte)), rfl, by decide +kernel⟩,
    ⟨(up : State), by decide +kernel⟩,
    ⟨({ maint with sec := { finishing := some 1 } } : State), _, (1 : Nat), _, (true : Bool), rfl, rfl, by decide +kernel⟩,
    ⟨(up : State), by decide +kernel⟩⟩

/-- The hypotheses of Attestation can be met. -/
theorem witness_Attestation :
    (∃ (s : State) (m : Fin 3) (eid : BitVec 8) (q : Requester) (x : State), q = .mctp m eid ∧ x = (s.mctpWake q).bump R.SEC_SPDM_REQ_CNT
      ∧ s.firmwareUp = true ∧ s.mode ≠ .drowse) ∧
    (∃ (s : State) (m : Fin 3) (eid : BitVec 8) (q : Requester) (x : State), q = .mctp m eid ∧ x = (s.mctpWake q).bump R.SEC_SPDM_REQ_CNT
      ∧ s.firmwareUp = true ∧ s.mode ≠ .drowse) ∧
    (∃ (v : BitVec 8) (c : BitVec 8), v ≠ 0x13 ∧ c ≠ 0x84) ∧
    (∃ (s : State) (q : Requester), (s.conn q).level ≠ 3) ∧
    (∃ (s : State), s.firmwareUp = true ∧ s.mode = .drowse) ∧
    (∃ (s : State), s.firmwareUp = false) :=
  ⟨⟨(up : State), (0 : Fin 3), (0 : BitVec 8), _, _, rfl, rfl, by decide +kernel⟩,
    ⟨(up : State), (0 : Fin 3), (0 : BitVec 8), _, _, rfl, rfl, by decide +kernel⟩,
    ⟨(0x12 : BitVec 8), (0xE0 : BitVec 8), by decide +kernel⟩,
    ⟨(up : State), (.rings : Requester), by decide +kernel⟩,
    ⟨({ up with mode := .drowse } : State), by decide +kernel⟩,
    ⟨(fields [(F.MGT_CRB_STATUS.FW_READY, 0, 0)] up : State), by decide +kernel⟩⟩

/-- The hypotheses of TestAccessPort can be met. -/
theorem witness_TestAccessPort :
    (∃ (s : State), s.pins.perst = true) ∧
    (∃ (s : State), s.pins.perst = false) :=
  ⟨⟨((up).onPins (fun y => { y with perst := true }) : State), by decide +kernel⟩,
    ⟨((up).onPins (fun y => { y with perst := false }) : State), by decide +kernel⟩⟩

end Sys2Proof.Tests
end

section
/-! SUPPORT. What a write of a field, a count and an event bit leave in the registers (R12, R297, R315). -/

namespace Sys2Proof.Laws

open Machine

/-! ## Fields -/

/-- The word a field's write leaves, which has room for the field. -/
theorem rd_setFld_same {s : State} {f : Fld} {i v : Nat} (h : rising s.regs = true) (hf : f.lo + f.width ≤ 32) :
    ((s.setFld f i v).rd f.reg i).toNat = setBits (s.rd f.reg i).toNat f.lo f.width v := by
  rw [State.setFld, rd_wr_same h, BitVec.toNat_ofNat, Nat.mod_eq_of_lt (setBits_lt (s.rd f.reg i).isLt hf)]

/-- A field holds what was written, to its width. -/
theorem fld_setFld_same {s : State} {f : Fld} {i v : Nat} (h : rising s.regs = true) (hf : f.lo + f.width ≤ 32) :
    (s.setFld f i v).fld f i = v % 2 ^ f.width := by
  rw [State.fld, rd_setFld_same h hf, bits_setBits_same]

/-- A field's write leaves the fields beside it in its register. -/
theorem fld_setFld_beside {s : State} {f g : Fld} {i v : Nat} (h : rising s.regs = true) (hf : f.lo + f.width ≤ 32)
    (hg : g.reg = f.reg) (hd : g.lo + g.width ≤ f.lo ∨ f.lo + f.width ≤ g.lo) : (s.setFld f i v).fld g i = s.fld g i := by
  rw [State.fld, hg, rd_setFld_same h hf, bits_setBits_other hd, State.fld, hg]

/-! ## Words by their storage offset -/

/-- A write of a register changes no word at another offset. -/
theorem regAt_wr_other {s : State} {r : RegDesc} {i a : Nat} {v d : Word} (h : a ≠ r.addr i) :
    regAt (s.wr r i v).regs a d = regAt s.regs a d := by
  simp only [State.wr, regAt]
  split
  · rw [look_drop_ne _ h]
  · rw [look_put_ne _ h]

/-- The word in which a bit was set. -/
theorem regAt_setBitAt_same (s : State) (a b : Nat) :
    regAt (s.setBitAt a b).regs a 0 = regAt s.regs a 0 ||| BitVec.ofNat 32 (2 ^ b) := by
  simp only [State.setBitAt, regAt, look_put_same, Option.getD_some]

/-- Setting a bit changes no register at another place. -/
theorem rd_setBitAt_other {s : State} {r : RegDesc} {i a b : Nat} (h : a ≠ r.addr i) : (s.setBitAt a b).rd r i = s.rd r i := by
  simp only [State.rd, State.setBitAt, regAt, look_put_ne _ h.symm]

/-! ## Counters (R315) -/

/-- A count of nothing. -/
@[simp] theorem bumpBy_zero (s : State) (r : RegDesc) (i : Nat) : s.bumpBy r i 0 = s := rfl

/-- A count that stays below the largest value. -/
theorem bumpBy_below {s : State} {r : RegDesc} {i n : Nat} (hn : n ≠ 0) (h : (s.rd r i).toNat + n < 0xFFFFFFFF) :
    s.bumpBy r i n = s.wr r i (BitVec.ofNat 32 ((s.rd r i).toNat + n)) := by
  simp only [State.bumpBy, if_neg hn, if_pos h]

/-- A count that reaches the largest value, of a counter with an OVF bit. -/
theorem bumpBy_full {s : State} {r : RegDesc} {i n a b : Nat} (hn : n ≠ 0) (hk : r.kind = .sat (some (a, b)))
    (h : 0xFFFFFFFF ≤ (s.rd r i).toNat + n) : s.bumpBy r i n = (s.wr r i 0xFFFFFFFF).setBitAt a b := by
  simp only [State.bumpBy, if_neg hn, if_neg (Nat.not_lt.mpr h), hk]

/-! ## Event bits (R297) -/

/-- An event bit that is 1 raises nothing. -/
theorem raise_of_set {s : State} {f : Fld} {i : Nat} (h : s.flag f i = true) : s.raise f i = s := by
  simp only [State.raise, h, if_true]

/-- An event bit that becomes 1, in a block without an enable register. -/
theorem raise_of_clear_noEnable {s : State} {f : Fld} {i : Nat} (h : s.flag f i = false) (he : enableFor f = none) :
    s.raise f i = s.setFld f i 1 := by
  simp only [State.raise, h, he, Bool.false_eq_true, if_false]

end Sys2Proof.Laws
end

section
/-! SUPPORT. Direct accesses (R10 to R12): which words an access by its byte enables writes, what a read returns, and that nothing
happens at an offset no register occupies. -/

namespace Sys2Proof.Laws

open Machine

/-! ## The commands of direct accesses -/

theorem exec_registerWrite (fn : Option (Fin 2048)) (off : BitVec 26) (be : BitVec 8) (data : BitVec 64) (s : State) :
    exec (.registerWrite fn off be data) s = .next (s.access (fn.map (·.val)) off.toNat be.toNat data.toNat) := rfl

theorem exec_counterLoRead {s : State} (off : BitVec 26) (h : s.mode ≠ .reset) :
    exec (.counterLoRead off) s = .next (s.directRead off.toNat) := by
  show execCounterLoRead off s = _
  rw [execCounterLoRead, if_neg h]

theorem exec_hwmRead {s : State} (off : BitVec 26) (h : s.mode ≠ .reset) :
    exec (.hwmRead off) s = .next (s.directRead off.toNat) := by
  show execHwmRead off s = _
  rw [execHwmRead, if_neg h]

theorem exec_tableWindowWrite {s : State} {off : BitVec 26} {t : Table} {i b : Nat} (be : BitVec 4) (value : BitVec 32)
    (h : s.mode ≠ .reset) (hw : windowAt (off.toNat / 4 * 4) = some (t, i, b)) :
    exec (.tableWindowWrite off be value) s =
      .next (s.writeTable t i b (enabledBits be.toNat) value.toNat (off.toNat / 4 * 4)) := by
  show execTableWindowWrite off be value s = _
  rw [execTableWindowWrite, if_neg h, hw]

/-! ## Which words an access writes -/

/-- The offset of a word is its own word's. -/
theorem wordOffset_idem (o : Nat) : o / 4 * 4 / 4 * 4 = o / 4 * 4 := by omega

/-- The offset of the word above a word. -/
theorem wordOffset_above (o : Nat) : (o / 4 * 4 + 4) / 4 * 4 = o / 4 * 4 + 4 := by omega

variable {s : State} {off be data : Nat}

/-- An access with enables in its lower word alone writes that word. -/
theorem access_lower (hm : s.mode ≠ .reset) (hb : be / 16 = 0) :
    s.access none off be data = s.directWrite (off / 4 * 4) (enabledBits be) (data % 2 ^ 32) := by
  simp only [State.access, if_neg hm, if_pos hb]

/-- The same through a function's own interface. -/
theorem access_lower_fn {f : Nat} (hm : s.mode ≠ .reset) (hb : be / 16 = 0) :
    s.access (some f) off be data =
      s.writeAt (fnOffset f (off / 4 * 4)) (off / 4 * 4) (enabledBits be) (data % 2 ^ 32) := by
  simp only [State.access, if_neg hm, if_pos hb]

/-- An access with enables in its upper word alone writes that word. -/
theorem access_upper (hm : s.mode ≠ .reset) (hu : be / 16 ≠ 0) (hl : be % 16 = 0) :
    s.access none off be data = s.directWrite (off / 4 * 4 + 4) (enabledBits (be / 16)) (data / 2 ^ 32) := by
  simp only [State.access, if_neg hm, if_neg hu, if_pos hl]

/-- All eight bytes: two words, the lower address first. -/
theorem access_wide (hm : s.mode ≠ .reset) :
    s.access none off 0xFF data = (s.directWrite (off / 4 * 4) 0xFFFFFFFF (data % 2 ^ 32)).directWrite
      (off / 4 * 4 + 4) 0xFFFFFFFF (data / 2 ^ 32) := by
  have hc : crossesWord 0xFF = false := by decide
  have he : enabledBits 0xF = 0xFFFFFFFF := by decide
  simp [State.access, hm, hc, he]

/-- An access that crosses a word boundary has enables in its lower word. -/
theorem lower_enabled_of_crossesWord (h : crossesWord be = true) : be % 16 ≠ 0 := by
  simp only [crossesWord, Bool.and_eq_true, bne_iff_ne] at h
  exact h.1.1.1

/-- An access through the management PF that crosses a word boundary is an Unsupported Request. -/
theorem access_crossing (hm : s.mode ≠ .reset) (hu : be / 16 ≠ 0) (hc : crossesWord be = true) :
    s.access none off be data = s.aerLog .mgmtPf .unsupportedRequest true := by
  have hl := lower_enabled_of_crossesWord hc
  simp [State.access, hm, hu, hl, hc]

/-- A write where a register stands acts on its fields, the CO fields last. -/
theorem writeAt_register {a m v : Nat} {r : RegDesc} {i : Nat} (h : findReg a = some (r, i)) :
    s.writeAt a off m v = (s.writeFields r i m v).writeCo r i m v off := by
  simp only [State.writeAt, h]

/-- The same by the BAR0 offset of the word. -/
theorem directWrite_register {m v : Nat} {r : RegDesc} {i : Nat} (h : s.regAtOff (off / 4 * 4) = some (r, i)) :
    s.directWrite (off / 4 * 4) m v = (s.writeFields r i m v).writeCo r i m v (off / 4 * 4) := by
  obtain ⟨a, hp, ha⟩ := Option.bind_eq_some_iff.mp h
  simp only [State.directWrite, wordOffset_idem, hp, writeAt_register ha]

/-! ## Reads of a register -/

/-- A read of a low half latches its high half (R317). -/
theorem readWord_low {r : RegDesc} {i : Nat} (h : s.regAtOff off = some (r, i)) (hl : isLow r = true) :
    s.readWord off = (s.shown r i, { s with latches := put (r.addr i + 4) (s.peek (off + 4)) s.latches }) := by
  simp only [State.readWord, h, hl, if_true]

/-- A read of a high-water mark clears it (R315). -/
theorem readWord_hwm {r : RegDesc} {i : Nat} (h : s.regAtOff off = some (r, i)) (hk : r.kind = .hwm) (hl : isLow r = false)
    (hh : isHigh r = false) : s.readWord off = (s.shown r i, s.resetReg r i) := by
  simp only [State.readWord, h, hl, hh, hk, Bool.false_eq_true, if_false, if_true]

/-! ## Offsets no register occupies (R11) -/

/-- An offset no register occupies has no place, or one at which neither a register nor a window stands. -/
theorem unoccupied_iff : s.unoccupied off = true ↔
    s.placeOf off = none ∨ ∃ a, s.placeOf off = some a ∧ findReg a = none ∧ windowed a = false := by
  unfold State.unoccupied
  cases s.placeOf off with
  | none => simp
  | some a => simp

/-- Outside the windows nothing is shown. -/
theorem windowWord_of_not_windowed {a : Nat} (h : windowed a = false) : s.windowWord a = 0 := by
  simp only [windowed, Bool.or_eq_false_iff, Option.isSome_eq_false_iff, Option.isNone_iff_eq_none] at h
  obtain ⟨⟨⟨⟨⟨⟨⟨hw, hflow⟩, hadmin⟩, hoper⟩, hpfl⟩, hjrnl⟩, -⟩, hfn⟩ := h
  simp only [State.windowWord, hw]
  grind

/-- Outside the windows nothing takes a write. -/
theorem writeWindow_of_not_windowed {a m v : Nat} (h : windowed a = false) : s.writeWindow a m v off = s := by
  simp only [windowed, Bool.or_eq_false_iff, Option.isSome_eq_false_iff, Option.isNone_iff_eq_none] at h
  obtain ⟨⟨⟨⟨⟨⟨⟨hw, -⟩, hadmin⟩, -⟩, -⟩, -⟩, htoken⟩, hfn⟩ := h
  simp only [State.writeWindow, hw]
  grind

/-- A read of an offset no register occupies returns 0 and does nothing else. -/
theorem readWord_of_unoccupied (h : s.unoccupied off = true) : s.readWord off = (0, s) := by
  rcases unoccupied_iff.mp h with hp | ⟨a, hp, hr, hw⟩
  · simp [State.readWord, State.regAtOff, State.peek, hp]
  · simp [State.readWord, State.regAtOff, State.peek, hp, hr, windowWord_of_not_windowed hw]

/-- A write of a word at an offset no register occupies is ignored. -/
theorem directWrite_of_unoccupied {m v : Nat} (hoff : off / 4 * 4 = off) (h : s.unoccupied off = true) :
    s.directWrite off m v = s := by
  rcases unoccupied_iff.mp h with hp | ⟨a, hp, hr, hw⟩
  · simp only [State.directWrite, hoff, hp]
  · simp only [State.directWrite, hoff, hp, State.writeAt, hr, writeWindow_of_not_windowed hw]

/-! ## Table windows (R115) -/

/-- In MAINTENANCE, while the rings hold the session, a write of a table window reaches the shadow. -/
theorem writeTable_shadow {t : Table} {i b m v : Nat} (ht : t = .attach → 144 ≤ i) (hm : s.mode = .maintenance)
    (hr : s.ringsHold = true) :
    s.writeTable t i b m v off = (s.writeShadow t i (entryWord (s.bnd.shadow.entry t i) b m v)).useSession := by
  have hro : ¬(t = .attach ∧ i < 144) := fun h => absurd (ht h.1) (Nat.not_le.mpr h.2)
  simp [State.writeTable, hro, hm, hr]

/-- Otherwise a write that would change an entry is journalled. -/
theorem writeTable_ignored {t : Table} {i b m v : Nat} (ht : t = .attach → 144 ≤ i)
    (hm : s.mode ≠ .maintenance ∨ s.ringsHold = false)
    (hc : entryWord (s.viewBank.entry t i) b m v ≠ s.viewBank.entry t i) :
    s.writeTable t i b m v off = s.journal 0x0606 { detail := off } := by
  have hro : ¬(t = .attach ∧ i < 144) := fun h => absurd (ht h.1) (Nat.not_le.mpr h.2)
  have hno : ¬(s.mode = .maintenance ∧ s.ringsHold = true) := by
    rintro ⟨h1, h2⟩
    rcases hm with h | h
    · exact h h1
    · simp [h] at h2
  simp [State.writeTable, hro, hno, hc]

end Sys2Proof.Laws
end

section
/-! The statements about registers and counters, holes, and direct register access. -/

namespace Sys2Proof.Proofs

open Machine Laws

/-! ## Registers and counters -/

theorem registerHolds : Claims.registerHolds := fun _ _ _ _ h =>
  ⟨rd_wr_same h, rising_wr h, fun _ _ hne => rd_wr_other hne⟩

theorem fieldHolds : Claims.fieldHolds := fun _ _ _ _ _ h hf =>
  ⟨fld_setFld_same h hf, fun hg hd => fld_setFld_beside h hf hg hd⟩

theorem counterSaturates : Claims.counterSaturates := by
  intro s r i n a b hs hk ha
  rcases Nat.eq_zero_or_pos n with rfl | hn
  · have hlt := (s.rd r i).isLt
    refine ⟨by rw [bumpBy_zero]; omega, fun _ h0 => absurd rfl h0, fun _ => by rw [bumpBy_zero]⟩
  · have hn0 : n ≠ 0 := Nat.pos_iff_ne_zero.mp hn
    rcases Nat.lt_or_ge ((s.rd r i).toNat + n) 0xFFFFFFFF with h | h
    · rw [bumpBy_below hn0 h, rd_wr_same hs, regAt_wr_other ha, BitVec.toNat_ofNat]
      refine ⟨by omega, fun h' => by omega, fun _ => rfl⟩
    · rw [bumpBy_full hn0 hk h, rd_setBitAt_other ha, rd_wr_same hs, regAt_setBitAt_same, regAt_wr_other ha]
      refine ⟨by rw [Nat.min_eq_left h]; rfl, fun _ _ => rfl, fun h' => by omega⟩

theorem statisticsWrap : Claims.statisticsWrap := by
  intro s lo hi i n hs hne
  rw [State.stat, rd_wr_same (rising_wr hs), rd_wr_other hne, rd_wr_same hs, BitVec.toNat_ofNat, BitVec.toNat_ofNat]
  omega

theorem refusalsSaturate : Claims.refusalsSaturate := by
  intro s f i n hs hf hw
  rw [State.bump16, fld_setFld_same hs hf, hw]
  omega

theorem eventBit : Claims.eventBit := fun _ _ _ => ⟨raise_of_set, raise_of_clear_noEnable⟩

/-- Settles O4: the clauses are the laws of a register's write, of a field's, of a count by whether it reaches the largest value, and of
an event bit. -/
theorem registersAndCounters : Obligations.RegistersAndCounters :=
  ⟨registerHolds, fieldHolds, counterSaturates, statisticsWrap, refusalsSaturate, eventBit⟩

/-! ## Offsets no register occupies -/

/-- Settles O5: an access there finds neither a register nor a window, so a read returns 0 and each word written is ignored. -/
theorem holesReadZero : Obligations.HolesReadZero := by
  intro s off be data hm hu
  refine ⟨?_, fun hb => ?_, fun hb hu' => ?_⟩
  · rw [exec_counterLoRead off hm, State.directRead, readWord_of_unoccupied hu]
    rfl
  · rw [exec_registerWrite, Option.map_none, access_lower hm hb, directWrite_of_unoccupied (wordOffset_idem _) hu]
  · rw [exec_registerWrite, Option.map_none, hb, access_wide hm, directWrite_of_unoccupied (wordOffset_idem _) hu,
      directWrite_of_unoccupied (wordOffset_above _) hu']

/-! ## Direct register access -/

theorem registerWrite : Claims.registerWrite := by
  rintro s off be data r i m v hm hb hr rfl rfl
  rw [exec_registerWrite, Option.map_none, access_lower hm hb, directWrite_register hr]

theorem registerWriteFn : Claims.registerWriteFn := by
  rintro s f off be data r i m v hm hb hr rfl rfl
  rw [exec_registerWrite, Option.map_some, access_lower_fn hm hb, writeAt_register hr]

theorem registerWriteWide : Claims.registerWriteWide := fun s off data hm => by
  rw [exec_registerWrite, Option.map_none]
  exact congrArg _ (access_wide hm)

theorem registerWriteUpper : Claims.registerWriteUpper := by
  intro s off be data hm hu
  rw [exec_registerWrite, Option.map_none]
  exact ⟨fun hl => congrArg _ (access_upper hm hu hl), fun hc => congrArg _ (access_crossing hm hu hc)⟩

theorem writeRwPlain : Claims.writeRwPlain := by
  intro s r i m w hm h
  simp only [List.any_cons, List.any_nil, Bool.or_eq_false_iff, beq_eq_false_iff_ne, ne_eq] at h
  obtain ⟨h1, h2, h3, h4, h5, h6, h7, h8, -⟩ := h
  simp only [State.writeRw, if_neg hm, if_neg (Ne.symm h1), if_neg (Ne.symm h2), if_neg (Ne.symm h3), if_neg (Ne.symm h4),
    if_neg (Ne.symm h5), if_neg (Ne.symm h6), if_neg (Ne.symm h7), if_neg (Ne.symm h8)]

theorem coIgnored : Claims.coIgnored := by
  intro s r i m v off hm hs hc
  simp only [State.writeCo, hs, Bool.or_false, decide_eq_true_eq, if_neg hc, if_neg hm]

theorem tableWindowWrite : Claims.tableWindowWrite := by
  intro s off be value t i b hw ht hm hr
  rw [exec_tableWindowWrite be value (by simp [hm]) hw, writeTable_shadow ht hm hr]

theorem tableWindowIgnored : Claims.tableWindowIgnored := by
  intro s off be value t i b hw ht hm hn hc
  rw [exec_tableWindowWrite be value hm hw, writeTable_ignored ht hn hc]

theorem counterLoRead : Claims.counterLoRead := by
  rintro s off o r i hm rfl hr hl
  rw [exec_counterLoRead off hm, State.directRead, readWord_low hr hl]

theorem hwmRead : Claims.hwmRead := by
  intro s off r i hm hr hk hl hh
  rw [exec_hwmRead off hm, State.directRead, readWord_hwm hr hk hl hh]

theorem qosGclChange : Claims.qosGclChange := by
  rintro s p cycle base start l rfl rfl rfl hok rfl
  show execQosGclChange p s = _
  simp [execQosGclChange, State.gclChange, hok]

theorem fvValidClear : Claims.fvValidClear := fun _ => rfl

/-- Settles O30: each access comes to the word it writes or reads, and that word to the register or the window that stands there. -/
theorem directRegisterAccess : Obligations.DirectRegisterAccess :=
  ⟨registerWrite, registerWriteFn, registerWriteWide, writeRwPlain, coIgnored, tableWindowWrite, tableWindowIgnored, counterLoRead,
    hwmRead, qosGclChange, fvValidClear, registerWriteUpper⟩

end Sys2Proof.Proofs
end

section
/-! SUPPORT. What the opcodes of Corber do with a live port, an object or a field that is in its range, and with a setting that breaks no
rule (R16, R310, R417). -/

namespace Sys2Proof.Laws

open Machine

variable {s t : State} {q : CrbReq} {f : Nat → Ans} {a : Ans}

/-- A command that brings a ready request answers it once its opcode does. -/
theorem exec_ok {i : Instr} {o : OpInfo} {data : List Byte} (hi : exec i s = .next (s.corber o q)) (hop : opOf o.code = some o)
    (h : s.ready o q = true) (hr : o.run q (s.judged q) = ok t data) : exec i s = .next (t.answered o q data) := by
  rw [hi, corber_ok hop h hr]

/-! ## What a request names -/

theorem port_of_live (hp : q.object < 144) (hl : s.live q.object = true) : q.port s f = f q.object := by
  simp only [CrbReq.port, hp, hl, decide_true, Bool.and_self, if_true]

theorem obj_of_lt {n : Nat} (h : q.object < n) : q.obj n s f = f q.object := if_pos h

/-- A body whose fields are all in their ranges comes to what the opcode does with it. -/
theorem fields_pass {l : List (Bool × Nat)} (h : ∀ e ∈ l, e.1 = true) : fields s l a = a := by
  have hf : l.find? (fun e => !e.1) = none := List.find?_eq_none.mpr fun e he => by simp [h e he]
  rw [fields, hf]

/-! ## Settings -/

/-- A setting that differs from the one in force, and breaks no rule and no precondition of its group, takes effect. -/
theorem change_ok {g : CfgGroup} (hne : t.regs ≠ s.regs) (hp : s.paramFault t g = none) (hs : s.preFault t g = none) :
    s.change t g = ok (s.takeEffect t g) := by
  simp only [State.change, if_neg hne, hp, hs]

/-- A disabled port may take a link index that no other fabric port holds (R17). -/
theorem preFault_link_none {p : Nat} (hd : s.linkState p = 0) (hf : t.indexHolder p = none) : s.preFault t (.link p) = none := by
  simp [State.preFault, hd, hf]

/-! ## SET_CLUSTER (R21, R64) -/

/-- SET_CLUSTER comes to what the setting comes to, unless that is BUSY. -/
theorem opSetCluster_run_notBusy (hc : q.object < 36) (ha : (q.set s (.cluster q.object) (clusterRegs q.object)).status ≠ stBusy) :
    opSetCluster.run q s = q.set s (.cluster q.object) (clusterRegs q.object) := by
  simp only [opSetCluster, obj_of_lt hc, ha, decide_false, Bool.false_and, Bool.false_eq_true, if_false]

/-- BUSY, where a bifurcation would move, aborts the recalibrations of the cluster's ports and is otherwise the setting's answer. -/
theorem opSetCluster_run_busy (hc : q.object < 36) (ha : (q.set s (.cluster q.object) (clusterRegs q.object)).status = stBusy)
    (hm : (List.range 4).any (fun k => bits (q.num (4 + 4 * k) 4) 0 3 != s.fld F.PCL_SLOT_CFG.WIDTH (4 * q.object + k)) = true) :
    opSetCluster.run q s = { q.set s (.cluster q.object) (clusterRegs q.object) with
      s := s.each (List.range 4) (fun s k => s.abortRecal (4 * q.object + k) 5) } := by
  simp only [opSetCluster, obj_of_lt hc, ha, hm, decide_true, Bool.and_self, if_true]

end Sys2Proof.Laws
end

section
/-! The statement about the port opcodes of group 0x02 that show or set a port, a cluster or a lane. -/

namespace Sys2Proof.Proofs

open Machine Laws

/-! ## Ports, clusters and lanes shown -/

theorem getPort : Claims.getPort := fun _ _ h hp hl =>
  exec_ok rfl rfl h (by simp only [opGetPort, port_of_live hp hl, State.showRegs])

theorem getCluster : Claims.getCluster := fun _ _ h hc =>
  exec_ok rfl rfl h (by simp only [opGetCluster, obj_of_lt hc, State.showRegs])

theorem getLane : Claims.getLane := fun _ _ h hl => exec_ok rfl rfl h (by simp only [opGetLane, obj_of_lt hl])

/-! ## A cluster's shape -/

theorem setCluster : Claims.setCluster := by
  intro s q h hc hs
  have hset := set_sound hs
  have hne : (q.set (s.judged q) (.cluster q.object) (clusterRegs q.object)).status ≠ stBusy := by
    simp [hset, ok, stBusy]
  exact exec_ok rfl rfl h ((opSetCluster_run_notBusy hc hne).trans hset)

theorem setClusterBusy : Claims.setClusterBusy := by
  rintro s u t q a - hc rfl hb hm rfl
  rw [opSetCluster_run_busy hc hb hm]
  exact ⟨rfl, hb⟩

/-! ## A port enabled or disabled, its role and its link index -/

theorem portEnable : Claims.portEnable := by
  intro s q h hp hl hn
  have hfit : q.fits 0 1 1 = true := decide_eq_true (Nat.lt_succ_of_le hn)
  refine exec_ok rfl rfl h ?_
  simp only [opPortEnable, port_of_live hp hl]
  exact fields_pass (by simp [hfit])

theorem setRole : Claims.setRole := by
  rintro s u t q rfl rfl h hp hl hrole hproto hne hparam hpre
  refine exec_ok rfl rfl h ?_
  simp only [opSetRole, port_of_live hp hl]
  rw [fields_pass (by simp [hrole, hproto]), change_ok hne hparam hpre]

theorem setLinkIndex : Claims.setLinkIndex := by
  rintro s u t q rfl rfl h hp hl hfab hn hne hd hfree
  refine exec_ok rfl rfl h ?_
  simp only [opSetLinkIndex, port_of_live hp hl, hfab, Bool.not_true, Bool.false_eq_true, if_false]
  rw [fields_pass (by simp [hn]), change_ok hne rfl (preFault_link_none hd hfree)]
  rfl

/-- Settles O19: each request names a port, a cluster or a lane that stands, its fields are in their ranges, and its setting breaks no
rule; so its opcode answers OK with the effect named, or BUSY for a bifurcation that may not move. -/
theorem portOpcodes : Obligations.PortOpcodes :=
  ⟨getPort, getCluster, getLane, setCluster, portEnable, setRole, setLinkIndex, setClusterBusy⟩

end Sys2Proof.Proofs
end

section
/-! SUPPORT. Lanes, links and reference clocks (chapter 02): what each of their operations comes to, by the condition that decides it. -/

namespace Sys2Proof.Laws

open Machine

variable {s t : State} {p l : Nat}

/-! ## Updates under a condition -/

/-- An update whose condition holds. -/
theorem whenb_of_true {c : Bool} {f : State → State} (h : c = true) : s.whenb c f = f s := if_pos h

/-- An update whose condition fails. -/
theorem whenb_of_false {c : Bool} {f : State → State} (h : c = false) : s.whenb c f = s := if_neg (Bool.eq_false_iff.mp h)

/-! ## Pattern generators and checkers (R58, R59) -/

/-- INJ inverts a bit of a generator that runs. -/
theorem prbsInject_generating (hg : s.generating l = true) (hp : s.portOfLane l = some p) :
    s.prbsInject l = s.emit (.link p (.lane l 0 1)) := by
  rw [State.prbsInject, if_pos hg, hp, Option.getD_some]

/-- CLR clears the count and OVF of a lane in TEST. -/
theorem prbsClear_on (h : s.prbsOn l = true) (e : Bool) : s.prbsClear l e =
    (s.setFld F.PCL_PRBS_ERR.ERR_COUNT l (if e && s.checking l && s.flag F.PCL_PRBS_STATUS.LOCK l then 1 else 0)).setFld
      F.PCL_PRBS_STATUS.OVF l 0 := by
  simp only [State.prbsClear, h, Bool.not_true, Bool.false_eq_true, if_false]

/-- An errored word of a locked checker is counted, and the 16th in a row takes the lock away. -/
theorem prbsWord_errored {n v k : Nat} (hc : s.checking l = true) (hl : s.flag F.PCL_PRBS_STATUS.LOCK l = true) (hn : n ≠ 0) (a : Bool)
    (hv : v = s.fld F.PCL_PRBS_ERR.ERR_COUNT l + n)
    (ht : t = (s.setFld F.PCL_PRBS_ERR.ERR_COUNT l (min v 0xFFFFFFFF)).whenb (0xFFFFFFFF ≤ v)
      (fun s => s.setFld F.PCL_PRBS_STATUS.OVF l 1))
    (hk : k = (look l t.pins.prbsRun).getD 0 + 1) :
    s.prbsWord l n a = if k < 16 then t.onPins (fun y => { y with prbsRun := put l k y.prbsRun })
      else ((t.setFld F.PCL_PRBS_STATUS.LOCK l 0).setFld F.PCL_PRBS_STATUS.LOCK_LOST l 1).onPins (fun y => { y with
        prbsRun := drop l y.prbsRun }) := by
  subst hv ht hk
  simp only [State.prbsWord, hc, hl, hn, Bool.not_true, Bool.false_eq_true, if_false, if_true, Nat.succ_ne_zero]

/-- TEST of a disabled live port whose registers can be reached takes effect. -/
theorem portTest_on (hl : s.live p = true) (hc : s.clockRuns (clusterOf p) = true) (ht : t = s.setFld F.PCL_PORT_CTRL.TEST p 1)
    (he : t.flag F.PCL_PORT_CTRL.ENABLE p = false) (hd : t.linkState p = 0) :
    s.portTest p true = (t.linkOff p 6).pllUpdate (clusterOf p) := by
  subst ht
  simp [State.portTest, hl, hc, b2n, he, hd]

/-! ## Receiver adaptation (R55) -/

/-- A write of the control word sets it; without OVERRIDE each value register is then held or let go. -/
theorem rxAdapt_reached {v : Nat} (hc : s.clockRuns (l / 8) = true)
    (ht : t = s.wr R.PCL_LANE_RXADAPT_CTRL l (BitVec.ofNat 32 (Nat.land v R.PCL_LANE_RXADAPT_CTRL.mask))) :
    s.rxAdapt l v = if t.flag F.PCL_LANE_RXADAPT_CTRL.OVERRIDE l then t
      else t.each rxRegs (fun t r => t.rxHold r l (s.flag F.PCL_LANE_RXADAPT_CTRL.OVERRIDE l)) := by
  subst ht
  simp only [State.rxAdapt, hc, Bool.not_true, Bool.false_eq_true, if_false]

/-- Nothing is reached where the rate holds the register at 0, and in a lane that has not trained. -/
theorem rxNow_zero {r : RegDesc} (h : s.rxZero r l = true ∨ s.flag F.PCL_LANE_STATUS.ADAPT_CONVERGED l = false) : s.rxNow r l = 0 := by
  have h' : (s.rxZero r l || !s.flag F.PCL_LANE_STATUS.ADAPT_CONVERGED l) = true := by
    rcases h with h | h <;> simp [h]
  rw [State.rxNow, if_pos h']

/-! ## Links that come up (R22, R50, R57) -/

/-- A link that trains is not up. -/
theorem not_linkUp_of_training (h : s.linkState p = 1 ∨ s.linkState p = 2) : s.linkUp p = false := by
  rcases h with h | h <;> simp [State.linkUp, h]

/-- The status of a lane and the configuration of a port stand at different offsets of their clusters. -/
theorem slotCfg_addr_ne_laneStatus (p l : Nat) : R.PCL_SLOT_CFG.addr p ≠ R.PCL_LANE_STATUS.addr l := by
  simp only [RegDesc.addr, R.PCL_SLOT_CFG, R.PCL_LANE_STATUS]
  omega

/-- The polarity that training finds leaves the configuration of every port. -/
theorem rd_slotCfg_findPolarity (ls : List Nat) :
    (s.each ls State.findPolarity).rd R.PCL_SLOT_CFG p = s.rd R.PCL_SLOT_CFG p := by
  induction ls generalizing s with
  | nil => rfl
  | cons l ls ih =>
    rw [State.each_cons, ih]
    exact rd_setFld_other (slotCfg_addr_ne_laneStatus p l)

/-- A field is read from its register's word. -/
theorem fld_congr {f : Fld} (h : t.rd f.reg p = s.rd f.reg p) : t.fld f p = s.fld f p := by
  rw [State.fld, h, State.fld]

/-- A port's role and whether it is live stand in its configuration. -/
theorem isHostEdge_congr (h : t.rd R.PCL_SLOT_CFG p = s.rd R.PCL_SLOT_CFG p) : t.isHostEdge p = s.isHostEdge p := by
  have hwidth : t.fld F.PCL_SLOT_CFG.WIDTH p = s.fld F.PCL_SLOT_CFG.WIDTH p := fld_congr h
  have hrole : t.fld F.PCL_SLOT_CFG.ROLE p = s.fld F.PCL_SLOT_CFG.ROLE p := fld_congr h
  simp only [State.isHostEdge, State.live, State.role, hwidth, hrole]

/-- A PCI Express link of a host edge that may train, at a rate and width it can have, comes up, and its VH with it. -/
theorem linkTrained_hostEdge {rate width : Nat} {flit rev : Bool} (serials : List (Nat × Nat)) (hm : s.mayTrain p = true)
    (hpr : s.proto p = 0) (hs : s.linkState p = 1 ∨ s.linkState p = 2) (hr0 : rate ≠ 0) (hr : rate ≤ s.rateCap p flit) (hw0 : width ≠ 0)
    (hw : width ≤ (s.lanesOf p).length) (ht : t = s.linkActive p rate width flit false rev) (hh : t.isHostEdge p = true) :
    s.linkTrained p rate width flit false rev serials = (t.each (s.lanesOf p) State.findPolarity).vhUp p := by
  subst ht
  have hedge := (isHostEdge_congr (rd_slotCfg_findPolarity (s.lanesOf p))).trans hh
  have hphase : (decide (s.linkState p = 1) || decide (s.linkState p = 2)) = true := by
    rcases hs with h | h <;> simp [h]
  rw [State.linkTrained, hphase]
  simp [hm, hpr, hr0, hw0, Nat.not_lt.mpr hr, Nat.not_lt.mpr hw, hedge]

/-- A link that trains and was not up takes its transmit settings once it is. -/
theorem linkUpAt_training {rate width : Nat} {flit cxl rev : Bool} {serials : List (Nat × Nat)} {ffe : List (Nat × Word)}
    (hreset : s.mode ≠ .reset) (hboot : s.mode ≠ .boot) (hs : s.linkState p = 1 ∨ s.linkState p = 2)
    (ht : s.linkTrained p rate width flit cxl rev serials = t) :
    s.linkUpAt p rate width flit cxl rev serials ffe = if t.linkUp p then (t.txSettings p ffe).limitAtLinkUp p else t := by
  have hrec : s.linkState p ≠ 4 := by omega
  simp [State.linkUpAt, hreset, hboot, hrec, ht, not_linkUp_of_training hs]

/-- A PCI Express link returns from Recovery with its width, and reports another rate. -/
theorem linkBack_rate {rate w : Nat} (cxl : Bool) (hpr : s.proto p = 0) (hs : s.linkState p = 4) (hr0 : rate ≠ 0)
    (hr : rate ≤ s.rateCap p (s.flag F.PCL_PORT_STATUS.FLIT p)) (hw : w = s.fld F.PCL_PORT_STATUS.WIDTH_NOW p) (hw0 : w ≠ 0)
    (hl : w ≤ (s.lanesOf p).length) (hne : rate ≠ s.fld F.PCL_PORT_STATUS.RATE_NOW p)
    (ht : t = ((((s.abortRecal p 1).setFld F.PCL_PORT_STATUS.STATE p 3).setFld F.PCL_PORT_STATUS.RATE_NOW p rate).setFld
      F.PCL_PORT_STATUS.WIDTH_NOW p w).setFld F.PCL_PORT_STATUS.CXL_ACTIVE p 0) :
    s.linkBack p rate w cxl = (t.raise F.PCL_PORT_EVT.RATE_CHANGE p).demandStep := by
  subst ht
  have hcxl : (s.proto p == 1) = false := by rw [hpr]; rfl
  have hrate : decide (rate ≠ s.fld F.PCL_PORT_STATUS.RATE_NOW p) = true := decide_eq_true hne
  have hwidth : decide (w ≠ s.fld F.PCL_PORT_STATUS.WIDTH_NOW p) = false := decide_eq_false (fun h => h hw)
  rw [State.linkBack, if_neg (by simp [hpr, hs, hr0, Nat.not_lt.mpr hr, hw0, Nat.not_lt.mpr hl])]
  simp only [hcxl, Bool.false_and, b2n, Bool.false_eq_true, if_false, whenb_of_true hrate, whenb_of_false hwidth, whenb_of_false rfl]

/-! ## Widths (R63, R73) -/

/-- A widening toward which no cut-through packet is in progress takes place. -/
theorem widenTo_now {w : Nat} (h : s.cutThroughTo p = false) : s.widenTo p w = s.widenNow p w := by
  simp only [State.widenTo, h, Bool.false_eq_true, if_false]

/-- Without a borrowed half, the lanes above the width are parked. -/
theorem widenNow_parked {w : Nat} (h : s.flag F.PCL_PORT_STATUS.RECAL_BORROW p = false) :
    s.widenNow p w = s.l0pTo p w (s.fullOf p) ((s.lanesOf p).drop w) := by
  simp only [State.widenNow, h, Bool.false_eq_true, if_false]

/-- A borrowed half returns, and the recalibration goes on. -/
theorem widenNow_borrowed {w : Nat} (h : s.flag F.PCL_PORT_STATUS.RECAL_BORROW p = true) :
    s.widenNow p w = (s.l0pTo p (s.fullOf p) (s.fullOf p) []).recalNext p := by
  simp only [State.widenNow, h, if_true]

/-- A request by L0p for a greater width within the full one, on a link whose lanes no recalibration holds. -/
theorem l0pWidth_wider {w : Nat} (ha : s.active p = true) (hpr : s.proto p ≠ 2) (hf : s.flag F.PCL_PORT_STATUS.FLIT p = true)
    (hen : s.flag F.PCL_PORT_CTRL.L0P_EN p = true) (hfull : 2 ≤ s.fullOf p) (hw0 : w ≠ 0) (hw : w ≤ s.fullOf p)
    (hnow : s.fld F.PCL_PORT_STATUS.WIDTH_NOW p < w) (hlist : [1, 2, 4, 8, 16].contains w = true)
    (hb : s.flag F.PCL_PORT_STATUS.RECAL_BORROW p = false) (hmine : s.recalMine p w = false) :
    s.l0pWidth p w = s.widenTo p w := by
  unfold State.l0pWidth
  dsimp only
  rw [if_neg (by simp only [ha, hpr, hf, hen, Nat.not_lt.mpr hfull, hw0, Nat.not_lt.mpr hw, Nat.ne_of_gt hnow, hlist]; simp),
    if_pos (by simp [hnow, hmine]), hb, if_neg Bool.false_ne_true]

/-- The end of a half on a KFL link asks for the restore of its lanes. -/
theorem recalHalf_kfl (hr : s.recalOn p = true) (hb : s.flag F.PCL_PORT_STATUS.RECAL_BORROW p = true) (hpr : s.proto p = 2) :
    s.recalHalf p = s.askRestore (controllerOf p) := by
  simp only [State.recalHalf, hr, hb, hpr, Bool.not_true, Bool.or_self, Bool.false_eq_true, if_false, if_true]

/-- The end of a half on a PCI Express link asks the partner for the full width, takes it and goes on. -/
theorem recalHalf_pcie (hr : s.recalOn p = true) (hb : s.flag F.PCL_PORT_STATUS.RECAL_BORROW p = true) (hpr : s.proto p ≠ 2)
    (hcut : s.cutThroughTo p = false) (ht : t = s.emit (.link p (.l0p (s.fullOf p)))) :
    s.recalHalf p = (t.l0pTo p (t.fullOf p) (t.fullOf p) []).recalNext p := by
  have hcut' : t.cutThroughTo p = false := by rw [ht]; exact hcut
  have hb' : t.flag F.PCL_PORT_STATUS.RECAL_BORROW p = true := by rw [ht]; exact hb
  calc s.recalHalf p
    _ = t.widenTo p (s.fullOf p) := by
      simp only [State.recalHalf, hr, hb, hpr, ht, Bool.not_true, Bool.or_self, Bool.false_eq_true, if_false]
    _ = t.widenNow p (s.fullOf p) := widenTo_now hcut'
    _ = (t.l0pTo p (t.fullOf p) (t.fullOf p) []).recalNext p := widenNow_borrowed hb'

/-! ## Low-power states (R61, R62) -/

/-- An active PCI Express link enters a low-power state that its own enable and the host allow; a recalibration keeps it from all but
L0s. -/
theorem lowPower_entered {st : Nat} (hpr : s.proto p ≠ 2) (ha : s.active p = true) (hu : s.linkUp p = true)
    (hst : st = 1 ∨ st = 2 ∨ st = 3 ∨ st = 4) (hasp : s.aspmAllows p st = true)
    (hL0s : st = 1 → s.flag F.PCL_PORT_CTRL.L0S_EN p = true ∧ s.proto p = 0 ∧ s.flag F.PCL_PORT_STATUS.FLIT p = false)
    (hL1 : st = 2 → s.flag F.PCL_PORT_CTRL.L1_EN p = true) (hsub : 3 ≤ st → s.flag F.PCL_PORT_CTRL.L1SS_EN p = true)
    (hrec : 2 ≤ st → s.recalOn p = false) :
    s.lowPower p st true false =
      (((s.setFld F.PCL_PORT_STATUS.STATE p 5).setFld F.PCL_PORT_STATUS.LPSTATE p st).pllUpdate (clusterOf p)).whenb (3 ≤ st)
        (fun s => s.clkreqTold p false) := by
  have h0 : st ≠ 0 := by omega
  have h4 : ¬4 < st := by omega
  have hfree : (s.recalOn p && decide (2 ≤ st)) = false := by
    by_cases h : 2 ≤ st <;> simp [h, hrec]
  unfold State.lowPower
  dsimp only
  rw [if_neg (by simp [hpr, hu, h0, h4, ha])]
  simp only [hasp, hfree, Bool.false_and, Bool.false_or, Bool.or_false, Bool.and_true, Bool.not_false, Bool.false_eq_true, if_false,
    whenb_of_false rfl]
  obtain rfl | rfl | rfl | rfl := hst
  · obtain ⟨hen, hpcie, hflit⟩ := hL0s rfl
    rw [if_neg (by simp [hen, hpcie, hflit])]
  · rw [if_neg (by simp [hL1])]
  · rw [if_neg (by simp [hsub])]
  · rw [if_neg (by simp [hsub])]

/-- A PCI Express link leaves a low-power state. -/
theorem lowPowerExit_pcie (hs : s.linkState p = 5) (hpr : s.proto p ≠ 2)
    (ht : t = ((s.setFld F.PCL_PORT_STATUS.STATE p 3).setFld F.PCL_PORT_STATUS.LPSTATE p 0).pllUpdate (clusterOf p)) :
    s.lowPowerExit p = t.whenb (3 ≤ s.fld F.PCL_PORT_STATUS.LPSTATE p) (fun s => s.clkreqTold p true) := by
  subst ht
  simp only [State.lowPowerExit, hs, hpr, ne_eq, not_true_eq_false, if_false]

/-! ## Margining (R60, R64) -/

/-- A margining command on a lane of an active PCI Express link at 16 GT/s or above is answered. -/
theorem marginCommand_answered {lane type payload : Nat} (hpr : s.proto p ≠ 2) (ha : s.active p = true)
    (hr : 4 ≤ s.fld F.PCL_PORT_STATUS.RATE_NOW p) (hl : lane < (s.lanesOf p).length) :
    s.marginCommand p lane type payload =
      if s.recalOn p then s.emit (.link p (.lane (firstLane p + lane) 0 0))
      else ((s.marginHold (firstLane p + lane) type payload).emit (.link p (.lane (firstLane p + lane)
        (s.marginReply p (firstLane p + lane) type payload).1 (s.marginReply p (firstLane p + lane) type payload).2))).drew := by
  simp [State.marginCommand, hpr, ha, Nat.not_lt.mpr hr, Nat.not_le.mpr hl]

/-! ## Reference clocks (R53) -/

/-- Outside RESET the clusters follow their inputs one after another. -/
theorem refSense_running (h : s.mode ≠ .reset) : s.refSense = s.each (List.range 36) (fun s c =>
    if s.flag F.PCL_CLUSTER_STATUS.REFCLK_OK c && !s.refPresent c then s.clusterDark c
    else if !s.flag F.PCL_CLUSTER_STATUS.REFCLK_OK c && s.refPresent c then s.clusterLit c else s) := by
  rw [State.refSense, if_neg h]

/-! ## Lock loss (R57, R192) -/

/-- A lane that loses its lock shows it; an active lane of a KFL link starts the link's recovery. -/
theorem exec_cdrLockLoss {l : Fin 288} (ht : t = s.setFld F.PCL_LANE_STATUS.CDR_LOCK l 0) (hp : t.portOfLane l = some p) :
    exec (.cdrLockLoss l) s = .next (
      if t.proto p == 2 &&
        (lanesIn (t.fld F.KFL_LINK_STATUS.LANES_ACTIVE (controllerOf p))).any (fun i => t.physLane (controllerOf p) i == l.val)
      then t.kflRecover (controllerOf p) else t) := by
  subst ht
  show execCdrLockLoss l s = _
  simp only [execCdrLockLoss, hp]

end Sys2Proof.Laws
end

section
/-! The statements about lanes and links, and about reference clocks and margining. -/

namespace Sys2Proof.Proofs

open Machine Laws

/-! ## Lanes in test and receivers -/

theorem prbsInj : Claims.prbsInj := fun _ _ _ hg hp => congrArg Host.Outcome.next (prbsInject_generating hg hp)

theorem prbsClr : Claims.prbsClr := fun _ _ e h => congrArg Host.Outcome.next (prbsClear_on h e)

theorem prbsCheckerWord : Claims.prbsCheckerWord := by
  intro s t l n a v k hc hl hn hv ht hk
  have hword := prbsWord_errored hc hl hn a hv ht hk
  exact ⟨fun h => congrArg Host.Outcome.next (hword.trans (if_pos h)),
    fun h => congrArg Host.Outcome.next (hword.trans (if_neg (Nat.not_lt.mpr h)))⟩

theorem portTestWrite : Claims.portTestWrite := fun _ _ _ hl hc ht he hd =>
  congrArg Host.Outcome.next (portTest_on hl hc ht he hd)

theorem rxadaptCtrlWrite : Claims.rxadaptCtrlWrite := fun _ _ _ _ hc ht ho =>
  congrArg Host.Outcome.next ((rxAdapt_reached hc ht).trans (if_pos ho))

theorem rxadaptFreeze : Claims.rxadaptFreeze := fun _ _ _ _ hc ht ho =>
  congrArg Host.Outcome.next ((rxAdapt_reached hc ht).trans (if_neg (Bool.eq_false_iff.mp ho)))

theorem rxHeld : Claims.rxHeld := by
  intro s r l b
  refine ⟨fun ha => ?_, fun ha => ?_, fun ha hh => ?_, fun ha hh => ?_, rxNow_zero⟩
  · rw [State.rxHold, if_pos ha]
  · rw [State.rxHold, if_neg (by simp [ha]), if_pos rfl]
  · rw [State.rxHold, if_neg (by simp [ha]), if_neg Bool.false_ne_true, if_pos hh]
  · rw [State.rxHold, if_neg (by simp [ha]), if_neg Bool.false_ne_true, if_neg (by simp [hh])]

/-! ## Links that come up and change -/

theorem linkUp : Claims.linkUp := by
  rintro s t u p rate width flit rev serials ffe hreset hboot hm hpr hs hr0 hr hw0 hw ht hh - rfl
  exact congrArg (fun t : State => Host.Outcome.next t.dmRun)
    (linkUpAt_training hreset hboot hs (linkTrained_hostEdge serials hm hpr hs hr0 hr hw0 hw ht hh))

theorem rateChange : Claims.rateChange := fun _ _ _ _ cxl hpr hs hr0 hr hw0 hl hne ht =>
  congrArg Host.Outcome.next (linkBack_rate cxl hpr hs hr0 hr rfl hw0 hl hne ht)

theorem l0pWidthRequest : Claims.l0pWidthRequest := by
  intro s p w ha hpr hf hen hfull hw0 hw hnow hlist hb hmine hcut
  refine congrArg Host.Outcome.next ?_
  calc s.l0pWidth p w
    _ = s.widenTo p w := l0pWidth_wider ha hpr hf hen hfull hw0 hw hnow hlist hb hmine
    _ = s.widenNow p w := widenTo_now hcut
    _ = s.l0pTo p w (s.fullOf p) ((s.lanesOf p).drop w) := widenNow_parked hb

/-! ## Low-power states -/

theorem aspmL1Entry : Claims.aspmL1Entry := by
  intro s p hpr ha hu hen hasp hrec
  have henter := lowPower_entered (st := 2) hpr ha hu (by omega) hasp (by omega) (fun _ => hen) (by omega) (fun _ => hrec)
  exact congrArg Host.Outcome.next (henter.trans (whenb_of_false rfl))

theorem aspmL0sEntry : Claims.aspmL0sEntry := by
  intro s p hpr ha hu hen hflit hasp
  have henter := lowPower_entered (by simp [hpr]) ha hu (.inl rfl) hasp (fun _ => ⟨hen, hpr, hflit⟩) (by omega) (by omega) (by omega)
  exact congrArg Host.Outcome.next (henter.trans (whenb_of_false rfl))

theorem aspmSubstateEntry : Claims.aspmSubstateEntry := by
  intro s p st h3 hpr ha hu hen hasp hrec
  have henter := lowPower_entered hpr ha hu (by omega) hasp (by omega) (by omega) (fun _ => hen) (fun _ => hrec)
  exact congrArg Host.Outcome.next (henter.trans (whenb_of_true (decide_eq_true h3)))

theorem lowPowerExit : Claims.lowPowerExit := by
  rintro s t p n hs hpr rfl ht
  show execLowPowerExit p s = _
  simp only [execLowPowerExit, hs, lowPowerExit_pcie hs hpr ht, beq_self_eq_true, Bool.true_and]
  by_cases h4 : s.fld F.PCL_PORT_STATUS.LPSTATE p = 4
  · simp [h4]
  · by_cases h3 : 3 ≤ s.fld F.PCL_PORT_STATUS.LPSTATE p <;> simp [beq_eq_false_iff_ne.mpr h4, h4, h3]

/-- Settles O32: each clause says on which side of its conditions an operation of a lane or a link comes out; the link that comes up is
still of the host edge after training, since the polarity found stands beside the port's configuration. -/
theorem lanesAndLinks : Obligations.LanesAndLinks :=
  ⟨prbsInj, prbsClr, prbsCheckerWord, portTestWrite, rxadaptCtrlWrite, rxadaptFreeze, linkUp, rateChange, l0pWidthRequest, aspmL1Entry,
    lowPowerExit, rxHeld⟩

/-! ## Reference clocks, margining, recalibration and lock loss -/

theorem refclkLoss : Claims.refclkLoss := by
  rintro s t c hm rfl
  exact congrArg (fun t : State => Host.Outcome.next t.dmRun) (refSense_running hm)

theorem refclkReturn : Claims.refclkReturn := by
  rintro s t c hm rfl
  exact congrArg Host.Outcome.next (refSense_running hm)

theorem marginCommandRx : Claims.marginCommandRx := by
  rintro s p lane type payload l r rfl rfl hpr ha hr hl
  have hanswer := marginCommand_answered (type := type) (payload := payload.toNat) hpr ha hr hl
  exact ⟨fun h => congrArg Host.Outcome.next (hanswer.trans (if_neg (by simp [h]))),
    fun h => congrArg Host.Outcome.next (hanswer.trans (if_pos h))⟩

theorem marginDone : Claims.marginDone := fun _ _ _ => rfl

theorem recalHalfDone : Claims.recalHalfDone := fun _ _ _ hr hb ht =>
  ⟨fun hpr hcut => congrArg Host.Outcome.next (recalHalf_pcie hr hb hpr hcut ht),
    fun hpr => congrArg Host.Outcome.next (recalHalf_kfl hr hb hpr)⟩

theorem cdrLockLoss : Claims.cdrLockLoss := by
  intro s t l p ht hp hpr
  rw [exec_cdrLockLoss ht hp, if_neg (by simp [hpr])]

theorem cdrLockLossKfl : Claims.cdrLockLossKfl := by
  intro s t l p ht hp hpr hactive
  rw [exec_cdrLockLoss ht hp, if_pos (by rw [hpr, hactive]; rfl)]

theorem perstOutNRelease : Claims.perstOutNRelease := fun _ _ h => congrArg Host.Outcome.next (if_pos h)

/-- Settles O33: each clause says on which side of its conditions an operation of a clock, a margin, a recalibration, a lane's lock, a
port's PERST_OUT_N or a low-power state comes out. -/
theorem clocksAndMargins : Obligations.ClocksAndMargins :=
  ⟨refclkLoss, refclkReturn, marginCommandRx, marginDone, recalHalfDone, cdrLockLoss, cdrLockLossKfl, perstOutNRelease, aspmL0sEntry,
    aspmSubstateEntry⟩

end Sys2Proof.Proofs
end

section
/-! SUPPORT. Upkeep of the Churn (R69, R83 to R90), link errors (R203) and notices held off (R213): what each operation comes to, by the
condition that decides it. -/

namespace Sys2Proof.Laws

open Machine

variable {s t : State} {b p : Nat}

/-! ## Multicast (R84, R86) -/

/-- The residue timer of a packet with destinations not yet begun: they are counted, told, journalled and struck. -/
theorem residueTimeout_struck {id : Nat} {k : Pkt} {r : Residue} {gone : BitVec 144} (hdue : s.due .residue id = true)
    (ht : t = s.disarm .residue id) (hk : t.pkt id = some k) (hr : k.residue = some r) (hgone : gone = notReading r.residue k.readers)
    (hsome : portsIn gone ≠ []) :
    s.residueTimeout id = (((((t.bumpBy R.CHN_MC_TIMEOUT_CNT 0 (portsIn gone).length).raise F.CHN_EVT.MC_TIMEOUT).journal 0x0501
      { vh := k.vh, detail := r.group + 2 ^ 16 * k.vh + 2 ^ 32 * k.tIn + 2 ^ 64 * gone.toNat }).onPkt id
      (fun k => { k with residue := k.residue.map (fun r => { r with residue := r.residue &&& ~~~gone }) })).freePkts
      (fun k => k.id == id && k.readers.isEmpty)).poolEvents := by
  subst ht hgone
  have hlen : (portsIn (notReading r.residue k.readers)).length ≠ 0 := fun h => hsome (List.length_eq_zero_iff.mp h)
  simp only [State.residueTimeout, hdue, Bool.not_true, Bool.false_eq_true, if_false, hk, hr, hlen]

/-- A packet that holds its residue word, not yet charged to the multicast pool, is charged to it when the pool has space. -/
theorem recharge_held {id : Nat} {k : Pkt} {r : Residue} (hk : s.pkt id = some k) (hr : k.residue = some r) (hmc : k.chg.mc = (0, 0))
    (hheld : r.held = true) (ht : t = s.onPkt id (fun k => { k with residue := some { r with held := true } }))
    (hcurds : curdsOf k.len ≤ t.mcFree.1) (hheads : 1 ≤ t.mcFree.2) :
    s.recharge id = t.onPkt id (fun k0 => { k0 with chg := { mc := (curdsOf k.len, 1) } }) := by
  subst ht
  simp only [State.recharge, hk, hr, hmc, hheld, bne_self_eq_false, Bool.true_or, Bool.not_true, Bool.or_self, Bool.false_eq_true, if_false]
  exact if_pos (by simp [hcurds, hheads])

/-! ## Bank rotation (R87, Table 3.10) -/

/-- A rotation step with a spare waits for nothing: the spare joins service and the bank drains. -/
theorem rotate_spare (hspare : s.flag F.CHN_ROT_STATUS.SPARE_VALID = true)
    (ht : t = (((((s.setFld F.CHN_BANK_STATE.STATE (s.fld F.CHN_ROT_STATUS.SPARE_BANK) 0).setFld F.CHN_BANK_STATE.STATE b 1).setFld
      F.CHN_ROT_STATUS.STEP_BANK 0 b).setFld F.CHN_ROT_STATUS.STEP_STATE 0 1).setFld F.CHN_ROT_STATUS.SPARE_VALID 0 0).setFld
      F.CHN_STATUS.ROT_ACTIVE 0 1) :
    s.rotate (some b) = (t.arm .drainBank b (us (t.fld F.CHN_ROT_CTRL.DRAIN_US))).demandStep := by
  subst ht
  simp only [State.rotate, hspare, Bool.not_true, Bool.false_and, Bool.false_eq_true, if_false, State.whenb_true]

/-- The interval of a rotation between two steps: the bank after the spare is next, and the interval starts again. -/
theorem rotationStep_spare (hdue : s.due .rotation 0 = true) (hrot : s.rotating = true) (hnamed : s.churn.namedTest = none)
    (hstep : s.fld F.CHN_ROT_STATUS.STEP_STATE = 0) (hspare : s.flag F.CHN_ROT_STATUS.SPARE_VALID = true)
    (ht : t = s.rotate (s.nextBank (s.fld F.CHN_ROT_STATUS.SPARE_BANK))) (hbegun : t.fld F.CHN_ROT_STATUS.STEP_STATE ≠ 0) :
    s.rotationStep = t.arm .rotation 0 (ms (t.fld F.CHN_ROT_CTRL.INTERVAL_MS)) := by
  subst ht
  simp [State.rotationStep, hdue, hrot, hnamed, hstep, hspare, hbegun]

/-- DRAIN_US of a bank that a rotation drains: what is left is migrated, and words left are told. -/
theorem drainTimeout_draining (hdue : s.due .drainBank b = true) (hst : (s.disarm .drainBank b).fld F.CHN_BANK_STATE.STATE b = 1)
    (ht : t = ((s.disarm .drainBank b).setFld F.CHN_BANK_STATE.STATE b 2).setFld F.CHN_ROT_STATUS.STEP_STATE 0 2) :
    s.drainTimeout b = t.whenb (0 < t.wordsLive b) (fun s => s.raise F.CHN_EVT.DRAIN_LATE) := by
  subst ht
  have hempt : (s.disarm .drainBank b).emptying b = true := by simp [State.emptying, hst]
  simp only [State.drainTimeout, hdue, hempt, hst, Bool.not_true, Bool.false_eq_true, if_false, beq_self_eq_true, State.whenb_true]

/-! ## Migration (R88) -/

/-- The words of a migrating bank have been copied: they stand elsewhere, and what follows is judged by what is left. -/
theorem migrated_migrating (hst : s.fld F.CHN_BANK_STATE.STATE b = 2) (hlive : 0 < s.wordsLive b) :
    s.migrated b = (((s.migrate b).disarm .drainBank b).setFld F.CHN_BANK_STATE.STATE b 2).emptied b := by
  simp [State.migrated, hst, hlive]

/-- A bank whose words reads that began before still use is not empty yet. -/
theorem emptied_reading (hold : s.churn.pkts.any (fun (k : Pkt) => k.old.any (·.1 == b)) = true) : s.emptied b = s := by
  simp only [State.emptied, hold, Bool.or_true, if_true]

/-- An emptied bank that is not being retired goes under test. -/
theorem emptied_rotating (hlive : s.wordsLive b = 0) (hold : s.churn.pkts.any (fun (k : Pkt) => k.old.any (·.1 == b)) = false)
    (hret : s.churn.retiring.contains b = false) :
    s.emptied b = (s.setFld F.CHN_BANK_STATE.STATE b 3).setFld F.CHN_ROT_STATUS.STEP_STATE 0 3 := by
  simp only [State.emptied, hlive, hold, hret, Nat.lt_irrefl, decide_false, Bool.or_self, Bool.false_eq_true, if_false]

/-! ## The march test (R89) -/

/-- A bank with a bank after it does not end the rotation cycle. -/
theorem cycleEnd_within {n : Nat} (hnext : s.nextBank b = some n) (hn : b < n) : s.cycleEnd b = s := by
  simp [State.cycleEnd, hnext, Nat.not_le.mpr hn]

/-- The test of a bank within a cycle ends the step, and its result decides where the bank goes. -/
theorem bankTested_within {n : Nat} (hst : s.fld F.CHN_BANK_STATE.STATE b = 3)
    (ht : t = (s.setFld F.CHN_ROT_STATUS.STEP_STATE 0 0).setFld F.CHN_STATUS.ROT_ACTIVE 0 0) (hnext : t.nextBank b = some n) (hn : b < n)
    (pass : Bool) : s.bankTested b pass = (if pass then t.passed b else t.failBankR b).namedEnd b := by
  subst ht
  simp only [State.bankTested, hst, ne_eq, not_true_eq_false, if_false, cycleEnd_within hnext hn]

/-- Where no bank has failed and none is being retired, a bank that passes is the spare. -/
theorem passed_spare (hfail : s.failedBanks = 0) (hret : s.churn.retiring = []) :
    s.passed b =
      ((s.setFld F.CHN_BANK_STATE.STATE b 4).setFld F.CHN_ROT_STATUS.SPARE_BANK 0 b).setFld F.CHN_ROT_STATUS.SPARE_VALID 0 1 := by
  simp [State.passed, hfail, hret]

/-- After a failure, or while a bank is being retired, a bank that passes rejoins service. -/
theorem passed_rejoins (hnamed : s.churn.namedTest = none) (h : s.failedBanks ≠ 0 ∨ s.churn.retiring ≠ []) :
    s.passed b = (s.setFld F.CHN_BANK_STATE.STATE b 0).demandStep := by
  have hshort : (s.failedBanks == 0 && s.churn.retiring.isEmpty) = false := by
    rcases h with h | h <;> simp [h]
  simp only [State.passed, hnamed, hshort, Option.isNone_none, Bool.not_false, Bool.and_self, if_true]

/-! ## The background scrub (R69) -/

/-- With SCRUB_EN 0 the scrub reads nothing. -/
theorem scrub_disabled (h : s.flag F.CHN_CFG.SCRUB_EN = false) (found : ReadEcc) (pkt : Nat) : s.scrub found pkt = s :=
  if_pos (by rw [h]; rfl)

/-- The scrub finds a bank word that ECC corrects. -/
theorem scrub_wordCe (h : s.flag F.CHN_CFG.SCRUB_EN = true) (b : Fin 256) (pkt : Nat) : s.scrub (.wordCe b) pkt = s.bankCe b :=
  if_neg (by simp [h])

/-- The scrub finds a bank word that ECC cannot correct. -/
theorem scrub_wordUeBefore (h : s.flag F.CHN_CFG.SCRUB_EN = true) (b : Fin 256) (row : Fin 8192) (pkt : Nat) :
    s.scrub (.wordUeBefore b row) pkt = s.bankUe b row :=
  if_neg (by simp [h])

/-- The scrub finds a head record that ECC corrects. -/
theorem scrub_headCe (h : s.flag F.CHN_CFG.SCRUB_EN = true) (pkt : Nat) :
    s.scrub .headCe pkt = (s.bump R.CHN_HEAD_CE_CNT).journal 0x0201 :=
  if_neg (by simp [h])

/-! ## Link errors (R203) -/

/-- A PCI Express link that is up enters Recovery. -/
theorem pcieRecover_up (hu : s.linkUp p = true) (hpr : s.proto p ≠ 2) :
    s.pcieRecover p = (((s.abortRecal p 1).setFld F.PCL_PORT_STATUS.STATE p 4).setFld F.PCL_PORT_STATUS.LPSTATE p 0).bump
      R.PCL_PORT_RECOVERY_CNT p := by
  simp only [State.pcieRecover, hu, hpr, Bool.not_true, decide_false, Bool.or_self, Bool.false_eq_true, if_false]

/-- An error of a host edge's link, counted where FEC cannot correct it, is journalled and logged at the vUSP, and retrains the link if it
is uncorrectable. -/
theorem linkError_hostEdge {u : State} {e : PcieErr} (hu : s.linkUp p = true) (hpr : s.proto p ≠ 2)
    (ht : t = s.whenb (e == .fec) (fun s => s.bump R.PCL_PORT_FEC_UNCORR_CNT p)) (hpool : t.isPoolEdge p = false)
    (hj : u = t.journal (if (linkErrOf e).2 then 0x0106 else 0x0105) { port := p }) (hhost : u.isHostEdge p = true) :
    s.linkError p e = (u.aerLog (.vusp p) (linkErrOf e).1 false).whenb (linkErrOf e).2 (fun s => s.pcieRecover p) := by
  subst ht hj
  simp only [State.linkError, hu, hpr, hpool, Bool.not_true, decide_false, Bool.or_self, Bool.false_eq_true, if_false, Option.elim_none]
  rw [if_pos hhost]

/-! ## Notices held off (R213) -/

/-- The hold-off of a key ends: its notices are taken out and leave. -/
theorem wfnLeave_due {src vh bi r : Nat} (hdue : s.due .wfn (((src * 256 + vh) * 4096 + bi) * 16 + r) = true) {mine : Wfn → Bool}
    (hmine : mine = fun w => w.src == src && w.vh == vh && w.bindIdx == bi && w.reason == r) :
    s.wfnLeave src vh bi r = ((s.onErr (fun y => { y with holdoff := y.holdoff.filter (fun w => !mine w) })).disarm .wfn
      (((src * 256 + vh) * 4096 + bi) * 16 + r)).each (s.err.holdoff.filter mine) (fun s w => s.wfnSend w) := by
  subst hmine
  simp only [State.wfnLeave, hdue, Bool.not_true, Bool.false_eq_true, if_false]

end Sys2Proof.Laws
end

section
/-! The statement about the upkeep of the Churn and about link errors. -/

namespace Sys2Proof.Proofs

open Machine Laws

/-! ## Multicast -/

theorem mcStrikeSweep : Claims.mcStrikeSweep := fun _ => rfl

theorem mcResidueTimeout : Claims.mcResidueTimeout := by
  rintro s t u id k r gone hdue ht hk hr hgone hsome rfl
  exact congrArg Host.Outcome.next (residueTimeout_struck hdue ht hk hr hgone hsome)

theorem mcRecharge : Claims.mcRecharge := fun _ _ _ _ _ hk hr hmc hheld ht hcurds hheads =>
  congrArg (fun t : State => Host.Outcome.next t.poolEvents) (recharge_held hk hr hmc hheld ht hcurds hheads)

/-! ## Banks -/

theorem bankRotationStep : Claims.bankRotationStep := by
  rintro s t next hdue hrot hnamed hstep hspare rfl - ht hbegun
  exact congrArg Host.Outcome.next (rotationStep_spare hdue hrot hnamed hstep hspare ht hbegun)

theorem rotates : Claims.rotates := fun _ _ _ => rotate_spare

theorem bankDrainTimeout : Claims.bankDrainTimeout := fun _ _ _ hdue hst _ ht hlive =>
  congrArg Host.Outcome.next ((drainTimeout_draining hdue hst ht).trans (whenb_of_true (decide_eq_true hlive)))

theorem bankMigrationDone : Claims.bankMigrationDone := by
  rintro s t b hst hlive rfl hret
  have hmoved := migrated_migrating hst hlive
  exact ⟨fun hnone hold => congrArg Host.Outcome.next (hmoved.trans (emptied_rotating hnone hold hret)),
    fun hold => congrArg Host.Outcome.next (hmoved.trans (emptied_reading hold))⟩

theorem bankTestDone : Claims.bankTestDone := by
  intro s t b n hst ht hnamed hnext hn
  have htested := bankTested_within hst ht hnext hn
  refine ⟨fun hfail hret => congrArg Host.Outcome.next ?_, fun h => congrArg Host.Outcome.next ?_, congrArg Host.Outcome.next ?_⟩
  · rw [htested, if_pos rfl, passed_spare hfail hret]
  · rw [htested, if_pos rfl, passed_rejoins hnamed h]
  · rw [htested, if_neg Bool.false_ne_true]

theorem backgroundScrub : Claims.backgroundScrub := fun _ b row pkt =>
  ⟨fun hen => ⟨congrArg Host.Outcome.next (scrub_wordCe hen b pkt), congrArg Host.Outcome.next (scrub_wordUeBefore hen b row pkt),
    congrArg Host.Outcome.next (scrub_headCe hen pkt)⟩, fun hdis found => congrArg Host.Outcome.next (scrub_disabled hdis found pkt)⟩

/-! ## Link errors and notices held off -/

theorem pcieLinkError : Claims.pcieLinkError := fun _ _ _ hu hpr hpool hj hhost =>
  congrArg Host.Outcome.next ((linkError_hostEdge (e := .badTlp) hu hpr rfl hpool hj hhost).trans (whenb_of_false rfl))

theorem pcieLinkFec : Claims.pcieLinkFec := fun _ _ _ hu hpr hpool hj hhost =>
  congrArg Host.Outcome.next ((linkError_hostEdge (e := .fec) hu hpr rfl hpool hj hhost).trans (whenb_of_true rfl))

theorem pcieRecoveryEntry : Claims.pcieRecoveryEntry := fun _ _ hu hpr => congrArg Host.Outcome.next (pcieRecover_up hu hpr)

theorem wfnHoldoffExpiry : Claims.wfnHoldoffExpiry := fun _ _ _ _ _ _ hdue hmine =>
  congrArg Host.Outcome.next (wfnLeave_due hdue hmine)

/-- Settles O42: each clause says on which side of its conditions an operation of the Churn, of a link's errors or of a notice held off
comes out. -/
theorem churnUpkeep : Obligations.ChurnUpkeep :=
  ⟨mcStrikeSweep, mcResidueTimeout, mcRecharge, bankRotationStep, rotates, bankDrainTimeout, bankMigrationDone, bankTestDone,
    backgroundScrub, pcieLinkError, pcieLinkFec, pcieRecoveryEntry, wfnHoldoffExpiry⟩

end Sys2Proof.Proofs
end

section
/-! SUPPORT. Width changes, low-power states and time of a KFL link (R196 to R198): what each message and timer comes to, by the condition
that decides it. -/

namespace Sys2Proof.Laws

open Machine

variable {s t : State} {c token m : Nat}

/-- A link that is ACTIVE has nothing to wake from. -/
theorem kflWake_active (h : s.lst c = 5) : s.kflWake c = s := by
  simp [State.kflWake, h]

/-- Without an orderly disable there is none that yields. -/
theorem not_disabling (h : (s.kl c).stopping = none) : s.disabling c = false := by
  simp [State.disabling, h]

/-! ## Shedding and restore (R196, Table 6.12) -/

/-- SHED_REQ to an ACTIVE link with no operation of its own is refused on a shed link. -/
theorem shedReqRx_shed (hh : s.hears c = true) (hl : s.lst c = 5) (hshed : (s.kl c).shed = none) (hstop : (s.kl c).stopping = none)
    (hmask : s.fld F.KFL_LINK_STATUS.LANES_ACTIVE c ≠ (s.kl c).fullMask) :
    s.shedReqRx c m token = s.shedReply c 0x02 token 1 := by
  simp [State.shedReqRx, hh, kflWake_active hl, hshed, not_disabling hstop, hmask]

/-- SHED_REQ of the lower half to an ACTIVE link of full width with no operation of its own is agreed, at once or when the packet in
reception is fully written. -/
theorem shedReqRx_full (hh : s.hears c = true) (hl : s.lst c = 5) (hshed : (s.kl c).shed = none) (hstop : (s.kl c).stopping = none)
    (hmask : s.fld F.KFL_LINK_STATUS.LANES_ACTIVE c = (s.kl c).fullMask)
    (hlanes : 4 ≤ (lanesIn (s.fld F.KFL_LINK_STATUS.LANES_ACTIVE c)).length)
    (hm : m = (halves (s.fld F.KFL_LINK_STATUS.LANES_ACTIVE c)).1) (hnext : (s.kl c).maskNext = none) (hask : (s.kl c).shedAsk = none) :
    s.shedReqRx c m token = if (s.kl c).rx.isNone then (s.maskAt c m).shedReply c 0x02 token 0
      else (s.onKl c (fun k => { k with shedAsk := some (m, token) })).onChurn (fun y => { y with
        narrowing := portOfCtl c :: y.narrowing.filter (· != portOfCtl c) }) := by
  subst hm
  rw [hmask] at hlanes
  simp [State.shedReqRx, hh, kflWake_active hl, hshed, hstop, not_disabling hstop, hmask, hlanes, hnext, hask]

/-- SHED_ACK to the request in progress ends it, and its result decides what follows. -/
theorem shedAckRx_answered {result : Nat} (hh : s.hears c = true) (hshed : (s.kl c).shed = some (token, m))
    (ht : t = (s.onKl c (fun k => { k with shed := none })).disarm .shed c) :
    s.shedAckRx c token result = if result = 0 then (t.onKl c (fun k => { k with shedOurs := true })).maskAt c m
      else if result = 2 then t.yieldLink c else t.abortRecal (portOfCtl c) 4 := by
  subst ht
  simp only [State.shedAckRx, hh, hshed, Bool.not_true, Bool.false_eq_true, ne_eq, not_true_eq_false, if_false]

/-- SHED_ACK of another token than the request's is a protocol error. -/
theorem shedAckRx_otherToken {want result : Nat} (hh : s.hears c = true) (hshed : (s.kl c).shed = some (want, m)) (hne : want ≠ token) :
    s.shedAckRx c token result = s.protoErr c := by
  simp only [State.shedAckRx, hh, hshed, Bool.not_true, Bool.false_eq_true, if_false, if_pos hne]

/-- RESTORE_REQ of the full width to a shed ACTIVE link that is not stopping is agreed. -/
theorem restoreReqRx_agreed (hh : s.hears c = true) (hl : s.lst c = 5)
    (hmask : s.fld F.KFL_LINK_STATUS.LANES_ACTIVE c ≠ (s.kl c).fullMask) (hm : m = (s.kl c).fullMask) (hstop : (s.kl c).stopping = none)
    (ht : t = s.onKl c (fun k => { k with locked := s.fld F.KFL_LINK_STATUS.LANES_ACTIVE c })) :
    s.restoreReqRx c m token = ((t.maskAt c m).shedReply c 0x04 token 0).parkedTrain c := by
  subst ht hm
  simp [State.restoreReqRx, hh, kflWake_active hl, hmask, hstop]

/-- RESTORE_ACK to the request in progress ends it, and its result decides what follows. -/
theorem restoreAckRx_answered {result : Nat} (hh : s.hears c = true) (hrest : (s.kl c).restore = some (token, m))
    (ht : t = (s.onKl c (fun k => { k with restore := none })).disarm .shed c) :
    s.restoreAckRx c token result = if result = 0 then (t.maskAt c m).parkedTrain c
      else (t.abortRecal (portOfCtl c) 4).recoverFull c := by
  subst ht
  simp only [State.restoreAckRx, hh, hrest, Bool.not_true, Bool.false_eq_true, ne_eq, not_true_eq_false, if_false]

/-- A shed request without an answer aborts the recalibration. -/
theorem shedTimeout_shed (hdue : s.due .shed c = true) (hrest : (s.kl c).restore = none) :
    s.shedTimeout c = ((s.onKl c (fun k => { k with shed := none, restore := none })).disarm .shed c).abortRecal (portOfCtl c) 4 := by
  simp only [State.shedTimeout, hdue, hrest, Bool.not_true, Bool.false_eq_true, Option.isSome_none, if_false]

/-! ## Low-power states (R197, Table 6.13) -/

/-- LP_REQ that meets no request of this end is agreed where this end may sleep in the state too. -/
theorem lpReqRx_unmet {st : Nat} (hh : s.hears c = true) (hl : s.lst c = 5) (hlp : (s.kl c).lp = none) :
    s.lpReqRx c st token = if s.maySleep c st then
        (s.onKl c (fun k => { k with sleep := some st })).wheyAt c (linkWhey 0x06 [(token, 8), (0, 2)])
      else s.wheyAt c (linkWhey 0x06 [(token, 8), (1, 2)]) := by
  simp only [State.lpReqRx, hh, hl, hlp, Bool.not_true, ne_eq, not_true_eq_false, decide_false, Bool.or_self, Bool.false_eq_true, if_false]

/-- LP_ACK that agrees to the request in progress, with no answer of this end's own still to go, puts the link to sleep. -/
theorem lpAckRx_agreed {st : Nat} (hh : s.hears c = true) (hl : s.lst c = 5) (hlp : (s.kl c).lp = some (token, st)) (hst : st ≠ 2)
    (ht : t = s.onKl c (fun k => { k with lp := none, lastBusy := k.lastBusy, sleep := k.sleep })) (hsleep : (t.kl c).sleep = none) :
    s.lpAckRx c token 0 = t.kflSleep c st := by
  subst ht
  simp only [State.lpAckRx, hh, hl, hlp, Bool.not_true, ne_eq, not_true_eq_false, decide_false, Bool.or_self, Bool.false_eq_true, if_false,
    hst, not_false_eq_true, decide_true, Bool.and_self, if_true, hsleep, Option.isSome_none]

/-- An idle link that may sleep deeply asks for deep idle. -/
theorem idleTimer_deep (hk : s.isKfl c = true) (hlp : (s.kl c).lp = none) (hsleep : (s.kl c).sleep = none) (hmay : s.maySleep c 1 = true) :
    s.idleTimer c = (s.onKl c (fun k => { k with token := s.nextToken c, lp := some (s.nextToken c, 1) })).wheyAt c
      (linkWhey 0x05 [(1, 1), (s.nextToken c, 8)]) := by
  simp only [State.idleTimer, hlp, hsleep, hk, hmay, Option.isSome_none, Bool.not_true, Bool.or_self, Bool.false_eq_true, if_false, if_true]

/-! ## Time (R198) -/

/-- TIME_REQ on a link that hears is answered where TIME_EN is 1. -/
theorem timeReqRx_heard (hh : s.hears c = true) (t1 : Nat) (t2 : BitVec 64) :
    s.timeReqRx c t1 t2 = if s.flag F.KFL_LINK_CFG.TIME_EN c then s.wheyAt c (linkWhey 0x08 [(t1, 64), (t2.toNat, 64), (0, 64)])
      else s := by
  cases hen : s.flag F.KFL_LINK_CFG.TIME_EN c <;> simp [State.timeReqRx, hh, hen]

/-- TIME_RESP on a link that hears shows offset and delay, and the offset disciplines the timebase. -/
theorem timeRespRx_heard {t1 t2 t3 t4 : BitVec 64} {off delay : Int} (hh : s.hears c = true)
    (hoff : off = s.half ((t2 - t1).toInt - (t4 - t3).toInt)) (hdelay : delay = s.drew.half ((t4 - t1).toInt - (t3 - t2).toInt))
    (ht : t = (s.drew.drew.wr R.KFL_TIME_OFFSET c (BitVec.ofInt 32 off)).setFld F.KFL_TIME_DELAY.DELAY c (BitVec.ofInt 16 delay).toNat) :
    s.timeRespRx c t1 t2 t3 t4 = (t.raise F.KFL_LINK_EVT.TIME_SYNC c).kflOffset (t.linkIdx c) off := by
  subst ht hoff hdelay
  simp only [State.timeRespRx, hh, Bool.not_true, Bool.false_eq_true, if_false]

/-- The interval of a link that asks for the time and does not sleep starts again, and an ACTIVE one asks. -/
theorem timeInterval_asking (hdue : s.due .timeReq c = true) (hen : s.flag F.KFL_LINK_CFG.TIME_REQ_EN c = true)
    (hawake : s.asleep c = false) (ht : t = s.arm .timeReq c (ms (s.fld F.KFL_TIMER_C.TIME_INTERVAL c))) :
    s.timeInterval c = if t.lst c = 5 then t.wheyAt c (linkWhey 0x07 [(0, 64)]) else t := by
  subst ht
  simp only [State.timeInterval, hdue, hen, hawake, Bool.not_true, Bool.or_self, Bool.false_eq_true, if_false]

end Sys2Proof.Laws
end

section
/-! The statement about the width, low-power states and time of a KFL link. -/

namespace Sys2Proof.Proofs

open Machine Laws

/-! ## Width -/

theorem shedReq : Claims.shedReq := by
  intro s c m tok hh hl hshed hstop hmask hlanes hm hnext hask
  have hfull := shedReqRx_full (token := tok.toNat) hh hl hshed hstop hmask hlanes hm hnext hask
  exact ⟨fun hrx => congrArg Host.Outcome.next (hfull.trans (if_pos (Option.isNone_iff_eq_none.mpr hrx))),
    fun hrx => congrArg Host.Outcome.next (hfull.trans (if_neg (mt Option.isNone_iff_eq_none.mp hrx)))⟩

theorem shedReqRefused : Claims.shedReqRefused := fun _ _ _ _ hh hl hshed hstop hmask =>
  congrArg Host.Outcome.next (shedReqRx_shed hh hl hshed hstop hmask)

theorem shedAck : Claims.shedAck := by
  intro s t c tok want m hh hshed ht
  refine ⟨?_, fun hne => congrArg Host.Outcome.next (shedAckRx_otherToken hh hshed hne)⟩
  rintro rfl
  have hanswer (result : Nat) := shedAckRx_answered (result := result) hh hshed ht
  exact ⟨congrArg Host.Outcome.next ((hanswer 0).trans (if_pos rfl)),
    congrArg Host.Outcome.next (((hanswer 2).trans (if_neg (by decide))).trans (if_pos rfl)),
    congrArg Host.Outcome.next (((hanswer 1).trans (if_neg (by decide))).trans (if_neg (by decide)))⟩

theorem restoreReq : Claims.restoreReq := fun _ _ _ _ _ hh hl hmask hm hstop ht =>
  congrArg Host.Outcome.next (restoreReqRx_agreed hh hl hmask hm hstop ht)

theorem restoreAck : Claims.restoreAck := by
  intro s t c tok m hh hrest ht
  have hanswer (result : Nat) := restoreAckRx_answered (result := result) hh hrest ht
  exact ⟨congrArg Host.Outcome.next ((hanswer 0).trans (if_pos rfl)),
    congrArg Host.Outcome.next ((hanswer 1).trans (if_neg (by decide)))⟩

theorem shedAckTimeout : Claims.shedAckTimeout := fun _ _ hdue hrest => congrArg Host.Outcome.next (shedTimeout_shed hdue hrest)

/-! ## Low-power states -/

theorem lpReq : Claims.lpReq := by
  intro s c deep tok hh hl hlp
  have hjudged := lpReqRx_unmet (token := tok.toNat) (st := b2n deep) hh hl hlp
  exact ⟨fun h => congrArg Host.Outcome.next (hjudged.trans (if_pos h)),
    fun h => congrArg Host.Outcome.next (hjudged.trans (if_neg (Bool.eq_false_iff.mp h)))⟩

theorem lpAck : Claims.lpAck := fun _ _ _ _ hh hl hlp _ hst hsleep =>
  congrArg Host.Outcome.next (lpAckRx_agreed hh hl hlp hst rfl hsleep)

theorem kflIdleTimer : Claims.kflIdleTimer := fun _ _ hlp hsleep hk hmay => congrArg Host.Outcome.next (idleTimer_deep hk hlp hsleep hmay)

/-! ## Time -/

theorem timeReq : Claims.timeReq := by
  intro s c t1 hh
  have hheard := timeReqRx_heard hh t1.toNat s.tb
  exact ⟨fun h => congrArg Host.Outcome.next (hheard.trans (if_pos h)),
    fun h => congrArg Host.Outcome.next (hheard.trans (if_neg (Bool.eq_false_iff.mp h)))⟩

theorem timeResp : Claims.timeResp := by
  rintro s t c t1 t2 t3 off delay hh hoff hdelay rfl
  exact congrArg Host.Outcome.next (timeRespRx_heard hh hoff hdelay rfl)

theorem timeReqInterval : Claims.timeReqInterval := fun _ _ _ hdue hen hawake ht hl =>
  congrArg Host.Outcome.next ((timeInterval_asking hdue hen hawake ht).trans (if_pos hl))

/-- Settles O45: each clause says on which side of its conditions a message or a timer of a KFL link comes out; an ACTIVE link has nothing
to wake from, so a request is judged in the state it meets. -/
theorem kflWidthAndTime : Obligations.KflWidthAndTime :=
  ⟨shedReq, shedReqRefused, shedAck, restoreReq, restoreAck, shedAckTimeout, lpReq, lpAck, kflIdleTimer, timeReq, timeResp,
    timeReqInterval⟩

end Sys2Proof.Proofs
end

section
/-! SUPPORT. Edit sessions, the shadow bank, bindings and virtual hierarchies, as the opcodes of group 0x03 come to them (R115, R307, R310,
R418). -/

namespace Sys2Proof.Laws

open Machine

variable {s t : State} {q : CrbReq} {a : Ans}

/-- A command that brings a ready request is accepted once its opcode starts an operation. -/
theorem exec_started {i : Instr} {o : OpInfo} {f : State → State} (hi : exec i s = .next (s.corber o q)) (hop : opOf o.code = some o)
    (h : s.ready o q = true) (hr : o.run q (s.judged q) = started t f) : exec i s = .next (t.accepted o q f) := by
  rw [hi, corber_accepted hop h hr]

/-! ## Sessions and the shadow -/

/-- The holder of the open session may act while no commit runs (R307). -/
theorem held_holder {x : Session} {r : Requester} (hx : s.bnd.session = some x) (hr : x.holder = r) (hc : s.bnd.committing = false) :
    s.held r a = a := by
  simp only [State.held, hx, hr, hc, bne_self_eq_false, Bool.false_eq_true, if_false]

/-- SESSION_OPEN opens a session where none is open and the shadow is ready. -/
theorem opSessionOpen_run_free (hn : s.bnd.session = none) (hr : s.flag F.BND_GEN_STATUS.SHADOW_READY = true) :
    opSessionOpen.run q s = ok (s.openSession q.src) (leBytes 4 (s.fld F.BND_GEN_STATUS.ACTIVE_GEN)) := by
  simp only [opSessionOpen, hn, hr, Bool.not_true, Bool.false_eq_true, if_false]

/-- QUIESCE with a limit in its range comes to what is left of older generations. -/
theorem opQuiesceInfo_run_inRange (hlo : 1000 ≤ q.num 0 4) (hhi : q.num 0 4 ≤ 10000000) :
    opQuiesceInfo.run q s = if s.older = 0 then ok s
      else started s (fun s => s.arm .quiesce (s.reqKey q.src q.tag) (us (q.num 0 4))) :=
  fields_pass (by simp [hlo, hhi])

/-- READ_ENTRY of an entry a table has shows it, from the bank it names. -/
theorem opReadEntry_run_entry {tab : Table} (ht : Table.ofCode (q.num 0 1) = some tab) (hi : q.object < tab.count) (hb : q.num 1 1 ≤ 1) :
    opReadEntry.run q s =
      ok s (leBytes tab.size ((if q.num 1 1 = 1 then s.bnd.shadow else s.bnd.active).entry tab q.object).toNat) := by
  simp only [opReadEntry, ht]
  exact fields_pass (by simp [hi, hb])

/-- WRITE_ENTRY of a writable entry with no reserved bit goes to the holder's session, where the tables are not fixed and routes are the
requester's to edit. -/
theorem opWriteEntry_run_writable {tab : Table} (ht : Table.ofCode (q.num 0 1) = some tab) (hlen : q.body.length = 1 + tab.size)
    (hi : q.object < tab.count) (hattach : tab = .attach → 144 ≤ q.object) (hres : tab.firstReserved (CrbEntry q.body 1 tab) = none)
    (hfix : s.fixedBinds = true → 3 < q.num 0 1) (hroute : tab = .route ∨ tab = .group → s.mayRoute q.src = true) :
    opWriteEntry.run q s = s.held q.src (ok (s.writeShadow tab q.object (CrbEntry q.body 1 tab))) := by
  have hattach' : (!(tab == .attach && decide (q.object < 144))) = true := by
    by_cases h : tab = .attach
    · simp [hattach h]
    · simp [h]
  have hfix' : (s.fixedBinds && decide (q.num 0 1 ≤ 3)) = false := by
    cases h : s.fixedBinds
    · rfl
    · simp [hfix h]
  have hroute' : ((tab == .route || tab == .group) && !s.mayRoute q.src) = false := by
    by_cases h : tab = .route ∨ tab = .group
    · simp [hroute h]
    · simp [not_or.mp h]
  simp only [opWriteEntry, ht, hfix', hroute', Bool.false_eq_true, if_false]
  exact fields_pass (by simp [hlen, hi, hattach', hres])

/-- BIND whose entry names the VH and vDSP of its body, with no reserved bit, goes to the holder's session. -/
theorem opBind_run_named (ho : q.object < 4096) (hvh : q.num 0 1 ≤ 143) (hvdsp : q.num 1 1 ≤ 63)
    (hevh : Bind.vh (CrbEntry q.body 2 .bind) = q.num 0 1) (hevdsp : Bind.vdsp (CrbEntry q.body 2 .bind) = q.num 1 1)
    (hres : Table.bind.firstReserved (CrbEntry q.body 2 .bind) = none) (hfix : s.fixedBinds = false) :
    opBind.run q s = s.held q.src (ok (s.shadowBind q.object (CrbEntry q.body 2 .bind))) := by
  simp only [opBind, obj_of_lt ho, hfix, Bool.false_eq_true, if_false]
  exact fields_pass (by simp [hvh, hvdsp, hevh, hevdsp, hres])

/-- UNBIND of a valid binding goes to the holder's session. -/
theorem opUnbind_run_valid (ho : q.object < 4096) (hmode : q.num 0 1 ≤ 1) (hv : Bind.valid (s.bnd.shadow.entry .bind q.object) = true)
    (hfix : s.fixedBinds = false) : opUnbind.run q s = s.held q.src (ok (s.shadowUnbind q.object (q.num 0 1))) := by
  have hfit : q.fits 0 1 1 = true := decide_eq_true (Nat.lt_succ_of_le hmode)
  simp only [opUnbind, obj_of_lt ho, hfix, Bool.false_eq_true, if_false]
  exact fields_pass (by simp [hfit, hv])

/-! ## Bindings and virtual hierarchies -/

/-- RESUME_BINDING starts the reset of a SUSPENDED binding that nothing holds (R418). -/
theorem opResumeBinding_run_suspended (ho : q.object < 4096) (hst : s.bindState q.object = 2) (hl : s.bindLocked q.object = false)
    (hc : s.fld F.BND_BIND_STATE.SUSPEND_CAUSE q.object ≠ 3) :
    opResumeBinding.run q s = started s (fun s => s.startReset q.object true) := by
  simp only [opResumeBinding, obj_of_lt ho, hst, hl, hc, ne_eq, not_true_eq_false, Bool.false_eq_true, if_false]

/-- RESET_BINDING starts the reset of a valid binding that is BOUND or RESETTING (Table 4.16). -/
theorem opResetBinding_run_inUse (ho : q.object < 4096) (hv : Bind.valid (s.bind q.object) = true)
    (hst : s.bindState q.object = 1 ∨ s.bindState q.object = 3) :
    opResetBinding.run q s = started s (fun s => s.startReset q.object false) := by
  rcases hst with h | h <;> simp [opResetBinding, obj_of_lt ho, hv, h]

/-- SET_MGMT_VH moves the management VH between DOWN VHs (R92). -/
theorem opSetMgmtVh_run_down (ho : q.object < 144) (hne : q.object ≠ s.bnd.mgmtVh) (hl : s.live q.object = true)
    (hh : s.isHostEdge q.object = true) (hnew : s.fld F.BND_VH_STATUS.STATE q.object = 0)
    (hold : s.fld F.BND_VH_STATUS.STATE s.bnd.mgmtVh = 0) :
    opSetMgmtVh.run q s = ok (s.onBnd (fun y => { y with mgmtVh := q.object })) := by
  simp [opSetMgmtVh, obj_of_lt ho, hne, hl, hh, hnew, hold]

end Sys2Proof.Laws
end

section
/-! The statements about the edit session's opcodes, and about those of one binding, one virtual hierarchy or the management port. -/

namespace Sys2Proof.Proofs

open Machine Laws

/-! ## The session and its edits -/

theorem sessionOpen : Claims.sessionOpen := fun _ _ h hn hr => exec_ok rfl rfl h (opSessionOpen_run_free hn hr)

theorem commit : Claims.commit := fun _ _ _ h hx hr hc => exec_started rfl rfl h (held_holder hx hr hc)

theorem sessionAbort : Claims.sessionAbort := fun _ _ _ h hx hr hc => exec_ok rfl rfl h (held_holder hx hr hc)

theorem quiesce : Claims.quiesce := by
  intro s q h hlo hhi
  have hrun := opQuiesceInfo_run_inRange (s := s.judged q) hlo hhi
  exact ⟨fun h0 => exec_ok rfl rfl h (hrun.trans (if_pos h0)), fun h0 => exec_started rfl rfl h (hrun.trans (if_neg h0))⟩

theorem writeEntry : Claims.writeEntry := by
  rintro s u q tab x rfl h ht hlen hi hattach hres hfix hroute hx hr hc
  exact exec_ok rfl rfl h ((opWriteEntry_run_writable ht hlen hi hattach hres hfix hroute).trans (held_holder hx hr hc))

theorem readEntry : Claims.readEntry := fun _ _ _ h ht hi hb => exec_ok rfl rfl h (opReadEntry_run_entry ht hi hb)

theorem bind : Claims.bind := by
  rintro s u q x rfl h ho hvh hvdsp hevh hevdsp hres hfix hx hr hc
  exact exec_ok rfl rfl h ((opBind_run_named ho hvh hvdsp hevh hevdsp hres hfix).trans (held_holder hx hr hc))

theorem unbind : Claims.unbind := by
  rintro s u q x rfl h ho hmode hv hfix hx hr hc
  exact exec_ok rfl rfl h ((opUnbind_run_valid ho hmode hv hfix).trans (held_holder hx hr hc))

/-- Settles O21: the fields of each request are in their ranges and its requester holds the session, so its opcode comes to the edit, or to
the operation, that it names. -/
theorem sessionOpcodes : Obligations.SessionOpcodes :=
  ⟨sessionOpen, commit, sessionAbort, quiesce, writeEntry, readEntry, bind, unbind⟩

/-! ## Bindings -/

theorem resumeBinding : Claims.resumeBinding := by
  rintro s u q rfl h ho hst hl hc
  exact exec_started rfl rfl h (opResumeBinding_run_suspended ho hst hl hc)

theorem resetBinding : Claims.resetBinding := by
  rintro s u q rfl h ho hv hst
  exact exec_started rfl rfl h (opResetBinding_run_inUse ho hv hst)

theorem getBinding : Claims.getBinding := fun _ _ h ho => exec_ok rfl rfl h (by simp only [opGetBinding, obj_of_lt ho])

/-! ## Virtual hierarchies and the fabric's timeout -/

theorem setVhTags : Claims.setVhTags := fun _ _ h ho hs =>
  exec_ok rfl rfl h (by simp only [opSetVhTags, obj_of_lt ho, set_sound hs, State.takeEffect])

theorem setMgmtVh : Claims.setMgmtVh := by
  rintro s u q rfl h ho hne hl hh hnew hold
  exact exec_ok rfl rfl h (opSetMgmtVh_run_down ho hne hl hh hnew hold)

theorem setTrkTimeout : Claims.setTrkTimeout := fun _ _ h hs => exec_ok rfl rfl h (set_sound hs)

theorem getVh : Claims.getVh := fun _ _ h ho => exec_ok rfl rfl h (by simp only [opGetVh, obj_of_lt ho, State.showRegs])

theorem cxlFm : Claims.cxlFm := fun _ _ h => exec_ok rfl rfl h rfl

/-- Settles O22: each request names a binding or a VH that stands, in a state its opcode allows, so it is answered with what it shows or
sets, or its operation starts. -/
theorem bindingOpcodes : Obligations.BindingOpcodes :=
  ⟨resumeBinding, resetBinding, getBinding, setVhTags, setMgmtVh, setTrkTimeout, getVh, cxlFm⟩

end Sys2Proof.Proofs
end

section
/-! SUPPORT. Commits and the generation swap (R114 to R117), and the ends of a binding's reset (R122, R418): what each comes to, by the
condition that decides it. -/

namespace Sys2Proof.Laws

open Machine

variable {s t : State} {bi : Nat}

/-! ## Sessions and commits -/

/-- The session's time is up while no commit runs. -/
theorem sessionTimeout_idle {x : Session} (hd : s.due .session 0 = true) (hx : s.bnd.session = some x) (hc : s.bnd.committing = false) :
    s.sessionTimeout = s.timedOut := by
  simp only [State.sessionTimeout, hd, hx, hc, Bool.not_true, Option.isNone_some, Bool.or_self, Bool.false_eq_true, if_false]

/-- A commit that runs keeps the session from timing out. -/
theorem sessionTimeout_committing (hc : s.bnd.committing = true) : s.sessionTimeout = s := by
  simp only [State.sessionTimeout, hc, Bool.or_true, if_true]

/-- A copy in progress ends. -/
theorem copyDone_copying (hc : s.bnd.copying = true) :
    s.copyDone = (s.onBnd (fun y => { y with shadow := y.active, copying := false })).setFld F.BND_GEN_STATUS.SHADOW_READY 0 1 := by
  simp only [State.copyDone, hc, Bool.not_true, Bool.false_eq_true, if_false]

/-- A commit whose shadow passes every check swaps the banks, with what was found at the new targets. -/
theorem commitEnd_valid {serials : List (Nat × BitVec 64)} {methods : List (Nat × Fin 3)} (hc : s.bnd.committing = true)
    (hv : s.validate = none) (hb : s.unbindBusy = false) (ht : t = ((s.readSerials serials).readMethods methods).swap) :
    s.commitEnd serials methods = (t.finishAny opCommit stOk 0 (leBytes 4 (t.fld F.BND_GEN_STATUS.ACTIVE_GEN))).dmRun := by
  subst ht
  simp only [State.commitEnd, hc, hv, hb, Bool.not_true, Bool.false_eq_true, if_false]

/-- A commit that must wait for a binding it removes ends BUSY; one that a COMMIT asked for leaves its session open. -/
theorem commitEnd_busy {serials : List (Nat × BitVec 64)} {methods : List (Nat × Fin 3)} (hc : s.bnd.committing = true)
    (hv : s.validate = none) (hb : s.unbindBusy = true) (hu : s.unasked = false) :
    s.commitEnd serials methods = ((s.onBnd (fun y => { y with committing := false })).useSession).finishAny opCommit stBusy 2 := by
  simp only [State.commitEnd, hc, hv, hb, hu, Bool.not_true, Bool.false_eq_true, if_false, if_true, State.whenb_false]

/-- A commit whose shadow fails a check, of a reason that answers INVALID_PARAM, is rejected; one that a COMMIT asked for leaves its session
open. -/
theorem commitEnd_rejected {serials : List (Nat × BitVec 64)} {methods : List (Nat × Fin 3)} {tab i r : Nat}
    (hc : s.bnd.committing = true) (hv : s.validate = some (tab, i, r)) (h5 : r ≠ 5) (h6 : r ≠ 6) (hu : s.unasked = false)
    (ht : t = (s.onBnd (fun y => { y with committing := false })).useSession) :
    s.commitEnd serials methods = (((t.wr R.BND_GEN_REJECT 0 (BitVec.ofNat 32 (tab + 2 ^ 4 * i + 2 ^ 20 * r))).setFld
      F.BND_GEN_STATUS.LAST_COMMIT 0 1).raise F.BND_EVT.COMMIT_REJECT).finishAny opCommit stParam 0xFFFF
        (leBytes 4 (tab + 2 ^ 4 * i + 2 ^ 20 * r)) := by
  subst ht
  simp only [State.commitEnd, hc, hv, h5, h6, hu, Bool.not_true, Bool.false_eq_true, if_false, State.whenb_false]

/-! ## Quiesce -/

/-- While something older is left nothing is quiesced. -/
theorem quiesced_older (h : s.older ≠ 0) : s.quiesced = s := if_pos h

/-- Once nothing older is left QUIESCED is set with its event, and what waits for it ends. -/
theorem quiesced_first (h : s.older = 0) (hq : s.flag F.BND_GEN_STATUS.QUIESCED = false)
    (ht : t = (s.setFld F.BND_GEN_STATUS.QUIESCED 0 1).raise F.BND_EVT.QUIESCED) :
    s.quiesced = ({ t with timers := t.timers.filter (fun (x : Timer) => x.kind != TimerKind.quiesce) }).finishAny opQuiesce stOk 0
      (leBytes 4 0) := by
  have hshown : s.whenb (!s.flag F.BND_GEN_STATUS.QUIESCED) (fun s => (s.setFld F.BND_GEN_STATUS.QUIESCED 0 1).raise F.BND_EVT.QUIESCED) =
      t := by
    rw [hq, ht, Bool.not_false, State.whenb_true]
  rw [State.quiesced, if_neg (fun hne => hne h), hshown]

/-! ## Resets of a binding -/

/-- The end of a reset that no commit resumed, at the VH end or within this device. -/
theorem bindingResetDone_unresumed (hr : s.bnd.resets.any (fun r => r.1 == bi && r.2.2) = false)
    (ht : t = ((((s.onBnd (fun y => { y with resets := y.resets.filter (fun r => r.1 != bi) })).disarm .bindReset bi).setBindState bi 1
      0).cfgReady bi true)) (hd : t.isDeviceEnd (t.bind bi) = false) :
    s.bindingResetDone bi = (t.finish 0x0308 bi stOk).finish 0x0309 bi stOk := by
  subst ht
  simp only [State.bindingResetDone, hr, Bool.false_and, State.whenb_false, hd]

/-- A reset that did not reach its target suspends the binding; at the VH end the slot shows empty. -/
theorem bindingResetFailed_vhEnd (ht : t = ((((s.onBnd (fun y => { y with
      resets := y.resets.filter (fun r => r.1 != bi) })).disarm .bindReset bi).setBindState bi 2 5).raise F.BND_EVT.BIND_SUSPEND))
    (hd : t.isDeviceEnd (t.bind bi) = false) :
    s.bindingResetFailed bi =
      ((t.showSlot (t.bind bi).vh (t.bind bi).vdsp false false).finish 0x0308 bi stBusy 2).finish 0x0309 bi stBusy 2 := by
  subst ht
  simp only [State.bindingResetFailed, hd, Bool.false_eq_true, if_false]

/-- A port whose link is up has reached the end of its reset. -/
theorem resetReached_port (hst : s.bindState bi = 3) (hk : (s.bind bi).kind = 0) (hl : s.linkUp (s.bind bi).port = true) (told : Bool) :
    s.resetReached bi told = s.bindingResetDone bi := by
  simp [State.resetReached, hst, hk, hl]

/-- A function without a method of reset has nothing to wait for (R122). -/
theorem resetReached_noMethod {told : Bool} (hst : s.bindState bi = 3) (hk : (s.bind bi).kind = 1)
    (hm : told = true ∨ look bi s.bnd.methods = some 2) : s.resetReached bi told =
      ((s.raise F.BND_EVT.NO_RESET).journal 0x0607 { vh := (s.bind bi).vh, binding := bi }).bindingResetDone bi := by
  simp [State.resetReached, hst, hk, hm]

end Sys2Proof.Laws
end

section
/-! The statements about the generation swap, and about the resets of a binding and orderly unbinding. -/

namespace Sys2Proof.Proofs

open Machine Laws

/-! ## The session, the commit and the swap -/

theorem sessionTimeout : Claims.sessionTimeout := fun _ _ hd hx hc => congrArg Host.Outcome.next (sessionTimeout_idle hd hx hc)

theorem sessionCommitting : Claims.sessionCommitting := fun _ hc => congrArg Host.Outcome.next (sessionTimeout_committing hc)

theorem commitValidated : Claims.commitValidated := fun _ _ _ hc hv hb ht => congrArg Host.Outcome.next (commitEnd_valid hc hv hb ht)

theorem commitRejected : Claims.commitRejected := by
  rintro s t u found tab i r hc hv h5 h6 ht rfl hu
  exact congrArg Host.Outcome.next (commitEnd_rejected hc hv h5 h6 hu ht)

theorem commitBusy : Claims.commitBusy := by
  rintro s t found hc hv hb rfl hu
  exact congrArg Host.Outcome.next (commitEnd_busy hc hv hb hu)

theorem swapExchanges : Claims.swapExchanges := by
  rintro s t u hgone hnew rfl rfl
  refine ⟨by simp only [State.disarm_bnd, State.setFld_bnd, State.onBnd_bnd], ?_⟩
  simp only [State.swap, hgone, hnew, State.each_nil]

theorem shadowCopyDone : Claims.shadowCopyDone := fun _ hc => congrArg Host.Outcome.next (copyDone_copying hc)

/-! ## Quiesce -/

theorem quiesceDone : Claims.quiesceDone := fun _ _ h0 hq ht => congrArg Host.Outcome.next (quiesced_first h0 hq ht)

theorem quiesceWaits : Claims.quiesceWaits := fun _ h0 => congrArg Host.Outcome.next (quiesced_older h0)

theorem quiesceLimit : Claims.quiesceLimit := by
  rintro s t h0 rfl
  exact congrArg Host.Outcome.next (if_neg h0)

/-- Settles O49: each clause says on which side of its conditions a session's timer, a commit, a copy or a quiesce comes out; a swap that
changes no binding only exchanges the banks and brings up what follows from them. -/
theorem generationSwap : Obligations.GenerationSwap :=
  ⟨sessionTimeout, sessionCommitting, commitValidated, commitRejected, commitBusy, swapExchanges, shadowCopyDone, quiesceDone, quiesceWaits,
    quiesceLimit⟩

/-! ## Resets of a binding -/

theorem bindingResetDone : Claims.bindingResetDone := fun _ _ hst hk hl =>
  congrArg Host.Outcome.next (resetReached_port hst hk hl false)

theorem bindingReset : Claims.bindingReset := fun _ _ _ hr ht hd => bindingResetDone_unresumed hr ht hd

theorem bindingNoReset : Claims.bindingNoReset := fun _ _ _ hst hk hm => congrArg Host.Outcome.next (resetReached_noMethod hst hk hm)

theorem bindingResetTimeout : Claims.bindingResetTimeout := by
  intro s t bi hdue hst ht hd
  refine congrArg Host.Outcome.next ?_
  rw [if_pos (by simp [hdue, hst])]
  exact bindingResetFailed_vhEnd ht hd

theorem orderlyUnbindTimeout : Claims.orderlyUnbindTimeout := fun _ _ hdue hst =>
  congrArg Host.Outcome.next (if_pos (by simp [hdue, hst]))

/-- Settles O37: a reset ends once its target has reached its end, fails once its time is over, and an orderly unbind whose time is over goes
on as a surprise. -/
theorem bindingResets : Obligations.BindingResets :=
  ⟨bindingResetDone, bindingReset, bindingNoReset, bindingResetTimeout, orderlyUnbindTimeout⟩

end Sys2Proof.Proofs
end

section
/-! SUPPORT. Configuration requests of a host (R100, R106): what a write of the host view and a request to a synthesised function come to,
by the condition that decides it. -/

namespace Sys2Proof.Laws

open Machine

variable {s t : State} {v i bi off : Nat} {u : HostUnit} {rid : BitVec 16} {tag : BitVec 14}

/-! ## Requests that are carried out -/

/-- What a configuration request finds whose host is heard and whose function answers. -/
theorem cfgOpen_iff : s.cfgOpen v u = true ↔
    s.isHostEdge v = true ∧ s.linkUp v = true ∧ s.vhActive v = true ∧ s.mode ≠ .reset ∧ s.mode ≠ .boot ∧ s.cfgStatus v u = .sc := by
  simp [State.cfgOpen, and_assoc]

/-- A function that is not there is never successful. -/
theorem unitPresent_of_cfgStatus_sc (h : s.cfgStatus v u = .sc) : s.unitPresent v u = true := by
  cases hp : s.unitPresent v u with
  | true => rfl
  | false =>
    simp only [State.cfgStatus, hp, Bool.not_false, if_true, ite_self] at h
    split at h
    · split at h <;> cases h
    · cases h

/-- A successful request is completed by the function itself (R420). -/
theorem cfgCompleter_of_cfgStatus_sc (h : s.cfgStatus v u = .sc) : s.cfgCompleter v u .sc = s.unitId v u := by
  cases u with
  | vusp => rfl
  | vdsp i => simp only [State.cfgCompleter, unitPresent_of_cfgStatus_sc h, if_true, State.unitId]
  | fn i => simp only [State.cfgCompleter, if_true, State.unitId]

/-- A write that is carried out takes effect, and completes. -/
theorem cfgWrite_open {f : State → State} (h : s.cfgOpen v u = true) :
    s.cfgWrite v u rid tag f = s.wrote (f s) v u rid tag := by
  obtain ⟨hedge, hup, hact, hreset, hboot, hst⟩ := cfgOpen_iff.mp h
  simp [State.cfgWrite, State.wrote, hedge, hup, hact, hreset, hboot, hst, cfgCompleter_of_cfgStatus_sc hst]

/-! ## Host-owned fields (R100) -/

/-- A field the host owns, and that has no other effect, holds what is written. -/
theorem hostField_holds {f : HostField} (x : Nat)
    (hf : f ∈ [.primaryBus, .secondaryBus, .subordinateBus, .memEn, .ioEn, .busMaster, .memBase, .memLimit, .prefBase, .prefLimit, .ioBase,
      .ioLimit, .uncMask, .uncSeverity, .corMask, .errEnables, .dpcTrigEn, .dpcCplCa, .acsSv, .acsTb, .acsRr, .acsCr, .acsUf, .acsDt,
      .poisonBlock, .slotVector, .mcEnable, .mcBase, .mcIndexPos, .mcNumGroup, .mcReceive]) :
    s.hostField v u f x = s.setHost v u f (x % 2 ^ 64) := by
  simp only [List.mem_cons, List.not_mem_nil, or_false] at hf
  rcases hf with rfl | rfl | rfl | rfl | rfl | rfl | rfl | rfl | rfl | rfl | rfl | rfl | rfl | rfl | rfl | rfl | rfl | rfl | rfl | rfl |
    rfl | rfl | rfl | rfl | rfl | rfl | rfl | rfl | rfl | rfl | rfl <;> rfl

/-- A status field loses the bits written as 1. -/
theorem hostField_clears {f : HostField} (x : Nat)
    (hf : f ∈ [.uncStatus, .corStatus, .attention, .presenceChanged, .dllChanged, .powerFault]) :
    s.hostField v u f x = s.setHost v u f (s.host v u f &&& (2 ^ 64 - 1 - x % 2 ^ 64)) := by
  simp only [List.mem_cons, List.not_mem_nil, or_false] at hf
  rcases hf with rfl | rfl | rfl | rfl | rfl | rfl <;> rfl

/-- A field Kalnum shows takes no write. -/
theorem hostField_shown {f : HostField} (x : Nat) (hf : f ∈ [.presence, .dllActive, .headerLog, .dpcStatus, .dpcReason, .bindGen]) :
    s.hostField v u f x = s := by
  simp only [List.mem_cons, List.not_mem_nil, or_false] at hf
  rcases hf with rfl | rfl | rfl | rfl | rfl | rfl <;> rfl

/-- Power off ends the orderly unbind of a binding that is UNBINDING (R99). -/
theorem powerCtl_unbinding (ht : t = s.setHost v (.vdsp i) .powerCtlOff 1) (hb : t.bindingOf v i = some bi) (hst : t.bindState bi = 4) :
    s.powerCtl v i true = t.unbound bi := by
  subst ht
  simp only [State.powerCtl, b2n, if_true, hb, hst]

/-- Power on at a BOUND port whose guard lets its host switch the power is a request to the guard (R355). -/
theorem powerCtl_on {g : Nat} (ht : t = s.setHost v (.vdsp i) .powerCtlOff 0) (hb : t.bindingOf v i = some bi) (hst : t.bindState bi = 1)
    (hk : (t.bind bi).kind = 0) (hg : t.guardOf (t.bind bi).port = some g) (hp : t.flag F.SPG_SLOT_CFG.HOST_PWR g = true) :
    s.powerCtl v i false = t.gRequest g false := by
  subst ht
  simp [State.powerCtl, b2n, hb, hst, hk, hg, hp]

/-! ## The configuration proxy (R106) -/

/-- A write that Malacel answers: of a field that is not passed through, outside word 0x04. -/
theorem cfgProxy_write_answered {field : CfgField} {w : BitVec 32} (h : s.cfgOpen v (.fn i) = true) (hf : field ≠ .passed) (hoff : off ≠ 4)
    (ht : t = if field = .hidden then s else s.heldWrite v i off w.toNat) :
    s.cfgProxy v i off (some w) field rid tag = (t.own v v 0xFFF { mkCpl { kind := .cfgwr, rid := rid, tag := tag } .sc
      (t.unitId v (.fn i)) 4 0 with data := [], len := 0 }).poolEvents := by
  obtain ⟨hedge, hup, hact, hreset, hboot, hst⟩ := cfgOpen_iff.mp h
  subst ht
  simp [State.cfgProxy, hedge, hup, hact, hreset, hboot, hst, hf, hoff, State.cfgCompleter, State.unitId]

/-- A read that Malacel answers, of a field it holds. -/
theorem cfgProxy_read_held (h : s.cfgOpen v (.fn i) = true) (hoff : off ≠ 4) (hk : s.knownWord v i off = true) :
    s.cfgProxy v i off none .held rid tag = (s.own v v 0xFFF { mkCpl { kind := .cfgrd, rid := rid, tag := tag } .sc
      (s.unitId v (.fn i)) 4 0 with
      data := leBytes 4 (s.synthRead v i off), len := (leBytes 4 (s.synthRead v i off)).length }).poolEvents := by
  obtain ⟨hedge, hup, hact, hreset, hboot, hst⟩ := cfgOpen_iff.mp h
  simp [State.cfgProxy, hedge, hup, hact, hreset, hboot, hst, hoff, hk, State.cfgCompleter, State.unitId]

/-- A read of a field of a hidden capability returns 0. -/
theorem cfgProxy_read_hidden (h : s.cfgOpen v (.fn i) = true) (hoff : off ≠ 4) :
    s.cfgProxy v i off none .hidden rid tag = (s.own v v 0xFFF { mkCpl { kind := .cfgrd, rid := rid, tag := tag } .sc
      (s.unitId v (.fn i)) 4 0 with data := [0, 0, 0, 0], len := 4 }).poolEvents := by
  obtain ⟨hedge, hup, hact, hreset, hboot, hst⟩ := cfgOpen_iff.mp h
  have hzero : leBytes 4 0 = [0, 0, 0, 0] := rfl
  simp [State.cfgProxy, hedge, hup, hact, hreset, hboot, hst, hoff, hzero, State.cfgCompleter, State.unitId]

/-- A request for a field passed through to the target of another device goes to the proxy. -/
theorem cfgProxy_passed {write : Option (BitVec 32)} (h : s.cfgOpen v (.fn i) = true) (hb : s.bindingOf v i = some bi)
    (hk : (s.bind bi).kind ≠ 5) (hw : off ≠ 4 ∨ write = none) :
    s.cfgProxy v i off write .passed rid tag = s.proxyAsk ⟨v, i, off, write, rid, tag⟩ := by
  obtain ⟨hedge, hup, hact, hreset, hboot, hst⟩ := cfgOpen_iff.mp h
  have hfar : ((s.bindingOf v i).filter (fun bi => Bind.kind (s.bind bi) != 5)).isSome = true := by simp [hb, hk]
  cases write with
  | none => simp [State.cfgProxy, hedge, hup, hact, hreset, hboot, hst, hfar]
  | some w =>
    have hoff : off ≠ 4 := hw.resolve_right (by simp)
    simp [State.cfgProxy, hedge, hup, hact, hreset, hboot, hst, hfar, hoff]

/-- An update that leaves the bindings' state as it is. -/
theorem onBnd_of_eq {f g : BindState → BindState} (h : f s.bnd = g s.bnd) : s.onBnd f = s.onBnd g := by
  rw [State.onBnd, h, State.onBnd]

/-- Requests that waited for the proxy where none did before are gone again. -/
theorem onProxyWaits_back (h : s.bnd.proxyWaits = []) (l : List ProxyWait) :
    (s.onBnd (fun y => { y with proxyWaits := l })).onBnd (fun y => { y with proxyWaits := [] }) = s := by
  show s.onBnd (fun y => { y with proxyWaits := [] }) = s.onBnd id
  refine onBnd_of_eq ?_
  rw [← h, id]

/-- The requests that wait for the proxy bind no vDSP. -/
theorem bindingOf_onProxyWaits (l : List ProxyWait) : (s.onBnd (fun y => { y with proxyWaits := l })).bindingOf v i = s.bindingOf v i := rfl

/-- Nor do they hold a tag. -/
theorem proxyTag_onProxyWaits (l : List ProxyWait) (n : Nat) :
    (s.onBnd (fun y => { y with proxyWaits := l })).proxyTag n = s.proxyTag n := rfl

/-- A tag for the proxy is one of requester 0x00FF, and comes with an entry of VH 0's share. -/
theorem takes_of_proxyTag {n : Nat} {x : BitVec 14} (h : s.proxyTag n = some x) : s.mayTake 0 = true ∧ s.freeTag 0x00FF = some x := by
  rw [State.proxyTag, Option.ite_none_right_eq_some, Bool.and_eq_true] at h
  exact ⟨h.1.1, h.2⟩

/-- One request waits, and leaves under a tag. -/
theorem proxyGo_leaves {q : ProxyWait} {n : BitVec 14} (hw : s.bnd.proxyWaits = [q]) (hb : s.bindingOf q.vh q.vdsp = some bi)
    (hn : s.proxyTag (if q.write.isSome then 4 else 0) = some n) :
    s.proxyGo = ((s.onBnd (fun y => { y with proxyWaits := [] })).proxySend q bi n).poolEvents := by
  simp only [State.proxyGo, hw, List.isEmpty_cons, List.length_singleton, Bool.false_eq_true, if_false, State.proxyRun, hb, hn]

/-- One request waits, and finds no tag. -/
theorem proxyGo_stays {q : ProxyWait} (hw : s.bnd.proxyWaits = [q]) (hb : s.bindingOf q.vh q.vdsp = some bi)
    (hn : s.proxyTag (if q.write.isSome then 4 else 0) = none) : s.proxyGo = s.poolEvents := by
  simp only [State.proxyGo, hw, List.isEmpty_cons, List.length_singleton, Bool.false_eq_true, if_false, State.proxyRun, hb, hn]

/-- The first configuration request that waits, and may leave, leaves. -/
theorem proxyAsk_leaves {q : ProxyWait} {n : BitVec 14} (hnone : s.bnd.proxyWaits = []) (hb : s.bindingOf q.vh q.vdsp = some bi)
    (hn : s.proxyTag (if q.write.isSome then 4 else 0) = some n) : s.proxyAsk q = (s.proxySend q bi n).poolEvents := by
  obtain ⟨hmay, htag⟩ := takes_of_proxyTag hn
  have hwait : s.onBnd (fun y => { y with proxyWaits := y.proxyWaits ++ [q] }) = s.onBnd (fun y => { y with proxyWaits := [q] }) :=
    onBnd_of_eq (by rw [hnone, List.nil_append])
  have hgo := proxyGo_leaves (s := s.onBnd (fun y => { y with proxyWaits := [q] })) rfl ((bindingOf_onProxyWaits [q]).trans hb)
    ((proxyTag_onProxyWaits [q] _).trans hn)
  rw [onProxyWaits_back hnone] at hgo
  rw [State.proxyAsk, hwait, hgo]
  simp only [hmay, htag, Bool.not_true, Option.isNone_some, Bool.or_self, Bool.and_false, State.whenb_false]

/-- The first configuration request that waits for the tracker counts an episode. -/
theorem proxyAsk_waits {q : ProxyWait} (hnone : s.bnd.proxyWaits = []) (hm : s.mayTake 0 = false)
    (ht : t = s.onBnd (fun y => { y with proxyWaits := [q] })) (hb : t.bindingOf q.vh q.vdsp = some bi) (hm' : t.mayTake 0 = false)
    (hp : t.poolEvents = t) : s.proxyAsk q = (t.bump R.BND_TRK_STALL_CNT).raise F.BND_EVT.TRK_FULL := by
  have hwait : s.onBnd (fun y => { y with proxyWaits := y.proxyWaits ++ [q] }) = t := by
    rw [ht]
    exact onBnd_of_eq (by rw [hnone, List.nil_append])
  have hq : t.bnd.proxyWaits = [q] := by rw [ht, State.onBnd_bnd]
  have hgo : t.proxyGo = t := (proxyGo_stays hq hb (by simp [State.proxyTag, hm'])).trans hp
  rw [State.proxyAsk, hwait, hgo]
  simp only [hnone, hq, hm, List.isEmpty_nil, List.isEmpty_cons, Bool.not_false, Bool.true_or, Bool.and_self, State.whenb_true]

/-- A write of a register of a target of this device's own goes out at its port, with its entry and 50 ms for its answer. -/
theorem proxySend_write {q : ProxyWait} {w : BitVec 32} {n : BitVec 14} {c : Tlp} {e : TrkEntry} (hw : q.write = some w) (hoff : q.off ≠ 4)
    (hk : (s.bind bi).kind ≠ 3)
    (hc : c = { kind := .cfgwr, rid := 0x00FF, tag := n, target := BitVec.ofNat 16 (s.bind bi).rid, idRouted := true, addr := q.off,
                len := 4, data := leBytes 4 w.toNat
                ld := if (s.bind bi).kind = 4 then some ⟨(s.bind bi).ldId % 16, Nat.mod_lt _ (by decide)⟩ else none })
    (he : e = { state := .opn, vh := 255, bound := false, binding := bi, kind := .cfgwr, origRid := 0x00FF, origTag := n, outRid := 0x00FF,
                outTag := n, inPort := 144, outPort := (s.bind bi).port, destFeid := 0, srcFeid := s.ownFeid, bytesLeft := 4,
                bytesTotal := 4, acuTail := 0, gen := s.fld F.BND_GEN_STATUS.ACTIVE_GEN % 256, tIssue := s.tb.toNat % 2 ^ 32,
                fromHost := false, remote := false, quarEnd := 0, tlp := c, found := s.bind bi, srcFound := s.bind bi })
    (ht : t = (s.drew.onBnd (fun y => { y with
      trk := y.trk ++ [e], proxied := y.proxied ++ [(n.toNat, q.vh, bi, q.rid, q.tag)] })).arm .proxy n.toNat (ms 50)) :
    s.proxySend q bi n = t.trkMarks.own (s.bind bi).port q.vh bi c := by
  subst ht he hc
  simp only [State.proxySend, hw, hoff, hk, Option.isSome_some, Option.elim_some, leBytes_length, if_true, if_false, decide_false]

/-- Without an answer in its 50 ms, a forwarded configuration request ends with Unsupported Request. -/
theorem proxyTimeout_due {k n : Nat} {htag : BitVec 14} (hd : s.due .proxy n = true)
    (hf : s.bnd.proxied.find? (fun e => e.1 == n) = some (k, v, bi, rid, htag))
    (ht : t = ((s.onBnd (fun y => { y with proxied := y.proxied.filter (fun e => e.1 != n) })).disarm .proxy n).onEntries
      (fun e => e.inPort == 144 && e.outTag.toNat == n && e.state == .opn)
      (fun e => { e with state := .quarantine, quarEnd := s.now + s.quarTime })) :
    s.proxyTimeout n = (((((t.own v v bi (mkCpl { kind := .cfgrd, rid := rid, tag := htag } .ur (t.vdspId v (t.bind bi).vdsp) 4 0)).bump
      R.BND_CFG_PROXY_TO_CNT).raise F.BND_EVT.PROXY_TIMEOUT).reportBinding 0x0307 bi .completionTimeout false).poolEvents) := by
  subst ht
  simp only [State.proxyTimeout, hd, hf, Bool.not_true, Bool.false_eq_true, if_false]
  rfl

end Sys2Proof.Laws
end

section
/-! The statement about a host's configuration accesses, those proxied to a target, function resets and power control. -/

namespace Sys2Proof.Proofs

open Machine Laws

/-! ## Host-owned fields -/

theorem hostCfgWrite : Claims.hostCfgWrite := by
  intro s vh u f x rid tag h hf
  refine congrArg Host.Outcome.next ((cfgWrite_open h).trans ?_)
  rw [hostField_holds x.toNat hf, Nat.mod_eq_of_lt x.isLt]

theorem hostCfgWriteClears : Claims.hostCfgWriteClears := by
  intro s vh u f x rid tag h hf
  refine congrArg Host.Outcome.next ((cfgWrite_open h).trans ?_)
  rw [hostField_clears x.toNat hf, Nat.mod_eq_of_lt x.isLt]

theorem hostCfgWriteBar : Claims.hostCfgWriteBar := fun _ _ _ _ _ _ _ h => congrArg Host.Outcome.next (cfgWrite_open h)

theorem hostCfgWriteShown : Claims.hostCfgWriteShown := by
  intro s vh u f x rid tag h hf
  refine congrArg Host.Outcome.next ((cfgWrite_open h).trans ?_)
  rw [hostField_shown x.toNat hf]

/-! ## The configuration proxy -/

/-- The words of the BARs are not word 0x04. -/
theorem bar_ne_command {off : Nat} (hlo : 0x10 ≤ off) : off ≠ 4 := by omega

theorem cfgProxyWrite : Claims.cfgProxyWrite := by
  rintro s t vh i off w rid tag h hlo hhi rfl
  refine congrArg Host.Outcome.next (cfgProxy_write_answered h (by decide) (bar_ne_command hlo) ?_)
  simp only [reduceCtorEq, if_false, State.heldWrite, hlo, hhi, decide_true, Bool.and_self, if_true]
  rfl

theorem cfgProxyRead : Claims.cfgProxyRead := fun _ _ _ _ _ _ h hlo hhi =>
  congrArg Host.Outcome.next (cfgProxy_read_held h (bar_ne_command hlo) (by simp [State.knownWord, hlo, hhi]))

theorem cfgProxyForward : Claims.cfgProxyForward := by
  intro s u vh i off w rid tag t bi c e h hb hoff h5 h3 hnone ht hc he hu
  refine congrArg Host.Outcome.next ?_
  calc s.cfgProxy vh i (off.toNat / 4 * 4) (some w) .passed rid tag
    _ = s.proxyAsk ⟨vh, i, off.toNat / 4 * 4, some w, rid, tag⟩ := cfgProxy_passed h hb h5 (.inl hoff)
    _ = (s.proxySend ⟨vh, i, off.toNat / 4 * 4, some w, rid, tag⟩ bi t).poolEvents := proxyAsk_leaves hnone hb ht
    _ = (u.trkMarks.own (s.bind bi).port vh bi c).poolEvents := by rw [proxySend_write rfl hoff h3 hc he hu]

theorem cfgProxyTimeout : Claims.cfgProxyTimeout := fun _ _ _ _ _ _ _ _ hd hf ht => congrArg Host.Outcome.next (proxyTimeout_due hd hf ht)

theorem cfgProxyHidden : Claims.cfgProxyHidden := fun _ _ _ _ _ _ _ h hoff =>
  ⟨congrArg Host.Outcome.next (cfgProxy_read_hidden h hoff),
    congrArg Host.Outcome.next (cfgProxy_write_answered h (by decide) hoff (if_pos rfl).symm)⟩

theorem cfgProxyWaits : Claims.cfgProxyWaits := fun _ _ _ _ _ _ _ _ h hb h5 hnone hm ht hb' hm' hp =>
  congrArg Host.Outcome.next ((cfgProxy_passed h hb h5 (.inr rfl)).trans (proxyAsk_waits hnone hm ht hb' hm' hp))

/-! ## Function resets and power control -/

theorem hostFlrWrite : Claims.hostFlrWrite := by
  intro s vh i bi rid tag h hb
  refine congrArg Host.Outcome.next ((cfgWrite_open h).trans ?_)
  rw [hb]

theorem flrStarts : Claims.flrStarts := by
  rintro s t bi resume c hv hk hst rfl hd rfl
  simp only [State.startReset, hv, hk, hst, hd, Bool.not_true, Bool.false_and, Bool.false_eq_true, Nat.reduceEqDiff, decide_false, Bool.or_self,
    if_false]
  rfl

theorem hostPowerCtrlWrite : Claims.hostPowerCtrlWrite := by
  intro s t vh i bi rid tag h ht hb hst
  refine congrArg Host.Outcome.next ((cfgWrite_open h).trans ?_)
  rw [powerCtl_unbinding ht hb hst]

theorem hostPowerOn : Claims.hostPowerOn := by
  intro s t vh i bi g rid tag h ht hb hst hk hg hp
  refine congrArg Host.Outcome.next ((cfgWrite_open h).trans ?_)
  rw [powerCtl_on ht hb hst hk hg hp]

/-- Settles O35: a request that is open takes effect and completes; which effect its field, the binding of its function, or the proxy's wait
decides. -/
theorem hostConfiguration : Obligations.HostConfiguration :=
  ⟨hostCfgWrite, hostCfgWriteClears, hostCfgWriteBar, hostCfgWriteShown, cfgProxyWrite, cfgProxyRead, cfgProxyForward, cfgProxyTimeout,
    hostFlrWrite, flrStarts, hostPowerCtrlWrite, hostPowerOn, cfgProxyHidden, cfgProxyWaits⟩

end Sys2Proof.Proofs
end

section
/-! SUPPORT. DPC, the posted-failure ring and the resets of a virtual hierarchy (R120, R206, R216): what each comes to, by the condition that
decides it. -/

namespace Sys2Proof.Laws

open Machine

variable {s t : State} {v i bi : Nat}

/-! ## DPC (R206, R207) -/

/-- A trigger while the status is set changes nothing. -/
theorem dpcTrigger_on (h : s.dpcOn v i = true) (reason : Nat) : s.dpcTrigger v i reason = s := if_pos h

/-- A trigger on a vDSP without a binding only shows. -/
theorem dpcTrigger_unbound {reason : Nat} (h : s.dpcOn v i = false)
    (ht : t = (((s.setHost v (.vdsp i) .dpcStatus 1).setHost v (.vdsp i) .dpcReason reason).bump R.ERR_DPC_CNT).raise F.ERR_EVT.DPC)
    (hb : t.bindingOf v i = none) : s.dpcTrigger v i reason = t := by
  subst ht
  simp only [State.dpcTrigger, h, hb, Bool.false_eq_true, if_false]

/-- A trigger on a vDSP with a binding contains it. -/
theorem dpcTrigger_bound {u x w : State} {reason : Nat} (h : s.dpcOn v i = false)
    (ht : t = (((s.setHost v (.vdsp i) .dpcStatus 1).setHost v (.vdsp i) .dpcReason reason).bump R.ERR_DPC_CNT).raise F.ERR_EVT.DPC)
    (hb : t.bindingOf v i = some bi)
    (hu : u = (((t.leaveBound bi).setBindState bi 2 3).showSlot v i false false).raise F.BND_EVT.BIND_SUSPEND)
    (hx : x = if (t.bind bi).kind = 0 then u.linkEnds (t.bind bi).port 0 5 else u)
    (hw : w = x.each (x.bnd.trk.filter (fun (e : TrkEntry) =>
        e.state == .opn && e.bound && (e.binding == bi || (e.peer && e.srcBinding == bi))))
      (fun s e => if e.fromHost then s.synth e (x.dpcStatusOf v i) else if s.linkUp e.inPort then s.synth e .ur
        else s.freeEntries (·.same e))) :
    s.dpcTrigger v i reason =
      (w.endWaiting bi (fun _ => true) (x.dpcStatusOf v i) (w.vdspId v i)).dropWrites bi (fun _ => true) := by
  have hx' : u.whenb ((t.bind bi).kind == 0) (fun s => s.linkEnds (t.bind bi).port 0 5) = x := by
    simp only [hx, State.whenb, beq_iff_eq]
  subst ht
  simp only [State.dpcTrigger, h, hb, Bool.false_eq_true, if_false, ← hu, hx', ← hw]

/-- The host clears the status of a vDSP whose binding DPC suspended, and the binding is reset. -/
theorem dpcClear_suspended (h : s.dpcOn v i = true)
    (ht : t = (s.setHost v (.vdsp i) .dpcStatus 0).setHost v (.vdsp i) .dpcReason 0) (hb : t.bindingOf v i = some bi)
    (hst : t.bindState bi = 2) (hc : t.fld F.BND_BIND_STATE.SUSPEND_CAUSE bi = 3) : s.dpcClear v i = t.startReset bi true := by
  subst ht
  simp only [State.dpcClear, h, hb, hst, hc, Bool.not_true, Bool.false_eq_true, if_false, decide_true, Bool.and_self, if_true]

/-! ## Resets of a VH (R120, Table 4.15) -/

/-- A reset of a VH that is not under reset, and is not the management VH. -/
theorem vhReset_first {u : State} (hn : s.bnd.resetting.contains v = false) (hm : v ≠ s.bnd.mgmtVh)
    (ht : t = ((((((s.setFld F.BND_VH_STATUS.STATE v 1).raise F.BND_EVT.VH_RESET v).bump R.BND_VH_RESET_CNT v).endHolds v).endToward
      v).onEntries (fun e => e.vh == v && e.state == .opn) (fun e => { e with state := .orphan })))
    (hu : u = ((t.clearHost v).each (t.bindingsOf v) (fun s e =>
      if s.bindState e.1 == 1 || s.bindState e.1 == 3 then s.slotIs v (Bind.vdsp e.2) true true else s)).onBnd (fun y => { y with
        resetting := v :: y.resetting
        proxyWaits := y.proxyWaits.filter (fun (q : ProxyWait) => q.vh != v)
        proxied := y.proxied.filter (fun e => e.2.1 != v) })) :
    s.vhReset v = u.each (u.bindingsOf v) (fun s e => s.startReset e.1 false) := by
  subst hu ht
  simp only [State.vhReset, hn, Bool.false_eq_true, if_false, beq_eq_false_iff_ne.mpr hm, State.whenb]

/-- The steps of a VH reset have ended: the link of its host-edge port says which state it takes. -/
theorem vhReady_resetting (hr : s.bnd.resetting.contains v = true)
    (ht : t = s.onBnd (fun y => { y with resetting := s.bnd.resetting.filter (· != v) })) {n : Nat} (hn : (if t.linkUp v then 2 else 0) = n) :
    s.vhReady v = ((t.setFld F.BND_VH_STATUS.STATE v n).whenb ((t.setFld F.BND_VH_STATUS.STATE v n).vhActive v)
      (fun s => s.releaseHeld v)).limitsAgain := by
  subst ht hn
  simp only [State.vhReady, hr, Bool.not_true, Bool.false_eq_true, if_false, State.vhResetDone]

end Sys2Proof.Laws
end

section
/-! The statement about resets of a hierarchy, DPC and the posted-failure ring. -/

namespace Sys2Proof.Proofs

open Machine Laws

/-! ## What the host does at a vDSP -/

theorem secondaryBusReset : Claims.secondaryBusReset := by
  intro s vh i bi rid tag h hb
  refine congrArg Host.Outcome.next ((cfgWrite_open h).trans ?_)
  rw [State.busReset, hb]

theorem dpcSwTrigger : Claims.dpcSwTrigger := by
  intro s t vh i rid tag h hd ht hb
  refine congrArg Host.Outcome.next ((cfgWrite_open h).trans ?_)
  rw [dpcTrigger_unbound hd ht hb]

theorem dpcContains : Claims.dpcContains := by
  intro s t u v w vh i bi rid tag h hd ht hb hu hv hw
  refine congrArg Host.Outcome.next ((cfgWrite_open h).trans ?_)
  rw [dpcTrigger_bound hd ht hb hu hv hw]

theorem dpcSwTriggerAgain : Claims.dpcSwTriggerAgain := by
  intro s vh i rid tag h hd
  refine congrArg Host.Outcome.next ((cfgWrite_open h).trans ?_)
  rw [dpcTrigger_on hd]

theorem dpcStatusClear : Claims.dpcStatusClear := by
  intro s t vh i bi rid tag h hd ht hb hst hc
  refine congrArg Host.Outcome.next ((cfgWrite_open h).trans ?_)
  rw [dpcClear_suspended hd ht hb hst hc]

theorem pflConsWrite : Claims.pflConsWrite := by
  rintro s t vh i cons rid tag used h rfl rfl
  exact congrArg Host.Outcome.next (cfgWrite_open h)

/-! ## Links that go down and virtual hierarchies that reset -/

theorem poolEdgeLinkDown : Claims.poolEdgeLinkDown := fun _ _ _ hp hl => congrArg Host.Outcome.next (if_pos (by simp [hp, hl]))

theorem vhResetEvent : Claims.vhResetEvent := fun _ _ _ hp hl => congrArg Host.Outcome.next (if_pos (by simp [hp, hl]))

theorem vhResets : Claims.vhResets := fun _ _ _ _ hn hm ht hu => vhReset_first hn hm ht hu

theorem vhResetDone : Claims.vhResetDone := by
  intro s t v hr ht hl ha
  have hready := vhReady_resetting hr ht (n := 2) (by rw [hl]; rfl)
  rw [whenb_of_true ha] at hready
  exact congrArg Host.Outcome.next hready

theorem vhResetDoneDown : Claims.vhResetDoneDown := by
  intro s t v hr ht hl ha
  have hready := vhReady_resetting hr ht (n := 0) (by rw [hl]; rfl)
  rw [whenb_of_false ha] at hready
  exact congrArg Host.Outcome.next hready

/-- Settles O36: DPC and a reset show on which side of its condition each comes out, a reset of a VH takes its steps in order, and its end is
as the link of its port is. -/
theorem hierarchyResets : Obligations.HierarchyResets :=
  ⟨secondaryBusReset, dpcSwTrigger, dpcContains, dpcSwTriggerAgain, dpcStatusClear, pflConsWrite, poolEdgeLinkDown, vhResetEvent, vhResets,
    vhResetDone, vhResetDoneDown⟩

end Sys2Proof.Proofs
end

section
/-! SUPPORT. Requests as they arrive at an edge port (R101 to R105, R220, R331): what becomes of one, by the condition that decides it. -/

namespace Sys2Proof.Laws

open Machine

variable {s a : State} {t : Tlp} {v p i bi : Nat}

/-! ## Arrival -/

/-- A packet that can arrive as a request reaches its host-edge port. -/
theorem exec_hostRequestRx {p : Fin 144} (hw : t.wellFormed = true) (ho : t.kind.ord ≠ .completion) :
    exec (.hostRequestRx p t) s = .next (s.requestRx p true t) :=
  if_pos (by simp [hw, ho])

/-- A packet that can arrive as a request reaches its pool-edge port. -/
theorem exec_targetRequestRx {p : Fin 144} (hw : t.wellFormed = true) (ho : t.kind.ord ≠ .completion) :
    exec (.targetRequestRx p t) s = .next (s.requestRx p false t) :=
  if_pos (by simp [hw, ho])

/-- A port that hears a request outside DROWSE takes it now, after those that a wake held. -/
theorem requestRx_now {host : Bool} (hh : s.hearsTlp p host = true) (hm : s.mode ≠ .drowse) :
    s.requestRx p host t = s.releaseRequests.requestNow p t := by
  simp only [State.requestRx, hh, hm, Bool.not_true, Bool.false_eq_true, if_false]

/-- A port that hears a request in DROWSE wakes Kalnum and holds it. -/
theorem requestRx_drowse {host : Bool} (hh : s.hearsTlp p host = true) (hm : s.mode = .drowse) :
    s.requestRx p host t = ((s.lowPowerExit p).wakeBy 1 p).onPwr (fun y => { y with heldReq := y.heldReq ++ [(p, t)] }) := by
  simp only [State.requestRx, hh, hm, Bool.not_true, Bool.false_eq_true, if_false, if_true]

/-- Outside the fence a request of a host that is no configuration request is looked up in its VH. -/
theorem requestNow_host (he : s.isHostEdge p = true) (hr : t.kind ≠ .cfgrd) (hw : t.kind ≠ .cfgwr)
    (hf : (s.tlpArrives p).flag F.ERR_STATUS.FENCE = false) :
    s.requestNow p t = ((s.tlpArrives p).hostRequest p t).serviceRun.dmRun := by
  simp only [State.requestNow, he, if_true, State.hostNow, hr, hw, decide_false, Bool.or_self, hf, Bool.false_eq_true, if_false]

/-- Outside the fence a request of a target is classified. -/
theorem requestNow_target (he : s.isHostEdge p = false) (hf : (s.tlpArrives p).flag F.ERR_STATUS.FENCE = false) :
    s.requestNow p t = ((s.tlpArrives p).targetRequest p t).serviceRun.dmRun := by
  simp only [State.requestNow, he, State.targetNow, hf, Bool.false_eq_true, if_false]

/-- Behind the fence a request of a target is discarded or refused. -/
theorem requestNow_fenced (he : s.isHostEdge p = false) (hf : (s.tlpArrives p).flag F.ERR_STATUS.FENCE = true) :
    s.requestNow p t = ((s.tlpArrives p).refuse p p 0xFFF t .ur 0).poolEvents.serviceRun.dmRun := by
  simp only [State.requestNow, he, State.targetNow, hf, Bool.false_eq_true, if_false, if_true, State.fenced]

/-! ## Requests of a host -/

/-- A request no vDSP claims is unclaimed. -/
theorem hostRequest_unclaimed (ha : a = s.poisonIn (.vusp v) v 0xFFF t) (hg : a.mcGroup v t = none) (hc : a.hostClaim v t = none) :
    s.hostRequest v t = a.unclaimed v t := by
  subst ha
  simp only [State.hostRequest, hg, ite_self, hc]

/-- A request that the vDSP of a binding claims reaches it. -/
theorem hostRequest_bound (ha : a = s.poisonIn (.vusp v) v 0xFFF t) (hg : a.mcGroup v t = none) (hc : a.hostClaim v t = some i)
    (hb : a.bindingOf v i = some bi) : s.hostRequest v t = a.hostToBinding v i bi (ordCode t.kind.ord) t := by
  subst ha
  simp only [State.hostRequest, hg, ite_self, hc, hb]

/-- A packet that is not poisoned is not stopped for it. -/
theorem poisonStop_clean {u : HostUnit} {fn : AerFn} {cid : BitVec 16} (h : t.ep = false) : s.poisonStop v u fn p bi t cid = none := by
  simp only [State.poisonStop, h, Bool.false_and, Bool.false_eq_true, if_false]

/-- Nor is it counted or logged as one. -/
theorem poisonIn_clean {fn : AerFn} (h : t.ep = false) : s.poisonIn fn v bi t = s := whenb_of_false h

/-- A port binding is neither a function's nor an internal one. -/
theorem kind_of_isPortKind {b : Bind} (h : b.isPortKind = true) : b.kind = 0 ∨ b.kind = 2 := by
  simpa [Bind.isPortKind] using h

/-- A memory request is not of CXL.mem, nor a request of I/O. -/
theorem not_isCxl_of_isMem {k : TlpKind} (h : k.isMem = true) : k.isCxl = false := by
  revert h
  cases k <;> decide

/-- A request under a port binding that forwards goes on at its own address. -/
theorem hostToBinding_port {charge : Nat} (hide : t.ide = false) (hat : t.at_ = 0) (hep : t.ep = false) (hf : s.forwards bi = true)
    (hk : (s.bind bi).isPortKind = true) :
    s.hostToBinding v i bi charge t = s.issue ((s.downPlan v charge bi).keepIds t) t t.addr (2 ^ 64) := by
  have hkind := kind_of_isPortKind hk
  have h15 : ¬((s.bind bi).kind = 1 ∨ (s.bind bi).kind = 5) := by omega
  simp [State.hostToBinding, hide, hat, hf, hk, h15, poisonStop_clean hep]

/-- A memory request under a function binding that forwards goes to the window its address falls in. -/
theorem hostToBinding_window {charge : Nat} {w : BitVec 512} (hm : t.kind.isMem = true) (hide : t.ide = false) (hat : t.at_ = 0)
    (hep : t.ep = false) (hf : s.forwards bi = true) (hk : (s.bind bi).isPortKind = false) (hw : s.barHit (s.bind bi) t.addr = some w)
    (hrd : ef w 32 1 = 1) (hwr : ef w 33 1 = 1) :
    s.hostToBinding v i bi charge t = s.issue ((s.downPlan v charge bi).keepIds t) t (winDevBase w + t.addr % winSize w)
      (winPhys w - t.addr % winSize w) := by
  simp [State.hostToBinding, hm, not_isCxl_of_isMem hm, hide, hat, hf, hk, hw, hrd, hwr, poisonStop_clean hep]

/-- Without a check, and with room for it, a request is issued whole. -/
theorem issue_whole {pl : Plan} {addr room : Nat} (hc : pl.check = false) (hr : max 1 t.len ≤ room) :
    s.issue pl t addr room = s.launch pl t { t with addr := addr } (max 1 t.len) 0 := by
  have hnone : refusedBy t.kind [⟨0, max 1 t.len, .allow⟩] = none := rfl
  have hin : beyondOf [⟨0, max 1 t.len, .allow⟩] = none := rfl
  simp only [State.issue, hc, hr, hnone, hin, Bool.false_eq_true, if_false, if_true, Option.isNone_none, Bool.and_self]

/-! ## Requests of targets -/

/-- A request of a binding at its VH end whose VH is not ACTIVE is counted and refused. -/
theorem targetRequest_blocked (hc : s.classify p t = some bi) (hd : s.isDeviceEnd (s.bind bi) = false)
    (hv : s.vhActive (s.bind bi).vh = false) : s.targetRequest p t =
      (s.bump R.BND_VH_BLOCKED_CNT (s.bind bi).vh).refuse p (s.bind bi).vh bi t .ur (s.vdspId (s.bind bi).vh (s.bind bi).vdsp) := by
  simp [State.targetRequest, hc, hd, hv, State.blocked]

/-- A request of a binding at its VH end that forwards is routed in its VH. -/
theorem targetRequest_forwards (hc : s.classify p t = some bi) (hd : s.isDeviceEnd (s.bind bi) = false)
    (hv : s.vhActive (s.bind bi).vh = true) (hep : t.ep = false) (hide : t.ide = false) (hf : s.forwards bi = true) :
    s.targetRequest p t = s.upRequest bi p (ordCode t.kind.ord) t true (s.upPolicer (s.bind bi)) s.ownFeid := by
  simp [State.targetRequest, hc, hd, hv, hide, hf, poisonIn_clean hep]

end Sys2Proof.Laws
end

section
/-! The statement about requests at host edges and from bound targets. -/

namespace Sys2Proof.Proofs

open Machine Laws

/-! ## Requests of a host -/

theorem hostRequestUnclaimed : Claims.hostRequestUnclaimed := by
  intro s a p t hw ho hh hm he hr hcw hf ha hg hc
  rw [exec_hostRequestRx hw ho, requestRx_now hh hm, requestNow_host he hr hcw hf, hostRequest_unclaimed ha hg hc,
    State.unclaimed, State.unclaimedBy]

theorem hostRequestRx : Claims.hostRequestRx := by
  intro s a p t i bi hw ho hh hm he hr hcw hf ha hg hc hb hide hat hep hfw hk
  rw [exec_hostRequestRx hw ho, requestRx_now hh hm, requestNow_host he hr hcw hf, hostRequest_bound ha hg hc hb,
    hostToBinding_port hide hat hep hfw hk]

theorem hostRequestWindow : Claims.hostRequestWindow := by
  intro s a p t i bi w hw ho hh hm he hmem hf ha hg hc hb hide hat hep hfw hk hhit hrd hwr
  have hr : t.kind ≠ .cfgrd := fun h => by rw [h] at hmem; cases hmem
  have hcw : t.kind ≠ .cfgwr := fun h => by rw [h] at hmem; cases hmem
  rw [exec_hostRequestRx hw ho, requestRx_now hh hm, requestNow_host he hr hcw hf, hostRequest_bound ha hg hc hb,
    hostToBinding_window hmem hide hat hep hfw hk hhit hrd hwr]

theorem issueWhole : Claims.issueWhole := fun _ _ _ _ _ hc hr => issue_whole hc hr

theorem requestHeld : Claims.requestHeld := by
  intro s p t hw ho hh hm
  rw [exec_hostRequestRx hw ho, requestRx_drowse hh hm]

/-! ## Requests of targets -/

theorem requestFenced : Claims.requestFenced := by
  intro s p t hw ho hh hm he hf
  rw [exec_targetRequestRx hw ho, requestRx_now hh hm, requestNow_fenced he hf]

theorem targetRequestBlocked : Claims.targetRequestBlocked := by
  rintro s a p t bi hw ho hh hm he rfl hf hc hd hv
  rw [exec_targetRequestRx hw ho, requestRx_now hh hm, requestNow_target he hf, targetRequest_blocked hc hd hv]

theorem targetRequestRx : Claims.targetRequestRx := by
  rintro s a p t bi hw ho hh hm he rfl hf hc hd hv hep hide hfw
  rw [exec_targetRequestRx hw ho, requestRx_now hh hm, requestNow_target he hf, targetRequest_forwards hc hd hv hep hide hfw]

/-! ## Ill-formed packets -/

theorem tlpIllFormed : Claims.tlpIllFormed := fun _ _ _ hw =>
  ⟨if_neg (by simp [hw]), if_neg (by simp [hw]), if_neg (by simp [hw])⟩

/-- Settles O38: a well-formed request that its port hears is held in DROWSE, refused behind the fence, and else looked up: by what claims it
on its way down, by its binding on its way up. -/
theorem requestsAtEdges : Obligations.RequestsAtEdges :=
  ⟨hostRequestUnclaimed, hostRequestRx, hostRequestWindow, issueWhole, requestFenced, requestHeld, targetRequestBlocked, targetRequestRx,
    tlpIllFormed⟩

end Sys2Proof.Proofs
end

section
/-! SUPPORT. Completions, error messages of targets and the tracker (R113, R205, R208, R209): what each comes to, by the condition that
decides it. -/

namespace Sys2Proof.Laws

open Machine

variable {s a : State} {t : Tlp} {e : TrkEntry} {p bi : Nat}

/-! ## Arrival of completions -/

/-- A packet that can arrive as a completion reaches its port. -/
theorem exec_completionRx {p : Fin 144} (hw : t.wellFormed = true) (ho : t.kind.ord = .completion) :
    exec (.completionRx p t) s = .next (s.completionRx p t) :=
  if_pos (by simp [hw, ho])

/-- Without an armed injection none strikes. -/
theorem not_injected (h : s.err.armed = []) (cls obj : Nat) : s.injected cls obj = false := by
  simp only [State.injected, h, List.any_nil]

/-- A completion at an edge port whose link is up meets the tracker, where no injection discards it and no request that waits for a tracing
engine is ahead of it. -/
theorem completionRx_now (hreset : s.mode ≠ .reset) (hboot : s.mode ≠ .boot) (hup : s.linkUp p = true) (hfab : s.isFabric p = false)
    (ha : a = s.tlpArrives p) (hinj : a.bnd.trk = [] ∨ a.err.armed = []) (hwait : a.svc.waits = []) :
    s.completionRx p t = (a.completion p t).dmRun := by
  subst ha
  rcases hinj with htrk | harm
  · simp [State.completionRx, hreset, hboot, hup, hfab, hwait, htrk]
  · have hnone (l : List TrkEntry) : l.find? (fun _ => false) = none := List.find?_eq_none.mpr (by simp)
    simp [State.completionRx, hreset, hboot, hup, hfab, hwait, not_injected harm, hnone]

/-- A completion that is not poisoned passes as it is. -/
theorem poisonCpl_clean {fn : Option AerFn} {v : Nat} (h : t.ep = false) : s.poisonCpl fn v bi t = s := by
  simp only [State.poisonCpl, h, Bool.not_false, Bool.true_or, if_true]

/-- A completion at a host-edge port with no entry in the tracker is unexpected. -/
theorem completion_noEntry (hp : s.isPoolEdge p = false) (htrk : s.bnd.trk = []) (hep : t.ep = false) :
    s.completion p t = s.unexpected p none t := by
  simp [State.completion, hp, htrk, poisonCpl_clean hep]

/-- A completion at a host-edge port that the one entry of the tracker awaits meets it. -/
theorem completion_oneEntry (hp : s.isPoolEdge p = false) (htrk : s.bnd.trk = [e]) (hcxl : t.kind.isCxl = false) (hide : t.ide = false)
    (hep : t.ep = false) (hecxl : e.cxl = false) (hrid : e.outRid = t.rid) (htag : e.outTag = t.tag) (hdest : e.destFeid = 0) :
    s.completion p t = s.matched e p 2 t := by
  simp [State.completion, hp, htrk, hcxl, hide, hecxl, hrid, htag, hdest, poisonCpl_clean hep]

/-- A completion of an OPEN entry's own request, with bytes still due, goes to its requester. -/
theorem matched_open {charge : Nat} (hst : e.state = .opn) (hpeer : e.peer = false) (hleft : 0 < (e.after t).bytesLeft) :
    s.matched e p charge t = (s.deliverCpl e p charge (s.restored e t) false).onEntries (·.same e) (fun _ => e.after t) := by
  simp only [State.matched, hst, hpeer, Bool.false_and, Bool.false_eq_true, if_false, Nat.pos_iff_ne_zero.mp hleft]

/-- A completion of an entry in QUARANTINE is late. -/
theorem matched_quarantine {charge : Nat} (hst : e.state = .quarantine) :
    s.matched e p charge t = (s.bump R.ERR_LATE_CPL_CNT).journal 0x0303 { vh := e.vh, binding := e.binding, port := p } := by
  simp only [State.matched, hst]

/-! ## Error messages of targets -/

/-- A message of a target at a pool-edge port through which traffic passes is handled. -/
theorem exec_targetErrorMessage {p : Fin 144} {unc cor : BitVec 32} {hdr : BitVec 128} (hw : t.wellFormed = true) (hk : t.kind = .msg)
    (hc : s.carries = true) (hup : s.linkUp p = true) (hp : s.isPoolEdge p = true) :
    exec (.targetErrorMessage p t unc cor hdr) s = .next ((s.tlpArrives p).targetMessage p t unc.toNat cor.toNat hdr.toNat) := by
  show execTargetErrorMessage p t unc cor hdr s = _
  simp only [execTargetErrorMessage, hw, hk, hc, hup, hp, beq_self_eq_true, Bool.and_self, Bool.not_true, Bool.or_self, Bool.false_eq_true,
    if_false]

variable {unc cor hdr : Nat}

/-- While Malacel is not ready a message queues where there is room. -/
theorem targetMessage_queued (hf : s.flag F.MGT_CRB_STATUS.FW_READY = false) (hq : s.err.msgQueue.length < 256) :
    s.targetMessage p t unc cor hdr = s.onErr (fun y => { y with msgQueue := y.msgQueue ++ [(p, t, unc, cor, hdr)] }) := by
  simp only [State.targetMessage, hf, hq, Bool.false_eq_true, if_false, if_true]

/-- Malacel that is ready handles a message at once. -/
theorem targetMessage_ready (hf : s.flag F.MGT_CRB_STATUS.FW_READY = true) :
    s.targetMessage p t unc cor hdr = s.targetError p t unc cor hdr := if_pos hf

/-- A message of a target that no binding owns goes no further than the journal, at a port without logical devices. -/
theorem targetError_unowned (hc : s.classify p t = none) (hld : (s.bindingsOn p).any (fun e => Bind.kind e.2 == 4) = false) :
    s.targetError p t unc cor hdr = s.journal 0x0308 { port := p, detail := t.header, sev := some (messageSev t.msgCode) } := by
  simp only [State.targetError, hc, hld, State.whenb_false]

/-- A message below a port binding that forwards goes on to the host. -/
theorem targetError_port (hc : s.classify p t = some bi) (hf : s.forwards bi = true) (hk : (s.bind bi).isPortKind = true) :
    s.targetError p t unc cor hdr = (s.journal 0x0308
      { port := p, vh := (s.bind bi).vh, binding := bi, detail := hdr, sev := some (messageSev t.msgCode) }).targetRequest p t := by
  simp only [State.targetError, hc, hf, hk, Bool.not_true, Bool.false_eq_true, if_false, if_true]

/-! ## The tracker -/

/-- An entry that is overdue is OPEN. -/
theorem open_of_overdue (h : s.overdue e = true) : e.state = .opn := by
  simp only [State.overdue, Bool.and_eq_true, beq_iff_eq] at h
  exact h.1

/-- An overdue entry of a binding at its VH end completes its request. -/
theorem trkTimeout_overdue {u : State} (htrk : s.bnd.trk = [e]) (ho : s.overdue e = true) (hb : e.bound = true)
    (hd : s.isDeviceEnd e.found = false) (hu : u = (s.bump R.ERR_TRK_TIMEOUT_CNT).raise F.ERR_EVT.TRK_TIMEOUT) :
    s.trkTimeout e.outRid e.outTag = ((u.synth e (u.synthStatus true e.vh (Bind.vdsp e.found))).reportBinding 0x0301 e.binding
      .completionTimeout false e.tlp.header).dmRun := by
  subst hu
  simp [State.trkTimeout, htrk, ho, open_of_overdue ho, hb, hd]

/-- A name no entry has times nothing out. -/
theorem trkTimeout_unnamed {rid : BitVec 16} {tag : BitVec 14} (h : s.bnd.trk.any (fun e => e.outRid == rid && e.outTag == tag) = false) :
    s.trkTimeout rid tag = s := by
  unfold State.trkTimeout
  split
  · rfl
  next x hx =>
    have hmem := List.mem_of_find?_eq_some hx
    have hdue := List.find?_some hx
    obtain ⟨hnamed, -⟩ := Bool.and_eq_true_iff.mp hdue
    exact absurd hnamed (List.any_eq_false.mp h x hmem)

end Sys2Proof.Laws
end

section
/-! The statement about completions, targets' error messages and the request tracker. -/

namespace Sys2Proof.Proofs

open Machine Laws

/-! ## Completions -/

theorem completionUnexpected : Claims.completionUnexpected := by
  intro s a p t hw ho hep hreset hboot hup hfab ha htrk hwait hp
  rw [exec_completionRx hw ho, completionRx_now hreset hboot hup hfab ha (.inl htrk) hwait, completion_noEntry hp htrk hep, State.unexpected]

theorem completionRx : Claims.completionRx := by
  intro s a p t e hw ho hcxl hide hep hreset hboot hup hfab ha htrk harm hwait hp hecxl hrid htag hdest hst hpeer hleft
  rw [exec_completionRx hw ho, completionRx_now hreset hboot hup hfab ha (.inr harm) hwait,
    completion_oneEntry hp htrk hcxl hide hep hecxl hrid htag hdest, matched_open hst hpeer hleft]

theorem completionLate : Claims.completionLate := by
  intro s a p t e hw ho hcxl hide hep hreset hboot hup hfab ha htrk harm hwait hp hecxl hrid htag hdest hst
  rw [exec_completionRx hw ho, completionRx_now hreset hboot hup hfab ha (.inr harm) hwait,
    completion_oneEntry hp htrk hcxl hide hep hecxl hrid htag hdest, matched_quarantine hst]

/-! ## Error messages of targets -/

theorem targetErrorQueued : Claims.targetErrorQueued := by
  rintro s a p t unc cor hdr hw hk hc hup hp rfl hf hq
  rw [exec_targetErrorMessage hw hk hc hup hp, targetMessage_queued hf hq]

theorem targetErrorMessage : Claims.targetErrorMessage := by
  rintro s a p t unc cor hdr hw hk hc hup hp rfl hf hcl hld
  rw [exec_targetErrorMessage hw hk hc hup hp, targetMessage_ready hf, targetError_unowned hcl hld]

theorem targetErrorForwarded : Claims.targetErrorForwarded := by
  rintro s a p t unc cor hdr bi hw hk hc hup hp rfl hf hcl hfw hport
  rw [exec_targetErrorMessage hw hk hc hup hp, targetMessage_ready hf, targetError_port hcl hfw hport]

/-! ## The tracker -/

theorem trackerEntryAvailable : Claims.trackerEntryAvailable := fun _ => rfl

theorem trackerTimeout : Claims.trackerTimeout := by
  rintro s t rid tag e htrk rfl rfl ho hb hd ht
  exact congrArg Host.Outcome.next (trkTimeout_overdue htrk ho hb hd ht)

theorem trackerTimeoutNone : Claims.trackerTimeoutNone := fun _ _ _ h => congrArg Host.Outcome.next (trkTimeout_unnamed h)

theorem quarantineEnd : Claims.quarantineEnd := by
  rintro s t rfl
  rfl

/-- Settles O39: a completion is judged by the entry it meets, an error message by the binding of its target, and the tracker's timers by what
is due. -/
theorem completionsAndErrors : Obligations.CompletionsAndErrors :=
  ⟨completionUnexpected, completionRx, completionLate, targetErrorQueued, targetErrorMessage, targetErrorForwarded, trackerEntryAvailable,
    trackerTimeout, trackerTimeoutNone, quarantineEnd⟩

end Sys2Proof.Proofs
end

section
/-! SUPPORT. Packets that leave the fabric here, go on, or name a group, and side-band items (R141, R144, R148): what each comes to, by the
condition that decides it. -/

namespace Sys2Proof.Laws

open Machine

variable {s : State} {f : FabPkt} {p charge : Nat}

/-! ## Arrival of packets (R141) -/

/-- A packet whose parts agree with each other reaches its port. -/
theorem exec_fabricPacketRx {p : Fin 144} (hw : f.tlp.elim true (·.wellFormed) = true) (hd : f.hdr.dst < 4096) (hs : f.hdr.src < 4096) :
    exec (.fabricPacketRx p f) s = .next (s.fabricRx p f) :=
  if_pos (by simp [hw, hd, hs])

/-- At a fabric port of a device that forwards, a packet that names a group is copied. -/
theorem fabricRx_group (hf : s.fabForwards = true) (hp : s.isFabric p = true) (hc : s.carries = true) (hd : 0xC00 ≤ f.hdr.dst) :
    s.fabricRx p f = s.groupRx p (f.hdr.ord + 3 * b2n f.hdr.dl) f := by
  simp [State.fabricRx, hf, hp, hc, hd]

/-- At a fabric port of a device that forwards, a packet for this device meets its flow. -/
theorem fabricRx_own (hf : s.fabForwards = true) (hp : s.isFabric p = true) (hc : s.carries = true) (hlt : f.hdr.dst < 0xC00)
    (hd : f.hdr.dst = s.ownFeid) : s.fabricRx p f = s.flowArrive p (f.hdr.ord + 3 * b2n f.hdr.dl) f := by
  simp only [State.fabricRx, hf, hp, hc, Bool.not_true, Bool.or_self, Bool.false_eq_true, if_false, if_neg (Nat.not_le.mpr hlt), if_pos hd]

/-- At a fabric port of a device that forwards, a packet for another device is stored and sent on. -/
theorem fabricRx_transit (hf : s.fabForwards = true) (hp : s.isFabric p = true) (hc : s.carries = true) (hlt : f.hdr.dst < 0xC00)
    (hd : f.hdr.dst ≠ s.ownFeid) : s.fabricRx p f = ((s.store { s.fabRecord p (f.hdr.ord + 3 * b2n f.hdr.dl) f with
      route := s.routeOf f.hdr.dst }).sendOn s.churn.nextId).poolEvents := by
  simp only [State.fabricRx, hf, hp, hc, Bool.not_true, Bool.or_self, Bool.false_eq_true, if_false, if_neg (Nat.not_le.mpr hlt), if_neg hd]

/-- A packet of no flow held here that asks for none is delivered. -/
theorem flowArrive_unsequenced (hn : s.flowOf f.hdr.src f.hdr.vh f.hdr.ord = none) (ho : f.hdr.opn = false) :
    s.flowArrive p charge f = s.deliverItem p charge f := by
  simp only [State.flowArrive, hn, ho, Bool.false_and, Bool.false_eq_true, if_false]

/-- A group whose route is not valid reaches nobody. -/
theorem groupRx_unreachable (hr : routeValid (s.routeOf f.hdr.dst) = false) :
    s.groupRx p charge f = ((s.bump R.BND_FAB_UNREACH_CNT).raise F.BND_FAB_EVT.UNREACH).journal 0x0407 { port := p, feid := f.hdr.src } := by
  simp only [State.groupRx, hr, Bool.not_false, Bool.true_or, if_true]

/-- A reserved type of item is discarded. -/
theorem deliverItem_reserved (h : 7 ≤ f.hdr.ptype) :
    s.deliverItem p charge f = (s.bump R.ERR_UNEXP_ITEM_CNT).journal 0x0403 { port := p, feid := f.hdr.src } := if_pos h

/-! ## Side-band items (R144, Table 5.9) -/

variable {src bi sig value : Nat} {level : Bool}

/-- A privileged message that comes from another source than its binding's is refused. -/
theorem sidebandItem_foreign (hf : (s.bind bi).feid ≠ src) (hp : sig = 0x11 ∨ sig = 0x13) :
    s.sidebandItem src bi sig level value =
      (s.bump R.BND_FAB_PRIV_REJ_CNT).journal 0x0404 { vh := (s.bind bi).vh, binding := bi, feid := src } := by
  rcases hp with rfl | rfl <;> simp [State.sidebandItem, hf]

/-- A power fault shows at the VH end of a remote port. -/
theorem sidebandItem_powerFault (hv : (s.bind bi).valid = true) (hf : (s.bind bi).feid = src) (hd : s.isDeviceEnd (s.bind bi) = false)
    (hk : (s.bind bi).kind = 2) :
    s.sidebandItem src bi 0x02 level value = s.setHost (s.bind bi).vh (.vdsp (s.bind bi).vdsp) .powerFault (b2n level) := by
  simp [State.sidebandItem, hv, hf, hd, hk]

/-- The end of a reset, at the device end, leaves the port to what else holds it. -/
theorem sidebandItem_resetEnd {u : State} (hv : (s.bind bi).valid = true) (hf : (s.bind bi).feid = src)
    (hd : s.isDeviceEnd (s.bind bi) = true)
    (hu : u = (s.resetYields src bi).onPins (fun y => { y with farPerst := y.farPerst.filter (· != (s.bind bi).port) })) :
    s.sidebandItem src bi 0x04 false value =
      if u.mayReleasePerst (s.bind bi).port then (u.disarm .perstOut (s.bind bi).port).releasePerst (s.bind bi).port else u := by
  subst hu
  simp [State.sidebandItem, hv, hf, hd]

end Sys2Proof.Laws
end

section
/-! The statements about the opcodes of group 0x04, about packets that arrive over the fabric, and about side-band items. -/

namespace Sys2Proof.Proofs

open Machine Laws

/-! ## The fabric's opcodes -/

theorem setFabric : Claims.setFabric := by
  rintro s t q h hs rfl
  exact exec_ok rfl rfl h (set_sound hs)

theorem getFabric : Claims.getFabric := fun _ _ h => exec_ok rfl rfl h rfl

theorem getMembers : Claims.getMembers := fun _ _ h hl => exec_ok rfl rfl h (if_pos hl)

theorem setFabTimers : Claims.setFabTimers := fun _ _ h hs => exec_ok rfl rfl h (set_sound hs)

theorem getFlow : Claims.getFlow := fun _ _ h ho => exec_ok rfl rfl h (by simp only [opGetFlow, obj_of_lt ho])

/-- Settles O23: each request breaks no rule of its group and names what stands, so its opcode answers OK with what it sets or shows. -/
theorem fabricOpcodes : Obligations.FabricOpcodes := ⟨setFabric, getFabric, getMembers, setFabTimers, getFlow⟩

/-! ## Packets -/

theorem fabricPacketRx : Claims.fabricPacketRx := by
  intro s p f hw hlt hsrc hfwd hp hc hd hn ho
  rw [exec_fabricPacketRx hw (by omega) hsrc, fabricRx_own hfwd hp hc hlt hd, flowArrive_unsequenced hn ho]

theorem fabricPacketTransit : Claims.fabricPacketTransit := by
  intro s p f hw hlt hsrc hfwd hp hc hd
  rw [exec_fabricPacketRx hw (by omega) hsrc, fabricRx_transit hfwd hp hc hlt hd]

theorem fabricGroupUnreach : Claims.fabricGroupUnreach := by
  intro s p f hw hge hlt hsrc hfwd hp hc hr
  rw [exec_fabricPacketRx hw hlt hsrc, fabricRx_group hfwd hp hc hge, groupRx_unreachable hr]

theorem itemReserved : Claims.itemReserved := fun _ _ _ _ h => deliverItem_reserved h

/-! ## Side-band items -/

theorem sidebandItemRx : Claims.sidebandItemRx := fun _ _ _ _ _ hv hf hd hk => congrArg Host.Outcome.next (sidebandItem_powerFault hv hf hd hk)

theorem sidebandPrivileged : Claims.sidebandPrivileged := by
  intro s src bi sig level v hf hsig
  have hcode : sig.toNat = 0x11 ∨ sig.toNat = 0x13 := hsig.imp (congrArg BitVec.toNat) (congrArg BitVec.toNat)
  exact congrArg Host.Outcome.next (sidebandItem_foreign hf hcode)

theorem sidebandReset : Claims.sidebandReset := by
  intro s u src bi v hv hf hd hu
  have hend : exec (.sidebandItemRx src bi 0x04 false v) s = .next (s.sidebandItem src bi 0x04 false v.toNat) := rfl
  rw [sidebandItem_resetEnd hv hf hd hu] at hend
  exact ⟨fun hfree => by rw [hend, if_pos hfree], fun hheld => by rw [hend, if_neg (Bool.eq_false_iff.mp hheld)]⟩

/-- Settles O40: a packet goes by its destination, to its flow, on by its route, or to a group; a side-band item acts by the end of its
binding it meets. -/
theorem fabricPackets : Obligations.FabricPackets :=
  ⟨fabricPacketRx, fabricPacketTransit, fabricGroupUnreach, itemReserved, sidebandItemRx, sidebandPrivileged, sidebandReset⟩

end Sys2Proof.Proofs
end

section
/-! SUPPORT. Messages of the fabric over the whey channel (Tables 6.5 and 6.6): when one is heard, and the fields that arrive in it. -/

namespace Sys2Proof.Laws

open Machine

variable {s : State} {c : Nat} {f : State → State}

/-! ## Hearing (R129) -/

/-- A message is heard on a link that carries whey while the device has a fabric state. -/
theorem onWhey_heard (hc : s.hears c = true) (hs : s.fs ≠ 0) : s.onWhey c f = f s :=
  if_pos (by simp [hc, fsOff, hs])

/-- What a command comes to whose message is heard. -/
theorem next_onWhey {t : State} (hc : s.hears c = true) (hs : s.fs ≠ 0) (h : f s = t) :
    (Host.Outcome.next (s.onWhey c f) : Host.Outcome State Fault Refusal) = .next t :=
  congrArg Host.Outcome.next ((onWhey_heard hc hs).trans h)

/-- A message that changes nothing changes nothing whether it is heard or not. -/
theorem onWhey_idle (h : f s = s) : s.onWhey c f = s := by
  rw [State.onWhey, h, ite_self]

/-! ## Fields -/

/-- A body read by the widths `ws` gives the values `vs`, and 0 beyond them. -/
def Reads (b : List Byte) (ws vs : List Nat) : Prop := ∀ i, packed b ws i = vs.getD i 0

/-- Each field fits its width. -/
def Fits : List (Nat × Nat) → Prop
  | [] => True
  | e :: l => e.1 < 2 ^ e.2 ∧ Fits l

theorem Fits.getElem {l : List (Nat × Nat)} (h : Fits l) (i : Nat) (hi : i < l.length) : l[i].1 < 2 ^ l[i].2 := by
  induction l generalizing i with
  | nil => exact absurd hi (Nat.not_lt_zero i)
  | cons e l ih =>
    cases i with
    | zero => exact h.1
    | succ i => exact ih h.2 i (Nat.lt_of_succ_lt_succ hi)

/-- Fields that fit their widths are read as they were packed. -/
theorem reads_packFields {l : List (Nat × Nat)} {ws vs : List Nat} (hws : l.map (·.2) = ws) (hvs : l.map (·.1) = vs)
    (hfit : Fits l) : Reads (packFields l) ws vs := by
  subst hws hvs
  intro i
  by_cases hi : i < l.length
  · rw [packed_packFields l i hi (hfit.getElem i hi)]
    simp [hi]
  · simp [packed, bits, Nat.mod_one, List.getElem?_eq_none (Nat.not_lt.mp hi)]

theorem b2n_lt (b : Bool) : b2n b < 2 ^ 1 := by
  cases b <;> decide

theorem b2n_beq_one (b : Bool) : (b2n b == 1) = b := by
  cases b <;> rfl

/-- The serial number of this device, as a message carries it. -/
theorem serial_carried : (BitVec.ofNat 64 Config.serial.toNat).toNat = Config.serial.toNat := by
  rw [BitVec.ofNat_toNat, BitVec.setWidth_eq]

variable {serial : BitVec 64} {src dst origin feid lead peer : BitVec 12} {elig : Bool} {term seq x : BitVec 16} {vh : BitVec 8}
  {link m : BitVec 7} {r ord : Fin 4}

/-! The bodies of the messages, by their layouts in Table 6.6. -/

theorem reads_hello : Reads (packFields [(serial.toNat, 64), (feid.toNat, 12), (b2n elig, 1), (lead.toNat, 12), (term.toNat, 16),
    (link.toNat, 7)]) [64, 12, 1, 12, 16, 7] [serial.toNat, feid.toNat, b2n elig, lead.toNat, term.toNat, link.toNat] :=
  reads_packFields rfl rfl ⟨serial.isLt, feid.isLt, b2n_lt elig, lead.isLt, term.isLt, link.isLt, trivial⟩

theorem reads_leadClaim : Reads (packFields [(feid.toNat, 12), (serial.toNat, 64), (term.toNat, 16), (seq.toNat, 16)]) [12, 64, 16, 16]
    [feid.toNat, serial.toNat, term.toNat, seq.toNat] :=
  reads_packFields rfl rfl ⟨feid.isLt, serial.isLt, term.isLt, seq.isLt, trivial⟩

theorem reads_heartbeat : Reads (packFields [(lead.toNat, 12), (term.toNat, 16), (seq.toNat, 16), (m.toNat, 7)]) [12, 16, 16, 7]
    [lead.toNat, term.toNat, seq.toNat, m.toNat] :=
  reads_packFields rfl rfl ⟨lead.isLt, term.isLt, seq.isLt, m.isLt, trivial⟩

theorem reads_joinReq : Reads (packFields [(serial.toNat, 64), (feid.toNat, 12), (b2n elig, 1)]) [64, 12, 1]
    [serial.toNat, feid.toNat, b2n elig] :=
  reads_packFields rfl rfl ⟨serial.isLt, feid.isLt, b2n_lt elig, trivial⟩

theorem reads_joinReply : Reads (packFields [(serial.toNat, 64), (r.val, 2), (feid.toNat, 12)]) [64, 2, 12]
    [serial.toNat, r.val, feid.toNat] :=
  reads_packFields rfl rfl ⟨serial.isLt, r.isLt, feid.isLt, trivial⟩

theorem reads_topoReport : Reads (packFields [(link.toNat, 7), (r.val, 2), (peer.toNat, 12)]) [7, 2, 12]
    [link.toNat, r.val, peer.toNat] :=
  reads_packFields rfl rfl ⟨link.isLt, r.isLt, peer.isLt, trivial⟩

theorem reads_flowKey : Reads (packFields (flowFields src.toNat dst.toNat vh.toNat ord)) [12, 12, 8, 2]
    [src.toNat, dst.toNat, vh.toNat, ord.val] :=
  reads_packFields rfl rfl ⟨src.isLt, dst.isLt, vh.isLt, ord.isLt, trivial⟩

theorem reads_flowSeq : Reads (packFields (flowFields src.toNat dst.toNat vh.toNat ord ++ [(x.toNat, 16)])) [12, 12, 8, 2, 16]
    [src.toNat, dst.toNat, vh.toNat, ord.val, x.toNat] :=
  reads_packFields rfl rfl ⟨src.isLt, dst.isLt, vh.isLt, ord.isLt, x.isLt, trivial⟩

end Sys2Proof.Laws
end

section
/-! SUPPORT. Membership of the fabric (R131 to R138, R150): what each of its messages and timers comes to, by the condition that decides
it. -/

namespace Sys2Proof.Laws

open Machine

variable {s t u : State} {c : Nat} {b : List Byte} {w : Whey} {serial feid lead elig term seq link st peer m : Nat}

/-! ## HELLO -/

/-- The first HELLO of a recorded peer that reports no lead is answered, and unmasks the link. -/
theorem helloRx_recorded (hr : Reads b [64, 12, 1, 12, 16, 7] [serial, feid, elig, 0, term, link])
    (hn : s.fab.hello.find? (fun e => e.1 == c) = none) (hf : feid ≠ 0)
    (ht : t = ((s.onFab (fun y => { y with hello := (c, feid, serial, 0) :: y.hello.filter (fun e => e.1 != c) })).heardTerm term).hello c)
    (hp : look c t.fab.peer = some feid) : s.helloRx c b = (t.onFab (fun y => { y with newPeer := drop c y.newPeer })).unmask c := by
  have hfresh : ∀ e : Nat × Nat × Nat × Nat, (none != some e) = true := fun _ => rfl
  have hnoLead : ((0 : Nat) != 0) = false := rfl
  simp only [State.helloRx, hr _, hn, hfresh, hnoLead, List.getD_cons_zero, List.getD_cons_succ, Bool.true_or, Bool.false_and,
    State.whenb_true, State.whenb_false, if_true, ← ht]
  simp [hf, hp]

/-! ## Floods -/

/-- A lower claim than this claimant's ends its own. -/
theorem judgeClaim_lower (hn : s.fab.claim = none) (ht : t = s.onFab (fun y => { y with claim := some (feid, serial) }))
    (hc : t.fab.claiming = true) (hl : feid < t.ownFeid) :
    s.judgeClaim feid serial = (t.onFab (fun y => { y with claiming := false })).disarm .settle 0 := by
  subst ht
  simp only [State.judgeClaim, hn, State.whenb_true, hc, hl, if_true]

/-- A claim that is new to this device is judged. -/
theorem claimRx_new (hr : Reads w.body [12, 64, 16, 16] [feid, serial, term, seq]) (hf : s.floodRx c w seq = (true, t)) :
    s.claimRx c w = (t.heardTerm term).judgeClaim feid serial := by
  simp only [State.claimRx, hr _]
  simp [hf]

/-- A HEARTBEAT of an earlier TERM is not heard. -/
theorem heartbeatRx_old (hr : Reads w.body [12, 16, 16, 7] [lead, term, seq, m]) (h : term < s.fld F.BND_FAB_LEAD_INFO.TERM) :
    s.heartbeatRx c w = s := by
  simp only [State.heartbeatRx, hr _]
  exact if_pos h

/-- A HEARTBEAT of its lead that is new to a member puts off the loss of the lead. -/
theorem heartbeatRx_ofLead (hr : Reads w.body [12, 16, 16, 7] [lead, term, seq, m]) (h : s.fld F.BND_FAB_LEAD_INFO.TERM ≤ term)
    (hf : s.floodRx c w seq = (true, t)) (hu : u = t.heardTerm term) (hm : u.fs = 4) (hl : u.lead = some lead) :
    s.heartbeatRx c w = u.arm .heartbeatLoss 0 (u.fld F.BND_FAB_TIMERS.HB_MISS * u.hbTime) := by
  subst hu
  simp only [State.heartbeatRx, hr _]
  simp [Nat.not_lt.mpr h, hf, hm, hl, fsLead, fsMember]

/-! ## Joining -/

/-- The lead refuses a FEID that another member holds. -/
theorem joinRx_duplicate {x : Member} (hr : Reads w.body [64, 12, 1] [serial, feid, elig]) (hs : s.fs = 5) (hd : w.dest = s.ownFeid)
    (hf : feid ≠ 0) (ht : t = s.onFab (fun y => { y with
      relay := put (4096 + serial) (s.linkIdx c) (put w.origin (s.linkIdx c) y.relay) }))
    (hx : t.fab.members.find? (fun (m : Member) => m.feid == feid && m.serial != serial) = some x) :
    s.joinRx c w = (((t.raise F.BND_FAB_EVT.FEID_DUP).raise F.BND_FAB_EVT.JOIN_REFUSED).journal 0x0405
      { feid := feid, detail := serial + 2 ^ 64 * x.serial }).joinReply c w.origin serial 2 feid := by
  simp only [State.joinRx, hr _, List.getD_cons_zero, List.getD_cons_succ, ← ht, hx]
  simp [hs, hd, hf, fsLead]

/-- The lead admits a static FEID that no other member holds, while there is room. -/
theorem joinRx_static (hr : Reads w.body [64, 12, 1] [serial, feid, elig]) (hs : s.fs = 5) (hd : w.dest = s.ownFeid)
    (hf : feid ≠ 0) (hstatic : feid < 0x800) (ht : t = s.onFab (fun y => { y with
      relay := put (4096 + serial) (s.linkIdx c) (put w.origin (s.linkIdx c) y.relay) }))
    (hn : t.fab.members.find? (fun (m : Member) => m.feid == feid && m.serial != serial) = none) (hroom : t.fab.members.length < 64) :
    s.joinRx c w = (t.onFab (fun y => { y with members := y.members.filter (fun (x : Member) => x.serial != serial) ++
      [{ feid := feid, serial := serial, elig := elig == 1, dynamic := false, linksUp := 0 }] })).showMembers.joinReply c w.origin serial 0
        feid := by
  have hlow : ¬0x800 ≤ feid := Nat.not_le.mpr hstatic
  have hfree : decide (64 ≤ t.fab.members.length) = false := decide_eq_false (Nat.not_le.mpr hroom)
  simp only [State.joinRx, hr _, List.getD_cons_zero, List.getD_cons_succ, ← ht, hn, hs, hd, hf, hlow, hfree, fsLead, ne_eq,
    not_true_eq_false, not_false_eq_true, decide_false, Option.isSome_none, Bool.or_self, Bool.and_false, Bool.false_eq_true, if_false, if_true]

/-- A reply that refuses this device, which waits to be admitted. -/
theorem joinReplyRx_refused {r : Nat} (hr : Reads w.body [64, 2, 12] [serial, r, feid]) (hme : serial = Config.serial.toNat)
    (hs : s.fs = 3) (hno : r ≠ 0) : s.joinReplyRx c w = s.refused := by
  simp only [State.joinReplyRx, hr _]
  simp [hme, hs, hno, fsJoin]

/-- A reply that admits this device, which waits for it. -/
theorem joinReplyRx_admitted (hr : Reads w.body [64, 2, 12] [serial, 0, feid]) (hme : serial = Config.serial.toNat) (hs : s.fs = 3)
    (ht : t = s.takeFeid feid)
    (hu : u = ((t.admitted true).setFs 4).arm .heartbeatLoss 0 (t.fld F.BND_FAB_TIMERS.HB_MISS * t.hbTime)) :
    s.joinReplyRx c w = (u.each (allPorts.filter u.isFabric) (fun s p => s.topoReport (s.linkOf p)
      (if s.linkLive (s.linkOf p) then 1 else if s.linkUp p then 2 else 0) ((look (controllerOf p) s.fab.peer).getD 0))).helloAll.grantAll := by
  subst ht hu
  simp only [State.joinReplyRx, hr _]
  simp [hme, hs, fsJoin, fsMember]

/-! ## Topology -/

/-- The lead records a report of a link. -/
theorem topoRx_lead (hr : Reads w.body [7, 2, 12] [link, st, peer]) (hd : w.dest = s.ownFeid) (hs : s.fs = 5) :
    s.topoRx c w = (s.onFab (fun y => { y with topo := put (128 * w.origin + link) (st + 4 * peer) y.topo })).showMembers := by
  simp only [State.topoRx, hr _]
  simp [hd, hs, fsLead]

/-- A report for another device is forwarded. -/
theorem topoRx_transit (hd : w.dest ≠ s.ownFeid) : s.topoRx c w = s.wheyForward c w :=
  if_pos (by simp [hd])

/-! ## Timers -/

theorem settleDue_due (hd : s.due .settle 0 = true) : s.settleDue = (s.disarm .settle 0).settled := if_pos hd

/-- In DISCOVER the device elects once SETTLE has passed. -/
theorem settled_discover (hs : s.fs = 1) : s.settled = s.elect := if_pos hs

/-- A claimant in ELECT leads once SETTLE has passed. -/
theorem settled_claimant (hs : s.fs = 2) (hc : s.fab.claiming = true) : s.settled = s.becomeLead := by
  simp [State.settled, hs, hc, fsDiscover, fsElect]

/-- The lead sends its HEARTBEAT when it is due. -/
theorem heartbeatDue_lead (hd : s.due .heartbeat 0 = true) (hs : s.fs = 5) : s.heartbeatDue = s.heartbeat := by
  simp [State.heartbeatDue, hd, hs, fsLead]

/-- A member whose lead is silent for too long loses it. -/
theorem heartbeatGone_member (hd : s.due .heartbeatLoss 0 = true) (hs : (s.disarm .heartbeatLoss 0).fs = 4) :
    s.heartbeatGone = (s.disarm .heartbeatLoss 0).leadLost := by
  simp [State.heartbeatGone, hd, hs, fsMember]

/-- Without an edit session the loss of the lead ends none. -/
theorem leadLost_noSession (ht : t = (s.raise F.BND_FAB_EVT.HB_LOST).setLead none) (hn : t.bnd.session = none) : s.leadLost = t.elect := by
  simp only [State.leadLost, ← ht, hn, Bool.false_and, State.whenb_false]

/-- A refused device that knows the lead asks it again. -/
theorem refusedDue_known {l : Nat} (hd : s.due .refused 0 = true) (hs : (s.disarm .refused 0).fs = 6)
    (hl : (s.disarm .refused 0).lead = some l) : s.refusedDue = (s.disarm .refused 0).join l none := by
  simp [State.refusedDue, hd, hs, hl, fsRefused]

end Sys2Proof.Laws
end

section
/-! The statement about membership of the fabric: HELLO, claims, heartbeats, joining and topology. -/

namespace Sys2Proof.Proofs

open Machine Laws

/-! ## HELLO and floods -/

theorem hello : Claims.hello := fun _ _ _ _ _ _ _ _ hc hs hn hf ht hp => next_onWhey hc hs (helloRx_recorded reads_hello hn hf ht hp)

theorem leadClaim : Claims.leadClaim := fun _ _ _ _ _ _ _ _ _ _ hc hs hf _ hu hn hcl hl =>
  next_onWhey hc hs ((claimRx_new reads_leadClaim hf).trans (judgeClaim_lower hn hu hcl hl))

theorem heartbeatOld : Claims.heartbeatOld := fun _ _ _ _ _ _ _ _ _ h =>
  congrArg Host.Outcome.next (onWhey_idle (heartbeatRx_old reads_heartbeat h))

theorem heartbeat : Claims.heartbeat := fun _ _ _ _ _ _ _ _ _ _ hc hs h hf hu hm hl =>
  next_onWhey hc hs (heartbeatRx_ofLead reads_heartbeat h hf hu hm hl)

/-! ## Joining -/

theorem joinDuplicate : Claims.joinDuplicate := fun _ _ _ _ _ _ _ _ _ _ hc hs hd hf ht hx =>
  next_onWhey hc (by omega) (joinRx_duplicate reads_joinReq hs hd hf ht hx)

theorem joinReq : Claims.joinReq := by
  intro s t c origin dest feid hops serial elig hc hs hd hf hstatic ht hn hroom
  have hjoin := joinRx_static (c := c) (w := envelope 0x23 2 origin dest hops [(serial.toNat, 64), (feid.toNat, 12), (b2n elig, 1)])
    reads_joinReq hs hd hf hstatic ht hn hroom
  rw [b2n_beq_one] at hjoin
  exact next_onWhey hc (by omega) hjoin

theorem joinRefused : Claims.joinRefused := fun _ _ _ _ _ _ _ hc hs hr =>
  next_onWhey hc (by omega) (joinReplyRx_refused reads_joinReply serial_carried hs hr)

theorem joinReply : Claims.joinReply := by
  intro s t u v c origin dest feid hops hc hs ht hu hv
  subst hv
  exact next_onWhey hc (by omega) (joinReplyRx_admitted reads_joinReply serial_carried hs ht hu)

/-! ## Topology -/

theorem topoReport : Claims.topoReport := fun _ _ _ _ _ _ _ _ hc hd hs =>
  next_onWhey hc (by omega) (topoRx_lead reads_topoReport hd hs)

theorem topoForwarded : Claims.topoForwarded := by
  rintro s t c origin dest peer hops link st w hc hs hd rfl rfl
  exact next_onWhey hc hs (topoRx_transit hd)

/-! ## Timers -/

theorem settleExpiry : Claims.settleExpiry := by
  rintro s t hd rfl
  exact ⟨fun hs => congrArg Host.Outcome.next ((settleDue_due hd).trans (settled_discover hs)),
    fun hs hc => congrArg Host.Outcome.next ((settleDue_due hd).trans (settled_claimant hs hc))⟩

theorem heartbeatTimer : Claims.heartbeatTimer := by
  rintro s t hd hs rfl
  exact congrArg Host.Outcome.next (heartbeatDue_lead hd hs)

theorem heartbeatLoss : Claims.heartbeatLoss := fun _ _ hd hs ht hn =>
  congrArg Host.Outcome.next ((heartbeatGone_member hd hs).trans (leadLost_noSession ht hn))

theorem refusedRetry : Claims.refusedRetry := fun _ _ hd hs hl => congrArg Host.Outcome.next (refusedDue_known hd hs hl)

/-- Settles O46: a message that is heard acts by the fields it carries and by this device's fabric state, and a timer that is due by that
state. -/
theorem fabricMembership : Obligations.FabricMembership :=
  ⟨hello, leadClaim, heartbeatOld, heartbeat, joinDuplicate, joinReq, joinRefused, joinReply, topoReport, topoForwarded, settleExpiry,
    heartbeatTimer, heartbeatLoss, refusedRetry⟩

end Sys2Proof.Proofs
end

section
/-! SUPPORT. Flows between members (R153 to R157, R163): what their messages and timers come to, by the condition that decides it. -/

namespace Sys2Proof.Laws

open Machine

variable {s t u : State} {c i : Nat} {w : Whey} {src dst vh ord x : Nat}

/-! ## Messages -/

/-- A grant of a flow that has its entry. -/
theorem grantRx_sending (hr : Reads w.body [12, 12, 8, 2, 16] [src, dst, vh, ord, x]) (hd : w.dest = s.ownFeid)
    (he : s.fab.sends.any (fun (e : SendEntry) => e.is dst vh ord) = true) :
    s.grantRx c w = (s.onFab (fun y => { y with sends := y.sends.map (fun (e : SendEntry) => if e.is dst vh ord && !e.granted
      then { e with granted := true, acked := seqNext x } else e) })).arm .flowIdle (flowKey dst vh ord)
        (us (s.fld F.BND_FAB_RESEQ_CFG.IDLE)) := by
  simp only [State.grantRx, hr _, List.getD_cons_zero, List.getD_cons_succ, hd, he, ne_eq, not_true_eq_false, if_false, if_true]

/-- A grant of a flow whose entry is gone. -/
theorem grantRx_gone (hr : Reads w.body [12, 12, 8, 2, 16] [src, dst, vh, ord, x]) (hd : w.dest = s.ownFeid)
    (he : s.fab.sends.any (fun (e : SendEntry) => e.is dst vh ord) = false) :
    s.grantRx c w = (s.wheyRouted (s.message 0x29 dst (flowFields s.ownFeid dst vh ord ++ [(x, 16)]))).1 := by
  simp only [State.grantRx, hr _, List.getD_cons_zero, List.getD_cons_succ, hd, he, ne_eq, not_true_eq_false, Bool.false_eq_true, if_false]

/-- A refusal of a flow that has its entry. -/
theorem denyRx_sending (hr : Reads w.body [12, 12, 8, 2] [src, dst, vh, ord]) (hd : w.dest = s.ownFeid)
    (he : s.fab.sends.any (fun (e : SendEntry) => e.is dst vh ord) = true)
    (ht : t = (((s.onFab (fun y => { y with
        sends := y.sends.filter (fun (e : SendEntry) => !e.is dst vh ord)
        retry := y.retry ++ [(dst, vh, ord)] })).bump R.BND_FAB_FLOW_PINNED_CNT).raise F.BND_FAB_EVT.FLOW_PINNED).disarm
          .flowIdle (flowKey dst vh ord)) :
    s.denyRx c w = t.arm .flowRetry (flowKey dst vh ord) (us (10 * t.fld F.BND_FAB_HOLD_CFG.FLOW_RETRY)) := by
  simp only [State.denyRx, hr _, List.getD_cons_zero, List.getD_cons_succ, hd, he, ne_eq, not_true_eq_false, Bool.not_true,
    Bool.false_eq_true, if_false, ← ht]

/-- An acknowledgement at the source. -/
theorem ackRx_own (hr : Reads w.body [12, 12, 8, 2, 16] [src, dst, vh, ord, x]) (hd : w.dest = s.ownFeid) :
    s.ackRx c w = s.onFab (fun y => { y with sends := y.sends.map (fun (e : SendEntry) =>
      if e.is dst vh ord && decide (seqDist e.acked x ≤ seqDist e.acked e.nextSeq) then { e with acked := x } else e) }) := by
  simp only [State.ackRx, hr _, List.getD_cons_zero, List.getD_cons_succ, hd, ne_eq, not_true_eq_false, if_false]

/-- The close of a flow at its destination. -/
theorem closeRx_held {f : FlowCtx} (hr : Reads w.body [12, 12, 8, 2, 16] [src, dst, vh, ord, x]) (hd : w.dest = s.ownFeid)
    (hf : s.flowOf src vh ord = some f) :
    s.closeRx c w = (s.onFlow f.idx (fun y => { y with closing := true, closeSeq := x })).flowSettle f.idx := by
  simp only [State.closeRx, hr _, List.getD_cons_zero, List.getD_cons_succ, hd, hf, ne_eq, not_true_eq_false, if_false]

/-! ## Timers at the source -/

variable {key : Nat}

theorem flowRetryDue_due (hd : s.due .flowRetry key = true) :
    s.flowRetryDue key =
      (s.onFab (fun y => { y with retry := y.retry.filter (fun r => flowKey r.1 r.2.1 r.2.2 != key) })).disarm .flowRetry key := by
  simp only [State.flowRetryDue, hd, Bool.not_true, Bool.false_eq_true, if_false]

/-- The one granted flow, with nothing left to send, closes when its idle time has passed. -/
theorem flowIdleDue_idle {e : SendEntry} (hd : s.due .flowIdle key = true) (ht : t = s.disarm .flowIdle key) (he : t.fab.sends = [e])
    (hw : t.flowWaits key = false) (hk : flowKey e.dst e.vh e.ord = key) (hg : e.granted = true) : s.flowIdleDue key = t.flowClose key := by
  have hany : t.fab.sends.any (fun (e : SendEntry) => flowKey e.dst e.vh e.ord == key && e.granted) = true := by
    simp [he, hk, hg]
  simp only [State.flowIdleDue, hd, ← ht, hany, hw, Bool.not_true, Bool.false_eq_true, if_false]

/-- The one flow that sends closes with the last sequence it sent. -/
theorem flowClose_only {e : SendEntry} (he : s.fab.sends = [e]) (hk : flowKey e.dst e.vh e.ord = key) :
    s.flowClose key = (s.wheyRouted (s.message 0x29 e.dst (flowFields s.ownFeid e.dst e.vh e.ord ++
      [(if e.nextSeq = 1 then 65535 else e.nextSeq - 1, 16)]))).1.onFab (fun y => { y with
        sends := y.sends.filter (fun (x : SendEntry) => !x.is e.dst e.vh e.ord) }) := by
  have hfind : s.fab.sends.find? (fun (e : SendEntry) => flowKey e.dst e.vh e.ord == key) = some e := by
    simp [he, hk]
  simp only [State.flowClose, hfind]

/-! ## Timers at the destination -/

variable {ctx : FlowCtx}

theorem flowAckDue_due (hd : s.due .flowAck i = true) : s.flowAckDue i = (s.disarm .flowAck i).flowAck i := if_pos hd

/-- A context acknowledges what it has delivered. -/
theorem flowAck_held (hf : s.flow i = some ctx) :
    s.flowAck i = ((s.wheyRouted (s.message 0x28 ctx.src (flowFields ctx.src s.ownFeid ctx.vh ctx.ord ++
      [(ctx.expect, 16)]))).1.onFlow i (fun c => { c with acked := c.expect, delivered := 0 })).disarm .flowAck i := by
  simp only [State.flowAck, hf]

theorem holeDue_passed (h : s.timers.any (fun (t : Timer) => t.kind == .hole && t.idx == i && decide (t.due < s.now)) = true) :
    s.holeDue i = (s.disarm .hole i).holeLost i := if_pos h

/-- A missing packet is declared lost; where no binding stands for it, nothing more is reported. -/
theorem holeLost_unbound {bi : Nat} (hf : s.flow i = some ctx)
    (hbi : bi = (((ctx.held.find? (fun (h : HeldSeq) => !h.waits)).orElse (fun _ => ctx.held.head?)).map
      (fun h => (s.hdrOf h.pkt).bindIdx)).getD 0xFFF)
    (hu : u = ((s.bump R.BND_FAB_RESEQ_HOLE_CNT).raise F.BND_FAB_EVT.RESEQ_HOLE).journal 0x0402
      { vh := ctx.vh, binding := bi, feid := ctx.src
        detail := leNat (packFields (flowFields ctx.src s.ownFeid ctx.vh ctx.ord ++ [(ctx.expect, 16)])) })
    (hb : (s.bind bi).valid = false) :
    s.holeLost i = (u.onFlow i (fun c => { c with expect := seqNext c.expect })).flowSettle i := by
  simp only [State.holeLost, hf, ← hbi, hb, Bool.false_and, State.whenb_false, ← hu]

theorem skewExpiry_due (hd : s.due .skew i = true) : s.skewExpiry i = s.skewDue i := if_pos hd

/-- The one packet a context holds, which it has held longer than SKEW, is counted, and none is left to count. -/
theorem skewDue_one {h : HeldSeq} (hf : s.flow i = some ctx) (hh : ctx.held = [h]) (hw : h.waits = false) (hc : h.counted = false)
    (hl : h.since + 10 * s.fld F.BND_FAB_RESEQ_CFG.SKEW ≤ s.now) :
    s.skewDue i = (((s.bump R.BND_FAB_SKEW_EXC_CNT).raise F.BND_FAB_EVT.SKEW_EXC).onFlow i (fun c => { c with
      held := c.held.map (fun (h : HeldSeq) => if !h.waits && !h.counted && decide (h.since + 10 * s.fld F.BND_FAB_RESEQ_CFG.SKEW ≤ s.now)
        then { h with counted := true } else h) })).disarm .skew i := by
  have hlate : (!h.waits && !h.counted && decide (h.since + 10 * s.fld F.BND_FAB_RESEQ_CFG.SKEW ≤ s.now)) = true := by
    simp [hw, hc, hl]
  simp only [State.skewDue, hf, hh, List.filter_cons, List.filter_nil, List.find?_cons, List.find?_nil, hlate, Bool.not_true,
    Bool.and_false, if_true, State.each_cons, State.each_nil]

end Sys2Proof.Laws
end

section
/-! The statement about flows between members and the resequencing of sprayed packets. -/

namespace Sys2Proof.Proofs

open Machine Laws

/-! ## Messages -/

theorem flowGrant : Claims.flowGrant := fun _ _ _ _ _ _ _ _ _ _ hc hs hd he => next_onWhey hc hs (grantRx_sending reads_flowSeq hd he)

theorem flowGrantGone : Claims.flowGrantGone := fun _ _ _ _ _ _ _ _ _ _ hc hs hd he => next_onWhey hc hs (grantRx_gone reads_flowSeq hd he)

theorem flowDeny : Claims.flowDeny := fun _ _ _ _ _ _ _ _ _ _ hc hs hd he ht => next_onWhey hc hs (denyRx_sending reads_flowKey hd he ht)

theorem flowAck : Claims.flowAck := fun _ _ _ _ _ _ _ _ _ _ hc hs hd => next_onWhey hc hs (ackRx_own reads_flowSeq hd)

theorem flowClose : Claims.flowClose := fun _ _ _ _ _ _ _ _ _ _ _ hc hs hd hf => next_onWhey hc hs (closeRx_held reads_flowSeq hd hf)

/-! ## Timers -/

theorem flowRetryExpiry : Claims.flowRetryExpiry := fun _ _ _ _ hd => congrArg Host.Outcome.next (flowRetryDue_due hd)

theorem flowIdleExpiry : Claims.flowIdleExpiry := fun _ _ _ _ _ _ hd ht he hw hk hg =>
  congrArg Host.Outcome.next ((flowIdleDue_idle hd ht he hw hk hg).trans (flowClose_only he hk))

theorem flowAckDeadline : Claims.flowAckDeadline := by
  rintro s t i c hd rfl hf
  exact congrArg Host.Outcome.next ((flowAckDue_due hd).trans (flowAck_held hf))

theorem reseqHoleTimeout : Claims.reseqHoleTimeout := by
  rintro s t u i c bi h rfl hf hbi hu hb
  exact congrArg Host.Outcome.next ((holeDue_passed h).trans (holeLost_unbound hf hbi hu hb))

theorem reseqSkewExpiry : Claims.reseqSkewExpiry := fun _ _ _ _ hd hf hh hw hc hl =>
  congrArg Host.Outcome.next ((skewExpiry_due hd).trans (skewDue_one hf hh hw hc hl))

/-- Settles O47: a message of a flow acts on the entry or the context its key names, and a timer of a flow that is due acts on what it
timed. -/
theorem fabricFlows : Obligations.FabricFlows :=
  ⟨flowGrant, flowGrantGone, flowDeny, flowAck, flowClose, flowRetryExpiry, flowIdleExpiry, flowAckDeadline, reseqHoleTimeout,
    reseqSkewExpiry⟩

end Sys2Proof.Proofs
end

section
/-! SUPPORT. Flits of a KFL link and their timers (R173, R181 to R184, R188, R192): what each that comes, leaves or is waited for comes to,
by the condition that decides it. -/

namespace Sys2Proof.Laws

open Machine

variable {s t u : State} {c : Nat} {b : List (BitVec 8)} {ok del : Bool} {rest : List (List (BitVec 8) × Bool)} {h : FlitHdr}

/-! ## What a link carries -/

/-- A link in one of the training states carries no flits. -/
theorem not_flits_of_training (h1 : 1 ≤ s.lst c) (h4 : s.lst c ≤ 4) : s.flits c = false := by
  have h5 : s.lst c ≠ 5 := by omega
  have h9 : s.lst c ≠ 9 := by omega
  simp [State.flits, h5, h9]

/-- An ACTIVE link carries flits. -/
theorem flits_of_active (h : s.lst c = 5) : s.flits c = true := by
  rw [State.flits, h]
  rfl

/-- A link that carries flits may be sent frames. -/
theorem framing_of_flits (hf : s.flits c = true) : s.framing c = true := by
  rw [State.framing, hf, Bool.true_or]

/-- What a controller keeps of its own does not tell whether its link carries flits. -/
theorem flits_onKl (s : State) (d : Nat) (f : KflLink → KflLink) (c : Nat) : (s.onKl d f).flits c = s.flits c := rfl

/-! ## Flits in (R173, R182) -/

/-- A frame whose codewords all decode is in hand as its flits, and what the code corrects is counted (R166 to R169). -/
theorem frameRx_decoded {lanes : List (Nat × List Nat)} {age : Nat} {f : FrameIn} (hf : s.flits c = true)
    (hdec : f = frameIn (s.kl c).rxScr ((lanesIn (s.kl c).rxMask).map (fun i =>
      (lanes.find? (fun e => s.lanePos c e.1 == some i)).elim [] (·.2)))) (hbad : f.bad = false) :
    s.frameRx c lanes age =
      ((s.onKl c (fun k => { k with rxScr := f.scr, rxFlits := f.flits, rxTb := s.tb - BitVec.ofNat 64 age })).stat
        R.KFL_FEC_CORR_SYM_LO R.KFL_FEC_CORR_SYM_HI c f.corrected).stat R.PCL_PORT_FEC_CORR_LO R.PCL_PORT_FEC_CORR_HI (portOfCtl c)
        f.corrected := by
  subst hdec
  simp only [State.frameRx, flits_onKl, hf, Bool.not_true, Bool.false_eq_true, if_false, whenb_of_false hbad]

/-- The first flit of a frame that has come. -/
theorem flitIn_frame {lanes : List (Nat × List Nat)} {age : Nat} (hk : s.isKfl c = true) (hf : s.flits c = true)
    (ht : s.frameRx c lanes age = t) (hn : (t.kl c).rxFlits = (b, ok) :: rest) :
    s.flitIn c (some lanes) age del = (t.onKl c (fun k => { k with rxFlits := rest })).flitTaken c b ok del := by
  simp only [State.flitIn, hk, framing_of_flits hf, ht, hn, Bool.not_true, Bool.or_self, Bool.false_eq_true, if_false]

/-- The next flit of the frame in hand. -/
theorem flitIn_inHand (hk : s.isKfl c = true) (hf : s.flits c = true) (hn : (s.kl c).rxFlits = (b, ok) :: rest) (age : Nat) :
    s.flitIn c none age del = (s.onKl c (fun k => { k with rxFlits := rest })).flitTaken c b ok del := by
  simp only [State.flitIn, hk, framing_of_flits hf, hn, Bool.not_true, Bool.or_self, Bool.false_eq_true, if_false]

/-- A flit whose check fails is counted and goes no further. -/
theorem flitTaken_corrupt (hf : s.flits c = true) (hcrc : (ok && leNat (b.drop 248) == crc64 (b.take 248)) = false) :
    s.flitTaken c b ok del = (s.stat R.KFL_RX_FLITS_LO R.KFL_RX_FLITS_HI c 1).bump R.KFL_CRC_ERR_CNT c := by
  simp only [State.flitTaken, hf, hcrc, Bool.not_true, Bool.false_eq_true, if_false, Bool.not_false, if_true]

/-- A flit whose check passes, and that the elastic buffer keeps, is good. -/
theorem flitTaken_good (hf : s.flits c = true) (hcrc : leNat (b.drop 248) = crc64 (b.take 248)) :
    s.flitTaken c b true false = (s.stat R.KFL_RX_FLITS_LO R.KFL_RX_FLITS_HI c 1).goodFlit c b := by
  simp only [State.flitTaken, hf, hcrc, beq_self_eq_true, Bool.and_self, Bool.not_true, Bool.false_and, Bool.false_eq_true, if_false]

/-- The next flit of the frame in hand, where it is good. -/
theorem flitIn_good (hk : s.isKfl c = true) (hf : s.flits c = true) (hn : (s.kl c).rxFlits = (b, true) :: rest)
    (hcrc : leNat (b.drop 248) = crc64 (b.take 248))
    (ht : t = (s.onKl c (fun k => { k with rxFlits := rest })).stat R.KFL_RX_FLITS_LO R.KFL_RX_FLITS_HI c 1) (age : Nat) :
    s.flitIn c none age false = t.goodFlit c b := by
  rw [flitIn_inHand hk hf hn, flitTaken_good ((flits_onKl s c _ c).trans hf) hcrc, ht]

/-- A good SEQ flit whose payload breaks a rule of R194 is a protocol error and nothing else. -/
theorem goodFlit_broken (hh : h = flitHdrOf (leNat (b.take 8))) (hseq : h.ftype = 1)
    (hb : 15 < 2 * h.wheyN + h.dslots ∨ (h.lseq = s.expectRx c ∧ s.seqBroken c h b = true)) : s.goodFlit c b = s.protoErr c := by
  subst hh
  simp [State.goodFlit, hseq, hb]

/-- A good SEQ flit whose payload breaks no rule: after its ACK and its credit, its sequence number decides (Table 6.8). -/
theorem goodFlit_seq (hh : h = flitHdrOf (leNat (b.take 8))) (hseq : h.ftype = 1) (hslots : 2 * h.wheyN + h.dslots ≤ 15)
    (hpay : h.lseq = s.expectRx c → s.seqBroken c h b = false) (hack : (s.ackIn c h.ack).flits c = true)
    (hu : u = (s.ackIn c h.ack).creditIn c h.crVc h.crCum) (huf : u.flits c = true) :
    s.goodFlit c b = if sub12 (u.expectRx c) h.lseq = 0 then u.seqIn c h b
      else if sub12 (u.expectRx c) h.lseq ≤ 2048 then u.bump R.KFL_DUP_CNT c else u.bump R.KFL_OOS_CNT c := by
  subst hh hu
  simp +contextual [State.goodFlit, hseq, Nat.not_lt.mpr hslots, hpay, hack, huf]

/-! ## Acknowledgements (R181, R183) -/

/-- An ACK of an outstanding flit, with others left and no orderly disable: what it acknowledges is dropped, and the replay timer of the
others starts again. -/
theorem ackIn_left {a left : Nat} {out : Nat → Bool} (h1 : 1 ≤ sub12 a (s.ackLast c)) (h2 : sub12 a (s.ackLast c) ≤ s.outstanding c)
    (ht : t = (s.setFld F.KFL_SEQ_TX.ACK_LAST c a).setFld F.KFL_REPLAY_STATUS.CONSEC c 0) (hl : left = t.outstanding c)
    (ho : out = (fun q => 1 ≤ sub12 q a && sub12 q a ≤ left)) (hpos : 0 < left)
    (hu : u = (t.onKl c (fun k => { k with
      unacked := k.unacked.filter (fun (f : KflFlit) => out f.lseq)
      tx := k.tx.filter (fun (t : KflPkt) => !t.slots.isEmpty || t.lastSeq == 4096 || out t.lastSeq || t.coming) })).showOut c)
    (hstop : ((u.arm .replay c (u.replayTime c)).kl c).stopping = none) : s.ackIn c a = u.arm .replay c (u.replayTime c) := by
  subst hu ho hl ht
  simp only [State.ackIn, h1, h2, decide_true, Bool.and_self, if_true, if_pos hpos, hstop, Option.isNone_none]

/-! ## Flits out (R177, R197) -/

/-- With no shedding step waiting to be agreed there is none to agree. -/
theorem shedAgree_none (h : (s.kl c).shedAsk = none) : s.shedAgree c = s := by
  rw [State.shedAgree, h]

/-- A flit slot with no width change at hand is the link's next flit, after which it may sleep. -/
theorem flitSlot_sameWidth (hk : s.isKfl c = true) (hm : (s.kl c).maskNext = none) (hask : (s.kl c).shedAsk = none) :
    s.flitSlot c = ((s.kflNext c).sleepNow c).recalWatch c := by
  simp only [State.flitSlot, hk, shedAgree_none hask, hm, Option.isSome_none, Bool.false_and, State.whenb_false, Bool.not_true,
    Bool.false_eq_true, if_false]

/-- An awake link whose IDLE flit is due sends it. -/
theorem kflNext_idle (hf : s.flits c = true) (htr : s.training c = false) (h7 : s.lst c ≠ 7) (h8 : s.lst c ≠ 8)
    (hi : s.fld F.KFL_LINK_CFG.COMP_INTERVAL c ≤ (s.kl c).sinceIdle + 1) : s.kflNext c = s.flitOut c {} [] [] := by
  simp [State.kflNext, hf, htr, h7, h8, hi]

/-- A link in standby with a message to send wakes. -/
theorem kflNext_standby (h7 : s.lst c = 7) (hw : s.wheyOf c ≠ []) : s.kflNext c = s.kflWake c := by
  rw [State.kflNext, if_pos (by simp [h7]), whenb_of_true (by simp [hw])]

/-! ## Timers (R184, R188, R192) -/

/-- The replay timer, while replays in a row are left, has every outstanding flit sent again. -/
theorem replayDue_again {n : Nat} (hd : s.due .replay c = true) (hf : s.flits c = true) (ho : s.outstanding c ≠ 0)
    (hn : n = s.fld F.KFL_REPLAY_STATUS.CONSEC c + 1) (hle : n ≤ s.fld F.KFL_TIMER_A.REPLAY_NUM c)
    (ht : t = ((s.setFld F.KFL_REPLAY_STATUS.CONSEC c n).setFld F.KFL_REPLAY_STATUS.REPLAYING c 1).bump R.KFL_REPLAY_CNT c)
    (hu : u = t.onKl c (fun k => { k with replayNext := some ((t.ackLast c + 1) % 4096) })) :
    s.replayDue c = (u.raise F.KFL_LINK_EVT.REPLAY c).arm .replay c (u.replayTime c) := by
  have hgo : ¬(!s.due .replay c || !s.flits c || s.outstanding c = 0) = true := by simp [hd, hf, ho]
  rw [State.replayDue, if_neg hgo, ← hn, if_neg (Nat.not_lt.mpr hle), ← ht, hu]

/-- The replay timer after REPLAY_NUM replays in a row starts recovery. -/
theorem replayDue_over (hd : s.due .replay c = true) (hf : s.flits c = true) (ho : s.outstanding c ≠ 0)
    (hlt : s.fld F.KFL_TIMER_A.REPLAY_NUM c < s.fld F.KFL_REPLAY_STATUS.CONSEC c + 1) : s.replayDue c = s.kflRecover c := by
  simp [State.replayDue, hd, hf, ho, hlt]

/-- A wait for credit that is over, on a link that carries flits, breaks it. -/
theorem creditDue_over {v : Nat} (hd : s.due .credit (8 * c + v) = true) (hf : s.flits c = true) :
    s.creditDue c v = ((s.bump R.KFL_CREDIT_TO_CNT c).raise F.KFL_LINK_EVT.CREDIT_TO c).kflBreak c 1 := by
  simp [State.creditDue, hd, hf]

/-- A recovery that is over time breaks the link. -/
theorem recoveryDue_over (hd : s.due .recovery c = true) (hl : s.lst c = 6) : s.recoveryDue c = s.kflBreak c 2 := by
  simp [State.recoveryDue, hd, hl]

end Sys2Proof.Laws
end

section
/-! The statement about the flits of a KFL link. -/

namespace Sys2Proof.Proofs

open Machine Laws

/-! ## Flits in -/

theorem kflFrameRx : Claims.kflFrameRx := by
  rintro s t u c lanes levels age del ok f b rest hk hf hdec hbad - rfl hn rfl
  exact congrArg Host.Outcome.next (flitIn_frame hk hf (frameRx_decoded hf hdec hbad) hn)

theorem kflFlitBad : Claims.kflFlitBad := by
  rintro s t c ls vs age b ok del rest hk hf hn hcrc rfl
  exact congrArg Host.Outcome.next ((flitIn_inHand hk hf hn age).trans (flitTaken_corrupt hf hcrc))

theorem kflFlitRx : Claims.kflFlitRx := fun _ _ _ _ _ _ age _ _ _ hk hf hn hcrc hh hseq hslots hpay ht hack hu huf =>
  congrArg Host.Outcome.next ((flitIn_good hk hf hn hcrc ht age).trans (goodFlit_seq hh hseq hslots hpay hack hu huf))

theorem kflFlitBroken : Claims.kflFlitBroken := fun _ _ _ _ _ age _ _ _ hk hf hn hcrc hh hseq ht hb =>
  congrArg Host.Outcome.next ((flitIn_good hk hf hn hcrc ht age).trans (goodFlit_broken hh hseq hb))

theorem kflAck : Claims.kflAck := fun _ _ _ _ _ _ _ h1 h2 ht hl ho hpos hu hstop => ackIn_left h1 h2 ht hl ho hpos hu hstop

/-! ## Flits out -/

theorem kflFlitTx : Claims.kflFlitTx := by
  intro s c hk hf htr h7 h8 hi hm hask
  have hslot := flitSlot_sameWidth hk hm hask
  rw [kflNext_idle hf htr h7 h8 hi] at hslot
  exact congrArg Host.Outcome.next hslot

theorem kflFlitWakes : Claims.kflFlitWakes := by
  intro s c hk h7 hm hw hask
  have hslot := flitSlot_sameWidth hk hm hask
  rw [kflNext_standby h7 hw] at hslot
  exact congrArg Host.Outcome.next hslot

/-! ## Timers -/

theorem replayTimerExpiry : Claims.replayTimerExpiry := fun _ _ _ _ _ hd hf ho hn hle ht hu =>
  congrArg Host.Outcome.next (replayDue_again hd hf ho hn hle ht hu)

theorem replayGivesUp : Claims.replayGivesUp := fun _ _ hd hf ho hlt => congrArg Host.Outcome.next (replayDue_over hd hf ho hlt)

theorem creditTimerExpiry : Claims.creditTimerExpiry := fun _ _ _ hd hf => congrArg Host.Outcome.next (creditDue_over hd hf)

theorem recoveryTimeout : Claims.recoveryTimeout := fun _ _ hd hl => congrArg Host.Outcome.next (recoveryDue_over hd hl)

/-- Settles O43: the next flit of a frame is judged by its check, its payload and its sequence number; a flit leaves, and a timer of
flits acts, by what the link has outstanding, waiting or due. -/
theorem kflFlits : Obligations.KflFlits :=
  ⟨kflFlitBad, kflFlitRx, kflAck, kflFlitTx, kflFlitWakes, replayTimerExpiry, replayGivesUp, creditTimerExpiry, recoveryTimeout,
    kflFrameRx, kflFlitBroken⟩

end Sys2Proof.Proofs
end

section
/-! SUPPORT. Training, lane markers and the end of a KFL link (R171, R189 to R195): what each block, marker set and timer comes to, by the
condition that decides it. -/

namespace Sys2Proof.Laws

open Machine

variable {s t u : State} {c lane : Nat}

/-! ## Training blocks in (R189 to R192) -/

/-- A lane that receives SYNC is not inverted, and its block is read as it came (Table 6.10). -/
theorem polarity_sync {v : Nat} (h : bits v 0 32 = 0x3B6EA2D4) :
    s.polarity c lane v = (s.setFld F.PCL_LANE_STATUS.POLARITY_INV (firstLane (portOfCtl c) + lane) 0, ktsOf v) := by
  simp [State.polarity, h]

/-- A lane that receives the complement of SYNC is inverted, and its block is read so. -/
theorem polarity_complement {v : Nat} (h : bits v 0 32 = 0xC4915D2B) : s.polarity c lane v =
    (s.setFld F.PCL_LANE_STATUS.POLARITY_INV (firstLane (portOfCtl c) + lane) 1, ktsOf (2 ^ 256 - 1 - v % 2 ^ 256)) := by
  simp only [State.polarity, h, if_true]

section
variable {v ok skew : Nat} {done : Bool} {req : Option Word} {k : Kts} (hk : s.isKfl c = true) (hm : s.mode ≠ .reset) (hl : s.lst c ≠ 0)
  (hw : lane < 4 * s.widthCfg c)
include hk hm hl hw

/-- The link takes what its lane receives for a block. -/
theorem ktsIn_open : (!s.isKfl c || decide (s.mode = .reset) || decide (s.lst c = 0) || decide (4 * s.widthCfg c ≤ lane)) = false := by
  simp [hk, hm, hl, hw]

/-- A block that cannot be read tells of the lane's polarity alone. -/
theorem ktsIn_unread (hp : s.polarity c lane v = (t, none)) : s.ktsIn c lane v ok done req skew = t := by
  simp only [State.ktsIn, ktsIn_open hk hm hl hw, hp, Bool.false_eq_true, if_false]

/-- A block of a link in training, with the lanes near enough to each other: what it tells is taken, and this side goes on when its part
is done. -/
theorem ktsIn_training (hp : s.polarity c lane v = (t, some k)) (h1 : 1 ≤ t.lst c) (h4 : t.lst c ≤ 4) (hskew : skew ≤ 64000) :
    s.ktsIn c lane v ok done req skew = (t.ktsLearn c lane ok k req).ktsStep c done := by
  have h7 : t.lst c ≠ 7 := by omega
  have h8 : t.lst c ≠ 8 := by omega
  simp only [State.ktsIn, ktsIn_open hk hm hl hw, hp, beq_false_of_ne h7, beq_false_of_ne h8, not_flits_of_training h1 h4,
    Nat.not_lt.mpr hskew, Bool.false_and, Bool.or_self, State.whenb_false, Bool.false_eq_true, if_false]

/-- A block on a lane in use of an ACTIVE link, other than the PHASE 5 blocks before the partner's first marker set, starts recovery. -/
theorem ktsIn_active (hp : s.polarity c lane v = (t, some k)) (h5 : t.lst c = 5) (hph : k.phase ≠ 5 ∨ (t.kl c).marks ≠ [])
    (hon : bits (t.fld F.KFL_LINK_STATUS.LANES_ACTIVE c) k.lane 1 = 1) : s.ktsIn c lane v ok done req skew = t.kflRecover c := by
  have hlate : (decide (k.phase = 5) && (t.kl c).marks.isEmpty) = false := by
    rcases hph with h | h
    · rw [decide_eq_false h, Bool.false_and]
    · rw [List.isEmpty_eq_false_iff.mpr h, Bool.and_false]
  have h7 : (t.lst c == 7) = false := by rw [h5]; rfl
  have h8 : (t.lst c == 8) = false := by rw [h5]; rfl
  simp only [State.ktsIn, ktsIn_open hk hm hl hw, hp, h7, h8, flits_of_active h5, hlate, hon, Nat.one_ne_zero, decide_false,
    Bool.false_and, Bool.or_self, State.whenb_false, Bool.false_eq_true, if_false, if_true]

end

/-! ## Timers of training (R190) -/

/-- Training that is over time has failed, at an equalisation step with EQ_FAIL; it is tried again where TRAIN_EN is 1. -/
theorem trainTimeout_over (hd : s.due .training c = true) (h1 : 1 ≤ s.lst c) (h4 : s.lst c ≤ 4)
    (ht : t = s.whenb ((s.kl c).phase == 1 || (s.kl c).phase == 3) (fun s => s.raise F.PCL_PORT_EVT.EQ_FAIL (portOfCtl c)))
    (hu : u = (t.kflDown c 6).linkOff (portOfCtl c) (t.restState (portOfCtl c))) :
    s.trainTimeout c = u.whenb (u.flag F.KFL_LINK_CFG.TRAIN_EN c) (fun s => s.arm .trainRetry c (ms 1)) := by
  have hgo : ¬(!s.due .training c || s.lst c = 0 || 5 ≤ s.lst c) = true := by
    have h0 : s.lst c ≠ 0 := by omega
    have h5 : ¬5 ≤ s.lst c := by omega
    simp [hd, h0, h5]
  subst hu ht
  rw [State.trainTimeout, if_neg hgo]
  by_cases heq : (s.kl c).phase = 1 ∨ (s.kl c).phase = 3
  · simp [State.kflFail, heq, State.whenb]
  · simp [State.kflFail, heq, State.whenb]

/-- The retry of a link at rest with TRAIN_EN 1 trains it. -/
theorem trainRetry_due (hd : s.due .trainRetry c = true) (ht : t = s.disarm .trainRetry c) (hl : t.lst c = 0)
    (hen : t.flag F.KFL_LINK_CFG.TRAIN_EN c = true) : s.trainRetry c = t.kflTrain c := by
  have hgo : (t.lst c == 0 && t.flag F.KFL_LINK_CFG.TRAIN_EN c) = true := by
    rw [hl, hen]
    rfl
  rw [State.trainRetry, if_neg (by simp [hd]), ← ht]
  exact whenb_of_true hgo

/-! ## LINK_DOWN and draining (R193, R195) -/

/-- LINK_DOWN to a link that is not being disabled breaks it. -/
theorem linkDownRx_heard (hh : s.hears c = true) (hstop : (s.kl c).stopping = none) : s.linkDownRx c = s.kflBreak c 3 := by
  simp [State.linkDownRx, hh, hstop, not_disabling hstop]

/-- A drain that is over sends LINK_DOWN, or stops the link that has sent it. -/
theorem disableDue_over {r : Nat} (hd : s.due .drain c = true) (hstop : (s.kl c).stopping = some r) :
    s.disableDue c = if (s.kl c).downSeq.isNone then s.kflSendDown c else s.kflStop c := by
  simp [State.disableDue, hd, hstop]

/-- A link that breaks for another cause than a disable, and that is not being disabled. -/
theorem kflBreak_undisabled {cause : Nat} {msgs : List Whey} (hl : s.lst c ≠ 0) (hc : cause ≠ 4) (hstop : (s.kl c).stopping = none)
    (hmsgs : msgs = (((s.kl c).unacked.map (·.whey)).flatten ++ s.wheyOf c).filter (fun (w : Whey) => w.carry == 2))
    (ht : t = ((((s.bump R.KFL_BROKEN_CNT c).raise F.KFL_LINK_EVT.BROKEN c).journal 0x0103 { port := portOfCtl c, detail := cause }).kflDown
      c cause).onKfl (fun y => { y with whey := y.whey.filter (fun e => e.1 != c) }))
    (hu : u = (((((t.setFld F.PCL_PORT_STATUS.STATE (portOfCtl c) 4).strikePort (portOfCtl c)).maskLink (t.linkIdx c)).linkDown (portOfCtl c)
      2).each (s.kl c).tx State.untake).each msgs (fun s w => (s.wheyRouted w).1)) :
    s.kflBreak c cause = if u.flag F.KFL_LINK_CFG.TRAIN_EN c then u.kflTrain c else u := by
  subst hu ht hmsgs
  simp only [State.kflBreak, if_neg hl, if_neg hc, hstop, Option.isSome_none, Bool.and_false, Bool.false_eq_true, if_false,
    bne_iff_ne.mpr hc, Bool.true_and, State.whenb]

/-! ## Markers in (R171) -/

/-- A physical lane of the port is in use: frames are received on its position. -/
def usesLane (s : State) (c lane : Nat) : Bool := (s.lanePos c lane).elim false (fun i => bits (s.kl c).rxMask i 1 == 1)

/-- A lane that is the only one in use is in use. -/
theorem usesLane_only (hone : (List.range 8).filter (usesLane s c) = [lane]) : usesLane s c lane = true :=
  (List.mem_filter.mp (hone ▸ List.mem_singleton_self lane)).2

/-- A marker set of a link with one lane in use, in which no other lane is found and no good marker tells of another width: the lane is
checked. -/
theorem markersIn_oneLane {set l : List (Nat × Nat × Nat)} (hk : s.isKfl c = true) (hf : s.framing c = true)
    (hone : (List.range 8).filter (usesLane s c) = [lane])
    (hl : set.filter (fun e => bits e.2.2 0 32 == 0xC5A31E6B && e.2.1 ≤ 64000) = l) (hlane : ∀ e ∈ l, e.1 = lane)
    (hwidth : ∀ e ∈ l, parity 32 (e.2.2 / 2 ^ 32) = 0 → bits e.2.2 36 2 = widthCode (lanesIn (s.kl c).rxMask).length)
    (ht : t = s.onKl c (fun k => { k with
      rxScr := 0x7FFFFFFF, rxFlits := [], deskew := l.map (fun e => (e.1, l.foldl (fun a e => max a e.2.1) 0 - e.2.1)) }))
    (htf : t.framing c = true) :
    s.markersIn c set = t.markerLane c lane ((l.find? (fun e => e.1 == lane)).map (·.2.2)) := by
  have hjoin : l.filter (fun e => !usesLane s c e.1 && parity 32 (e.2.2 / 2 ^ 32) == 0) = [] :=
    List.filter_eq_nil_iff.mpr fun e he => by simp [hlane e he, usesLane_only hone]
  have hsame : l.find? (fun e => parity 32 (e.2.2 / 2 ^ 32) == 0 &&
      bits e.2.2 36 2 != widthCode (lanesIn (s.kl c).rxMask).length) = none :=
    List.find?_eq_none.mpr fun e he => by simpa using hwidth e he
  unfold usesLane at hone hjoin
  subst ht
  simp only [State.markersIn, hk, hf, hl, hone, hjoin, hsame, htf, Bool.not_true, Bool.or_self, Bool.false_eq_true, if_false,
    State.each_cons, State.each_nil, State.whenb_true]

/-- The place of a marker on a lane that does not realign, with a good marker of the count expected. -/
theorem markerLane_expected {o : Option Nat} {m : Nat} {x : LaneMark} (ho : o = some m)
    (hx : x = (look lane (s.kl c).marks).getD {}) (hb : x.bad < 2) (hp : parity 32 (m / 2 ^ 32) = 0) (hn : bits m 38 8 = x.next) :
    s.markerLane c lane o = s.markerGood c lane m := by
  subst ho hx
  simp [-Nat.reducePow, State.markerLane, Nat.not_le.mpr hb, hp, hn]

/-- The place of a marker on a lane that does not realign, without a good marker: counted, and the second in a row is told of. -/
theorem markerLane_bad {m : Option Nat} {x : LaneMark} (hx : x = (look lane (s.kl c).marks).getD {}) (hb : x.bad < 2)
    (hm : ∀ w, m = some w → parity 32 (w / 2 ^ 32) = 1)
    (hu : u = (s.bump R.KFL_MARKER_ERR_CNT c).onKl c (fun k => { k with
      marks := put lane { next := (x.next + 1) % 256, bad := x.bad + 1 } k.marks })) :
    s.markerLane c lane m = if x.bad = 0 then u else u.raise F.KFL_LINK_EVT.MARKER_REALIGN c := by
  subst hx hu
  cases m with
  | none => simp [State.markerLane, Nat.not_le.mpr hb]
  | some w => simp [-Nat.reducePow, State.markerLane, Nat.not_le.mpr hb, hm w rfl]

/-- The place of a marker on a lane that realigns, without one: recovery. -/
theorem markerLane_lost (hb : 2 ≤ ((look lane (s.kl c).marks).getD {}).bad) :
    s.markerLane c lane none = (s.bump R.KFL_MARKER_ERR_CNT c).kflRecover c := by
  simp [State.markerLane, hb]

end Sys2Proof.Laws
end

section
/-! The statement about the training, the lane markers and the end of a KFL link. -/

namespace Sys2Proof.Proofs

open Machine Laws

/-! ## Training -/

theorem ktsBlockRx : Claims.ktsBlockRx := by
  rintro s t c lane block ok done req skew k hk hm hl hw hsync hread hskew rfl h1 h4
  exact congrArg Host.Outcome.next (ktsIn_training hk hm hl hw ((polarity_sync hsync).trans (congrArg _ hread)) h1 h4 hskew)

theorem ktsPolarity : Claims.ktsPolarity := fun _ _ _ _ _ _ _ _ hk hm hl hw hsync hread =>
  congrArg Host.Outcome.next (ktsIn_unread hk hm hl hw ((polarity_complement hsync).trans (congrArg _ hread)))

theorem ktsRecovers : Claims.ktsRecovers := by
  rintro s t c lane block ok done req skew k hk hm hl hw hsync hread rfl h5 hph hon
  exact congrArg Host.Outcome.next (ktsIn_active hk hm hl hw ((polarity_sync hsync).trans (congrArg _ hread)) h5 hph hon)

theorem trainingTimeout : Claims.trainingTimeout := fun _ _ _ hd h1 h4 ht hen =>
  congrArg Host.Outcome.next ((trainTimeout_over hd h1 h4 ht rfl).trans (whenb_of_true hen))

theorem trainingRetry : Claims.trainingRetry := fun _ _ hd hl hen => congrArg Host.Outcome.next (trainRetry_due hd rfl hl hen)

/-! ## The end of a link -/

theorem linkDown : Claims.linkDown := fun _ _ _ hh hstop => congrArg Host.Outcome.next (linkDownRx_heard hh hstop)

theorem orderlyDrainTimeout : Claims.orderlyDrainTimeout := by
  intro s c r hd hstop
  have hover := disableDue_over hd hstop
  exact ⟨fun hdown => congrArg Host.Outcome.next (hover.trans (if_pos (Option.isNone_iff_eq_none.mpr hdown))),
    fun q hdown => congrArg Host.Outcome.next (hover.trans (if_neg (by simp [hdown])))⟩

theorem kflBreaks : Claims.kflBreaks := fun _ _ _ _ _ _ hl hc hstop hmsgs ht hu => kflBreak_undisabled hl hc hstop hmsgs ht hu

/-! ## Markers -/

theorem laneMarkerRx : Claims.laneMarkerRx := by
  intro s t c lane a m x hk hf hsync ha hone ht htf hx hbad hpar hnext hwidth
  have hset := markersIn_oneLane (set := [(lane.val, a, m.toNat)]) (l := [(lane.val, a, m.toNat)]) hk hf hone
    (by simp [hsync, ha]) (by simp) (by simp [hwidth]) (by simpa using ht) htf
  refine congrArg Host.Outcome.next (hset.trans ((markerLane_expected (m := m.toNat) (by simp) hx hbad hpar hnext).trans ?_))
  rw [State.markerGood, hnext]

theorem laneMarkerBad : Claims.laneMarkerBad := by
  intro s t u c lane a m x hk hf hpar hone ht htf hx hbad hu
  by_cases hfound : bits m.toNat 0 32 = 0xC5A31E6B ∧ a ≤ 64000
  · have hodd := hpar hfound.1 hfound.2
    have hset := markersIn_oneLane (set := [(lane.val, a, m.toNat)]) (l := [(lane.val, a, m.toNat)]) hk hf hone
      (by simp [hfound]) (by simp) (by simp [-Nat.reducePow, hodd]) (by simpa [hfound] using ht) htf
    exact congrArg Host.Outcome.next (hset.trans (markerLane_bad hx hbad (by simp [-Nat.reducePow, hodd]) hu))
  · have hset := markersIn_oneLane (set := [(lane.val, a, m.toNat)]) (l := []) hk hf hone
      (by simpa using hfound) (by simp) (by simp) (by simpa [hfound] using ht) htf
    exact congrArg Host.Outcome.next (hset.trans (markerLane_bad hx hbad (by simp) hu))

theorem laneMarkerLost : Claims.laneMarkerLost := by
  intro s t c lane hk hf hone ht htf hbad
  have hset := markersIn_oneLane (set := []) (l := []) hk hf hone rfl (by simp) (by simp) ht htf
  exact congrArg Host.Outcome.next (hset.trans (markerLane_lost hbad))

/-- Settles O44: a training block is read by its polarity and taken by the link's state, each timer that is due acts by what the link is
at, and a marker set of one lane comes to the check of that lane's marker. -/
theorem kflTraining : Obligations.KflTraining :=
  ⟨ktsBlockRx, ktsPolarity, ktsRecovers, trainingTimeout, trainingRetry, linkDown, orderlyDrainTimeout, kflBreaks, laneMarkerRx,
    laneMarkerBad, laneMarkerLost⟩

end Sys2Proof.Proofs
end

section
/-! SUPPORT. The error opcodes of Corber (group 0x0C): a request whose every offset is a counter's, and the settings of SET_ERR that
are sound (R224, R315, R317). -/

namespace Sys2Proof.Laws

open Machine

variable {s : State} {q : CrbReq}

/-- A counter request runs once each of its offsets is one of a counter. -/
theorem onCounters_of_all {f : List Nat → Ans} (h : (counterOffsets q).all (fun o => (s.counterAt o).isSome) = true) :
    onCounters q s f = f (counterOffsets q) := by
  refine fields_pass fun e he => ?_
  obtain ⟨k, hk, rfl⟩ := List.mem_map.mp he
  have hlt : k < (counterOffsets q).length := List.mem_range.mp hk
  rw [List.getD_eq_getElem?_getD, List.getElem?_eq_getElem hlt, Option.getD_some]
  exact List.all_eq_true.mp h _ (List.getElem_mem hlt)

/-- A sound setting of registers that nothing depends on leaves what was asked. -/
theorem set_plain {l : List (RegDesc × Nat)} (h : q.sound s .plain l = true) : q.set s .plain l = ok (q.asked s l) :=
  set_sound h

/-- SET_ERR of the device sets its two words. -/
theorem opSetErr_run_device (ho : q.object = 0xFFFF) (hlen : q.body.length = 8) :
    opSetErr.run q s = q.set s .plain [(R.ERR_CFG, 0), (R.ERR_WDOG_CFG, 0)] := by
  simp only [opSetErr, if_pos ho, if_neg (not_not_intro hlen)]

/-- SET_ERR of a VH sets its one word. -/
theorem opSetErr_run_vh (ho : q.object < 144) (hlen : q.body.length = 4) :
    opSetErr.run q s = q.set s .plain [(R.ERR_VH_CFG, q.object)] := by
  have hne : q.object ≠ 0xFFFF := by omega
  simp only [opSetErr, if_neg hne, obj_of_lt ho, if_neg (not_not_intro hlen)]

end Sys2Proof.Laws
end

section
/-! The statement about the error opcodes of group 0x0C. -/

namespace Sys2Proof.Proofs

open Machine Laws

/-! ## The journals -/

theorem readJournal : Claims.readJournal := fun _ _ h hlo hhi =>
  exec_ok rfl rfl h (fields_pass (by simp [hlo, hhi]))

theorem readFlashJournal : Claims.readFlashJournal := fun _ _ h => exec_ok rfl rfl h rfl

/-! ## Counters -/

theorem readCounters : Claims.readCounters := fun _ _ h hall =>
  exec_ok rfl rfl h (by simp only [opReadCounters, onCounters_of_all hall])

theorem clearCounters : Claims.clearCounters := fun _ _ h hall =>
  exec_ok rfl rfl h (by simp only [opClearCounters, onCounters_of_all hall])

/-! ## The posted-failure log -/

theorem readPfl : Claims.readPfl := by
  intro s q h ho hfrom hlo hhi
  have hfit : q.fits 0 1 6 = true := decide_eq_true (Nat.lt_succ_of_le hfrom)
  refine exec_ok rfl rfl h ?_
  simp only [opReadPfl, obj_of_lt ho]
  exact fields_pass (by simp [hfit, hlo, hhi])

/-! ## Settings -/

theorem setErr : Claims.setErr := by
  rintro s u q rfl h
  exact ⟨fun ho hlen hs => exec_ok rfl rfl h ((opSetErr_run_device ho hlen).trans (set_plain hs)),
    fun ho hlen hs => exec_ok rfl rfl h ((opSetErr_run_vh ho hlen).trans (set_plain hs))⟩

/-- Settles O29: the fields of each request are in their ranges, every offset it names is a counter's, and its setting breaks no rule; so
its opcode answers OK with what it shows, clears or sets. -/
theorem errorOpcodes : Obligations.ErrorOpcodes :=
  ⟨readJournal, readFlashJournal, readCounters, clearCounters, readPfl, setErr⟩

end Sys2Proof.Proofs
end

section
/-! SUPPORT. Notices of failed writes and of refused accesses (R212 to R214, R422), and packets held for a member without a live route
(R149, R152): what each comes to, by the condition that decides it. -/

namespace Sys2Proof.Laws

open Machine

variable {s t : State} {c : Nat} {w : Whey} {x : Wfn}

/-! ## Fields -/

/-- The body of a notice, by its layout in Table 7.7. -/
theorem reads_wfn (ha : x.addr < 2 ^ 64) (hl : x.len < 2 ^ 13) (hv : x.vh < 2 ^ 8) (hb : x.bindIdx < 2 ^ 12) (hr : x.reason < 2 ^ 4)
    (hf : x.failFeid < 2 ^ 12) (ht : x.tFail < 2 ^ 32) (hs : x.fseq < 2 ^ 16) (hg : x.genTag < 2 ^ 8) (hn : x.count < 2 ^ 8) :
    Reads (packFields (wfnFields x)) [64, 13, 8, 12, 1, 4, 12, 32, 16, 8, 8] [x.addr, x.len, x.vh, x.bindIdx, b2n x.dir, x.reason,
      x.failFeid, x.tFail, x.fseq, x.genTag, x.count] :=
  reads_packFields rfl rfl ⟨ha, hl, hv, hb, b2n_lt x.dir, hr, hf, ht, hs, hg, hn, trivial⟩

/-- The body of an access notice (R422). -/
theorem reads_acuNotice {vh : BitVec 8} {bi : BitVec 12} {dir : Fin 4} {wr : Bool} {len : BitVec 13} {header : BitVec 128} :
    Reads (packFields [(vh.toNat, 8), (bi.toNat, 12), (dir.val, 2), (b2n wr, 1), (len.toNat, 13), (header.toNat, 128)])
      [8, 12, 2, 1, 13, 128] [vh.toNat, bi.toNat, dir.val, b2n wr, len.toNat, header.toNat] :=
  reads_packFields rfl rfl ⟨vh.isLt, bi.isLt, dir.isLt, b2n_lt wr, len.isLt, header.isLt, trivial⟩

/-! ## Notices -/

/-- A message on a link that carries no whey is not heard. -/
theorem onWhey_unheard {f : State → State} (hc : s.hears c = false) : s.onWhey c f = s :=
  if_neg (by simp [hc])

/-- A WFN_FWD for this device is counted and logged. -/
theorem wfnRx_forwarded (hd : w.dest = s.ownFeid) (ht : t = s.bump R.ERR_WFN_RX_CNT) (hx : x = wfnOfBody s.ownFeid w.body) :
    s.wfnRx c w true = t.noticed x := by
  subst ht hx
  simp only [State.wfnRx, hd, ne_eq, not_true_eq_false, if_false, if_true]

/-- A WFN for this device, which is not the device end of its binding, is counted and logged. -/
theorem wfnRx_vhEnd (hd : w.dest = s.ownFeid) (ht : t = s.bump R.ERR_WFN_RX_CNT) (hx : x = wfnOfBody s.ownFeid w.body)
    (hn : t.bindings.find? (fun e => t.isDeviceEnd e.2 && Bind.remote e.2 == x.bindIdx && Bind.vh e.2 == x.vh) = none) :
    s.wfnRx c w false = t.noticed x := by
  subst ht hx
  simp only [State.wfnRx, hd, hn, ne_eq, not_true_eq_false, Bool.false_eq_true, if_false]

/-- A WFN at the device end of its binding that tells of a write toward the host goes on to the VH end. -/
theorem wfnRx_deviceEnd {e : Nat × Bind} (hd : w.dest = s.ownFeid) (ht : t = s.bump R.ERR_WFN_RX_CNT)
    (hx : x = wfnOfBody s.ownFeid w.body)
    (he : t.bindings.find? (fun e => t.isDeviceEnd e.2 && Bind.remote e.2 == x.bindIdx && Bind.vh e.2 == x.vh) = some e)
    (hdir : x.dir = true) : s.wfnRx c w false = t.sendWfn 0x31 (Bind.feid e.2) x := by
  subst ht hx
  simp only [State.wfnRx, hd, he, hdir, ne_eq, not_true_eq_false, Bool.false_eq_true, if_false, if_true]

/-- A WFN for another device that has taken HOP_LIMIT is discarded, wherever it was routed. -/
theorem wfnRx_overLimit {fwd : Bool} (hd : w.dest ≠ s.ownFeid) (hh : s.fld F.BND_FAB_CFG.HOP_LIMIT < w.hops + 1) :
    s.wfnRx c w fwd = ((s.bump R.ERR_WFN_UNDELIV_CNT).raise F.ERR_EVT.WFN_UNDELIV).journal 0x0406 { feid := w.dest } := by
  have hover : ¬w.hops + 1 ≤ s.fld F.BND_FAB_CFG.HOP_LIMIT := Nat.not_le.mpr hh
  simp only [State.wfnRx, if_pos hd, hover, decide_false, Bool.and_false, Bool.false_eq_true, if_false]

/-- An access notice for this device is reported on the binding it names. -/
theorem noticeRx_own {vh bi dir wr len header : Nat} (hr : Reads w.body [8, 12, 2, 1, 13, 128] [vh, bi, dir, wr, len, header])
    (hd : w.dest = s.ownFeid) : s.noticeRx c w = s.reportBinding 0x0309 bi .completerAbort false header := by
  simp only [State.noticeRx, hr _, List.getD_cons_zero, List.getD_cons_succ, hd, ne_eq, not_true_eq_false, if_false]

/-! ## Packets held -/

/-- A held packet whose time is up without a live slot is counted and lost. -/
theorem unreachExpiry_held {id : Nat} (hdue : s.due .unreach id = true) (hheld : s.fab.unreach.any (fun e => e.1 == id) = true)
    (ht : t = (s.onFab (fun y => { y with unreach := y.unreach.filter (fun e => e.1 != id) })).disarm .unreach id) :
    s.unreachExpiry id = ((t.bump R.BND_FAB_UNREACH_CNT).raise F.BND_FAB_EVT.UNREACH).pathLoss id 0 := by
  subst ht
  rw [State.unreachExpiry, if_pos hdue, State.unreachDue, if_pos hheld]

/-- Behind the last route change toward a FEID, once it has settled and nothing older is left, every packet held toward that FEID leaves,
in order. -/
theorem pinRelease_last {f : Nat} {e : Nat × Nat × Nat} (he : s.fab.pinSwap.find? (fun e => e.1 == f) = some e)
    (hlast : (s.fab.pinSwap.erase e).find? (fun e => e.1 == f) = none)
    (hsettled : e.2.1 + us (10 * s.fld F.BND_FAB_HOLD_CFG.PIN_SETTLE) ≤ s.now) (hgone : s.olderToward f e.2.2 = false) :
    s.pinRelease f = (s.onFab (fun y => { y with
      pinSwap := s.fab.pinSwap.erase e, pinHeld := y.pinHeld.filter (fun e => e.2 != f) })).each
        ((s.fab.pinHeld.filter (fun e => e.2 == f)).map (·.1)) (fun s id =>
          if (s.pkt id).elim false (fun k => k.residue.isSome) then s.onPkt id (fun k => { k with held := false }) else s.sendOn id) := by
  have hnow : ¬s.now < e.2.1 + us (10 * s.fld F.BND_FAB_HOLD_CFG.PIN_SETTLE) := Nat.not_lt.mpr hsettled
  simp only [State.pinRelease, he, hlast, hnow, hgone, decide_false, Bool.or_self, Bool.false_eq_true, if_false, Option.elim_none,
    Bool.and_true, bne]

end Sys2Proof.Laws
end

section
/-! The statement about notices between members and about packets held for one without a live route. -/

namespace Sys2Proof.Proofs

open Machine Laws

/-! ## Notices of failed writes -/

theorem wfn : Claims.wfn := fun _ _ _ _ _ _ _ hc hs hd ht hx hn => next_onWhey hc hs (wfnRx_vhEnd hd ht hx hn)

theorem wfnFieldsKept : Claims.wfnFieldsKept := by
  intro w src ha hl hv hb hr hf ht hs hg hn
  have hreads := reads_wfn ha hl hv hb hr hf ht hs hg hn
  simp only [wfnOfBody, hreads _, List.getD_cons_zero, List.getD_cons_succ, b2n_beq_one]

theorem wfnFwd : Claims.wfnFwd := fun _ _ _ _ _ _ _ hc hs hd ht hx => next_onWhey hc hs (wfnRx_forwarded hd ht hx)

theorem wfnDeviceEnd : Claims.wfnDeviceEnd := fun _ _ _ _ _ _ _ _ hc hs hd ht hx he hdir =>
  next_onWhey hc hs (wfnRx_deviceEnd hd ht hx he hdir)

theorem wfnUndelivered : Claims.wfnUndelivered := fun _ _ _ _ _ hc hs hd hh => next_onWhey hc hs (wfnRx_overLimit hd hh)

/-! ## Notices of refused accesses, and messages that are not heard -/

theorem acuNotice : Claims.acuNotice := fun _ _ _ _ _ _ _ _ _ _ _ hc hs hd => next_onWhey hc hs (noticeRx_own reads_acuNotice hd)

theorem wheyUnheard : Claims.wheyUnheard := fun _ _ _ _ _ _ _ _ _ _ hc =>
  ⟨congrArg Host.Outcome.next (onWhey_unheard hc), congrArg Host.Outcome.next (onWhey_unheard hc)⟩

/-! ## Packets held -/

theorem unreachHoldExpiry : Claims.unreachHoldExpiry := fun _ _ _ hdue hheld ht =>
  congrArg Host.Outcome.next (unreachExpiry_held hdue hheld ht)

theorem pinHoldRelease : Claims.pinHoldRelease := fun _ _ _ he hlast hsettled hgone =>
  congrArg Host.Outcome.next (pinRelease_last he hlast hsettled hgone)

/-- Settles O48: a notice that is heard acts by the fields it carries and by the end of its binding this device stands at, and what is held
for a member leaves or is lost by what is left of its hold. -/
theorem fabricNotices : Obligations.FabricNotices :=
  ⟨wfn, wfnFieldsKept, wfnFwd, acuNotice, wheyUnheard, unreachHoldExpiry, pinHoldRelease, wfnDeviceEnd, wfnUndelivered⟩

end Sys2Proof.Proofs
end

section
/-! SUPPORT. Traffic control as Corber sets it (groups 0x05 and 0x06): a gate list whose fields are in their ranges, and the operating list
of a port by the timebase (R239, R241, R242). -/

namespace Sys2Proof.Laws

open Machine

variable {s : State} {q : CrbReq}

/-! ## Gate lists as requests bring them -/

/-- WRITE_GCL of entries that the list of a live port has room for writes them. -/
theorem opWriteGcl_run_room {n : Nat} (hp : q.object < 144) (hl : s.live q.object = true) (hn : n = (q.body.length - 1) / 4)
    (hroom : q.num 0 1 + n ≤ 256) :
    opWriteGcl.run q s = ok (s.writeGcl q.object (q.num 0 1) ((List.range n).map (fun k => q.num (1 + 4 * k) 4))) := by
  subst hn
  simp only [opWriteGcl, port_of_live hp hl]
  exact fields_pass (by simp [hroom])

/-- GCL_CHANGE of a live port whose cycle and gate enable are in their ranges submits the list they are set for. -/
theorem opGclChange_run_submitted {u t : State} (hp : q.object < 144) (hl : s.live q.object = true) (hlo : 1000 ≤ q.num 0 4)
    (hhi : q.num 0 4 ≤ 1000000000) (hen : q.num 13 1 ≤ 1)
    (hu : u = ((((s.setFld F.QOS_GCL_CYCLE.CYCLE_NS q.object (q.num 0 4)).wr R.QOS_GCL_BASE_LO q.object
      (BitVec.ofNat 32 (q.num 4 4))).wr R.QOS_GCL_BASE_HI q.object (BitVec.ofNat 32 (q.num 8 4))).setFld F.QOS_GCL_CTRL.ADMIN_LAST q.object
      (q.num 12 1)).setFld F.QOS_GCL_CTRL.GATE_EN q.object (q.num 13 1)) (ht : u.gclChange q.object = some t) :
    opGclChange.run q s = ok t := by
  subst hu
  have hfit : q.fits 13 1 1 = true := decide_eq_true (Nat.lt_succ_of_le hen)
  simp only [opGclChange, port_of_live hp hl, ht]
  exact fields_pass (by simp [hlo, hhi, hfit])

/-! ## The operating list -/

variable {p cycle base : Nat}

/-- The entry the timebase falls in, and how much of it is left, decide what a port's gates show. -/
theorem showGate_of_stretch {l : List (Nat × Nat)} {i left : Nat} (h : stretchAt l ((s.tb.toNat - base) % cycle) = (i, left)) :
    s.showGate p cycle base l = ((s.onQos (fun y => { y with
      gclHeld := y.gclHeld.filter (· != p), gclNext := put p (s.tb.toNat + left) y.gclNext })).setFld
      F.QOS_GCL_STATUS.CUR_ENTRY p i).setFld F.QOS_GCL_STATUS.CUR_GATES p (l.getD i (0xFF, 0)).1 := by
  simp only [State.showGate, h]

/-- At the end of an entry the operating list shows the one that follows. -/
theorem gateAdvance_due {e : Nat} (hrun : look p s.qos.gclRun = some (cycle, base)) (hnext : look p s.qos.gclNext = some e)
    (hdue : e ≤ s.tb.toNat) : s.gateAdvance p = s.showGate p cycle base (cutList cycle (s.operList p)) := by
  simp only [State.gateAdvance, hrun, hnext, if_neg (Nat.not_lt.mpr hdue)]

/-- The only pending list, from its first cycle start on, becomes the operating list of its port. -/
theorem gclSwitch_only {t : State} {g : GclPending} (hg : s.qos.gclPending = [g]) (hp : g.port = p) (hstart : g.start ≤ s.tb.toNat)
    (ht : t = s.onQos (fun y => { y with
      gclPending := []
      gclOper := ((List.range g.entries.length).zip g.entries).foldl (fun l e => put (256 * p + e.1) e.2 l)
        (y.gclOper.filter (fun e => e.1 / 256 != p))
      gclRun := (p, g.cycle, g.base) :: y.gclRun.filter (fun e => e.1 != p) })) :
    s.gclSwitch p = (((((t.setFld F.QOS_GCL_STATUS.OPER_LAST p (g.entries.length - 1)).setFld F.QOS_GCL_STATUS.OPER_VALID p 1).setFld
      F.QOS_GCL_STATUS.CHANGE_PENDING p 0).setFld F.QOS_STATUS.GCL_PENDING 0 0).raise F.QOS_EVT.GCL_SWITCH).showGate p g.cycle g.base
      (cutList g.cycle g.entries) := by
  have hfind : s.qos.gclPending.find? (fun (x : GclPending) => x.port == p && decide (x.start ≤ s.tb.toNat)) = some g := by
    simp [hg, hp, hstart]
  have hrest : s.qos.gclPending.filter (fun (x : GclPending) => x.port != p) = [] := by simp [hg, hp]
  subst ht
  simp only [State.gclSwitch, hfind, hrest, List.isEmpty_nil, Bool.not_true, b2n, Bool.false_eq_true, if_false]

end Sys2Proof.Laws
end

section
/-! The statement about the traffic control and access check opcodes, and about the gate lists. -/

namespace Sys2Proof.Proofs

open Machine Laws

/-! ## Policers, nodes, queues and ports -/

theorem setPolicer : Claims.setPolicer := by
  rintro s u q rfl l h ho hs
  exact exec_ok rfl rfl h (by simp only [opSetPolicer, obj_of_lt ho]; exact set_sound hs)

theorem getPolicer : Claims.getPolicer := fun _ _ h ho => exec_ok rfl rfl h (by simp only [opGetPolicer, obj_of_lt ho, State.showRegs])

theorem setNode : Claims.setNode := by
  rintro s u t q rfl l h ho hs rfl
  exact exec_ok rfl rfl h (by simp only [opSetNode, obj_of_lt ho]; exact set_sound hs)

theorem setQueue : Claims.setQueue := by
  rintro s u t q rfl l h ho hs rfl
  exact exec_ok rfl rfl h (by simp only [opSetQueue, obj_of_lt ho]; exact set_sound hs)

theorem setPortShaper : Claims.setPortShaper := by
  rintro s u t q rfl l h hp hl hs rfl
  exact exec_ok rfl rfl h (by simp only [opSetPortShaper, port_of_live hp hl]; exact set_sound hs)

theorem setQos : Claims.setQos := fun _ _ h hs => exec_ok rfl rfl h (set_plain hs)

/-! ## Gate lists -/

theorem writeGcl : Claims.writeGcl := fun _ _ _ h hp hl hn hroom => exec_ok rfl rfl h (opWriteGcl_run_room hp hl hn hroom)

theorem gclChange : Claims.gclChange := fun _ _ _ _ h hp hl hlo hhi hen hu ht =>
  exec_ok rfl rfl h (opGclChange_run_submitted hp hl hlo hhi hen hu ht)

theorem gateEntryAdvance : Claims.gateEntryAdvance := by
  rintro s q cycle base e i left l hrun hnext hdue rfl hstretch
  exact congrArg Host.Outcome.next ((gateAdvance_due hrun hnext hdue).trans (showGate_of_stretch hstretch))

theorem gclSwitch : Claims.gclSwitch := by
  rintro s t u q g hg hp hstart ht rfl
  exact congrArg Host.Outcome.next (gclSwitch_only hg hp hstart ht)

/-! ## Access checks -/

theorem setAcu : Claims.setAcu := fun _ _ h hs => exec_ok rfl rfl h (set_plain hs)

theorem getViolation : Claims.getViolation := fun _ _ h => exec_ok rfl rfl h rfl

theorem clearViolation : Claims.clearViolation := fun _ _ h => exec_ok rfl rfl h rfl

/-- Settles O24: each request names what stands and its setting breaks no rule, so its opcode answers OK with what it sets or shows; a gate
list shows the entry the timebase falls in. -/
theorem trafficOpcodes : Obligations.TrafficOpcodes :=
  ⟨setPolicer, getPolicer, setNode, setQueue, setPortShaper, writeGcl, gclChange, setQos, setAcu, getViolation, clearViolation,
    gateEntryAdvance, gclSwitch⟩

end Sys2Proof.Proofs
end

section
/-! SUPPORT. The egress of a port, the return of credit and what a policer holds: what each comes to, by the condition that decides it
(R69, R77 to R82, R226 to R230, R234, R237). -/

namespace Sys2Proof.Laws

open Machine

variable {s t : State}

/-! ## Selection and reading (R69, R82, R234) -/

/-- Without an armed injection a packet read clean stays clean. -/
theorem meets_clean (h : s.err.armed = []) (k : Pkt) : s.meets k .clean = (.clean, s) := by
  have hnone (cls : Nat) : k.words.find? (fun w => s.injected cls w.1) = none :=
    List.find?_eq_none.mpr fun w _ => by simp [not_injected h]
  simp only [State.meets, hnone]
  simp only [not_injected h, Bool.and_false, Bool.false_eq_true, if_false]

/-- A packet that starts on an edge port leaves as its TLP. -/
theorem depart_edge {p : Nat} {k : Pkt} {tl : Tlp} (hf : s.isFabric p = false) (htl : k.tlpOf = some tl) :
    s.depart p k = (s.onPkt k.id (fun x => { x with readers := p :: x.readers })).emit (.tlp p tl) := by
  simp only [State.depart, hf, htl, Bool.false_eq_true, if_false]

/-- A port that may start reads the packet the scheduler chooses, once its charges are made, with what ECC finds on the way. -/
theorem egress_chosen {p n c : Nat} {pc : PartnerCredit} {k : Pkt} {qs : QosState} (ecc : ReadEcc) (hm : s.mayStart p = true)
    (hstarved : s.starvedNext p pc = none) (hs : s.schedule p pc = some (n, c, k, qs))
    (hfit : State.gateFit { s with qos := qs } p c k.tlpBytes ≠ some true) (ht : t = State.chargeStart { s with qos := qs } p n c k) :
    s.egress p pc ecc = (t.meets k ecc).2.readOut p k (t.meets k ecc).1 := by
  subst ht
  have hexcess : (State.gateFit { s with qos := qs } p c k.tlpBytes == some true) = false := beq_eq_false_iff_ne.mpr hfit
  simp only [State.egress, hm, hstarved, hs, hexcess, Bool.not_true, Bool.false_eq_true, if_false, whenb_of_false rfl]

/-- A port for which nothing is eligible sends nothing. -/
theorem egress_idle {p : Nat} {pc : PartnerCredit} (ecc : ReadEcc) (hm : s.mayStart p = true) (hstarved : s.starvedNext p pc = none)
    (hs : s.schedule p pc = none) : s.egress p pc ecc = s := by
  simp only [State.egress, hm, hstarved, hs, Bool.not_true, Bool.false_eq_true, if_false]

/-- The read of a whole packet ends. -/
theorem egressDone_whole {p id : Nat} {k : Pkt} (hk : s.pkt id = some k) (hr : k.readers.contains p = true) (hw : k.coming = false) :
    s.egressDone p id =
      ((((s.readDone id p).queueEmptied p (s.nodeAt k p) (s.clsAt k p)).poolEvents.widenDue p).bankEmpty).dmRun := by
  simp only [State.egressDone, hk, hr, hw, Bool.not_true, Bool.or_self, Bool.false_eq_true, if_false]

/-! ## The return of credit (R77 to R80) -/

section
variable {p c h d : Nat}

/-- The only credit to be returned is the only one the arbiter visits. -/
theorem creditRun_only (hasks : s.churn.asks = [(8 * p + c, (h, d))]) (hc : c < 8) : s.creditRun = s.creditVisit p c h d := by
  have hport : (8 * p + c) / 8 = p := by omega
  have hclass : (8 * p + c) % 8 = c := by omega
  rcases Nat.lt_or_ge p s.churn.turn with hturn | hturn
  · simp [State.creditRun, hasks, State.each, hport, hclass, hturn, Nat.not_le.mpr hturn]
  · simp [State.creditRun, hasks, State.each, hport, hclass, hturn, Nat.not_lt.mpr hturn]

/-- The first credit to be returned is visited at once. -/
theorem creditGrant_first (hasks : s.churn.asks = []) (hc : c < 8) :
    s.creditGrant p c h d = (s.onChurn (fun y => { y with asks := [(8 * p + c, (h, d))] })).creditVisit p c h d := by
  have hput : s.onChurn (fun y => { y with asks := put (8 * p + c) (h, d) y.asks }) =
      s.onChurn (fun y => { y with asks := [(8 * p + c, (h, d))] }) := by
    simp only [State.onChurn, hasks, put]
  rw [State.creditGrant, hput]
  exact creditRun_only rfl hc

/-- The only credit to be returned is no longer asked for once it is visited. -/
theorem asks_visited (hasks : s.churn.asks = []) (k : Nat) (v : Nat × Nat) :
    (s.onChurn (fun y => { y with asks := [(k, v)] })).onChurn (fun y => { y with asks := drop k y.asks }) = s := by
  show s.onChurn (fun y => { y with asks := drop k [(k, v)] }) = s
  rw [drop, if_pos rfl, ← hasks]
  rfl

/-! What the arbiter makes of credit it visits: `t` is the state in which that credit is no longer asked for, and the link of its port
stands, at no more than its pace. -/

variable (ht : s.onChurn (fun y => { y with asks := drop (8 * p + c) y.asks }) = t) (hl : t.linkUp p = true) (hr : t.outOfReset p = true)
  (hc : c < t.classes p) (hf : t.kfl.frozen = false) (hp : t.paceHolds p = false)
include ht hl hr hc hf hp

/-- Credit of a class that something withholds waits, and the first of its port counts a stall. -/
theorem creditVisit_withheld (hw : t.withheld p c = true) (hfirst : t.churn.stalled.contains p = false) :
    s.creditVisit p c h d = (s.onChurn (fun y => { y with stalled := p :: y.stalled })).bump R.CHN_PORT_STALL_CNT p := by
  simp only [State.creditVisit, ht, hl, hr, hf, hp, hw, hfirst, Nat.not_le.mpr hc, Bool.not_true, decide_false, Bool.or_self,
    Bool.false_eq_true, if_false, if_true]

/-- Credit of a PCI Express port that nothing withholds and the limits allow is made. -/
theorem creditVisit_made {chg : Charge} (hw : t.withheld p c = false) (hpr : t.proto p ≠ 2)
    (hchg : t.grantCharge p c (backing h d) = some chg) :
    s.creditVisit p c h d = (((((t.onChurn (fun y => { y with stalled := y.stalled.filter (· != p), turn := (p + 1) % 144 })).paceTurn
      p h d).grantMore p c h d chg).emit (.credit p c h d)).poolEvents) := by
  have hneed : t.grantNeed p h d = backing h d := if_neg hpr
  simp only [State.creditVisit, ht, hl, hr, hf, hp, hw, hpr, hneed, hchg, Nat.not_le.mpr hc, Bool.not_true, decide_false, Bool.or_self,
    Bool.false_eq_true, if_false]

end

/-- A port that nothing slows takes no pause. -/
theorem paceTurn_free {p : Nat} (h : s.pacedRate p = none) (heads bytes : Nat) : s.paceTurn p heads bytes = s := by
  simp only [State.paceTurn, h]

/-- A grant that stands grows. -/
theorem grantMore_found {p c : Nat} {g : Grant} (hg : s.grantOf p c = some g) (h d : Nat) (chg : Charge) :
    s.grantMore p c h d chg = s.onChurn (fun y => { y with
      grants := y.grants.filter (fun (x : Grant) => !(x.port == p && x.cls == c)) ++
        [{ g with heads := g.heads + h, bytes := g.bytes + d, res := addP g.res chg.res, shr := addP g.shr chg.shr,
                  esc := addP g.esc chg.esc }] }) := by
  simp only [State.grantMore, hg, Option.getD_some]

/-! ## Policers and what they hold (R226 to R230) -/

section
variable {p : Nat} {h : Hold} {k : Pkt} {col : Colour} (hh : s.qos.holds = [h])
include hh

/-- Of one held packet the head alone is metered. -/
theorem holdRelease_alone {np : Bool} : s.holdRelease p np = (s.meterHead p np).2 := by
  rw [State.holdRelease, hh, List.length_singleton, State.meterHeads]
  rcases s.meterHead p np with ⟨_ | _, u⟩ <;> rfl

variable (hp : h.policer = p) (hb : h.behind = none) (hk : s.pkt h.pkt = some k)
include hp hb hk

/-- A packet held alone is metered red, and its first red counts. -/
theorem meterHead_red (hm : s.meter p (s.policed p k) = (.red, t)) (hfirst : h.metered = false) :
    s.meterHead p h.np = (false, (t.onQos (fun y => { y with
      holds := y.holds.map (fun (x : Hold) => if x.pkt == k.id then { x with metered := true } else x) })).bump R.QOS_POL_RED_CNT p) := by
  simp [State.meterHead, hh, hp, hb, hk, hm, hfirst]

/-- A packet held alone that is not metered red goes on by its colour. -/
theorem meterHead_released (hm : s.meter p (s.policed p k) = (col, t)) (hcol : col ≠ .red) :
    s.meterHead p h.np = (true, (((((t.countColour p (s.policed p k) col).onPkt k.id (fun k => { k with
      held := false, yellow := col == .yellow })).onQos (fun y => { y with
      holds := y.holds.filter (fun (x : Hold) => x.pkt != k.id) })).showHolds p).goOn k.id)) := by
  cases col with
  | red => exact absurd rfl hcol
  | green => simp [State.meterHead, hh, hp, hb, hk, hm]
  | yellow => simp [State.meterHead, hh, hp, hb, hk, hm]

end

/-! ## Starvation (R237) -/

/-- A queue whose head is a completion, and which has gone too long without service, is marked. -/
theorem starve_due {p n c : Nat} {k : Pkt} (hk : s.headOf p n c {} = some k) (ho : k.ord = .completion) (hd : s.guardDue p n c = true)
    (hnew : s.qos.starved.contains (p, n, c) = false) :
    s.starve p n c = s.onQos (fun y => { y with starved := y.starved ++ [(p, n, c)] }) := by
  simp only [State.starve, hk, ho, hd, hnew, Option.elim_some, BEq.rfl, Bool.not_false, Bool.and_self, if_true]

end Sys2Proof.Laws
end

section
/-! The statement about the egress: selection, reading, credits, policers and starvation. -/

namespace Sys2Proof.Proofs

open Machine Laws

/-! ## Selection and reading -/

theorem egressSelect : Claims.egressSelect := by
  intro s t q pc n c k qs tl hm hstarved hs hfit ht harmed hfab htl
  have hchosen := egress_chosen .clean hm hstarved hs hfit ht
  rw [meets_clean harmed] at hchosen
  exact congrArg Host.Outcome.next (hchosen.trans (depart_edge hfab htl))

theorem egressPoisoned : Claims.egressPoisoned := fun _ _ _ _ _ _ _ _ b row hm hstarved hs hfit ht =>
  congrArg Host.Outcome.next (egress_chosen (.wordUeBefore b row) hm hstarved hs hfit ht)

theorem egressIdle : Claims.egressIdle := fun _ _ _ ecc hm hstarved hs => congrArg Host.Outcome.next (egress_idle ecc hm hstarved hs)

theorem egressReadDone : Claims.egressReadDone := fun _ _ _ _ hk hr hw => congrArg Host.Outcome.next (egressDone_whole hk hr hw)

/-! ## Credit -/

theorem creditWithheld : Claims.creditWithheld := fun _ _ c _ _ hasks hl hr hc hf hp hw hfirst =>
  congrArg Host.Outcome.next ((creditGrant_first hasks (by omega)).trans
    (creditVisit_withheld (asks_visited hasks _ _) hl hr hc hf hp hw hfirst))

theorem creditGrant : Claims.creditGrant := by
  rintro s t p c h d chg g hasks hl hr hc hf hp hw hpr hchg - ht hpace hg
  have hmade := creditVisit_made (asks_visited hasks (8 * p + c) (h.toNat, d.toNat)) hl hr hc hf hp hw hpr hchg
  have hg' : t.grantOf p c = some g := by rw [ht]; exact hg
  rw [← ht, paceTurn_free hpace, grantMore_found hg'] at hmade
  exact congrArg Host.Outcome.next ((creditGrant_first hasks (by omega)).trans hmade)

theorem creditAsked : Claims.creditAsked := by
  rintro s t p c h d rfl
  rfl

/-! ## Policers -/

theorem policerMeter : Claims.policerMeter := by
  rintro s p b tp tc n rfl rfl rfl
  refine ⟨fun hpeak => if_pos hpeak, fun hpeak hcom => ?_, fun hpeak hcir hcom => ?_⟩
  · exact (if_neg (Int.not_lt.mpr hpeak)).trans (if_pos (by simpa using hcom))
  · exact (if_neg (Int.not_lt.mpr hpeak)).trans (if_neg (by simpa using ⟨hcir, hcom⟩))

theorem policerHoldRelease : Claims.policerHoldRelease := by
  rintro s t u p h k col hh hp hb hk hm hcol rfl
  exact congrArg Host.Outcome.next ((holdRelease_alone hh).trans (congrArg Prod.snd (meterHead_released hh hp hb hk hm hcol)))

theorem policerHoldRed : Claims.policerHoldRed := fun _ _ _ _ _ hh hp hb hfirst hk hm =>
  congrArg Host.Outcome.next ((holdRelease_alone hh).trans (congrArg Prod.snd (meterHead_red hh hp hb hk hm hfirst)))

/-! ## Starvation -/

theorem starveGuardExpiry : Claims.starveGuardExpiry := by
  rintro s q n c k l since rfl hk ho rfl hover hwait hnew
  exact congrArg Host.Outcome.next (starve_due hk ho (by simp [State.guardDue, hwait, hover]) hnew)

/-- Settles O41: a port that may start reads what the scheduler chose by what ECC found, the one credit asked for is made or withheld, a
held packet is released by its colour, and a queue that starves is marked. -/
theorem egressScheduling : Obligations.EgressScheduling :=
  ⟨egressSelect, egressPoisoned, egressIdle, egressReadDone, creditWithheld, creditGrant, policerMeter, policerHoldRelease,
    policerHoldRed, starveGuardExpiry, creditAsked⟩

end Sys2Proof.Proofs
end

section
/-! SUPPORT. Access checks (chapter 10): what the traffic ACU decides of a block by the rule that matches it, and what each command of the
debug port comes to, by whether a verification runs and whether the word is locked (R261, R268, R271 to R273, R276). -/

namespace Sys2Proof.Laws

open Machine

variable {s t : State}

/-! ## Rules of the traffic ACU (R260, R261) -/

/-- The kinds of the read class. -/
theorem readClass_iff (k : TlpKind) : readClass k = true ↔ k = .mrd ∨ k = .mrdLk ∨ k = .cxlMemRd ∨ k = .atomicOp := by
  cases k <;> simp [readClass]

/-- The kinds of the write class. -/
theorem writeClass_iff (k : TlpKind) : writeClass k = true ↔ k = .mwr ∨ k = .dmwr ∨ k = .cxlMemWr ∨ k = .atomicOp := by
  cases k <;> simp [writeClass]

/-- Only an AtomicOp is of both classes. -/
theorem atomicOp_of_both_classes {k : TlpKind} (hr : readClass k = true) (hw : writeClass k = true) : k = .atomicOp := by
  cases k <;> simp_all [readClass, writeClass]

/-- A field of one bit that is not 0 is 1. -/
theorem ef_bit_ne_zero (r : BitVec 512) (lo : Nat) : ef r lo 1 ≠ 0 ↔ ef r lo 1 = 1 :=
  Nat.mod_two_ne_zero

/-- The rule that matches a block allows it to a request if it allows each class the request is of. -/
theorem forbids_none_iff {blk vh bi i : Nat} {d : AcuDir} {r : BitVec 512} (he : s.flag F.ACU_CFG.ENABLE = true)
    (hr : s.bnd.active.acu.find? (fun e => ruleMatches e.2 blk vh bi d) = some (i, r)) (k : TlpKind) :
    s.forbids blk vh bi d k = none ↔ (readClass k = true → ef r 17 1 = 1) ∧ (writeClass k = true → ef r 18 1 = 1) := by
  simp [State.forbids, he, hr, ← ef_bit_ne_zero]

/-! ## The capture of the traffic ACU (R267, R268) -/

/-- Clearing the capture writes two registers only. -/
theorem rd_clearCapture_other {r : RegDesc} {j : Nat} (hinfo : r.addr j ≠ R.ACU_FV_INFO.addr 0)
    (hstatus : r.addr j ≠ R.ACU_STATUS.addr 0) : s.clearCapture.rd r j = s.rd r j := by
  rw [State.clearCapture, rd_setFld_other hstatus, rd_setFld_other hinfo]

/-! ## The token of the debug port (R272, R273, R276, R387) -/

/-- While a verification runs, words of DBG_TOKEN are ignored. -/
theorem tokenWrite_verifying (h : s.verifying = true) (w : Nat) (l : List Nat) : s.tokenWrite w l = s := if_pos h

/-- One word that is not zero, while no verification runs, is kept. -/
theorem tokenWrite_word {v : BitVec 32} (h : s.verifying = false) (hv : v ≠ 0) (w : Nat) :
    s.tokenWrite w [v.toNat] = s.onSec (fun y => { y with token := put w v y.token }) := by
  have hne : v.toNat ≠ 0 := fun h0 => hv (BitVec.eq_of_toNat_eq h0)
  simp [State.tokenWrite, h, hne, -Nat.reducePow]

/-- While a verification runs, CLR_TOKEN is ignored. -/
theorem clearToken_verifying (h : s.verifying = true) : s.clearToken = s := if_pos h

/-- While no verification runs, CLR_TOKEN zeroes every word. -/
theorem clearToken_idle (h : s.verifying = false) : s.clearToken = s.onSec (fun y => { y with token := [] }) :=
  if_neg (Bool.eq_false_iff.mp h)

/-- While a verification runs, VERIFY is ignored. -/
theorem verify_verifying (h : s.verifying = true) : s.verify = s := if_pos h

/-- While no verification runs, VERIFY starts one. -/
theorem verify_idle (h : s.verifying = false) : s.verify = s.setFld F.DBG_STATUS.VERIFYING 0 1 := if_neg (Bool.eq_false_iff.mp h)

/-- RELOCK during a verification abandons it. -/
theorem relock_verifying (ht : t = s.setFld F.DBG_STATUS.UNLOCKED 0 0) (h : t.verifying = true) (hs : s.verifying = true) :
    s.relock = (t.verifyEnds 7).raise F.DBG_EVT.RELOCKED := by
  subst ht
  simp only [State.relock, hs, h, Bool.true_or, State.whenb_true]

/-- RELOCK of an unlock in force, with no verification under way, ends it. -/
theorem relock_unlocked (ht : t = s.setFld F.DBG_STATUS.UNLOCKED 0 0) (h : t.verifying = false)
    (hs : s.flag F.DBG_STATUS.UNLOCKED = true) : s.relock = t.raise F.DBG_EVT.RELOCKED := by
  subst ht
  simp only [State.relock, hs, h, Bool.or_true, State.whenb_true, State.whenb_false]

/-- A verification that passes unlocks; an unlock already in force is not counted again. -/
theorem tokenVerified_pass (h : s.verifying = true) (hr : s.tokenResult s.tokenBytes = 1)
    (ht : t = if s.flag F.DBG_STATUS.UNLOCKED = true then s else s.onSec (fun y => { y with unlocks := y.unlocks + 1 })) :
    s.tokenVerified = ((t.setFld F.DBG_STATUS.UNLOCKED 0 1).raise F.DBG_EVT.UNLOCKED).verifyEnds 1 := by
  subst ht
  cases hu : s.flag F.DBG_STATUS.UNLOCKED <;> simp [State.tokenVerified, h, hr, hu]

/-- A verification that fails is reported and counted, and ends with its result. -/
theorem tokenVerified_fail {r : Nat} (h : s.verifying = true) (hr : s.tokenResult s.tokenBytes = r) (hne : r ≠ 1) :
    s.tokenVerified = ((s.raise F.DBG_EVT.TOKEN_REJECTED).bump R.SEC_TOKEN_FAIL_CNT).verifyEnds r := by
  simp only [State.tokenVerified, h, hr, hne, Bool.not_true, Bool.false_eq_true, if_false]

/-! ## Accesses of the debug port (R271) -/

section
variable {addr a : Nat} (hm : s.mode ≠ .reset) (ha : a = addr / 4 * 4) (hb : barSize ≤ a)
include hm ha hb

/-- An access above BAR0 to a locked word is a hit of the lock. -/
theorem debugAccess_locked {reg : Nat} (hl : (debugRegion a).filter s.debugLocked = some reg) (write : Bool) (v : Nat) :
    s.debugAccess addr write v = s.lockHit a reg write := by
  subst ha
  simp [State.debugAccess, hm, Nat.not_lt.mpr hb, hl]

variable (hl : (debugRegion a).filter s.debugLocked = none) (hin : inSram a = true)
include hl hin

/-- A write of a word of Malacel's memories that is not locked is kept. -/
theorem debugAccess_write (v : BitVec 32) : s.debugAccess addr true v.toNat =
    (s.onSec (fun y => { y with sram := put a v y.sram })).setFld F.DBG_STATUS.LAST_LOCKED 0 0 := by
  subst ha
  simp [State.debugAccess, hm, Nat.not_lt.mpr hb, hl, hin]

/-- A read of a word of Malacel's memories that is not locked returns what was last written there. -/
theorem debugAccess_read (v : Nat) : s.debugAccess addr false v =
    (s.emit (.data ((look a s.sec.sram).getD (Config.sramWord a)).toNat)).setFld F.DBG_STATUS.LAST_LOCKED 0 0 := by
  subst ha
  simp [State.debugAccess, hm, Nat.not_lt.mpr hb, hl, hin]

end

end Sys2Proof.Laws
end

section
/-! The statements about access checks: the count of violations, the classes of requests, and the debug access port. -/

namespace Sys2Proof.Proofs

open Machine Laws

/-! ## Violations and classes -/

theorem violationCount : Claims.violationCount := by
  intro s t d p bi abi rule addr len
  refine ⟨?_, fun hs => ?_, s.clearCapture, rfl, rd_clearCapture_other (by decide) (by decide),
    rd_clearCapture_other (by decide) (by decide)⟩
  · rintro rfl
    rfl
  · obtain ⟨hcount, hfull, -⟩ := counterSaturates s R.ACU_VIOL_CNT 0 1 _ _ hs rfl (by decide)
    exact ⟨hcount, fun h => hfull h Nat.one_ne_zero⟩

/-- Settles O12: each violation is one count of a counter that saturates, and clearing the capture writes two other registers. -/
theorem violationsCounted : Obligations.ViolationsCounted := violationCount

/-- Settles O13: a block is allowed where every class of the request is, and only an AtomicOp is of both classes. -/
theorem accessClasses : Obligations.AccessClasses := by
  intro s k blk vh bi d
  refine ⟨readClass_iff k, writeClass_iff k, fun he i r hr => ⟨?_, fun hne hread => ?_, fun hne hwrite => ?_⟩⟩
  · simp [forbids_none_iff he hr, readClass, writeClass]
  · have hno : writeClass k ≠ true := fun h => hne (atomicOp_of_both_classes hread h)
    simp [forbids_none_iff he hr, hread, hno]
  · have hno : readClass k ≠ true := fun h => hne (atomicOp_of_both_classes h hwrite)
    simp [forbids_none_iff he hr, hwrite, hno]

/-! ## The debug access port -/

theorem dbgFvValidClear : Claims.dbgFvValidClear := fun _ => rfl

theorem dbgTokenWrite : Claims.dbgTokenWrite := fun _ w _ h hv => congrArg Host.Outcome.next (tokenWrite_word h hv w)

theorem dbgClrToken : Claims.dbgClrToken := fun _ h => congrArg Host.Outcome.next (clearToken_idle h)

theorem dbgWhileVerifying : Claims.dbgWhileVerifying := fun _ w v h =>
  ⟨congrArg Host.Outcome.next (tokenWrite_verifying h w [v.toNat]), congrArg Host.Outcome.next (clearToken_verifying h),
    congrArg Host.Outcome.next (verify_verifying h)⟩

theorem dbgVerify : Claims.dbgVerify := fun _ h => congrArg Host.Outcome.next (verify_idle h)

theorem dbgRelock : Claims.dbgRelock := fun _ _ ht =>
  ⟨fun h hs => congrArg Host.Outcome.next (relock_verifying ht h hs), fun h hs => congrArg Host.Outcome.next (relock_unlocked ht h hs)⟩

theorem tokenVerifyDone : Claims.tokenVerifyDone := by
  intro s t r h hr ht
  by_cases hpass : r = 1
  · subst hpass
    exact congrArg Host.Outcome.next (tokenVerified_pass h hr.symm ht)
  · rw [if_neg hpass]
    exact congrArg Host.Outcome.next (tokenVerified_fail h hr.symm hpass)

theorem debugAccess : Claims.debugAccess := by
  rintro s t addr v hm hb hl hin rfl
  exact ⟨congrArg Host.Outcome.next (debugAccess_write hm rfl hb hl hin v),
    congrArg Host.Outcome.next (debugAccess_read hm rfl hb hl hin v.toNat)⟩

theorem debugLocked : Claims.debugLocked := fun _ _ write v _ hm hb hl =>
  congrArg Host.Outcome.next (debugAccess_locked hm rfl hb hl write v.toNat)

/-- Settles O31: a verification that runs turns away the token's commands and otherwise each does its one thing; an access is served or
dropped by whether its word is locked. -/
theorem debugPort : Obligations.DebugPort :=
  ⟨dbgFvValidClear, dbgTokenWrite, dbgClrToken, dbgWhileVerifying, dbgVerify, dbgRelock, tokenVerifyDone, debugAccess, debugLocked⟩

end Sys2Proof.Proofs
end

section
/-! SUPPORT. The service engine's opcodes of Corber (group 0x0B): what each comes to for an object and fields in their ranges, by who holds
the queue, the vector or the context it moves (R283, R284, R287, R288). -/

namespace Sys2Proof.Laws

open Machine

variable {s : State} {q : CrbReq}

/-! ## Who holds a resource (R284) -/

section
variable {assigned fn : Fld} {i : Nat}

theorem ownerOf_unassigned (h : s.flag assigned i = false) : s.ownerOf assigned fn i = none := if_neg (Bool.eq_false_iff.mp h)

theorem ownerOf_assigned (h : s.flag assigned i = true) : s.ownerOf assigned fn i = some (s.fld fn i) := if_pos h

end

/-- A queue that no function holds may move. -/
theorem queueFixed_unassigned {i : Nat} (h : s.flag F.SVC_QMAP.ASSIGNED i = false) : s.queueFixed i = false := by
  rw [State.queueFixed, h, Bool.false_and]

/-- A vector that no function holds may move. -/
theorem vectorFixed_unassigned {i : Nat} (h : s.flag F.SVC_VMAP.ASSIGNED i = false) : s.vectorFixed i = false := by
  rw [State.vectorFixed, h, Bool.false_and]

/-! ## Queues and vectors that move (R284) -/

section
variable {i f l : Nat} {old : Option Nat}

/-- A queue that may move goes to a function with room, under a free local index, from the function that held it, if one did. -/
theorem queueAssign_moves (fnOff : Nat) (hold : s.ownerOf F.SVC_QMAP.ASSIGNED F.SVC_QMAP.FN i = old) (hne : old ≠ some f)
    (hfree : s.hasQueue f l = false) (hroom : s.heldOf R.SVC_QMAP f < 256) (hfix : s.queueFixed i = false) :
    s.queueAssign i f l fnOff = ok ((((old.elim s (fun g => s.freshQueue g (s.fld F.SVC_QMAP.LOCAL i))).remap R.SVC_QMAP i f l).freshQueue
      f l).resChange [old, some f]) := by
  simp only [State.queueAssign, hold, hne, hfree, hfix, Nat.not_le.mpr hroom, decide_false, Bool.false_and, Bool.and_false,
    Bool.false_eq_true, if_false]

/-- A vector that may move goes to a function with room, under a free local index, from the function that held it, if one did. -/
theorem vectorAssign_moves (fnOff : Nat) (hold : s.ownerOf F.SVC_VMAP.ASSIGNED F.SVC_VMAP.FN i = old) (hne : old ≠ some f)
    (hfree : s.mapAt R.SVC_VMAP f l = none) (hroom : s.heldOf R.SVC_VMAP f < 256) (hfix : s.vectorFixed i = false) :
    s.vectorAssign i f l fnOff = ok ((((old.elim s (fun g => s.freshVector g (s.fld F.SVC_VMAP.LOCAL i))).remap R.SVC_VMAP i f
      l).freshVector f l).resChange [old, some f]) := by
  simp only [State.vectorAssign, hold, hne, hfree, hfix, Nat.not_le.mpr hroom, Option.isSome_none, decide_false, Bool.false_and,
    Bool.and_false, Bool.false_eq_true, if_false]

end

section
variable {i : Nat}

/-- A queue that is held and may move is taken from its function. -/
theorem queueRelease_held (ha : s.flag F.SVC_QMAP.ASSIGNED i = true) (hfix : s.queueFixed i = false) :
    s.queueRelease i = ok (((s.freshQueue (s.fld F.SVC_QMAP.FN i) (s.fld F.SVC_QMAP.LOCAL i)).unmap R.SVC_QMAP i).resChange
      [some (s.fld F.SVC_QMAP.FN i)]) := by
  simp only [State.queueRelease, ha, hfix, Bool.not_true, Bool.false_eq_true, if_false]

/-- A vector that is held and may move is taken from its function. -/
theorem vectorRelease_held (ha : s.flag F.SVC_VMAP.ASSIGNED i = true) (hfix : s.vectorFixed i = false) :
    s.vectorRelease i = ok (((s.freshVector (s.fld F.SVC_VMAP.FN i) (s.fld F.SVC_VMAP.LOCAL i)).unmap R.SVC_VMAP i).resChange
      [some (s.fld F.SVC_VMAP.FN i)]) := by
  simp only [State.vectorRelease, ha, hfix, Bool.not_true, Bool.false_eq_true, if_false]

end

/-! ## Trace contexts that move (R287, R288) -/

section
variable {c : Nat} (h0 : s.trcState c = 0)
include h0

/-- A context that is OFF goes, with its range, to a slot that no other context holds. -/
theorem traceAssign_off {f t : Nat} (base lines : Nat) (hslot : s.slotHolder f t c = none) :
    s.traceAssign c f t base lines = ok (((((s.wr R.SVC_TRC_CFG c (BitVec.ofNat 32 (f + 2 ^ 11 * t + 2 ^ 14))).wr R.SVC_TRC_RANGE_LO c
      (BitVec.ofNat 32 base)).wr R.SVC_TRC_RANGE_HI c (BitVec.ofNat 32 (base / 2 ^ 32))).wr R.SVC_TRC_LINES c
      (BitVec.ofNat 32 lines)).resChange [s.ownerOf F.SVC_TRC_CFG.ASSIGNED F.SVC_TRC_CFG.OWNER c, some f]) := by
  simp only [State.traceAssign, h0, hslot, ne_eq, not_true_eq_false, Option.isSome_none, Bool.false_eq_true, if_false]

/-- A context that is OFF is taken from the function that held it. -/
theorem traceRelease_off : s.traceRelease c = ok ((s.wr R.SVC_TRC_CFG c 0).resChange
    [s.ownerOf F.SVC_TRC_CFG.ASSIGNED F.SVC_TRC_CFG.OWNER c]) := if_neg (not_not_intro h0)

end

/-! ## The fields of the requests -/

theorem opQueueAssign_run (ho : q.object < 16384) (hf : q.num 0 2 < 2048) :
    opQueueAssign.run q s = s.queueAssign q.object (q.num 0 2) (q.num 2 1) (at16 0) := by
  have hfit : q.fits 0 2 11 = true := decide_eq_true hf
  simp only [opQueueAssign, obj_of_lt ho]
  exact fields_pass (by simp [hfit])

theorem opVectorAssign_run (ho : q.object < 16384) (hf : q.num 0 2 < 2048) :
    opVectorAssign.run q s = s.vectorAssign q.object (q.num 0 2) (q.num 2 1) (at16 0) := by
  have hfit : q.fits 0 2 11 = true := decide_eq_true hf
  simp only [opVectorAssign, obj_of_lt ho]
  exact fields_pass (by simp [hfit])

theorem opTraceAssign_run (ho : q.object < 512) (hf : q.num 0 2 < 2048) (ht : q.num 2 1 < 8) (hbase : q.num 3 8 % 0x200000 = 0)
    (hlines : 1 ≤ q.num 11 3) :
    opTraceAssign.run q s = s.traceAssign q.object (q.num 0 2) (q.num 2 1) (q.num 3 8) (q.num 11 3) := by
  have hfn : q.fits 0 2 11 = true := decide_eq_true hf
  have hslot : q.fits 2 1 3 = true := decide_eq_true ht
  simp only [opTraceAssign, obj_of_lt ho]
  exact fields_pass (by simp [hfn, hslot, hbase, hlines])

end Sys2Proof.Laws
end

section
/-! The statement about the service engine's opcodes of group 0x0B. -/

namespace Sys2Proof.Proofs

open Machine Laws

/-! ## Queues -/

theorem queueAssign : Claims.queueAssign := by
  rintro s u q f l rfl rfl rfl h ho hf ha hfree hroom
  have hmoves := queueAssign_moves (at16 0) (ownerOf_unassigned ha) nofun hfree hroom (queueFixed_unassigned ha)
  exact exec_ok rfl rfl h ((opQueueAssign_run ho hf).trans hmoves)

theorem queueMove : Claims.queueMove := by
  rintro s u q f l g rfl rfl rfl h ho hf ha rfl hne hfree hroom hfix
  have hmoves := queueAssign_moves (at16 0) (ownerOf_assigned ha) (mt Option.some.inj hne) hfree hroom hfix
  exact exec_ok rfl rfl h ((opQueueAssign_run ho hf).trans hmoves)

theorem queueRelease : Claims.queueRelease := by
  rintro s u q f rfl rfl h ho ha hfix
  exact exec_ok rfl rfl h ((obj_of_lt ho).trans (queueRelease_held ha hfix))

/-! ## Vectors -/

theorem vectorAssign : Claims.vectorAssign := by
  rintro s u q f l rfl rfl rfl h ho hf ha hfree hroom
  have hmoves := vectorAssign_moves (at16 0) (ownerOf_unassigned ha) nofun hfree hroom (vectorFixed_unassigned ha)
  exact exec_ok rfl rfl h ((opVectorAssign_run ho hf).trans hmoves)

theorem vectorRelease : Claims.vectorRelease := by
  rintro s u q f rfl rfl h ho ha hfix
  exact exec_ok rfl rfl h ((obj_of_lt ho).trans (vectorRelease_held ha hfix))

/-! ## Trace contexts -/

theorem traceAssign : Claims.traceAssign := by
  rintro s u q f t rfl rfl rfl h ho hf ht hbase hlines h0 hslot
  exact exec_ok rfl rfl h ((opTraceAssign_run ho hf ht hbase hlines).trans (traceAssign_off h0 _ _ hslot))

theorem traceRelease : Claims.traceRelease := by
  rintro s u q rfl h ho h0
  exact exec_ok rfl rfl h ((obj_of_lt ho).trans (traceRelease_off h0))

/-! ## Shares and the data mover -/

theorem setShare : Claims.setShare := by
  intro s q h ho hlo hhi hrate
  have hfit : q.fits 0 2 10 = true := decide_eq_true hhi
  refine exec_ok rfl rfl h ?_
  simp only [opSetShare, obj_of_lt ho]
  exact fields_pass (by simp [hlo, hfit, hrate])

theorem setDm : Claims.setDm := fun _ _ h hs => exec_ok rfl rfl h (set_plain hs)

theorem getDm : Claims.getDm := fun _ _ h ho => exec_ok rfl rfl h (by simp only [opGetDm, obj_of_lt ho, State.showRegs])

/-- Settles O28: each request names what stands and its fields are in their ranges; so a queue, a vector or a context that may move does,
and the other opcodes answer OK with what they set or show. -/
theorem serviceOpcodes : Obligations.ServiceOpcodes :=
  ⟨queueAssign, queueMove, queueRelease, vectorAssign, vectorRelease, setShare, traceAssign, traceRelease, setDm, getDm⟩

end Sys2Proof.Proofs
end

section
/-! SUPPORT. Queues and descriptors of the data mover: what each of its commands comes to, by the state of its queue (R281, R282, R292). -/

namespace Sys2Proof.Laws

open Machine

variable {s t : State}

/-! ## Queues (R281, R292) -/

section
variable {f q i : Nat} (hq : s.hasQueue f q = true) (hi : 256 * f + q = i)
include hq hi

/-- A queue that is held, with rings of allowed sizes and no vector to name, is ACTIVE once its function runs. -/
theorem queueEnable_runs {bi : Nat} (hd : 6 ≤ s.fld F.Q_CFG.DESC_LOG2 i) (hd' : s.fld F.Q_CFG.DESC_LOG2 i ≤ 16)
    (hc : 6 ≤ s.fld F.Q_CFG.CPL_LOG2 i) (hc' : s.fld F.Q_CFG.CPL_LOG2 i ≤ 16) (hint : s.flag F.Q_CFG.INT_EN i = false)
    (hruns : s.fnRuns f = some bi) :
    s.queueEnable f q = ((s.setFld F.Q_CTRL.ENABLE i 1).setFld F.Q_STATUS.STATE i 1).showMover := by
  subst hi
  simp [State.queueEnable, hq, hd, hd', hc, hc', hint, hruns]

/-- A DISABLED queue with a descriptor ring too small stays so, with ERR_CODE 07H. -/
theorem queueEnable_smallRing (hd : s.fld F.Q_CFG.DESC_LOG2 i < 6) (h0 : s.qState i = 0) :
    s.queueEnable f q = (s.setFld F.Q_CTRL.ENABLE i 1).setFld F.Q_STATUS.ERR_CODE i 0x07 := by
  subst hi
  simp [State.queueEnable, hq, Nat.not_le.mpr hd, h0]

/-- A queue that is held and not DISABLED stops. -/
theorem queueDisable_enabled (ht : t = s.setFld F.Q_CTRL.ENABLE i 0) (h : t.qState i ≠ 0) :
    s.queueDisable f q = ((t.setFld F.Q_STATUS.STATE i 2).stopQueue i).showQueue i := by
  subst hi ht
  simp only [State.queueDisable, hq, h, Bool.not_true, Bool.false_eq_true, if_false]

end

/-- The vector of a queue that may interrupt is signalled for its entries. -/
theorem signalQueue_enabled {i : Nat}
    (ht : t = (s.onSvc (fun y => { y with unsignalled := drop i y.unsignalled })).disarm .coalesce i)
    (hint : t.flag F.Q_CFG.INT_EN i = true) : s.signalQueue i = t.signal (i / 256) (t.fld F.Q_CFG.VECTOR i) := by
  subst ht
  simp only [State.signalQueue, hint, State.whenb_true]

/-! ## Fetching (R278, R281) -/

/-- A queue that is not ACTIVE fetches nothing. -/
theorem descFetch_notActive {f q : Nat} (h : s.qState (256 * f + q) ≠ 1) (most code : Nat) : s.descFetch f q most code = s := by
  cases hruns : s.fnRuns f with
  | none => simp only [State.descFetch, hruns]
  | some bi => simp [State.descFetch, hruns, h]

/-- An ACTIVE queue reads its batch, where the mover has no read of its own in progress. -/
theorem descFetch_batch {f q i n h k most code bi base : Nat} {size : Nat → Nat} (hi : i = 256 * f + q)
    (hn : n = 2 ^ s.fld F.Q_CFG.DESC_LOG2 i) (hh : h = s.fld F.Q_DESC_HEAD.HEAD i % n) (hruns : s.fnRuns f = some bi)
    (hcar : s.carries = true) (hact : s.qState i = 1) (hown : s.svc.own = [])
    (hk : k = min (min most ((s.fld F.Q_DESC_TAIL.TAIL i + n - h) % n))
      (min (s.cplFree i - (s.descsOf i).length) (65536 - s.svc.descs.length))) (hk1 : 1 ≤ k)
    (hbase : base = s.pair R.Q_DESC_BASE_LO R.Q_DESC_BASE_HI i / 64 * 64)
    (hsize : size = (fun a => min (s.dmSize bi (min code (s.fld F.SVC_CFG.MRRS)) a) (toBound a))) :
    s.descFetch f q most code = (s.ownRead bi (.fetch f q h k) base
      (cuts size (32 * min k (n - h)) (32 * h) (base + 32 * h) (32 * min k (n - h)) ++
        cuts size (32 * (k - min k (n - h))) 0 base (32 * (k - min k (n - h)))) 0xFF (s.qPasid i)).dmRun := by
  subst hi hn hh hbase hsize
  have hk0 : k ≠ 0 := Nat.one_le_iff_ne_zero.mp hk1
  simp only [State.descFetch, State.ownReading, hruns, hown, hcar, hact, List.map_nil, List.foldl_nil, List.any_nil, Nat.sub_zero,
    ← hk, hk0, Bool.not_true, ne_eq, not_true_eq_false, decide_false, Bool.or_self, Bool.false_eq_true, if_false]

section
variable {f q i n h bi : Nat} {c : DmChunk} (hi : i = 256 * f + q) (hn : n = 2 ^ s.fld F.Q_CFG.DESC_LOG2 i) (hruns : s.fnRuns f = some bi)
  (hact : s.qState i = 1) (hlt : h < n)
include hi hn hruns hact hlt

/-- The one descriptor of a batch whose read has brought it is in flight, and the head moves past it. -/
theorem fetched_one {b : List Byte} {d : DmDesc} (hb : c.bytesAt (32 * h) 32 = some b)
    (hd : d = { fn := f, q := q, slot := h, name := s.svc.nextName, words := BitVec.ofNat 256 (bodyNat b 0 32) }) :
    s.fetched f q h 1 c = ((((s.onSvc (fun y => { y with
      descs := y.descs ++ [if d.bad then { d with status := some 0x07 } else d], nextName := y.nextName + 1 })).setFld
        F.Q_DESC_HEAD.HEAD i ((h + 1) % n)).stopQueue i).showQueue i) := by
  subst hi hn hd
  simp [State.fetched, hruns, hact, Nat.mod_eq_of_lt hlt, hb]

/-- The one descriptor of a batch whose read failed is FETCH_FAILED and counted, and its entry is written. -/
theorem fetched_failed (hb : c.bytesAt (32 * h) 32 = none) (ht : t = ((s.onSvc (fun y => { y with
      descs := y.descs ++ [{ fn := f, q := q, slot := h, name := s.svc.nextName, words := 0, status := some 0x0A, closed := true }]
      nextName := y.nextName + 1 })).setFld F.Q_DESC_HEAD.HEAD i h).bump R.SVC_FETCH_FAIL_CNT) :
    s.fetched f q h 1 c = (((State.writeEntries (1 + s.svc.descs.length) t.queueErrors bi i).stopQueue i).showQueue i) := by
  subst hi hn ht
  simp [State.fetched, hruns, hact, Nat.mod_eq_of_lt hlt, hb]

end

/-! ## The end of descriptors (R282) -/

/-- An ended descriptor without FLUSH whose writes have left closes at once. -/
theorem closeDesc_ended {bi : Nat} {d : DmDesc} (hopen : d.closed = false) (hend : s.descEnded d = true) (hleft : s.writesLeft d = true)
    (hflush : d.flush = false) : s.closeDesc bi d = s.onDesc d.name (fun d => { d with closed := true }) := by
  simp only [State.closeDesc, hopen, hend, hleft, hflush, Bool.not_true, Bool.or_self, Bool.false_and, Bool.false_eq_true, if_false]

/-- Once the mover has gone on, the named descriptor closes as far as it may, its flush read and its end in turn, and the queue's entries
are written. -/
theorem descDone_found {f q slot bi : Nat} {d e : DmDesc} {u : State} (ht : t = s.dmRun) (hruns : t.fnRuns f = some bi)
    (hd : (t.descsOf (256 * f + q)).find? (fun (d : DmDesc) => d.slot == slot) = some d) (hcar : t.carries = true)
    (he : (t.closeDesc bi d).svc.descs.find? (fun (x : DmDesc) => x.name == d.name) = some e)
    (hu : u = (t.closeDesc bi d).closeDesc bi e) :
    s.descDone f q slot = (((State.writeEntries (u.svc.descs.length) u.queueErrors bi (256 * f + q)).stopQueue (256 * f + q)).showQueue
      (256 * f + q)).dmRun := by
  subst ht hu
  simp only [State.descDone, hruns, hd, hcar, he, Bool.not_true, Bool.false_eq_true, if_false]

end Sys2Proof.Laws
end

section
/-! The statement about the data mover's queues and descriptors. -/

namespace Sys2Proof.Proofs

open Machine Laws

/-! ## Queues -/

theorem qDescTailWrite : Claims.qDescTailWrite := fun _ _ _ _ =>
  ⟨fun h => congrArg Host.Outcome.next (if_pos h), fun h => congrArg Host.Outcome.next (if_neg (Bool.eq_false_iff.mp h))⟩

theorem qCplHeadWrite : Claims.qCplHeadWrite := fun _ _ _ _ =>
  ⟨fun h => congrArg Host.Outcome.next (if_pos h), fun h => congrArg Host.Outcome.next (if_neg (Bool.eq_false_iff.mp h))⟩

theorem qEnable : Claims.qEnable := fun _ _ _ _ hq hd hd' hc hc' hint hruns =>
  congrArg Host.Outcome.next (queueEnable_runs hq rfl hd hd' hc hc' hint hruns)

theorem qEnableBad : Claims.qEnableBad := fun _ _ _ hq hd h0 => congrArg Host.Outcome.next (queueEnable_smallRing hq rfl hd h0)

theorem qDisable : Claims.qDisable := fun _ _ _ _ hq ht h => congrArg Host.Outcome.next (queueDisable_enabled hq rfl ht h)

/-! ## Fetching -/

theorem descFetch : Claims.descFetch := fun _ _ _ _ _ _ _ _ _ _ _ _ hi hn hh hruns hcar hact hown hk hk1 hbase hsize =>
  congrArg Host.Outcome.next (descFetch_batch hi hn hh hruns hcar hact hown hk hk1 hbase hsize)

theorem descFetchIdle : Claims.descFetchIdle := fun _ _ _ _ _ h => congrArg Host.Outcome.next (descFetch_notActive h _ _)

theorem descFetched : Claims.descFetched := fun _ _ _ _ _ _ _ _ _ _ hi hn hruns hact hlt =>
  ⟨fun _ hb hd => fetched_one hi hn hruns hact hlt hb hd, fun hb ht => fetched_failed hi hn hruns hact hlt hb ht⟩

/-! ## The end of descriptors -/

theorem descExecDone : Claims.descExecDone := fun _ _ _ _ _ _ _ _ _ ht hruns hd hcar he hu =>
  congrArg Host.Outcome.next (descDone_found ht hruns hd hcar he hu)

theorem descCloses : Claims.descCloses := fun _ _ _ hopen hend hleft hflush => closeDesc_ended hopen hend hleft hflush

theorem msixCoalesceTimeout : Claims.msixCoalesceTimeout := fun _ _ _ _ hdue ht hint =>
  congrArg Host.Outcome.next ((if_pos hdue).trans (signalQueue_enabled ht hint))

/-- Settles O50: a queue that is held takes its writes, starts with rings that fit and stops; an ACTIVE one fetches the batch there is room
for, and a descriptor that has ended closes, with its entry and its signal. -/
theorem dataMover : Obligations.DataMover :=
  ⟨qDescTailWrite, qCplHeadWrite, qEnable, qEnableBad, qDisable, descFetch, descFetchIdle, descExecDone, descCloses, msixCoalesceTimeout,
    descFetched⟩

end Sys2Proof.Proofs
end

section
/-! SUPPORT. Trace contexts: what enabling, disabling and swapping one, and writing back a line of it, come to by its state (R287,
R289 to R292). -/

namespace Sys2Proof.Laws

open Machine

variable {s t : State} {c : Nat}

/-! ## Slots (R291, R292) -/

section
variable {f k : Nat}

/-- A slot without a context ignores what starts tracing. -/
theorem traceEnable_noContext (h : s.ctxOf f k = none) : s.traceEnable f k = s := by
  simp only [State.traceEnable, h]

variable (hc : s.ctxOf f k = some c)
include hc

/-- A context that is OFF traces from ACTIVE_BUF 0 and EPOCH 0 once it is enabled. -/
theorem traceEnable_off (h0 : s.trcState c = 0) :
    s.traceEnable f k = (s.setFld F.TS_CTRL.ENABLE (8 * f + k) 1).wr R.SVC_TRC_STATUS c 1 := by
  simp [State.traceEnable, hc, h0]

/-- A context that traces stops once it is disabled. -/
theorem traceDisable_tracing (ht : t = s.setFld F.TS_CTRL.ENABLE (8 * f + k) 0) (h1 : s.trcState c = 1) :
    s.traceDisable f k = (t.onSvc (fun y => { y with
      stopping := if y.stopping.contains c then y.stopping else c :: y.stopping })).traceStop c := by
  subst ht
  simp [State.traceDisable, hc, h1]

/-- A context in FAULT is OFF once it is disabled. -/
theorem traceDisable_fault (ht : t = s.setFld F.TS_CTRL.ENABLE (8 * f + k) 0) (h3 : s.trcState c = 3) :
    s.traceDisable f k = t.setFld F.SVC_TRC_STATUS.STATE c 0 := by
  subst ht
  simp only [State.traceDisable, hc, h3, if_true]

/-- A context that traces starts its swap. -/
theorem traceSwap_tracing (h1 : s.trcState c = 1) : s.traceSwap f k =
    (s.onSvc (fun y => { y with swaps := put c s.churn.nextId y.swaps })).setFld F.SVC_TRC_STATUS.STATE c 2 := by
  simp only [State.traceSwap, hc, h1, if_true]

/-- A context in a swap starts no other. -/
theorem traceSwap_swapping (h2 : s.trcState c = 2) : s.traceSwap f k = s := by
  simp [State.traceSwap, hc, h2]

end

/-! ## Lines written back (R287, R289) -/

section
variable {b n : Nat} {l : TraceLine} (hl : s.dueLine c b n = some l)
include hl

/-- A line that is due is read through the function that owns its context, if that runs. -/
theorem lineBack_runs {bi : Nat} (hr : s.ownReading (· == .line c b n) = false)
    (hruns : s.fnRuns (s.fld F.SVC_TRC_CFG.OWNER c) = some bi) :
    s.lineBack c b n = (s.ownRead bi (.line c b n) (s.bufBase c b + 64 * n) [(0, 64)] 0xFF none).dmRun := by
  simp only [State.lineBack, hl, hr, hruns, Option.isNone_some, Bool.or_self, Bool.false_eq_true, if_false]

/-- A line that is due, of a context whose function does not run, faults its context. -/
theorem lineBack_stopped (hr : s.ownReading (· == .line c b n) = false) (hruns : s.fnRuns (s.fld F.SVC_TRC_CFG.OWNER c) = none) :
    s.lineBack c b n = (s.trcFault c).resumeWaits := by
  simp only [State.lineBack, hl, hr, hruns, Option.isNone_some, Bool.or_self, Bool.false_eq_true, if_false]

variable (hrest : (s.svc.lines.filter (fun (x : TraceLine) => x != l)).any (fun (x : TraceLine) => x.isFor c b n) = false)
  (ht : t = (s.onSvc (fun y => { y with lines := s.svc.lines.filter (fun (x : TraceLine) => x != l) })).disarm .traceAge
    (lineKey c b n))
include hrest ht

/-- A line whose read failed is gone, and its context faults. -/
theorem lineRead_failed : s.lineRead c b n none = ((t.trcFault c).traceStop c).resumeWaits := by
  simp only [State.lineRead, hl, hrest, ← ht, Bool.not_false, State.whenb_true]

/-- A line whose read has come is written back through the function that owns its context, whole. -/
theorem lineRead_written {bi : Nat} {old : BitVec 512} {q : Tlp} {u : State}
    (hruns : s.fnRuns (s.fld F.SVC_TRC_CFG.OWNER c) = some bi) (hend : t.isDeviceEnd (t.bind bi) = false)
    (hmaster : t.masterOff bi = false)
    (hq : q = { kind := .mwr, addr := s.bufBase c b + 64 * n, len := 64, data := leBytes 64 (old ||| l.bits).toNat })
    (hu : u = t.issue { t.upPlan bi 145 0 q true (t.upPolicer (t.bind bi)) t.ownFeid with bitmap := true } q q.addr (2 ^ 64))
    (hwhole : 64 ≤ wroteBytes t u) : s.lineRead c b n (some old) = (u.traceStop c).resumeWaits := by
  subst hq hu
  simp only [State.lineRead, hl, hrest, ← ht, hruns, hend, hmaster, Bool.not_false, State.whenb_true, Bool.false_eq_true, if_false]
  exact congrArg (fun w => (State.traceStop w c).resumeWaits) (if_neg (Nat.not_lt.mpr hwhole))

end

/-- A line that is not due, or that is being read, stays as it is. -/
theorem lineBack_kept {b n : Nat} (h : s.dueLine c b n = none ∨ s.ownReading (· == .line c b n) = true) : s.lineBack c b n = s :=
  if_pos (by simpa using h)

/-! ## The end of a swap (R290, R291) -/

/-- A swap whose flush read has ended makes the other buffer active, counts its epoch and traces on. -/
theorem swapDone_read {u : State} (h : look c s.svc.swapRead = some true)
    (ht : t = (s.onSvc (fun y => { y with swapRead := drop c y.swapRead, swaps := drop c y.swaps })).setFld
      F.SVC_TRC_STATUS.ACTIVE_BUF c (1 - s.fld F.SVC_TRC_STATUS.ACTIVE_BUF c))
    (hu : u = ((((t.setFld F.SVC_TRC_STATUS.EPOCH c (t.fld F.SVC_TRC_STATUS.EPOCH c + 1)).setFld F.SVC_TRC_STATUS.PREV_OOR c
      (t.fld F.SVC_TRC_STATUS.OUT_OF_RANGE c)).setFld F.SVC_TRC_STATUS.OUT_OF_RANGE c 0).setFld F.SVC_TRC_STATUS.STATE c 1)) :
    s.swapDone c = (u.fnEvent (u.fld F.SVC_TRC_CFG.OWNER c) F.FN_EVT.TRC_SWAP_DONE).traceStop c := by
  subst ht hu
  simp only [State.swapDone, h, Bool.not_true, Bool.false_eq_true, if_false]

/-- A swap whose flush read failed is over, and its context faults. -/
theorem swapDone_failed (h : look c s.svc.swapRead = some false) : s.swapDone c = ((s.onSvc (fun y => { y with
    swapRead := drop c y.swapRead, swaps := drop c y.swaps })).trcFault c).resumeWaits := by
  simp only [State.swapDone, h, Bool.not_false, if_true]

/-- Without a flush read that has ended no swap is. -/
theorem swapDone_noRead (h : look c s.svc.swapRead = none) : s.swapDone c = s := by
  simp only [State.swapDone, h]

end Sys2Proof.Laws
end

section
/-! The statement about trace contexts, their swaps and write-backs. -/

namespace Sys2Proof.Proofs

open Machine Laws

/-! ## Slots -/

theorem tsEnable : Claims.tsEnable := fun _ _ _ =>
  ⟨fun _ hc h0 => congrArg Host.Outcome.next (traceEnable_off hc h0), fun h => congrArg Host.Outcome.next (traceEnable_noContext h)⟩

theorem tsDisable : Claims.tsDisable := fun _ _ _ _ _ hc ht =>
  ⟨fun h1 => congrArg Host.Outcome.next (traceDisable_tracing hc ht h1),
    fun h3 => congrArg Host.Outcome.next (traceDisable_fault hc ht h3)⟩

theorem tsSwap : Claims.tsSwap := fun _ _ _ _ hc =>
  ⟨fun h1 => congrArg Host.Outcome.next (traceSwap_tracing hc h1), fun h2 => congrArg Host.Outcome.next (traceSwap_swapping hc h2)⟩

/-! ## Lines -/

theorem traceLineWritten : Claims.traceLineWritten := fun _ _ _ _ _ _ _ _ _ _ hl hrest ht hruns hend hmaster hq hu hwhole =>
  lineRead_written hl hrest ht hruns hend hmaster hq hu hwhole

theorem traceLineFailed : Claims.traceLineFailed := fun _ _ _ _ _ hl hrest => lineRead_failed hl hrest rfl

theorem traceLineKept : Claims.traceLineKept := by
  rintro s g j c b n rfl h
  exact congrArg Host.Outcome.next (lineBack_kept h)

theorem traceLineWriteback : Claims.traceLineWriteback := by
  rintro s g j c b n l rfl hl hr
  exact ⟨fun bi hruns => congrArg Host.Outcome.next (lineBack_runs hl hr hruns),
    fun hruns => congrArg Host.Outcome.next (lineBack_stopped hl hr hruns)⟩

/-! ## Swaps -/

theorem traceSwapDone : Claims.traceSwapDone := by
  rintro s t u g j c rfl h ht hu
  exact congrArg Host.Outcome.next (swapDone_read h ht hu)

theorem traceSwapFailed : Claims.traceSwapFailed := by
  rintro s g j c rfl
  exact ⟨fun h => congrArg Host.Outcome.next (swapDone_failed h), fun h => congrArg Host.Outcome.next (swapDone_noRead h)⟩

/-- Settles O51: a slot's context starts, stops and swaps by its state, a line that is due is read and written back through the owner of
its context, and a swap ends by how its flush read did. -/
theorem tracing : Obligations.Tracing :=
  ⟨tsEnable, tsDisable, tsSwap, traceLineWritten, traceLineFailed, traceLineKept, traceSwapDone, traceLineWriteback, traceSwapFailed⟩

end Sys2Proof.Proofs
end

section
/-! SUPPORT. The bytes of Corber's packets (Tables 12.1 and 12.2, R296, R299, R300): a number over a cut of its bytes, and a packet cut into
the fragments of the whey channel. -/

namespace Sys2Proof.Laws

open Machine

/-! ## Numbers -/

/-- The bytes of a number, cut in two. -/
theorem leBytes_add (m n v : Nat) : leBytes (m + n) v = leBytes m v ++ leBytes n (v / 256 ^ m) := by
  induction m generalizing v with
  | zero => simp [leBytes]
  | succ m ih => rw [Nat.succ_add, leBytes, ih, leBytes, Nat.div_div_eq_div_mul, ← Nat.pow_succ', List.cons_append]

/-- Bytes that hold only a number of fewer bits are that number's bytes. -/
theorem leBytes_mod (n v : Nat) : leBytes n (v % 256 ^ n) = leBytes n v := by
  induction n generalizing v with
  | zero => rfl
  | succ n ih =>
    have h : v % 256 ^ (n + 1) / 256 = v / 256 % 256 ^ n := by rw [Nat.pow_succ', Nat.mod_mul_right_div_self]
    have hb : BitVec.ofNat 8 (v % 256 ^ (n + 1)) = BitVec.ofNat 8 v := by
      apply BitVec.eq_of_toNat_eq
      rw [BitVec.toNat_ofNat, BitVec.toNat_ofNat, Nat.pow_succ', Nat.mod_mul_right_mod]
    rw [leBytes, leBytes, h, ih, hb]

/-- Two numbers side by side take their bytes one after the other. -/
theorem leBytes_pair {m n a b : Nat} (h : a < 256 ^ m) : leBytes (m + n) (a + 256 ^ m * b) = leBytes m a ++ leBytes n b := by
  rw [leBytes_add, ← leBytes_mod, Nat.add_mul_mod_self_left, Nat.mod_eq_of_lt h, Nat.add_mul_div_left _ _ (Nat.pow_pos (by decide)),
    Nat.div_eq_of_lt h, Nat.zero_add]

/-- The word of a far end's FEID and of an object (Table 12.1). -/
theorem leBytes_target (feid : BitVec 12) (object : Nat) :
    leBytes 4 (feid.toNat + 2 ^ 16 * object) = leBytes 2 feid.toNat ++ leBytes 2 object :=
  leBytes_pair (m := 2) (n := 2) (Nat.lt_trans feid.isLt (by decide))

/-- A part of a body behind its head. -/
theorem drop_leBytes (n v : Nat) (b : List Byte) : (leBytes n v ++ b).drop n = b := by
  rw [List.drop_append_of_le_length (by simp), List.drop_eq_nil_of_le (by simp), List.nil_append]

/-! ## Fragments (R300) -/

/-- The fragment that carries bytes 20·k on of a packet, numbered from `i`. -/
def fragmentAt (msg i : Nat) (b : List Byte) (k : Nat) : List Byte :=
  leBytes 4 (msg + 2 ^ 8 * (i + k) + 2 ^ 16 * b2n (k + 1 == ceilDiv b.length 20) + 2 ^ 17 * ((b.drop (20 * k)).take 20).length) ++
    (b.drop (20 * k)).take 20

/-- A packet that fits in a fragment takes one. -/
theorem ceilDiv_one {n : Nat} (h0 : 1 ≤ n) (h : n ≤ 20) : ceilDiv n 20 = 1 := by unfold ceilDiv; omega

/-- A longer packet takes one fragment more than what is behind the first. -/
theorem ceilDiv_more {n : Nat} (h : 20 < n) : ceilDiv n 20 = ceilDiv (n - 20) 20 + 1 := by unfold ceilDiv; omega

/-- The fragments behind the first are those of what is behind the first. -/
theorem fragmentAt_succ {msg i : Nat} {b : List Byte} (h : 20 < b.length) :
    fragmentAt msg i b ∘ Nat.succ = fragmentAt msg (i + 1) (b.drop 20) := by
  funext k
  have hlast : (k.succ + 1 == ceilDiv b.length 20) = (k + 1 == ceilDiv (b.length - 20) 20) := by
    rw [ceilDiv_more h, Bool.eq_iff_iff, beq_iff_eq, beq_iff_eq, Nat.add_right_cancel_iff]
  simp only [Function.comp_apply, fragmentAt, hlast, List.drop_drop, List.length_drop, Nat.mul_succ, Nat.add_comm 20, Nat.add_assoc, Nat.add_comm 1]

/-- The first fragment of a packet. -/
theorem fragmentAt_zero {msg i : Nat} {b : List Byte} (h : 1 ≤ b.length) : fragmentAt msg i b 0 =
    leBytes 4 (msg + 2 ^ 8 * i + 2 ^ 16 * b2n (decide (b.length ≤ 20)) + 2 ^ 17 * (b.take 20).length) ++ b.take 20 := by
  have hlast : (0 + 1 == ceilDiv b.length 20) = decide (b.length ≤ 20) := by
    rw [Bool.eq_iff_iff, beq_iff_eq, decide_eq_true_iff]
    unfold ceilDiv
    omega
  rw [fragmentAt, hlast, Nat.mul_zero, List.drop_zero, Nat.add_zero]

/-- A packet is cut into the fragments of its bytes, in order. -/
theorem fragments_eq (msg n i : Nat) (b : List Byte) (h0 : 1 ≤ b.length) (h : b.length ≤ 20 * n) :
    fragments msg n i b = (List.range (ceilDiv b.length 20)).map (fragmentAt msg i b) := by
  induction n generalizing i b with
  | zero => omega
  | succ n ih =>
    rcases Nat.lt_or_ge 20 b.length with hl | hl
    · have hrest := ih (i + 1) (b.drop 20) (by rw [List.length_drop]; omega) (by rw [List.length_drop]; omega)
      rw [List.length_drop] at hrest
      rw [ceilDiv_more hl, List.range_succ_eq_map, List.map_cons, List.map_map, fragmentAt_zero h0, fragmentAt_succ hl, ← hrest]
      simp only [fragments, Nat.not_le.mpr hl, decide_false, if_false]
    · rw [ceilDiv_one h0 hl, List.range_one, List.map_singleton, fragmentAt_zero h0]
      simp only [fragments, hl, decide_true, if_true]

/-- The bytes of a packet, cut into parts of 20. -/
theorem flatten_parts (n : Nat) (b : List Byte) (h : b.length ≤ 20 * n) :
    ((List.range n).map (fun k => (b.drop (20 * k)).take 20)).flatten = b := by
  induction n generalizing b with
  | zero => simpa using h
  | succ n ih =>
    have hrest := ih (b.drop 20) (by rw [List.length_drop]; omega)
    simp only [List.drop_drop] at hrest
    rw [List.range_succ_eq_map, List.map_cons, List.flatten_cons, List.map_map, Nat.mul_zero, List.drop_zero]
    simp only [Function.comp_def, Nat.mul_succ, Nat.add_comm _ 20, hrest, List.take_append_drop]

/-- The bytes a fragment carries. -/
theorem fragmentAt_data (msg i k : Nat) (b : List Byte) : (fragmentAt msg i b k).drop 4 = (b.drop (20 * k)).take 20 := drop_leBytes ..

end Sys2Proof.Laws
end

section
/-! The statement about Corber's packets and fragments. -/

namespace Sys2Proof.Proofs

open Machine Laws

theorem packetKept : Claims.packetKept := by
  intro src q code hcode hlen hobj hdk
  obtain ⟨s0, tag, len, feid, obj, flags, seq, body, dk⟩ := q
  subst hdk
  have htag : tag.toNat < 65536 := tag.isLt
  have hfeid : feid.toNat < 65536 := Nat.lt_trans feid.isLt (by decide)
  have hflags : flags.toNat < 65536 := flags.isLt
  have hseq : seq.toNat < 4294967296 := seq.isLt
  have hbody (h : List Byte) (hl : h.length = 16) : (h ++ body).drop 16 = body := List.drop_left' hl
  rw [parsePacket, requestPacket, leBytes_target, hbody _ (by simp)]
  simp [bodyNat_head, bodyNat_skip, Nat.mod_eq_of_lt, hcode, hlen, hobj, htag, hfeid, hflags, hseq]

theorem dk96Kept : Claims.dk96Kept := by
  intro src q code hcode hlen hobj hdk hflags hfeid
  obtain ⟨s0, tag, len, feid, obj, flags, seq, body, dk⟩ := q
  subst hdk hflags hfeid
  have htag : tag.toNat < 65536 := tag.isLt
  have hseq : seq.toNat < 4294967296 := seq.isLt
  have hbody (h : List Byte) (hl : h.length = 12) : (h ++ body).drop 12 = body := List.drop_left' hl
  rw [parseDk96, hbody _ (by simp)]
  simp [bodyNat_head, bodyNat_skip, Nat.mod_eq_of_lt, hcode, hlen, hobj, htag, hseq]

theorem fragmentsWhole : Claims.fragmentsWhole := by
  intro m b h0 h
  rw [fragments_eq m 256 0 b h0 (by omega)]
  refine ⟨by simp, ?_, fun k hk => ?_⟩
  · rw [List.map_map]
    simp only [Function.comp_def, fragmentAt_data]
    exact flatten_parts _ _ (by unfold ceilDiv; omega)
  · rw [List.getElem?_map, List.getElem?_range hk, Option.map_some, fragmentAt, Nat.zero_add]

/-- Settles O6: each field of a header stands behind those before it and is read at its width, and the fragments of a packet carry its
bytes, 20 at a time. -/
theorem packetsKept : Obligations.PacketsKept := ⟨packetKept, dk96Kept, fragmentsWhole⟩

end Sys2Proof.Proofs
end

section
/-! SUPPORT. Packets of fields (R221, R296) and the rings of the management function (R298). -/

namespace Sys2Proof.Laws

open Machine

variable {s : State} {p : List Byte}

/-- The first word of a journal entry's third line: the class, then its bit fields (Table 7.13). -/
theorem leBytes_class {cls : Nat} (h : cls < 65536) (sev scope a b : Nat) :
    leBytes 4 (cls + 2 ^ 16 * sev + 2 ^ 18 * scope + 2 ^ 20 * a + 2 ^ 21 * b) =
      leBytes 2 cls ++ leBytes 2 (sev + 4 * scope + 16 * a + 32 * b) := by
  have hsum : cls + 2 ^ 16 * sev + 2 ^ 18 * scope + 2 ^ 20 * a + 2 ^ 21 * b =
      cls + 256 ^ 2 * (sev + 4 * scope + 16 * a + 32 * b) := by omega
  rw [hsum, leBytes_pair (m := 2) (n := 2) h]

/-! ## Rings (R298) -/

/-- A packet that finds its slots free is taken by the reply ring. -/
theorem toRing_room (hh : s.crb.heldReplies = []) (hr : s.ringRoom false (ringSlots (p.length - 16)) = true) :
    s.toRing p = s.ringPut false p := by
  simp [State.toRing, hh, hr]

/-- A packet that does not is held. -/
theorem toRing_full (hr : s.ringRoom false (ringSlots (p.length - 16)) = false) :
    s.toRing p = (s.onCrb (fun c => { c with heldReplies := c.heldReplies ++ [p] })).setFld F.MGT_CRB_STATUS.RPL_STALL 0 1 := by
  simp [State.toRing, hr]

end Sys2Proof.Laws
end

section
/-! The statement about replies, the journal's entries and the rings. -/

namespace Sys2Proof.Proofs

open Machine Laws

/-! ## Layouts -/

theorem replyForm : Claims.replyForm := by
  rintro q code st d final dup data b hcode hobj hst hd hdata hdk rfl
  have htag : q.tag.toNat < 65536 := q.tag.isLt
  have hfeid : q.feid.toNat < 65536 := Nat.lt_trans q.feid.isLt (by decide)
  have hseq : q.seq.toNat < 4294967296 := q.seq.isLt
  have hflags : replyFlags final dup < 65536 ∧ bits (replyFlags final dup) 0 1 = 1 ∧ bits (replyFlags final dup) 1 1 = b2n final ∧
      bits (replyFlags final dup) 4 1 = b2n dup := by cases final <;> cases dup <;> decide
  obtain ⟨hlt, hreply, hfinal, hdup⟩ := hflags
  have hbytes (h : List Byte) (hl : h.length = 20) : (h ++ data).drop 20 = data := List.drop_left' hl
  simp only [replyBytes, hdk, Bool.false_eq_true, if_false, leBytes_target]
  rw [hbytes _ (by simp)]
  simp [bodyNat_head, bodyNat_skip, Nat.mod_eq_of_lt, hcode, hobj, hst, hd, hdata, htag, hfeid, hseq, hlt, hreply, hfinal, hdup]

theorem journalLayout : Claims.journalLayout := by
  intro e hj ht hc hsev hscope hp hvh hb hf hn hm hd
  have htv := b2n_lt e.timeValid
  have hfl := b2n_lt e.flashed
  have hbits : e.sev + 4 * e.scope + 16 * b2n e.timeValid + 32 * b2n e.flashed < 256 ^ 2 := by omega
  have hplace : e.port + 2 ^ 8 * e.vh + 2 ^ 16 * e.binding + 2 ^ 28 * e.feid + 2 ^ 40 * e.count + 2 ^ 56 * e.mode < 256 ^ 16 := by omega
  simp only [JournalEntry.bytes, leBytes_class hc, List.append_assoc, List.length_append, leBytes_length, bodyNat_head, bodyNat_skip,
    bodyNat_leBytes, Nat.reduceLeDiff, Nat.reduceSub, Nat.mod_eq_of_lt hbits, Nat.mod_eq_of_lt hplace, Nat.reduceAdd, bits]
  refine ⟨trivial, ?_⟩
  and_intros <;> omega

theorem opcodesDistinct : Claims.opcodesDistinct := by
  refine ⟨by decide +kernel, fun o ho => ?_⟩
  have hsome : (opOf o.code).isSome = true := List.find?_isSome.mpr ⟨o, ho, beq_self_eq_true _⟩
  obtain ⟨x, hx⟩ := Option.isSome_iff_exists.mp hsome
  have hcode := List.find?_some (p := fun (x : OpInfo) => x.code == o.code) hx
  exact ⟨x, hx, beq_iff_eq.mp hcode⟩

theorem pumpIdle : Claims.pumpIdle := fun s h => by rw [State.pump, h]; rfl

/-! ## Rings -/

theorem ringTakes : Claims.ringTakes := by
  rintro s p k i rfl hh rfl
  have hroom : s.ringRoom false (ringSlots (p.length - 16)) =
      decide (ringSlots (p.length - 16) ≤ ringFree s.crb.ringSet.rpl (s.fld F.MGT_CRB_RPL_HEAD.IDX) (s.ringNext false)) := rfl
  exact ⟨fun h => toRing_room hh (hroom.trans (decide_eq_true h)),
    fun h => toRing_full (hroom.trans (decide_eq_false (Nat.not_le.mpr h)))⟩

theorem ringRoom : Claims.ringRoom := by
  intro n h t hh ht
  have hpos := Nat.two_pow_pos n
  rw [ringFree, Nat.mod_eq_of_lt ht]
  refine ⟨Nat.mod_lt _ hpos, ?_⟩
  have hsum : h + 2 ^ n - t + 2 ^ n - 1 + (t + 1) = h + 2 ^ n + 2 ^ n := by omega
  rw [Nat.add_assoc, Nat.mod_add_mod, hsum, Nat.add_mod_right, Nat.add_mod_right, Nat.mod_eq_of_lt hh]

theorem ringTailPasses : Claims.ringTailPasses := by
  rintro s t o he rfl
  simp only [State.ringPass, he, RingOut.slots, State.ringLog2, State.whenb, Bool.false_eq_true, if_false]

/-- Settles O7: each field of a reply and of a journal entry stands behind those before it, and the reply ring takes what its free slots
hold. -/
theorem repliesAndRecords : Obligations.RepliesAndRecords :=
  ⟨replyForm, opcodesDistinct, journalLayout, pumpIdle, ringTakes, ringRoom, ringTailPasses⟩

end Sys2Proof.Proofs
end

section
/-! SUPPORT. The device opcodes of group 0x01: which subscriber a requester becomes, what WRITE_REG's triples come to, and when a board
record is programmed (R297, R309, R311, R416). -/

namespace Sys2Proof.Laws

open Machine

variable {s u : State} {q : CrbReq}

/-- A field of a body in its range holds no bit above its width. -/
theorem fits_of_lt {i n w : Nat} (h : q.num i n < 2 ^ w) : q.fits i n w = true := decide_eq_true h

/-- A command that brings a ready request answers it, and does what its opcode leaves to do behind the reply. -/
theorem exec_after {c : Instr} {o : OpInfo} {f : Option (State → State)} (hi : exec c s = .next (s.corber o q)) (hop : opOf o.code = some o)
    (h : s.ready o q = true) (hr : o.run q (s.judged q) = { ok u with after := f }) :
    exec c s = .next (u.answeredThen o q (f.getD id)) := by
  rw [hi, corber_run hop h hr]
  rfl

/-- The same, where an operation starts behind the reply. -/
theorem exec_then {c : Instr} {o : OpInfo} {f : State → State} (hi : exec c s = .next (s.corber o q)) (hop : opOf o.code = some o)
    (h : s.ready o q = true) (hr : o.run q (s.judged q) = { ok u with after := some f }) : exec c s = .next (u.answeredThen o q f) :=
  exec_after hi hop h hr

/-! ## What is shown (R309, R317) -/

/-- A register of the blocks SEC, MGT and PWR without fields that a write only triggers. -/
theorem shown_core {r : RegDesc} {i : Nat} (hb : r.base < 0x400000) (hwo : r.woMask = 0) :
    s.shown r i = BitVec.ofNat 32 (s.showCore r i (s.rd r i).toNat) := by
  have hland (x : Nat) : Nat.land x 0 = 0 := Nat.and_zero x
  simp only [State.shown, hb, if_true, hwo, hland, Nat.sub_zero]

/-- MGT_MODE shows the mode and whether a transition is in progress. -/
theorem shown_mode : s.shown R.MGT_MODE 0 = BitVec.ofNat 32 (s.mode.code + 8 * b2n s.transition) := by
  rw [shown_core (by decide) (by decide), State.showCore, if_pos rfl]

/-- READ_REG of words inside BAR0 reads them one after another. -/
theorem opReadReg_run_inside (ha : q.num 0 4 % 4 = 0) (hlo : 1 ≤ q.num 4 2) (hhi : q.num 4 2 ≤ 256)
    (hb : q.num 0 4 + 4 * q.num 4 2 ≤ barSize) :
    opReadReg.run q s = ok (State.readWords (q.num 4 2) s (q.num 0 4)).2 (State.readWords (q.num 4 2) s (q.num 0 4)).1 := by
  have hin : q.num 0 4 < barSize := by omega
  exact fields_pass (by simp [ha, hlo, hhi, hb, hin])

/-! ## Subscribers (R297) -/

/-- SUBSCRIBE with a mask and a severity in their ranges registers its requester at the place it has or finds. -/
theorem opSubscribe_run_place {i : Nat} (hm : q.fits 0 2 12 = true) (hs : q.fits 2 1 2 = true)
    (hp : (if q.src = .rings then some 0 else
      ((s.crb.subs.find? (fun (b : Subscriber) => b.src == q.src)).map (·.idx)).orElse
        (fun _ => (List.range maxSubs).find? (fun i => 0 < i && !s.crb.subs.any (·.idx == i)))) = some i) :
    opSubscribe.run q s = ok (s.onCrb (fun y => { y with subs := y.subs.filter (fun (x : Subscriber) => x.src != q.src) ++
      [{ idx := i, src := q.src, mask := q.num 0 2, minSev := q.num 2 1 }] })) (leBytes 1 i) := by
  simp only [opSubscribe, hp]
  exact fields_pass (by simp [hm, hs])

/-! ## WRITE_REG (R311) -/

/-- Triples that are not all applied leave the state before the first of them. -/
theorem writeTriples_state {n k : Nat} (h : (u.writeTriples q n k s).status ≠ stOk) : (u.writeTriples q n k s).s = u := by
  induction n generalizing k s with
  | zero => exact absurd rfl h
  | succ n ih =>
    unfold State.writeTriples at h ⊢
    dsimp only at h ⊢
    split at h
    · rename_i hx
      rw [if_pos hx, no]
    · rename_i hx
      rw [if_neg hx]
      exact ih h

/-- A triple that is refused is named by its place in the packet. -/
theorem writeTriples_refused {n k : Nat}
    (h : (s.writeTriple q (q.num (12 * k) 4) (q.num (12 * k + 4) 4) (q.num (12 * k + 8) 4)).status ≠ stOk) :
    (u.writeTriples q (n + 1) k s).detail = at16 (12 * k) := by
  rw [State.writeTriples, if_pos h, no]

/-! ## The board record (R416) -/

/-- Bytes within the record's region that leave it incomplete are staged. -/
theorem opSetBoardRecord_run_staged (hl : q.num 0 4 + (q.body.drop 4).length ≤ 65536)
    (hw : (s.stage (q.num 0 4) (q.body.drop 4)).recordWhole = false) :
    opSetBoardRecord.run q s = ok (s.stage (q.num 0 4) (q.body.drop 4)) := by
  simp only [opSetBoardRecord, if_neg (Nat.not_lt.mpr hl), hw, Bool.not_false, if_true]

/-- Bytes that complete a good record, while nothing fences the flash, program it. -/
theorem opSetBoardRecord_run_programmed {r : List Byte} (hl : q.num 0 4 + (q.body.drop 4).length ≤ 65536)
    (hu : u = s.stage (q.num 0 4) (q.body.drop 4)) (hw : u.recordWhole = true)
    (hr : r = u.stagedBytes (bodyNat (u.stagedBytes 12) 8 4)) (h32 : 32 ≤ r.length) (hg : boardFault r = none)
    (hs : u.flag F.PWR_STATUS.SAG = false) :
    opSetBoardRecord.run q s = ok ((u.flashErase recordBase sector).flashProgram recordBase r) := by
  subst hu hr
  simp only [opSetBoardRecord, if_neg (Nat.not_lt.mpr hl), hw, if_neg (Nat.not_lt.mpr h32), hg, hs, Bool.not_true, Bool.false_eq_true, if_false]

end Sys2Proof.Laws
end

section
/-! The statements about the device opcodes of group 0x01. -/

namespace Sys2Proof.Proofs

open Machine Laws

/-! ## What the device shows -/

theorem getInfo : Claims.getInfo := fun _ _ h => exec_ok rfl rfl h rfl

theorem getMode : Claims.getMode := by
  intro s q h
  have hlt : (s.judged q).mode.code + 8 * b2n (s.judged q).transition < 2 ^ 32 := by
    cases (s.judged q).mode <;> cases (s.judged q).transition <;> decide
  refine exec_ok rfl rfl h ?_
  simp only [opGetMode, State.showRegs, State.regBytes, List.map_cons, List.map_nil, List.flatten_cons, List.flatten_nil, List.append_nil,
    shown_mode, BitVec.toNat_ofNat, Nat.mod_eq_of_lt hlt]

theorem echo : Claims.echo := fun _ _ h => exec_ok rfl rfl h rfl

theorem readReg : Claims.readReg := fun _ _ h ha hlo hhi hb => exec_ok rfl rfl h (opReadReg_run_inside ha hlo hhi hb)

theorem getTimebase : Claims.getTimebase := fun _ _ h => exec_ok rfl rfl h rfl

/-! ## Subscriptions -/

theorem unsubscribe : Claims.unsubscribe := fun _ _ h => exec_ok rfl rfl h rfl

theorem subscribeRings : Claims.subscribeRings := fun _ _ h hq hm hs => exec_ok rfl rfl h (opSubscribe_run_place hm hs (if_pos hq))

theorem subscribeOther : Claims.subscribeOther := by
  intro s q i h hq hm hs hnone hi
  refine exec_ok rfl rfl h (opSubscribe_run_place hm hs ((if_neg hq).trans ?_))
  rw [hnone]
  exact hi

/-- Settles O17: each opcode shows what it names, and a requester's subscription stands at the rings' index, or at the lowest that is free.
-/
theorem deviceQueries : Obligations.DeviceQueries :=
  ⟨getInfo, getMode, echo, readReg, getTimebase, unsubscribe, subscribeRings, subscribeOther⟩

/-! ## Registers written and resets -/

theorem writeReg : Claims.writeReg := fun _ _ _ h ht => exec_ok rfl rfl h ht

theorem writeRegNone : Claims.writeRegNone := fun _ _ _ _ _ => ⟨writeTriples_state, writeTriples_refused⟩

theorem resetDevice : Claims.resetDevice := fun _ _ h hk => exec_then rfl rfl h (if_neg (Nat.not_lt.mpr hk))

theorem resetComes : Claims.resetComes := by
  intro s
  refine ⟨fun hcold hwarm => ?_, fun hcold hwarm => ?_, fun hcold => ?_⟩
  · simp only [State.resetDue, hcold, hwarm, Bool.false_eq_true, if_false, if_true]
  · simp only [State.resetDue, hcold, hwarm, Bool.false_eq_true, if_false]
  · simp only [State.resetDue, hcold, if_true]

/-! ## The board record -/

theorem getBoardRecord : Claims.getBoardRecord := fun _ _ h ho hn hsum => exec_ok rfl rfl h (fields_pass (by simp [ho, hn, hsum]))

theorem setBoardRecord : Claims.setBoardRecord := fun _ _ h hl hw => exec_ok rfl rfl h (opSetBoardRecord_run_staged hl hw)

theorem setBoardRecordWhole : Claims.setBoardRecordWhole := fun _ _ _ _ h hl hu hw hr h32 hg hs =>
  exec_ok rfl rfl h (opSetBoardRecord_run_programmed hl hu hw hr h32 hg hs)

/-! ## The Churn -/

theorem setChurn : Claims.setChurn := fun _ _ h hs => exec_ok rfl rfl h (set_sound hs)

theorem setRotation : Claims.setRotation := by
  rintro s t q h hs rfl
  exact exec_ok rfl rfl h (set_sound hs)

/-- Settles O18: the triples of WRITE_REG are applied all or not at all, a board record is programmed once it is whole and good, and each
setting breaks no rule. -/
theorem deviceSettings : Obligations.DeviceSettings :=
  ⟨writeReg, writeRegNone, resetDevice, getBoardRecord, setBoardRecord, setBoardRecordWhole, setChurn, setRotation, resetComes⟩

end Sys2Proof.Proofs
end

section
/-! SUPPORT. The port opcodes that act on a link (R60, R63, R162, R195): what each comes to, by the state of the link. -/

namespace Sys2Proof.Laws

open Machine

variable {s : State} {q : CrbReq} {f : Nat → Ans} {p : Nat}

/-- A request that names a link index some port holds comes to what its opcode does with that port's controller. -/
theorem link_of_port (hl : q.object < 72) (hp : s.portOfLink q.object = some p) : q.link s f = f (controllerOf p) := by
  simp only [CrbReq.link, if_pos hl, hp]

/-- KFL_DISABLE of a link past its training, that nothing of its partner's or its own holds, starts the orderly disable. -/
theorem opKflDisable_run_up (hl : q.object < 72) (hp : s.portOfLink q.object = some p) (hpeer : s.peerHolds (controllerOf p) = false)
    (hstop : (s.kl (controllerOf p)).stopping = none) (hup : 5 ≤ s.lst (controllerOf p)) :
    opKflDisable.run q s = started s (fun s => s.kflDisable (controllerOf p) 0) := by
  simp only [opKflDisable, link_of_port hl hp, hpeer, hstop, hup, Option.isSome_none, Bool.false_eq_true, if_false, if_true]

/-! ## RECALIBRATE (R63) -/

/-- What RECALIBRATE of a port comes to that no operation of a partner's and no recalibration of its cluster holds off. -/
theorem opRecalibrate_run_free (ho : q.object < 144) (hl : s.live q.object = true)
    (hpeer : s.proto q.object ≠ 2 ∨ s.peerHolds (controllerOf q.object) = false)
    (hbusy : s.flag F.PCL_CLUSTER_STATUS.RECAL_BUSY (clusterOf q.object) = false) :
    opRecalibrate.run q s =
      if s.linkState q.object = 0 || s.linkState q.object = 6 then ok (s.recalStart q.object)
      else if !s.active q.object then no s stBusy 2
      else if s.canBorrow q.object then started s (fun s => s.recalStart q.object)
      else no s stTraffic s.livePorts.length := by
  have hfree : (decide (s.proto q.object = 2) && s.peerHolds (controllerOf q.object)) = false := by
    rcases hpeer with h | h <;> simp [h]
  simp only [opRecalibrate, port_of_live ho hl, hfree, hbusy, Bool.false_eq_true, if_false]

/-- RECALIBRATE of a port whose link is disabled or in TEST runs at once. -/
theorem opRecalibrate_run_disabled (ho : q.object < 144) (hl : s.live q.object = true)
    (hpeer : s.proto q.object ≠ 2 ∨ s.peerHolds (controllerOf q.object) = false)
    (hbusy : s.flag F.PCL_CLUSTER_STATUS.RECAL_BUSY (clusterOf q.object) = false)
    (hst : s.linkState q.object = 0 ∨ s.linkState q.object = 6) : opRecalibrate.run q s = ok (s.recalStart q.object) :=
  (opRecalibrate_run_free ho hl hpeer hbusy).trans (if_pos (by simpa using hst))

/-- RECALIBRATE of an active port that can borrow half its lanes starts behind its reply. -/
theorem opRecalibrate_run_active (ho : q.object < 144) (hl : s.live q.object = true)
    (hpeer : s.proto q.object ≠ 2 ∨ s.peerHolds (controllerOf q.object) = false)
    (hbusy : s.flag F.PCL_CLUSTER_STATUS.RECAL_BUSY (clusterOf q.object) = false) (h0 : s.linkState q.object ≠ 0)
    (h6 : s.linkState q.object ≠ 6) (ha : s.active q.object = true) (hb : s.canBorrow q.object = true) :
    opRecalibrate.run q s = started s (fun s => s.recalStart q.object) := by
  rw [opRecalibrate_run_free ho hl hpeer hbusy]
  simp only [h0, h6, ha, hb, decide_false, Bool.or_self, Bool.not_true, Bool.false_eq_true, if_false, if_true]

/-! ## MARGIN (R60) -/

/-- MARGIN of an active port with its fields in the ranges of Table 2.6 is accepted. -/
theorem opMargin_run_inRange (ho : q.object < 144) (hl : s.live q.object = true) (h0 : q.num 0 2 ≠ 0)
    (hlanes : q.num 0 2 < 2 ^ (s.lanesOf q.object).length) (haxis : q.num 2 1 ≤ 1) (hdir : q.num 3 1 ≤ 1) (hlo : 1 ≤ q.num 4 1)
    (hhi : q.num 4 1 ≤ (if q.num 2 1 = 1 then 64 else 32)) (helo : 1 ≤ q.num 5 1) (hehi : q.num 5 1 ≤ 63)
    (ha : s.active q.object = true) : opMargin.run q s = started s id := by
  have hfit2 : q.fits 2 1 1 = true := fits_of_lt (Nat.lt_succ_of_le haxis)
  have hfit3 : q.fits 3 1 1 = true := fits_of_lt (Nat.lt_succ_of_le hdir)
  simp only [opMargin, port_of_live ho hl, ha, Bool.not_true, Bool.false_eq_true, if_false]
  exact fields_pass (by simp [h0, hlanes, hfit2, hfit3, hlo, hhi, helo, hehi])

end Sys2Proof.Laws
end

section
/-! The statement about the port opcodes of group 0x02 that show, set or act on a link, and SET_PORT_POOL. -/

namespace Sys2Proof.Proofs

open Machine Laws

theorem getKfl : Claims.getKfl := fun _ _ _ h hl hp => exec_ok rfl rfl h (by simp only [opGetKfl, link_of_port hl hp, State.showRegs])

theorem setKfl : Claims.setKfl := by
  rintro s u t q p rfl rfl h hl hp hs
  exact exec_ok rfl rfl h (by simp only [opSetKfl, link_of_port hl hp, set_sound hs])

theorem kflDisable : Claims.kflDisable := by
  rintro s u q p rfl h hl hp hpeer hstop hup
  exact exec_started rfl rfl h (opKflDisable_run_up hl hp hpeer hstop hup)

theorem recalibrate : Claims.recalibrate := by
  rintro s u q rfl h ho hl hpeer hbusy
  exact ⟨fun hst => exec_ok rfl rfl h (opRecalibrate_run_disabled ho hl hpeer hbusy hst),
    fun h0 h6 ha hb => exec_started rfl rfl h (opRecalibrate_run_active ho hl hpeer hbusy h0 h6 ha hb)⟩

theorem margin : Claims.margin := by
  rintro s u q rfl h ho hl h0 hlanes haxis hdir hlo hhi helo hehi ha
  exact exec_started rfl rfl h (opMargin_run_inRange ho hl h0 hlanes haxis hdir hlo hhi helo hehi ha)

theorem setPortPool : Claims.setPortPool := by
  rintro s u q rfl h ho hl hs
  exact exec_ok rfl rfl h (by simp only [opSetPortPool, port_of_live ho hl, set_sound hs])

/-- Settles O20: each request names a port or a link that stands, in a state its opcode allows, so it is answered with what it shows or
sets, or its operation starts. -/
theorem linkOpcodes : Obligations.LinkOpcodes := ⟨getKfl, setKfl, kflDisable, recalibrate, margin, setPortPool⟩

end Sys2Proof.Proofs
end

section
/-! SUPPORT. SLOT_POWER by the state of its guard (R355). -/

namespace Sys2Proof.Laws

open Machine

variable {s : State} {q : CrbReq} {g : Nat}

/-- Power on starts for a guard that is enabled, is neither in RETRY nor locked out, and has no power yet. -/
theorem slotOn_started (hd : s.gState g ≠ gDisabled) (hr : s.gState g ≠ gRetry) (hl : s.gState g ≠ gLockout) (hon : s.gState g ≠ gOn) :
    s.slotOn g = started s (fun s => s.gRequest g true) := by
  simp only [State.slotOn, if_neg hd, if_neg hl, if_neg hon, hr, decide_false, Bool.false_and, Bool.false_eq_true, if_false]

/-- Power off starts for a powered guard on whose port no binding is BOUND. -/
theorem slotOff_started (hst : s.gState g = gProofing ∨ s.gState g = gRamp ∨ s.gState g = gOn)
    (hb : (s.bindingsOn (s.gPort g)).any (fun e => s.bindState e.1 == 1) = false) :
    s.slotOff g = started s (fun s => if (s.guard g).offing then s else s.gPowerOff g) := by
  have hpowered : (s.gState g == gProofing || s.gState g == gRamp || s.gState g == gOn) = true := by
    simpa [or_assoc] using hst
  simp only [State.slotOff, hpowered, hb, Bool.not_true, Bool.false_eq_true, if_false]

/-- SLOT_POWER asks for power on with ON 1. -/
theorem opSlotPower_run_on (ho : q.object < 24) (hon : q.num 0 1 = 1) : opSlotPowerInfo.run q s = s.slotOn q.object := by
  have hfit : q.fits 0 1 1 = true := fits_of_lt (by rw [hon]; decide)
  simp only [opSlotPowerInfo, obj_of_lt ho, if_pos hon]
  exact fields_pass (by simp [hfit])

/-- SLOT_POWER asks for power off with ON 0. -/
theorem opSlotPower_run_off (ho : q.object < 24) (hoff : q.num 0 1 = 0) : opSlotPowerInfo.run q s = s.slotOff q.object := by
  have hfit : q.fits 0 1 1 = true := fits_of_lt (by rw [hoff]; decide)
  simp only [opSlotPowerInfo, obj_of_lt ho, hoff, Nat.zero_ne_one, if_false]
  exact fields_pass (by simp [hfit])

end Sys2Proof.Laws
end

section
/-! The statement about the slot opcodes of group 0x07. -/

namespace Sys2Proof.Proofs

open Machine Laws

theorem getSlot : Claims.getSlot := fun _ _ h ho => exec_ok rfl rfl h (by simp only [opGetSlot, obj_of_lt ho, State.showRegs])

theorem setSlot : Claims.setSlot := by
  rintro s u q rfl l h ho hs
  exact exec_ok rfl rfl h (by simp only [opSetSlot, obj_of_lt ho]; exact set_sound hs)

theorem slotPower : Claims.slotPower := by
  rintro s u q st rfl rfl h ho
  exact ⟨fun hn hd hr hl hon => exec_started rfl rfl h ((opSlotPower_run_on ho hn).trans (slotOn_started hd hr hl hon)),
    fun hn hst hb => exec_started rfl rfl h ((opSlotPower_run_off ho hn).trans (slotOff_started hst hb))⟩

theorem clearLockout : Claims.clearLockout := by
  rintro s u q rfl h ho hl
  exact exec_ok rfl rfl h (by simp only [opClearLockout, obj_of_lt ho, hl, ne_eq, not_true_eq_false, if_false])

theorem setSlotCap : Claims.setSlotCap := by
  rintro s u q rfl h ho hn hs
  have hfit : q.fits 0 4 24 = true := fits_of_lt hn
  refine exec_ok rfl rfl h ?_
  simp only [opSetSlotCap, obj_of_lt ho, set_sound hs]
  exact fields_pass (by simp [hfit])

theorem setIndicators : Claims.setIndicators := by
  intro s q h ho hattn hpwr
  have hfit0 : q.fits 0 1 2 = true := fits_of_lt (Nat.lt_succ_of_le hattn)
  have hfit1 : q.fits 1 1 2 = true := fits_of_lt (Nat.lt_succ_of_le hpwr)
  refine exec_ok rfl rfl h ?_
  simp only [opSetIndicators, obj_of_lt ho]
  exact fields_pass (by simp [hfit0, hfit1])

/-- Settles O25: each request names a guard, its fields are in their ranges, and the guard's state allows what it asks; so it is answered
with what it shows or sets, or its operation starts. -/
theorem slotOpcodes : Obligations.SlotOpcodes := ⟨getSlot, setSlot, slotPower, clearLockout, setSlotCap, setIndicators⟩

end Sys2Proof.Proofs
end

section
/-! SUPPORT. The firmware opcodes of group 0x08 (R380, R383): what each comes to while nothing fences the flash. -/

namespace Sys2Proof.Laws

open Machine

variable {s t : State} {q : CrbReq}

/-- FW_BEGIN of the image that does not run, with a size in its range, while no other is open, opens it. -/
theorem opFwBegin_run_opens (hi : q.num 0 1 ≤ 1) (hrun : q.num 0 1 ≠ s.runningImage) (hlo : 0x6000 ≤ q.num 1 4)
    (hhi : q.num 1 4 ≤ 0x605000) (hopen : s.openImage = 3 ∨ s.openImage = q.num 0 1) (hsag : s.flag F.PWR_STATUS.SAG = false)
    (hfin : s.sec.finishing = none)
    (ht : t = s.onSec (fun y => { y with size := q.num 1 4, ranges := [], queue := [], programmed := 0, erased := []
                                         fenced := y.fenced.filter (· != q.num 0 1) })) :
    opFwBegin.run q s = ok ((((t.setImage (q.num 0 1) 1).setFld F.SEC_IMAGE_STATE.OPEN 0 (q.num 0 1)).setFld
      F.SEC_IMAGE_STATE.WRITE_FENCED 0 0).showFill) := by
  subst ht
  simp only [opFwBegin, hsag, hfin, Option.isSome_none, Bool.false_eq_true, if_false]
  exact fields_pass (by simp [hi, hrun, hlo, hhi, hopen])

/-- FW_WRITE of bytes that the open image and the queue have room for queues them. -/
theorem opFwWrite_run_queues (hopen : s.openImage ≠ 3) (hsize : q.num 0 4 + (q.body.length - 4) ≤ s.sec.size)
    (hnew : s.sec.ranges.any (rangesMeet (q.num 0 4, q.body.length - 4)) = false) (hsag : s.flag F.PWR_STATUS.SAG = false)
    (hfence : s.flag F.SEC_IMAGE_STATE.WRITE_FENCED = false) (hfin : s.sec.finishing = none)
    (hroom : s.queueBytes + (q.body.length - 4) ≤ 65536) :
    opFwWrite.run q s = ok ((s.onSec (fun y => { y with
      ranges := (q.num 0 4, q.body.length - 4) :: y.ranges, queue := y.queue ++ [(q.num 0 4, q.body.drop 4)] })).showFill) := by
  simp only [opFwWrite, if_neg hopen, Nat.not_lt.mpr hsize, hnew, hsag, hfence, hfin, if_neg (Nat.not_lt.mpr hroom), decide_false,
    Bool.or_self, Option.isSome_none, Bool.false_eq_true, if_false]

/-- FW_FINISH of an open image that no fence stops starts its end. -/
theorem opFwFinish_run_open (hopen : s.openImage ≠ 3) (hsag : s.flag F.PWR_STATUS.SAG = false)
    (hfence : s.flag F.SEC_IMAGE_STATE.WRITE_FENCED = false) (hfin : s.sec.finishing = none) :
    opFwFinish.run q s = started s (fun s' => s'.onSec (fun y => { y with finishing := some s.openImage })) := by
  simp only [opFwFinish, if_neg hopen, hsag, hfence, hfin, Bool.or_self, Option.isSome_none, Bool.false_eq_true, if_false]

/-- FW_SELECT of a verified image that does not run, with an SVN at the floor or above, makes it the preferred one. -/
theorem opFwSelect_run_other (hi : q.num 0 1 ≤ 1) (hrun : q.num 0 1 ≠ s.runningImage) (hst : s.imageState (q.num 0 1) = 3)
    (hsvn : s.sec.floor ≤ s.imageSvn (q.num 0 1)) (hsag : s.flag F.PWR_STATUS.SAG = false) :
    opFwSelect.run q s = ok (s.setBoot (fun c => { c with preferred := q.num 0 1 })) := by
  simp only [opFwSelect, hrun, hsag, decide_false, Bool.false_and, State.whenb_false, Bool.false_eq_true, if_false]
  exact fields_pass (by simp [hi, hst, hsvn])

/-- FW_SELECT of the running image makes it the preferred one, and the floor rises to its SVN. -/
theorem opFwSelect_run_running (hi : q.num 0 1 ≤ 1) (hrun : q.num 0 1 = s.runningImage)
    (hsvn : s.sec.floor ≤ s.fld F.SEC_SVN.RUNNING_SVN) (hsag : s.flag F.PWR_STATUS.SAG = false)
    (ht : t = s.setBoot (fun c => { c with preferred := q.num 0 1 })) :
    opFwSelect.run q s = ok (if t.sec.floor < s.fld F.SEC_SVN.RUNNING_SVN then
      (t.onSec (fun y => { y with floor := s.fld F.SEC_SVN.RUNNING_SVN })).raise F.SEC_EVT.FLOOR_RAISED else t) := by
  subst ht
  simp only [opFwSelect, hrun, hsag, decide_true, Bool.true_and, State.whenb, decide_eq_true_eq, Bool.false_eq_true, if_false, if_true]
  exact fields_pass (by simp [← hrun, hi, hsvn])

end Sys2Proof.Laws
end

section
/-! The statement about the trust and firmware opcodes of group 0x08. -/

namespace Sys2Proof.Proofs

open Machine Laws

/-! ## Certificates and measurements -/

theorem getCert : Claims.getCert := by
  intro s q h hc hsum hn
  have hfit : q.fits 0 1 1 = true := fits_of_lt (Nat.lt_succ_of_le hc)
  have ho : q.num 1 4 ≤ (Config.certChain (q.num 0 1)).length := Nat.le_of_add_right_le hsum
  exact exec_ok rfl rfl h (fields_pass (by simp [hfit, ho, hn, hsum]))

theorem getMeasurements : Claims.getMeasurements := by
  intro s q h hsum hn
  have ho : q.num 0 4 ≤ (s.judged q).measureBytes.length := Nat.le_of_add_right_le hsum
  exact exec_ok rfl rfl h (fields_pass (by simp [ho, hn, hsum]))

/-! ## The debug token -/

theorem tokenWrite : Claims.tokenWrite := by
  intro s q h ho hv
  refine exec_ok rfl rfl h ?_
  simp only [opTokenWrite, hv, Bool.false_eq_true, if_false]
  exact fields_pass (by simp [ho])

theorem tokenVerify : Claims.tokenVerify := fun _ _ h hv => exec_started rfl rfl h (if_neg (Bool.eq_false_iff.mp hv))

theorem relock : Claims.relock := fun _ _ h => exec_ok rfl rfl h rfl

/-! ## Firmware images -/

theorem fwBegin : Claims.fwBegin := by
  rintro s u v q i rfl rfl h hi hrun hlo hhi hopen hsag hfin hv
  exact exec_ok rfl rfl h (opFwBegin_run_opens hi hrun hlo hhi hopen hsag hfin hv)

theorem fwWrite : Claims.fwWrite := by
  rintro s u q o n rfl rfl rfl h hopen hsize hnew hsag hfence hfin hroom
  exact exec_ok rfl rfl h (opFwWrite_run_queues hopen hsize hnew hsag hfence hfin hroom)

theorem fwFinish : Claims.fwFinish := by
  rintro s u q rfl h hopen hsag hfence hfin
  exact exec_started rfl rfl h (opFwFinish_run_open hopen hsag hfence hfin)

theorem fwSelect : Claims.fwSelect := by
  rintro s u q rfl h hi hrun hst hsvn hsag
  exact exec_ok rfl rfl h (opFwSelect_run_other hi hrun hst hsvn hsag)

theorem fwSelectRunning : Claims.fwSelectRunning := by
  rintro s u v q rfl h hi hrun hsvn hsag hv
  exact exec_ok rfl rfl h (opFwSelect_run_running hi hrun hsvn hsag hv)

theorem getFw : Claims.getFw := fun _ _ h => exec_ok rfl rfl h rfl

/-- Settles O26: the fields of each request are in their ranges, and neither a verification, a fence nor an open write stands in its way; so
it is answered with what it shows or sets, or its operation starts. -/
theorem trustOpcodes : Obligations.TrustOpcodes :=
  ⟨getCert, getMeasurements, tokenWrite, tokenVerify, relock, fwBegin, fwWrite, fwFinish, fwSelect, fwSelectRunning, getFw⟩

end Sys2Proof.Proofs
end

section
/-! SUPPORT. The mode and test opcodes (R318, R320, R322), and the refusal of DROWSE (R329). -/

namespace Sys2Proof.Laws

open Machine

variable {s : State} {q : CrbReq}

/-- DROWSE is the mode of code 5 alone. -/
theorem ofCode_eq_drowse_iff {n : Nat} : Mode.ofCode n = .drowse ↔ n = 5 := by
  unfold Mode.ofCode
  split <;> simp_all

/-- SET_MODE to a mode that Table 13.2 permits starts the change, which DROWSE asks its refusers for. -/
theorem opSetMode_run_permitted (hn : q.num 0 1 ≤ 7) (ht : s.transition = false) (hgo : s.mayGo (Mode.ofCode (q.num 0 1)) = true) :
    opSetModeInfo.run q s = if q.num 0 1 = 5 then started s State.drowseAsk
      else started s (fun s => (s.goMode (Mode.ofCode (q.num 0 1))).finishAny opSetMode stOk) := by
  simp only [opSetModeInfo, if_neg (Nat.not_lt.mpr hn), hgo, ht, ofCode_eq_drowse_iff, Bool.not_true, Bool.false_eq_true, if_false]

/-- SELF_TEST in MAINTENANCE, while no test runs, starts its scope. -/
theorem opSelfTest_run_idle (hn : q.num 0 1 ≤ 7) (hm : s.mode = .maintenance) (ht : s.pwr.testing = false) :
    opSelfTestInfo.run q s = started s (fun s => s.testStarts (q.num 0 1)) := by
  simp only [opSelfTestInfo, if_neg (Nat.not_lt.mpr hn), hm, ht, ne_eq, not_true_eq_false, Bool.false_eq_true, if_false]

/-- TEST_BANK of a bank that has not failed, while none is named, takes the rotation to it. -/
theorem opTestBank_run_free (ho : q.object < 256) (hb : s.fld F.CHN_BANK_STATE.STATE q.object ≠ 6) (hn : s.churn.namedTest = none) :
    opTestBankInfo.run q s = started s (fun s => (s.onChurn (fun y => { y with namedTest := some q.object })).namedStep) := by
  simp only [opTestBankInfo, obj_of_lt ho, if_neg hb, hn, Option.isSome_none, Bool.false_eq_true, if_false]

/-- INJECT_ERROR of a class of Table 12.13, on an object that stands as the table asks, arms it and acts at once where it needs no access.
-/
theorem opInjectError_run_armed {o : Nat} (ho : o = (if q.num 0 2 = 0x0604 then 0 else q.object))
    (hk : (injectKind (q.num 0 2)).isSome = true) (hi : s.injectable (q.num 0 2) o = true) :
    opInjectError.run q s = { ok (s.armInjection (q.num 0 2) o) with after := injectNow (q.num 0 2) o } := by
  subst ho
  have hk' : (injectKind (q.num 0 2)).isNone = false := by rw [← Option.not_isSome, hk, Bool.not_true]
  simp only [opInjectError, hk', hi, Bool.not_true, Bool.false_eq_true, if_false]

end Sys2Proof.Laws
end

section
/-! The statement about the mode, power and test opcodes of groups 0x09 and 0x0A. -/

namespace Sys2Proof.Proofs

open Machine Laws

/-! ## Modes and power -/

theorem setMode : Claims.setMode := by
  rintro s u q rfl h hn ht hgo
  have hrun := opSetMode_run_permitted hn ht hgo
  exact ⟨fun h5 => exec_started rfl rfl h (hrun.trans (if_pos h5)), fun h5 => exec_started rfl rfl h (hrun.trans (if_neg h5))⟩

theorem getPower : Claims.getPower := fun _ _ h => exec_ok rfl rfl h rfl

theorem setVoltPolicy : Claims.setVoltPolicy := fun _ _ h hs => exec_ok rfl rfl h (set_sound hs)

theorem setGating : Claims.setGating := by
  rintro s u q rest rfl rfl h ho hn
  have hfit : q.fits 0 1 1 = true := fits_of_lt (Nat.lt_succ_of_le hn)
  refine exec_ok rfl rfl h ?_
  simp only [opSetGating, obj_of_lt ho]
  exact fields_pass (by simp [hfit])

theorem getCoreDelay : Claims.getCoreDelay := fun _ _ h => exec_ok rfl rfl h rfl

/-! ## Tests -/

theorem selfTest : Claims.selfTest := by
  rintro s u q rfl h hn hm ht
  exact exec_started rfl rfl h (opSelfTest_run_idle hn hm ht)

theorem testBank : Claims.testBank := by
  rintro s u q rfl h ho hb hn
  exact exec_started rfl rfl h (opTestBank_run_free ho hb hn)

theorem injectError : Claims.injectError := by
  rintro s u q o rfl ho h hk hi
  exact exec_after rfl rfl h (opInjectError_run_armed ho hk hi)

theorem getWatchdog : Claims.getWatchdog := fun _ _ h => exec_ok rfl rfl h rfl

/-- Settles O27: the fields of each request are in their ranges, and neither a transition, a test that runs nor the table of modes stands in
its way; so it is answered with what it shows or sets, or its operation starts. -/
theorem powerAndTestOpcodes : Obligations.PowerAndTestOpcodes :=
  ⟨setMode, getPower, setVoltPolicy, setGating, getCoreDelay, selfTest, testBank, injectError, getWatchdog⟩

end Sys2Proof.Proofs
end

section
/-! SUPPORT. The timebase (R346, R347) and a refusal of DROWSE (R329). -/

namespace Sys2Proof.Laws

open Machine

variable {s t : State}

/-! ## Corrections -/

/-- A correction below a microsecond slews. -/
theorem tbCorrect_slews {d : Int} (ht : t = s.wr R.PWR_TB_OFFSET 0 (BitVec.ofInt 32 d)) (h : d.natAbs < 1000) :
    s.tbCorrect d = { t with pwr := { t.pwr with slew := d, slewAcc := 0 } } := by
  subst ht
  rw [State.tbCorrect, if_pos h]

/-- A correction of a microsecond and more steps. -/
theorem tbCorrect_steps {d : Int} (ht : t = s.wr R.PWR_TB_OFFSET 0 (BitVec.ofInt 32 d)) (h : 1000 ≤ d.natAbs) :
    s.tbCorrect d = t.tbStep (t.tb + BitVec.ofInt 64 d) := by
  subst ht
  rw [State.tbCorrect, if_neg (Nat.not_lt.mpr h)]

/-! ## A nanosecond -/

/-- The clock counts a nanosecond. -/
theorem tick_now : s.tick.now = s.now + 1 := by
  unfold State.tick
  dsimp only
  split <;> rfl

/-- The timebase counts a nanosecond, and what a slew makes of it. -/
theorem tick_tb : s.tick.tb = s.tb + 1 + BitVec.ofInt 64 s.slewNow := by
  unfold State.tick
  dsimp only
  split <;> rfl

/-- A slew runs off by what it made of the nanosecond. -/
theorem tick_pwr : s.tick.pwr = { s.pwr with
    slew := s.pwr.slew - s.slewNow
    slewAcc := if s.pwr.slew = 0 then 0 else (s.pwr.slewAcc + s.fld F.PWR_TB_CFG.SLEW_PPM) % 1000000 } := by
  unfold State.tick
  dsimp only
  split <;> rfl

/-- A slew makes a nanosecond at most of a nanosecond. -/
theorem slewNow_natAbs_le : s.slewNow.natAbs ≤ 1 := by
  unfold State.slewNow
  split
  · decide
  · split <;> decide

/-- A slew waits until 10^6 / SLEW_PPM nanoseconds have passed. -/
theorem le_of_slewNow_ne_zero (h : s.slewNow ≠ 0) : 1000000 ≤ s.pwr.slewAcc + s.fld F.PWR_TB_CFG.SLEW_PPM := by
  refine Nat.le_of_not_lt fun hlt => h ?_
  rw [State.slewNow, if_pos (by simp [hlt])]

/-! ## DROWSE -/

/-- A refusal by an odd class, whose counter is the lower half of its word. -/
theorem drowseRefuse_odd {c id : Nat} (hc : c % 2 = 1) (ht : t = s.bump16 F.PWR_DROWSE_REFUSE_CNT.ODD ((c - 1) / 2) 1) :
    s.drowseRefuse c id = ((((t.setFld F.PWR_DROWSE_LAST_REFUSER.CLASS 0 c).setFld F.PWR_DROWSE_LAST_REFUSER.ID 0 id).setFld
      F.PWR_DROWSE_LAST_REFUSER.VALID 0 1).raise F.PWR_EVT.DROWSE_REFUSED).drowseOff (c * 4096 + id) := by
  subst ht
  simp only [State.drowseRefuse, if_pos hc]

/-- A refusal by an even class, whose counter is the upper half of its word. -/
theorem drowseRefuse_even {c id : Nat} (hc : c % 2 ≠ 1) (ht : t = s.bump16 F.PWR_DROWSE_REFUSE_CNT.EVEN ((c - 1) / 2) 1) :
    s.drowseRefuse c id = ((((t.setFld F.PWR_DROWSE_LAST_REFUSER.CLASS 0 c).setFld F.PWR_DROWSE_LAST_REFUSER.ID 0 id).setFld
      F.PWR_DROWSE_LAST_REFUSER.VALID 0 1).raise F.PWR_EVT.DROWSE_REFUSED).drowseOff (c * 4096 + id) := by
  subst ht
  simp only [State.drowseRefuse, if_neg hc]

end Sys2Proof.Laws
end

section
/-! The statements about the timebase and about refusals of DROWSE. -/

namespace Sys2Proof.Proofs

open Machine Laws

/-! ## The timebase -/

theorem tbCorrection : Claims.tbCorrection := fun _ _ _ ht => ⟨tbCorrect_slews ht, tbCorrect_steps ht⟩

theorem pwrTbSet : Claims.pwrTbSet := by
  rintro s t hi rfl
  rfl

theorem tbSteps : Claims.tbSteps := fun _ _ => rfl

theorem slewRate : Claims.slewRate := by
  intro s
  refine ⟨tick_tb, tick_now, slewNow_natAbs_le, le_of_slewNow_ne_zero, ?_, fun h => ?_⟩
  · rw [tick_pwr]
  · rw [tick_pwr, if_neg h]

/-- Settles O15: a correction is taken by its size, a step is counted and raised, and a nanosecond is worth one, more or less what the slew
makes of it. -/
theorem timebaseCorrections : Obligations.TimebaseCorrections := ⟨tbCorrection, pwrTbSet, tbSteps, slewRate⟩

/-! ## DROWSE -/

theorem refusalRule : Claims.refusalRule := by
  rintro s t k id f hf rfl
  have hshape : f.lo + f.width ≤ 32 ∧ f.width = 16 := by
    rw [hf]
    split <;> decide
  refine ⟨fun hs => refusalsSaturate s f _ 1 hs hshape.1 hshape.2, _, rfl, ?_⟩
  rcases Nat.mod_two_eq_zero_or_one (k.val + 1) with hk | hk
  · rw [drowseRefuse_even (by rw [hk]; decide) rfl, hf, if_neg (by rw [hk]; decide)]
    rfl
  · rw [drowseRefuse_odd hk rfl, hf, if_pos hk]
    rfl

theorem drowseRefusal : Claims.drowseRefusal := fun _ _ k _ =>
  ⟨fun ht => drowseRefuse_odd (by omega) ht, fun ht => drowseRefuse_even (by omega) ht⟩

theorem getDrowseStats : Claims.getDrowseStats := fun _ _ h => exec_ok rfl rfl h rfl

/-- Settles O16: a refusal is counted in the half of its word that its class has, and the entry to DROWSE is over. -/
theorem drowseRefused : Obligations.DrowseRefused := ⟨refusalRule, drowseRefusal, getDrowseStats⟩

end Sys2Proof.Proofs
end

section
/-! SUPPORT. Which commands go on, and the instructions of the test access port by PERST_N (R412). -/

namespace Sys2Proof.Laws

open Machine

variable {s : State} {t : Tlp} {p : Fin 144}

/-! ## Commands that bring a packet -/

/-- A packet of a target that is no message is the one fault of its command; any other goes on. -/
theorem exec_targetErrorMessage_next {unc cor : BitVec 32} {hdr : BitVec 128} (h : t.isMessage = true) :
    ∃ u, exec (.targetErrorMessage p t unc cor hdr) s = .next u := by
  show ∃ u, execTargetErrorMessage p t unc cor hdr s = .next u
  rw [execTargetErrorMessage, if_neg (by rw [show (t.wellFormed && t.kind == .msg) = true from h]; decide)]
  split <;> exact ⟨_, rfl⟩

/-! ## The test access port -/

variable {i : TapInstr} {tdi : List Bool} {f : State → State}

/-- An instruction that needs PERST_N takes effect while it is asserted. -/
theorem tapGuarded_asserted (h : s.pins.perst = true) : s.tapGuarded i tdi f = f (s.tapLoad i) := if_pos h

/-- At any other time it acts as BYPASS. -/
theorem tapGuarded_released (h : s.pins.perst = false) : s.tapGuarded i tdi f = (s.tapBypass tdi).tapLoad i :=
  if_neg (Bool.eq_false_iff.mp h)

/-- Then the pads stay Kalnum's. -/
theorem padMode_released (h : s.pins.perst = false) (hi : i ≠ .bypass) (hid : i ≠ .idcode) (hsm : i ≠ .sample) :
    ((s.tapBypass tdi).tapLoad i).padMode = .functional := by
  have hperst : ((s.tapBypass tdi).tapLoad i).pins.perst = false := h
  have htap : ((s.tapBypass tdi).tapLoad i).pins.tap = i := rfl
  cases i <;> simp_all [State.padMode, State.tapActs]

end Sys2Proof.Laws
end

section
/-! The statements about steps, the commands that complete, the state reset leaves, and the test access port. -/

namespace Sys2Proof.Proofs

open Machine Laws

/-! ## Steps -/

theorem stepFront : Claims.stepFront := fun _ _ _ => rfl

theorem stepIdles : Claims.stepIdles := fun s h => by rw [step, h]

theorem idleInReset : Claims.idleInReset := fun s h hm => by rw [stepIdles s h, State.idle, State.settle, if_pos hm]

theorem wordsSpellNothing : Claims.wordsSpellNothing := fun _ _ _ => ⟨rfl, rfl⟩

/-- Settles O1: a step is the meaning of the command at the front, or an idle step, which in RESET is a nanosecond. -/
theorem stepServesQueue : Obligations.StepServesQueue := ⟨stepFront, stepIdles, idleInReset, wordsSpellNothing⟩

/-! ## Commands that complete -/

theorem allComplete : Claims.allComplete := by
  intro c s h
  cases c with
  | hostRequestRx p t => exact ⟨_, if_pos h⟩
  | targetRequestRx p t => exact ⟨_, if_pos h⟩
  | completionRx p t => exact ⟨_, if_pos h⟩
  | targetErrorMessage p t unc cor hdr => exact exec_targetErrorMessage_next h
  | fabricPacketRx p f => exact ⟨_, if_pos h⟩
  | _ => exact ⟨_, rfl⟩

theorem illFormedFaults : Claims.illFormedFaults := by
  intro c s h
  cases c with
  | hostRequestRx p t => exact if_neg (Bool.eq_false_iff.mp h)
  | targetRequestRx p t => exact if_neg (Bool.eq_false_iff.mp h)
  | completionRx p t => exact if_neg (Bool.eq_false_iff.mp h)
  | targetErrorMessage p t unc cor hdr => exact if_pos (congrArg Bool.not h)
  | fabricPacketRx p f => exact if_neg (Bool.eq_false_iff.mp h)
  | _ => exact Bool.noConfusion h

/-- Settles O2: the five commands that bring a packet are the ones that can fault, where the packet's parts do not agree. -/
theorem everyCommandCompletes : Obligations.EveryCommandCompletes := ⟨allComplete, illFormedFaults⟩

/-! ## Reset -/

theorem stateAfterReset : Claims.resetState := ⟨rfl, rfl, rfl, fun _ _ => rfl, fun _ => rfl, rfl, rfl, rfl, rfl⟩

theorem resetTakesNothing : Claims.resetTakesNothing := fun _ h =>
  ⟨fun _ _ _ _ => congrArg Host.Outcome.next (if_pos h), fun _ _ _ => congrArg Host.Outcome.next (if_pos h),
    fun _ => congrArg Host.Outcome.next (if_pos h), fun _ => congrArg Host.Outcome.next (if_pos h),
    fun _ _ _ => congrArg Host.Outcome.next (if_pos h)⟩

/-- Settles O3: the reset state lists no register and nothing that waits, and in RESET an access leaves the state as it is. -/
theorem resetState : Obligations.ResetState := ⟨stateAfterReset, resetTakesNothing⟩

/-! ## The test access port -/

theorem tapIdcode : Claims.tapIdcode := fun _ => ⟨rfl, rfl⟩

theorem tapBypass : Claims.tapBypass := fun _ _ => rfl

theorem tapSample : Claims.tapSample := fun _ _ _ => rfl

theorem tapDrives : Claims.tapDrives := fun _ _ _ h =>
  ⟨congrArg Host.Outcome.next (tapGuarded_asserted h), congrArg Host.Outcome.next (tapGuarded_asserted h),
    congrArg Host.Outcome.next (tapGuarded_asserted h), congrArg Host.Outcome.next (tapGuarded_asserted h),
    congrArg Host.Outcome.next (tapGuarded_asserted h)⟩

theorem tapActsAsBypass : Claims.tapActsAsBypass := fun _ _ _ h =>
  ⟨congrArg Host.Outcome.next (tapGuarded_released h), congrArg Host.Outcome.next (tapGuarded_released h),
    congrArg Host.Outcome.next (tapGuarded_released h), congrArg Host.Outcome.next (tapGuarded_released h),
    congrArg Host.Outcome.next (tapGuarded_released h), padMode_released h (by decide) (by decide) (by decide),
    padMode_released h (by decide) (by decide) (by decide)⟩

/-- Settles O60: an instruction shifts its register, and those that drive the pads take effect while PERST_N is asserted. -/
theorem testAccessPort : Obligations.TestAccessPort := ⟨tapIdcode, tapBypass, tapSample, tapDrives, tapActsAsBypass⟩

end Sys2Proof.Proofs
end

section
/-! SUPPORT. What raising an event and writing the journal may touch (R221, R222, R297): a relation that every update in them keeps. -/

namespace Sys2Proof.Laws

open Machine

/-! ## The relation -/

/-- The state without its registers, Corber's state, the error state and what is sent. -/
def bare (s : State) : State := { s with regs := [], crb := {}, err := {}, sent := [] }

/-- Corber's state without its sequence of events, subscribers, and the packets that wait for them. -/
def bareCrb (c : CorberState) : CorberState := { c with evtSeq := 0, subs := [], outbox := [], hostOut := [] }

/-- The error state without the journal and what flash keeps of it. -/
def bareErr (e : ErrState) : ErrState := { e with journal := [], flashJournal := [], flashHeld := [] }

/-- From `s` to `t` nothing changes but the words at the offsets `L`, the events of Corber's state, what is sent, and what `K` leaves out of
the error state. -/
structure Touches (L : List Nat) (K : ErrState → ErrState) (s t : State) : Prop where
  rest : bare t = bare s
  crb : bareCrb t.crb = bareCrb s.crb
  err : K t.err = K s.err
  regs : ∀ a, a ∉ L → ∀ d, regAt t.regs a d = regAt s.regs a d

variable {L M : List Nat} {K : ErrState → ErrState} {s t u : State}

theorem Touches.refl (s : State) : Touches L K s s := ⟨rfl, rfl, rfl, fun _ _ _ => rfl⟩

theorem Touches.trans (h : Touches L K s t) (h' : Touches L K t u) : Touches L K s u :=
  ⟨h'.rest.trans h.rest, h'.crb.trans h.crb, h'.err.trans h.err, fun a ha d => (h'.regs a ha d).trans (h.regs a ha d)⟩

theorem Touches.mono (h : Touches L K s t) (hl : L ⊆ M) : Touches M K s t :=
  ⟨h.rest, h.crb, h.err, fun a ha => h.regs a fun hl' => ha (hl hl')⟩

/-! ## Single updates -/

theorem touches_wr {r : RegDesc} {i : Nat} {v : Word} (h : r.addr i ∈ L) : Touches L K s (s.wr r i v) :=
  ⟨rfl, rfl, rfl, fun _ ha _ => regAt_wr_other fun he => ha (he ▸ h)⟩

theorem touches_setFld {f : Fld} {i v : Nat} (h : f.reg.addr i ∈ L) : Touches L K s (s.setFld f i v) := touches_wr h

theorem touches_setBitAt {a b : Nat} (h : a ∈ L) : Touches L K s (s.setBitAt a b) :=
  ⟨rfl, rfl, rfl, fun x hx d => by
    have hne : x ≠ a := fun he => hx (he ▸ h)
    simp only [State.setBitAt, regAt, look_put_ne _ hne]⟩

/-- A count touches its counter and the word of its OVF bit. -/
theorem touches_bump {r : RegDesc} {i a b : Nat} (hk : r.kind = .sat (some (a, b))) (hr : r.addr i ∈ L) (ha : a ∈ L) :
    Touches L K s (s.bump r i) := by
  rcases Nat.lt_or_ge ((s.rd r i).toNat + 1) 0xFFFFFFFF with h | h
  · rw [State.bump, bumpBy_below Nat.one_ne_zero h]
    exact touches_wr hr
  · rw [State.bump, bumpBy_full Nat.one_ne_zero hk h]
    exact (touches_wr hr).trans (touches_setBitAt ha)

theorem touches_onCrb {f : CorberState → CorberState} (h : bareCrb (f s.crb) = bareCrb s.crb) : Touches L K s (s.onCrb f) :=
  ⟨rfl, h, rfl, fun _ _ _ => rfl⟩

theorem touches_onErr {f : ErrState → ErrState} (h : K (f s.err) = K s.err) : Touches L K s (s.onErr f) :=
  ⟨rfl, rfl, h, fun _ _ _ => rfl⟩

theorem touches_emit (e : Emission) : Touches L K s (s.emit e) := ⟨rfl, rfl, rfl, fun _ _ _ => rfl⟩

theorem touches_each {α : Type} {f : State → α → State} (h : ∀ s a, Touches L K s (f s a)) (l : List α) : Touches L K s (s.each l f) := by
  induction l generalizing s with
  | nil => exact .refl s
  | cons a l ih => exact (h s a).trans ih

theorem touches_whenb {c : Bool} {f : State → State} (h : Touches L K s (f s)) : Touches L K s (s.whenb c f) := by
  cases c
  · exact .refl s
  · exact h

theorem touches_ite {c : Prop} [Decidable c] (ht : Touches L K s t) (hu : Touches L K s u) : Touches L K s (if c then t else u) := by
  split
  · exact ht
  · exact hu

/-! ## Events (R297) -/

/-- The words the count of lost events touches. -/
def lostWords : List Nat := [R.MGT_CRB_EVT_LOST_CNT.addr 0, R.MGT_CNT_OVF.addr 0]

theorem touches_deliver (hl : lostWords ⊆ L) (b : Subscriber) (body : List Byte) : Touches L K s (s.deliver b body) := by
  have hlost : Touches L K s (s.bump R.MGT_CRB_EVT_LOST_CNT) := touches_bump rfl (hl (by decide)) (hl (by decide))
  unfold State.deliver
  dsimp only
  split
  · split
    · exact (touches_onCrb rfl).trans (touches_onCrb rfl)
    · exact hlost.trans (touches_onCrb rfl)
  · split
    · exact (touches_onCrb rfl).trans (touches_onCrb rfl)
    · exact (touches_emit _).trans (touches_onCrb rfl)

theorem touches_corberEvent (hl : lostWords ⊆ L) (group sev : Nat) (body : List Byte) : Touches L K s (s.corberEvent group sev body) :=
  (touches_onCrb rfl).trans (touches_each (fun _ b => touches_deliver hl b body) _)

theorem touches_raise {f : Fld} {i : Nat} (hf : f.reg.addr i ∈ L) (hl : lostWords ⊆ L) : Touches L K s (s.raise f i) := by
  have hset : Touches L K s (s.setFld f i 1) := touches_setFld hf
  unfold State.raise
  dsimp only
  split
  · exact .refl s
  · split
    · exact hset
    · exact touches_ite (hset.trans (touches_corberEvent hl ..)) hset

/-! ## The journal (R221, R222) -/

/-- The words the journal touches. -/
def journalWords : List Nat :=
  [R.ERR_JRNL_SEQ, R.ERR_JRNL_STATUS, R.ERR_JRNL_OVERWRITE_CNT, R.ERR_JRNL_COALESCE_CNT, R.ERR_STATUS, R.ERR_EVT, R.ERR_FLASH_FENCED_CNT,
    R.ERR_CNT_OVF, R.MGT_CRB_EVT_LOST_CNT, R.MGT_CNT_OVF].map (·.addr 0)

theorem lostWords_subset : lostWords ⊆ journalWords := by decide

theorem touches_recordError (cls : Nat) (w : Where) : Touches journalWords bareErr s (s.recordError cls w) := by
  unfold State.recordError
  dsimp only
  split
  · exact (touches_onErr rfl).trans (touches_bump rfl (by decide) (by decide))
  · refine touches_ite (Touches.trans ?_ (touches_corberEvent lostWords_subset ..)) ?_
    all_goals
      refine Touches.trans (((touches_onErr rfl).trans (touches_setFld (by decide))).trans (touches_setFld (by decide))) (touches_whenb ?_)
      exact (((touches_bump rfl (by decide) (by decide)).trans (touches_setFld (by decide))).trans (touches_setFld (by decide))).trans
        (touches_raise (by decide) lostWords_subset)

theorem touches_flashFatal (e : JournalEntry) : Touches journalWords bareErr s (s.flashFatal e) := by
  unfold State.flashFatal
  dsimp only
  split
  · exact .refl s
  · split
    · exact ((((touches_onErr rfl).trans (touches_bump rfl (by decide) (by decide))).trans (touches_setFld (by decide))).trans
        (touches_raise (by decide) lostWords_subset)).trans (touches_recordError ..)
    · exact touches_onErr rfl

theorem touches_journal (cls : Nat) (w : Where) : Touches journalWords bareErr s (s.journal cls w) := by
  unfold State.journal
  dsimp only
  split
  · exact (touches_recordError ..).trans (touches_flashFatal _)
  · exact touches_recordError ..

end Sys2Proof.Laws
end

section
/-! The statement about what events and the journal change. -/

namespace Sys2Proof.Proofs

open Machine Laws

theorem raiseFrame : Claims.raiseFrame := by
  intro s f i
  have h : Touches (f.reg.addr i :: lostWords) id s (s.raise f i) := touches_raise (by simp) (by simp)
  refine ⟨congrArg₂ (fun (x : State) (e : ErrState) => { x with regs := s.regs, crb := s.crb, err := e, sent := s.sent }) h.rest h.err,
    congrArg (fun (c : CorberState) => { c with
      evtSeq := s.crb.evtSeq, subs := s.crb.subs, outbox := s.crb.outbox, hostOut := s.crb.hostOut }) h.crb, fun r j hf hl ho => ?_⟩
  exact h.regs _ (by simp [lostWords, hf, hl, ho]) _

theorem journalFrame : Claims.journalFrame := by
  intro s cls w
  have h : Touches journalWords bareErr s (s.journal cls w) := touches_journal cls w
  refine ⟨congrArg (fun (x : State) => { x with regs := s.regs, crb := s.crb, err := s.err, sent := s.sent }) h.rest,
    congrArg (fun (e : ErrState) => { e with
      journal := s.err.journal, flashJournal := s.err.flashJournal, flashHeld := s.err.flashHeld }) h.err,
    congrArg (fun (c : CorberState) => { c with
      evtSeq := s.crb.evtSeq, subs := s.crb.subs, outbox := s.crb.outbox, hostOut := s.crb.hostOut }) h.crb, fun r j hr => ?_⟩
  refine h.regs _ (fun hm => ?_) _
  obtain ⟨x, hx, he⟩ := List.mem_map.mp hm
  exact hr x hx he.symm

/-- Settles O8: every update that raising an event or writing the journal makes touches only the named words, Corber's events, the journal
and what is sent. -/
theorem eventsFrame : Obligations.EventsFrame := ⟨raiseFrame, journalFrame⟩

end Sys2Proof.Proofs
end

section
/-! SUPPORT. The flash under the program queue (R380), the end of an open image's write, and what the SPDM responder hears (R384, R385). -/

namespace Sys2Proof.Laws

open Machine

variable {s t : State} {i o n : Nat} {b : List Byte} {l : List (Nat × List Byte)}

/-- What holds before a list of updates, and is kept by each of them, holds behind them. -/
theorem each_keeps {α : Type} {P : State → Prop} {f : State → α → State} (l : List α) (h0 : P s) (h : ∀ t, ∀ a ∈ l, P t → P (f t a)) :
    P (s.each l f) := by
  induction l generalizing s with
  | nil => exact h0
  | cons a l ih => exact ih (h s a (by simp) h0) fun t x hx => h t x (by simp [hx])

/-! ## Programming (R380) -/

/-- The oldest queued range of the open image is programmed. -/
theorem programmedOne_queued (ho : s.openImage ≠ 3) (hq : s.sec.queue = (o, b) :: l)
    (ht : t = (s.eraseFor s.openImage o b.length).flashProgram (slotBase s.openImage + o) b) :
    s.programmedOne = (t.onSec (fun y => { y with queue := l, programmed := y.programmed + b.length })).showFill := by
  subst ht
  simp only [State.programmedOne, hq, if_neg ho]

/-- What is queued and how full the queue is leave the flash as it is. -/
theorem flash_programmed (p : Nat) :
    ((s.onSec (fun y => { y with queue := l, programmed := y.programmed + p })).showFill).sec.flash = s.sec.flash := by
  rw [State.showFill, State.setFld_sec, State.onSec_sec]

/-- Programming changes nothing but the flash, what is told of it, and the words that show the queue. -/
theorem rest_programmed {u : State} {a : Nat} {g : SecState → SecState} (h : { s with sec := u.sec, sent := u.sent } = u) :
    { (((s.flashProgram a b).onSec g).showFill) with regs := u.regs, sec := u.sec, sent := u.sent } = u := by
  obtain ⟨⟩ := s
  obtain ⟨⟩ := u
  cases h
  rfl

/-- With nothing queued nothing is programmed. -/
theorem programmedOne_empty (hq : s.sec.queue = []) : s.programmedOne = s := by
  simp only [State.programmedOne, hq]

/-- From `s` to `t` only the flash and what is told of it changed: the flash is canonical, and its bytes outside the sectors that bytes
`o` to `o + n - 1` of image `i` touch are as they were. -/
structure Erased (i o n : Nat) (s t : State) : Prop where
  rest : { t with sec := s.sec, sent := s.sent } = s
  wf : Memory.wf t.sec.flash = true
  kept : ∀ x, x < slotBase i + sector * (o / sector) ∨ slotBase i + sector * ceilDiv (o + n) sector ≤ x → t.flashByte x = s.flashByte x

/-- Erasing changes nothing but the flash and what is told of it. -/
theorem rest_erased {u : State} {a k : Nat} {g : SecState → SecState} (h : { s with sec := u.sec, sent := u.sent } = u) :
    { ((s.flashErase a k).onSec g) with sec := u.sec, sent := u.sent } = u := by
  obtain ⟨⟩ := s
  obtain ⟨⟩ := u
  cases h
  rfl

/-- Then the registers are as they were. -/
theorem Erased.regs (h : Erased i o n s t) : t.regs = s.regs := by
  have hregs : ({ t with sec := s.sec, sent := s.sent } : State).regs = s.regs := by rw [h.rest]
  exact hregs

/-- Programming leaves the registers. -/
theorem regs_flashProgram {a : Nat} : (s.flashProgram a b).regs = s.regs := rfl

/-- Erasing for a range erases only sectors the range touches. -/
theorem eraseFor_erased (h : Memory.wf s.sec.flash = true) : Erased i o n s (s.eraseFor i o n) := by
  unfold State.eraseFor
  refine each_keeps (P := Erased i o n s) _ ⟨rfl, h, fun _ _ => rfl⟩ fun t k hk ht => ?_
  obtain ⟨j, hj, rfl⟩ := List.mem_map.mp (List.mem_filter.mp hk).1
  have hlt := List.mem_range.mp hj
  refine ⟨rest_erased ht.rest, wf_erase ht.wf, fun x hx => ?_⟩
  have hout : ¬(slotBase i + sector * (o / sector + j) ≤ x ∧ x < slotBase i + sector * (o / sector + j) + sector) := by
    unfold sector at hx hlt ⊢
    omega
  exact (byte_erase.trans (if_neg hout)).trans (ht.kept x hx)

/-- A byte of flash behind programming. -/
theorem flashByte_flashProgram {a x : Nat} (h : Memory.wf s.sec.flash = true) :
    (s.flashProgram a b).flashByte x = if a ≤ x ∧ x < a + b.length then b.getD (x - a) 0 else s.flashByte x := byte_putBytes h

/-- A range of bytes lies in the sectors it touches. -/
theorem range_in_sectors (o n : Nat) : sector * (o / sector) ≤ o ∧ o + n ≤ sector * ceilDiv (o + n) sector := by
  unfold ceilDiv sector
  omega

/-! ## The end of an open write (R380, R381) -/

/-- An image with nothing queued, whose sectors past its size are blank, is closed with the result of its verification. -/
theorem fwFinished_blank {r : Nat} {ok : Bool} (hf : s.sec.finishing = some i) (hq : s.sec.queue = [])
    (hb : (List.range 128).filter (fun k => s.sec.size ≤ sector * k && s.holdsData i k) = []) (hr : r = s.imageResult i ok)
    (ht : t = (if r = 1 then s else s.bump R.SEC_IMAGE_FAIL_CNT).setImage i (if r = 1 then 3 else 2)) :
    s.fwFinished ok = ((((t.onSec (fun y => { y with finishing := none, ranges := [], erased := [] })).setFld F.SEC_IMAGE_STATE.OPEN 0
      3).raise F.SEC_EVT.FW_FINISHED).finishAny 0x0807 stOk 0 (leBytes 1 r)) := by
  subst ht hr
  have hfail : s.whenb (s.imageResult i ok != 1) (fun s => s.bump R.SEC_IMAGE_FAIL_CNT) =
      if s.imageResult i ok = 1 then s else s.bump R.SEC_IMAGE_FAIL_CNT := by
    by_cases h : s.imageResult i ok = 1
    · rw [if_pos h, whenb_of_false (by simp [h])]
    · rw [if_neg h, whenb_of_true (by simp [h])]
  simp only [State.fwFinished, hf, hq, hb, List.isEmpty_nil, Bool.not_true, Bool.false_eq_true, if_false, State.each_nil, hfail]

/-- Without an image whose write ends nothing is verified. -/
theorem fwFinished_idle {ok : Bool} (hf : s.sec.finishing = none) : s.fwFinished ok = s := by
  simp only [State.fwFinished, hf]

/-! ## SPDM (R384, R385) -/

variable {r : Requester} {m : List Byte}

/-- While the firmware runs, a request out of DROWSE is counted and answered at once. -/
theorem spdmRx_awake (hf : s.firmwareUp = true) (hm : s.mode ≠ .drowse) (ht : t = (s.mctpWake r).bump R.SEC_SPDM_REQ_CNT) :
    s.spdmRx r m = (t.spdmAnswer r m).1.emit (.spdm r (t.spdmAnswer r m).2) := by
  subst ht
  rw [State.spdmRx, if_neg (by simp [hf]), if_neg hm, State.spdmNow]

/-- A request in DROWSE waits for the wake. -/
theorem spdmRx_drowse (hf : s.firmwareUp = true) (hm : s.mode = .drowse) :
    s.spdmRx r m = (s.onSec (fun y => { y with spdmHeld := y.spdmHeld ++ [(r, m)] })).mctpWake r := by
  rw [State.spdmRx, if_neg (by simp [hf]), if_pos hm]

/-- Without the firmware nothing answers. -/
theorem spdmRx_down (hf : s.firmwareUp = false) : s.spdmRx r m = s := by
  rw [State.spdmRx, if_pos (by simp [hf])]

/-- A connection that is kept is found. -/
theorem conn_setConn (s : State) (c : SpdmConn) : (s.setConn c).conn c.src = c := by
  simp [State.conn, State.setConn]

/-- The version and the code of a request are its first two bytes. -/
theorem spdm_head (v c : Byte) (m : List Byte) : bodyNat (v :: c :: m) 0 1 = v.toNat ∧ bodyNat (v :: c :: m) 1 1 = c.toNat := by
  simp [bodyNat, leNat]

end Sys2Proof.Laws
end

section
/-! The statements about the flash, firmware updates and attestation. -/

namespace Sys2Proof.Proofs

open Machine Laws

/-! ## Firmware updates -/

theorem flashProgramDone : Claims.flashProgramDone := fun _ _ _ _ _ ho hq ht => congrArg Host.Outcome.next (programmedOne_queued ho hq ht)

theorem flashIdle : Claims.flashIdle := fun _ hq => congrArg Host.Outcome.next (programmedOne_empty hq)

theorem fwFinishDone : Claims.fwFinishDone := fun _ _ _ _ _ hf hq hb hr ht => congrArg Host.Outcome.next (fwFinished_blank hf hq hb hr ht)

theorem fwFinishIdle : Claims.fwFinishIdle := fun _ _ hf => congrArg Host.Outcome.next (fwFinished_idle hf)

/-- Settles O58: the oldest queued range is programmed, and an image with nothing queued is closed with the result of its verification. -/
theorem firmwareUpdate : Obligations.FirmwareUpdate := ⟨flashProgramDone, flashIdle, fwFinishDone, fwFinishIdle⟩

/-- Settles O10: only sectors that the range touches are erased, and then the bytes of the range are stored. -/
theorem flashFrame : Obligations.FlashFrame := by
  intro s o b l hwf ho hq
  have he : Erased s.openImage o b.length s (s.eraseFor s.openImage o b.length) := eraseFor_erased hwf
  have hnext := flashProgramDone s _ o b l ho hq rfl
  generalize s.eraseFor s.openImage o b.length = u at he hnext
  obtain ⟨hlo, hhi⟩ := range_in_sectors o b.length
  refine ⟨_, hnext, ?_, fun k hk => ?_, fun x hx => ?_, ?_, fun r j hr => ?_⟩
  · rw [flash_programmed]
    exact wf_putBytes he.wf
  · rw [State.flashByte, flash_programmed, ← State.flashByte, flashByte_flashProgram he.wf, if_pos (by omega), Nat.add_sub_cancel_left]
  · rw [State.flashByte, flash_programmed, ← State.flashByte, flashByte_flashProgram he.wf, if_neg (by omega), he.kept x hx]
  · exact rest_programmed he.rest
  · rw [State.showFill, rd_setFld_other hr, State.rd, State.onSec_regs, regs_flashProgram, he.regs, ← State.rd]

/-! ## Attestation -/

theorem spdmAnswered : Claims.spdmAnswered := by
  intro s m eid p1 p2 r q x hf hm hq hx
  subst hq
  have h (b : List Byte) := spdmRx_awake (m := b) hf hm hx
  exact ⟨fun _ => congrArg Host.Outcome.next ((h _).trans rfl), congrArg Host.Outcome.next ((h _).trans rfl),
    congrArg Host.Outcome.next ((h _).trans rfl), congrArg Host.Outcome.next ((h _).trans rfl),
    congrArg Host.Outcome.next ((h _).trans rfl), congrArg Host.Outcome.next ((h _).trans rfl),
    congrArg Host.Outcome.next ((h _).trans rfl), congrArg Host.Outcome.next ((h _).trans rfl)⟩

theorem spdmVersion13 : Claims.spdmVersion13 := by
  intro s q m
  refine ⟨rfl, ?_⟩
  rw [State.spdmVersion, conn_setConn]

theorem spdmOtherVersion : Claims.spdmOtherVersion := by
  intro s q v c r hv hc
  obtain ⟨hversion, hcode⟩ := spdm_head v c r
  have hv' : v.toNat ≠ 0x13 := fun h => hv (BitVec.eq_of_toNat_eq h)
  have hc' : c.toNat ≠ 0x84 := fun h => hc (BitVec.eq_of_toNat_eq h)
  simp only [State.spdmAnswer, hversion, hcode, if_neg hc', if_pos hv']
  rfl

theorem spdmOutOfOrder : Claims.spdmOutOfOrder := fun _ _ _ h => ⟨if_pos h, if_pos h, if_pos h⟩

theorem spdmHeld : Claims.spdmHeld := fun _ _ _ _ _ _ _ =>
  ⟨fun hf hm => congrArg Host.Outcome.next (spdmRx_drowse hf hm), fun hf => congrArg Host.Outcome.next (spdmRx_down hf)⟩

/-- Settles O59: a request is answered by its code, unless its version or the connection's level stands in its way, or the device sleeps. -/
theorem attestation : Obligations.Attestation := ⟨spdmAnswered, spdmVersion13, spdmOtherVersion, spdmOutOfOrder, spdmHeld⟩

end Sys2Proof.Proofs
end

section
/-! SUPPORT. Corber's rings, its messages over MCTP and its fragments on the whey channel (R298 to R300): what each comes to, by the
condition that decides it. -/

namespace Sys2Proof.Laws

open Machine

variable {s t : State}

/-! ## The request ring (R298) -/

/-- Both bytes written: the tail is the host's. -/
theorem reqTail_both (tail : BitVec 12) : s.reqTail tail 3 = tail.toNat := Nat.mod_add_div ..

/-- No byte written: the tail stays. -/
theorem reqTail_none (tail : BitVec 12) : s.reqTail tail 0 = s.fld F.MGT_CRB_REQ_TAIL.IDX := Nat.mod_add_div ..

/-- A doorbell of rings that do not run only puts the tail. -/
theorem doorbell_stopped {tail : Nat} (hm : s.mode ≠ .reset) (ht : t = s.setFld F.MGT_CRB_REQ_TAIL.IDX 0 (tail % 2 ^ s.crb.ringSet.req))
    (hst : t.fld F.MGT_CRB_STATUS.STATE ≠ 1) : s.doorbell tail = t := by
  subst ht
  simp only [State.doorbell, if_neg hm, if_pos hst]

/-- A doorbell of rings that run has what waits there read. -/
theorem doorbell_running {tail : Nat} (hm : s.mode ≠ .reset) (hd : s.mode ≠ .drowse)
    (ht : t = s.setFld F.MGT_CRB_REQ_TAIL.IDX 0 (tail % 2 ^ s.crb.ringSet.req)) (hst : t.fld F.MGT_CRB_STATUS.STATE = 1) :
    s.doorbell tail = t.drainRing := by
  subst ht
  simp only [State.doorbell, if_neg hm, hst, State.setFld_mode, hd, ne_eq, not_true_eq_false, if_false]

/-- With no packet read before and no reply waiting, what waits is read from host memory. -/
theorem drainRing_fetches (ht : t = s.ringEnds) (hrun : t.ringsRun = true) (hheld : t.crb.heldReplies = []) (hwait : t.crb.ringWait = []) :
    s.drainRing = t.ringFetch := by
  subst ht
  have hgo : (!s.ringEnds.ringsRun || !s.ringEnds.crb.heldReplies.isEmpty) = false := by simp [hrun, hheld]
  simp only [State.drainRing, hwait, State.readRing, hgo, Bool.false_eq_true, if_false]

/-- Without a function to read them, waiting slots leave the rings in error 2. -/
theorem ringFetch_noFunction (hw : s.ringWaiting ≠ 0) (hr : s.ringReading = false) (hf : s.fnRuns 0 = none) : s.ringFetch = s.ringError 2 := by
  have hn : min s.ringWaiting 16 ≠ 0 := by omega
  simp only [State.ringFetch, hn, hr, hf, decide_false, Bool.or_self, Bool.false_eq_true, if_false]

/-! ## The rings' control word (R298) -/

/-- The word of three ring sizes, with ENABLE 0. -/
def ringSizes (a b c : Fin 16) : Nat := 4 * a.val + 64 * b + 1024 * c

/-- A write of ENABLE 1 to rings that are off keeps the sizes of the word and enables the rings. -/
theorem ringCtrl_enables (a b c : Fin 16) (hoff : s.flag F.MGT_CRB_CTRL.ENABLE = false) :
    s.ringCtrl (b2n true + 4 * a + 64 * b + 1024 * c) = (s.wr R.MGT_CRB_CTRL 0 (BitVec.ofNat 32 (ringSizes a b c))).ringEnable := by
  have hw : b2n true + 4 * a.val + 64 * b + 1024 * c = ringSizes a b c + 1 := by
    simp only [ringSizes, b2n, if_true]
    omega
  have hland : Nat.land (ringSizes a b c + 1) 3 = (ringSizes a b c + 1) % 4 := Nat.and_two_pow_sub_one_eq_mod _ 2
  have hkeep : setBits (ringSizes a b c + 1 - (ringSizes a b c + 1) % 4) 0 1 (b2n false) = ringSizes a b c := by
    rw [setBits_parts]
    simp only [ringSizes, b2n, Bool.false_eq_true, if_false]
    omega
  have hbit : bits (ringSizes a b c + 1) 0 1 = 1 := by
    unfold ringSizes bits
    omega
  simp only [State.ringCtrl, hw, hoff, hland, hkeep, hbit, decide_true, Bool.not_false, Bool.and_self, if_true]

/-- The sizes stand in the word once ENABLE is set. -/
theorem ringSizes_read (a b c : Fin 16) (hs : rising s.regs = true)
    (ht : t = (s.wr R.MGT_CRB_CTRL 0 (BitVec.ofNat 32 (ringSizes a b c))).setFld F.MGT_CRB_CTRL.ENABLE 0 1) :
    t.fld F.MGT_CRB_CTRL.REQ_LOG2 = a ∧ t.fld F.MGT_CRB_CTRL.RPL_LOG2 = b ∧ t.fld F.MGT_CRB_CTRL.EVT_LOG2 = c := by
  have hlt : ringSizes a b c < 2 ^ 32 := by
    unfold ringSizes
    omega
  have hword (f : Fld) (hf : f.reg = R.MGT_CRB_CTRL) (hlo : 1 ≤ f.lo) : t.fld f = bits (ringSizes a b c) f.lo f.width := by
    rw [ht, fld_setFld_beside (f := F.MGT_CRB_CTRL.ENABLE) (rising_wr hs) (by decide) hf (.inr hlo), State.fld, hf,
      rd_wr_same hs, BitVec.toNat_ofNat, Nat.mod_eq_of_lt hlt]
  refine ⟨(hword _ rfl (by decide)).trans ?_, (hword _ rfl (by decide)).trans ?_, (hword _ rfl (by decide)).trans ?_⟩
  all_goals
    simp only [ringSizes, bits, F.MGT_CRB_CTRL.REQ_LOG2, F.MGT_CRB_CTRL.RPL_LOG2, F.MGT_CRB_CTRL.EVT_LOG2]
    omega

/-- Rings with a size out of range are in error 1. -/
theorem ringEnable_bad {a b c : Nat} (ht : t = s.setFld F.MGT_CRB_CTRL.ENABLE 0 1)
    (hread : t.fld F.MGT_CRB_CTRL.REQ_LOG2 = a ∧ t.fld F.MGT_CRB_CTRL.RPL_LOG2 = b ∧ t.fld F.MGT_CRB_CTRL.EVT_LOG2 = c)
    (hbad : (badLog2 a || badLog2 b || badLog2 c) = true) : s.ringEnable = t.ringError 1 := by
  subst ht
  obtain ⟨ha, hb, hc⟩ := hread
  simp only [State.ringEnable, ha, hb, hc, hbad, if_true, State.ringError]

/-- Rings with sizes in their range start at their bases, as subscriber 0. -/
theorem ringEnable_starts {a b c : Nat} (ht : t = s.setFld F.MGT_CRB_CTRL.ENABLE 0 1)
    (hread : t.fld F.MGT_CRB_CTRL.REQ_LOG2 = a ∧ t.fld F.MGT_CRB_CTRL.RPL_LOG2 = b ∧ t.fld F.MGT_CRB_CTRL.EVT_LOG2 = c)
    (hgood : (badLog2 a || badLog2 b || badLog2 c) = false) :
    s.ringEnable = ((t.setFld F.MGT_CRB_STATUS.STATE 0 1).setFld F.MGT_CRB_STATUS.ERR 0 0).onCrb (fun y => { y with
      ringSet := {
        req := a, rpl := b, evt := c
        reqBase := t.pair R.MGT_CRB_REQ_BASE_LO R.MGT_CRB_REQ_BASE_HI 0
        rplBase := t.pair R.MGT_CRB_RPL_BASE_LO R.MGT_CRB_RPL_BASE_HI 0
        evtBase := t.pair R.MGT_CRB_EVT_BASE_LO R.MGT_CRB_EVT_BASE_HI 0 }
      subs := { idx := 0, src := .rings, mask := 0xFFF, minSev := 0 } :: y.subs.filter (fun (x : Subscriber) => x.src != .rings) }) := by
  subst ht
  obtain ⟨ha, hb, hc⟩ := hread
  simp only [State.ringEnable, ha, hb, hc, hgood, Bool.false_eq_true, if_false]

/-- Four to twelve is the range of a ring's size. -/
theorem badLog2_eq_false {n : Nat} (hlo : 4 ≤ n) (hhi : n ≤ 12) : badLog2 n = false := by
  simp only [badLog2, Nat.not_lt.mpr hlo, Nat.not_lt.mpr hhi, decide_false, Bool.or_self]

/-- A write of ENABLE 1 with three sizes outside RESET. -/
theorem exec_crbRingEnable {a b c : Fin 16} (hm : s.mode ≠ .reset) (hoff : s.flag F.MGT_CRB_CTRL.ENABLE = false) :
    exec (.crbRingEnable a b c true) s = .next (s.wr R.MGT_CRB_CTRL 0 (BitVec.ofNat 32 (ringSizes a b c))).ringEnable := by
  show execCrbRingEnable a b c true s = _
  rw [execCrbRingEnable, if_neg hm, ringCtrl_enables a b c hoff]

/-! ## MCTP (R299) -/

variable {m : Fin 3} {eid : BitVec 8} {b : List Byte}

/-- A native Corber packet arrives as a request. -/
theorem mctpRx_native (hm : s.mode ≠ .reset) (hon : s.mctpOn m = true) (hb : 16 ≤ b.length) :
    s.mctpRx m eid ([0x7E, 0x7E, 0x1D, 0x01] ++ b) = s.arrive (parsePacket (.mctp m eid) b).1 (parsePacket (.mctp m eid) b).2 := by
  simp [State.mctpRx, hm, hon, bodyNat, leNat, hb]

/-- A packet in the DK-96 form arrives as a request. -/
theorem mctpRx_dk96 (hm : s.mode ≠ .reset) (hon : s.mctpOn m = true) (hb : 12 ≤ b.length) :
    s.mctpRx m eid ([0x7E, 0x7E, 0x1D, 0x00] ++ b) = s.arrive (parseDk96 (.mctp m eid) b).1 (parseDk96 (.mctp m eid) b).2 := by
  simp [State.mctpRx, hm, hon, bodyNat, leNat, hb]

/-- A CXL FM API request out of DROWSE is answered. -/
theorem mctpRx_fm (hm : s.mode ≠ .reset) (hon : s.mctpOn m = true) (hb : 12 ≤ b.length) (hd : s.mode ≠ .drowse) :
    s.mctpRx m eid (0x07 :: b) = s.fmNow (.mctp m eid) b := by
  simp [State.mctpRx, hm, hon, hb, hd]

/-- An SPDM message reaches its responder. -/
theorem mctpRx_spdm (hm : s.mode ≠ .reset) (hon : s.mctpOn m = true) : s.mctpRx m eid (0x05 :: b) = s.spdmRx (.mctp m eid) b := by
  simp [State.mctpRx, hm, hon]

/-! ## Fragments (R300) -/

variable {o l n : Nat}

/-- The first fragment of a packet, where it is not the last and there is room, opens a reassembly. -/
theorem fragRx_first (hn : n = bits (bodyNat b 2 1) 1 5) (hfrag : bodyNat b 1 1 = 0) (hlast : bits (bodyNat b 2 1) 0 1 = 0) (h0 : n ≠ 0)
    (h20 : n ≤ 20) (hlen : b.length = 4 + n)
    (hnew : s.crb.reasm.find? (fun (x : Reasm) => x.origin == o && x.msgId == bodyNat b 0 1) = none) (hroom : s.crb.reasm.length < 16) :
    s.fragRx o l b = (s.arm .reasm (reasmKey o (bodyNat b 0 1)) (ms 1)).onCrb (fun y => { y with
      reasm := y.reasm.filter (fun (z : Reasm) => !(z.origin == o && z.msgId == bodyNat b 0 1)) ++
        [{ origin := o, msgId := bodyNat b 0 1, nextFrag := 1, data := (b.drop 4).take n }] }) := by
  subst hn
  simp [State.fragRx, hfrag, hlast, h0, Nat.not_lt.mpr h20, hlen, hnew, Nat.not_le.mpr hroom]

/-- The last fragment, in its order, makes the packet whole. -/
theorem fragRx_last {x : Reasm} (hx : s.crb.reasm.find? (fun (x : Reasm) => x.origin == o && x.msgId == bodyNat b 0 1) = some x)
    (hfrag : x.nextFrag = bodyNat b 1 1) (hn : n = bits (bodyNat b 2 1) 1 5) (hlast : bits (bodyNat b 2 1) 0 1 = 1) (h0 : n ≠ 0)
    (h20 : n ≤ 20) (hlen : b.length = 4 + n) :
    s.fragRx o l b = (s.reasmDrop o (bodyNat b 0 1)).wheyPacket o l (x.data ++ (b.drop 4).take n) := by
  subst hn
  simp [State.fragRx, hfrag, hlast, h0, Nat.not_lt.mpr h20, hlen, hx]

/-- A reassembly whose time is over is dropped and counted. -/
theorem reasmTimeout_due {msg : Nat} (hd : s.due .reasm (reasmKey o msg) = true)
    (hr : s.crb.reasm.any (fun (x : Reasm) => x.origin == o && x.msgId == msg) = true) :
    s.reasmTimeout o msg = (s.reasmDrop o msg).bump R.MGT_CRB_FRAG_ERR_CNT := by
  rw [State.reasmTimeout, hd, hr, Bool.and_self, if_pos rfl]

/-! ## Malacel (R219) -/

/-- Firmware that was away answers again, and handles the messages that queued. -/
theorem malacelReady_returns (hr : s.mode ≠ .reset) (hb : s.mode ≠ .boot) (hf : s.flag F.MGT_CRB_STATUS.FW_READY = false) :
    s.malacelReady = (((s.onErr (fun y => { y with msgQueue := [] })).setFld F.MGT_CRB_STATUS.FW_READY 0 1).each s.err.msgQueue
      (fun s m => s.targetError m.1 m.2.1 m.2.2.1 m.2.2.2.1 m.2.2.2.2)).drainRing := by
  simp only [State.malacelReady, hr, hb, hf, decide_false, Bool.or_self, Bool.false_eq_true, if_false]

end Sys2Proof.Laws
end

section
/-! The statement about Corber's rings, MCTP and whey transports. -/

namespace Sys2Proof.Proofs

open Machine Laws

/-! ## Rings -/

theorem crbReqDoorbell : Claims.crbReqDoorbell := by
  intro s t tail be hm hd ht
  refine ⟨fun hst => congrArg Host.Outcome.next (doorbell_stopped hm ht hst), fun hst => ?_, reqTail_both tail, reqTail_none tail⟩
  have hdrain := doorbell_running hm hd ht hst
  refine ⟨congrArg Host.Outcome.next hdrain, fun h => ?_⟩
  simp only [Bool.and_eq_true, List.isEmpty_iff] at h
  obtain ⟨⟨⟨-, hrun⟩, hheld⟩, hwait⟩ := h
  exact congrArg Host.Outcome.next (hdrain.trans (drainRing_fetches rfl hrun hheld hwait))

theorem crbReqDoorbellFails : Claims.crbReqDoorbellFails := by
  intro s t tail be hm hd ht hst hends hrun hheld hwait hslots hreading hfn
  exact congrArg Host.Outcome.next
    ((doorbell_running hm hd ht hst).trans ((drainRing_fetches hends.symm hrun hheld hwait).trans (ringFetch_noFunction hslots hreading hfn)))

theorem crbRplHeadWrite : Claims.crbRplHeadWrite := fun _ _ hm => congrArg Host.Outcome.next (if_neg hm)

theorem crbRingEnable : Claims.crbRingEnable := by
  intro s t a b c hs hm hoff ha ha' hb hb' hc hc' ht
  have hgood : (badLog2 a || badLog2 b || badLog2 c) = false := by
    rw [badLog2_eq_false ha ha', badLog2_eq_false hb hb', badLog2_eq_false hc hc']
    rfl
  exact (exec_crbRingEnable hm hoff).trans (congrArg Host.Outcome.next (ringEnable_starts ht (ringSizes_read a b c hs ht) hgood))

theorem crbRingEnableBad : Claims.crbRingEnableBad := by
  intro s a b c hs hm hoff hbad
  rw [exec_crbRingEnable hm hoff, ringEnable_bad rfl (ringSizes_read a b c hs rfl) hbad]
  rfl

theorem crbRingReset : Claims.crbRingReset := by
  rintro s t hm rfl
  exact ⟨congrArg Host.Outcome.next (if_neg hm), rfl, rfl, rfl⟩

/-! ## MCTP -/

theorem mctpNative : Claims.mctpNative := fun _ _ _ _ hm hon hb => congrArg Host.Outcome.next (mctpRx_native hm hon hb)

theorem mctpDk96 : Claims.mctpDk96 := fun _ _ _ _ hm hon hb => congrArg Host.Outcome.next (mctpRx_dk96 hm hon hb)

theorem mctpOthers : Claims.mctpOthers := fun _ _ _ _ hm hon =>
  ⟨fun hb hd => congrArg Host.Outcome.next (mctpRx_fm hm hon hb hd), congrArg Host.Outcome.next (mctpRx_spdm hm hon)⟩

/-! ## Fragments -/

theorem crbFragFirst : Claims.crbFragFirst := by
  rintro s l o b msg n rfl hn hfrag hlast h0 h20 hlen hnew hroom
  exact congrArg Host.Outcome.next (fragRx_first hn hfrag hlast h0 h20 hlen hnew hroom)

theorem crbFragLast : Claims.crbFragLast := fun _ _ _ _ _ _ hx hfrag hn hlast h0 h20 hlen =>
  congrArg Host.Outcome.next (fragRx_last hx hfrag hn hlast h0 h20 hlen)

theorem crbAbort : Claims.crbAbort := fun _ _ _ => rfl

theorem crbReassemblyTimeout : Claims.crbReassemblyTimeout := fun _ _ _ hd hr => congrArg Host.Outcome.next (reasmTimeout_due hd hr)

theorem malacelReady : Claims.malacelReady := fun _ hr hb hf => congrArg Host.Outcome.next (malacelReady_returns hr hb hf)

/-- Settles O34: rings that run are read from their tail on, a message is told by its first bytes, a packet is whole with its last fragment,
and firmware that returns takes up what queued. -/
theorem corberTransports : Obligations.CorberTransports :=
  ⟨crbReqDoorbell, crbReqDoorbellFails, crbRplHeadWrite, crbRingEnable, crbRingEnableBad, crbRingReset, mctpNative, mctpDk96, mctpOthers,
    crbFragFirst, crbFragLast, crbAbort, crbReassemblyTimeout, malacelReady⟩

end Sys2Proof.Proofs
end

section
/-! SUPPORT. Resets and boot (chapters 13 and 15): when RESET is left, what a rail does, and the branches of the boot. -/

namespace Sys2Proof.Laws

open Machine

variable {s t u : State}

/-- A conditional change, by the proposition its condition decides. -/
theorem whenb_eq_ite {c : Bool} {p : Prop} [Decidable p] {f : State → State} (h : c = true ↔ p) :
    s.whenb c f = if p then f s else s := by
  by_cases hp : p
  · rw [whenb_of_true (h.mpr hp), if_pos hp]
  · rw [whenb_of_false (Bool.eq_false_iff.mpr (mt h.mp hp)), if_neg hp]

/-! ## Leaving RESET (R327, R402) -/

/-- RESET with every rail good and nothing that holds it ends in BOOT. -/
theorem leaveReset_boots (hm : s.mode = .reset) (hp : s.pins.perst = false) (ht : s.pins.tripped = false) (ha : s.pins.aux = true)
    (hc : s.pins.core = true) (hs : s.pins.sds = true) (hsa : s.pins.sdsA = true) (hi : s.pins.io = true) :
    s.leaveReset = (({ s with mode := .boot }.requestSds).showBoot).refSense := by
  simp only [State.leaveReset, hm, hp, ht, ha, hc, hs, hsa, hi, decide_true, Bool.not_false, Bool.and_self, if_true]

/-- A rail drops while Kalnum is powered and out of power-down: cold reset of cause 5. -/
theorem railDrop_powered {io : Bool} (hp : s.pins.perst = false) (ha : s.pins.aux = true) :
    s.railDrop io = (s.deviceReset false 5).onPins (fun y => if io then { y with io := false } else { y with core := false }) := by
  simp only [State.railDrop, hp, ha, Bool.not_true, Bool.or_self, Bool.false_eq_true, if_false]

/-- A thermal trip with VDD_AUX there. -/
theorem thermalTrip_powered (ha : s.pins.aux = true) :
    s.thermalTrip = ((s.deviceReset false 4).setFld F.PWR_AUX_STATUS.THERMTRIP_SEEN 0 1).onPins (fun y => { y with tripped := true }) := by
  rw [State.thermalTrip, ha]
  rfl

/-! ## Checking an image (R376) -/

/-- The boot ROM has checked the image that is next and not skipped: its result stands, and what fails is counted. -/
theorem bootChecked_result {i : Nat} {ok : Bool} (hm : s.mode = .boot) (hn : s.bootNext = some i) (hi : 1 < s.imageState i)
    (ht : t = if i = 0 then s.setFld F.SEC_BOOT_STATUS.RESULT_A 0 (s.imageResult i ok)
      else s.setFld F.SEC_BOOT_STATUS.RESULT_B 0 (s.imageResult i ok)) (hu : u = t.bump R.SEC_IMAGE_FAIL_CNT) :
    s.bootChecked i ok = if s.imageResult i ok = 1 then t.bootRun i else if u.bootNext = none then u.romHold else u := by
  subst hu
  have hgo : (decide (s.mode ≠ .boot) || decide (s.bootNext ≠ some i)) = false := by simp [hm, hn]
  simp only [State.bootChecked, hgo, Bool.false_eq_true, if_false, Nat.not_le.mpr hi, decide_false, Bool.not_false, Bool.and_true, ← ht]
  by_cases hr : s.imageResult i ok = 1
  · rw [if_pos hr, if_pos hr, whenb_of_false (bne_eq_false_iff_eq.mpr hr)]
  · rw [if_neg hr, if_neg hr, whenb_of_true (bne_iff_ne.mpr hr)]

/-! ## The firmware is ready (R377) -/

/-- BOOT_FIRMWARE_READY in BOOT with an image that runs. -/
theorem firmwareReady_hold {bad : List Nat} (hm : s.mode = .boot) (hr : s.runningImage ≠ 3) (hh : (s.banksTested bad).mode = .safeHold) :
    s.firmwareReady bad = (s.banksTested bad).setFld F.MGT_CRB_STATUS.FW_READY 0 1 := by
  simp only [State.firmwareReady, hm, hr, hh, ne_eq, not_true_eq_false, decide_false, Bool.or_self, Bool.false_eq_true, if_false, if_true]

/-- What BOOT restores after a reset that is not warm: the board record, and TRANSPARENT to resume in. -/
def restored (s : State) : State :=
  if s.fld F.PWR_AUX_STATUS.LAST_RESET = 3 then s else s.boardAtBoot.setFld F.PWR_MODE_CFG.RESUME_MODE 0 2

/-- `restored` is the two conditional steps of the boot. -/
theorem whenb_restored : (s.whenb (s.fld F.PWR_AUX_STATUS.LAST_RESET != 3) State.boardAtBoot).whenb (s.fld F.PWR_AUX_STATUS.LAST_RESET != 3)
    (fun s => s.setFld F.PWR_MODE_CFG.RESUME_MODE 0 2) = restored s := by
  unfold restored
  by_cases h : s.fld F.PWR_AUX_STATUS.LAST_RESET = 3
  · have hc := bne_eq_false_iff_eq.mpr h
    rw [whenb_of_false hc, whenb_of_false hc, if_pos h]
  · have hc := bne_iff_ne.mpr h
    rw [whenb_of_true hc, whenb_of_true hc, if_neg h]

/-- The mode BOOT ends in, as one choice of its code. -/
theorem bootMode_eq : s.bootMode = Mode.ofCode
    (if s.fld F.PWR_AUX_STATUS.LAST_RESET = 3 then s.fld F.PWR_MODE_CFG.RESUME_MODE else s.fld F.PWR_MODE_CFG.START_MODE) :=
  (apply_ite Mode.ofCode _ _ _).symm

end Sys2Proof.Laws
end

section
/-! The statement about resets and boot. -/

namespace Sys2Proof.Proofs

open Machine Laws

/-! ## Resets and rails -/

theorem perstNAssert : Claims.perstNAssert := fun _ => rfl

theorem resetLeaves : Claims.resetLeaves := by
  intro s warm
  cases warm <;> exact ⟨rfl, rfl, rfl, rfl, rfl, rfl, rfl⟩

theorem perstNRelease : Claims.perstNRelease := by
  rintro s _ rfl hm ht ha hc hs hsa hi
  exact congrArg Host.Outcome.next (leaveReset_boots hm rfl ht ha hc hs hsa hi)

theorem railsGood : Claims.railsGood := by
  rintro s _ rfl hm hp ht ha
  exact congrArg Host.Outcome.next (leaveReset_boots hm hp ht ha rfl rfl rfl rfl)

theorem vddAuxApplied : Claims.vddAuxApplied := fun _ => rfl

theorem vddAuxLost : Claims.vddAuxLost := fun _ => rfl

theorem railDrop : Claims.railDrop := fun _ hp ha =>
  ⟨congrArg Host.Outcome.next (railDrop_powered hp ha), congrArg Host.Outcome.next (railDrop_powered hp ha)⟩

theorem railLeavesGood : Claims.railLeavesGood := fun _ hm => congrArg Host.Outcome.next (if_neg hm)

theorem thermalTrip : Claims.thermalTrip := fun _ ha => congrArg Host.Outcome.next (thermalTrip_powered ha)

/-! ## Boot -/

theorem bootImageCheck : Claims.bootImageCheck := fun _ _ _ _ hm hn hi ht hu => congrArg Host.Outcome.next (bootChecked_result hm hn hi ht hu)

theorem bootFails : Claims.bootFails := by
  intro s t ok hm hn hi hr ht hnone
  have h := bootChecked_result hm hn hi rfl ht
  rw [if_neg hr, if_pos hnone] at h
  exact congrArg Host.Outcome.next h

theorem bootFirmwareHold : Claims.bootFirmwareHold := fun _ _ hm hr hh =>
  congrArg (fun x : State => Host.Outcome.next x.dmRun) (firmwareReady_hold hm hr hh)

theorem bootFirmwareReady : Claims.bootFirmwareReady := by
  intro s t a b c d e f g h k bad m hm hr ht hsafe ha hmode hb hc hd he hf hg hh hk
  refine congrArg (fun x : State => Host.Outcome.next x.dmRun) ?_
  have hgo : (decide (s.mode ≠ .boot) || decide (s.runningImage = 3)) = false := by simp [hm, hr]
  rw [State.firmwareReady, hgo, if_neg Bool.false_ne_true]
  extract_lets s1 cold s2 s3 m' s4 s5 s5' s6 s7 s8 s9 s10 s11
  have e1 : s1 = t := ht.symm
  have e3 : s3 = a := by
    rw [ha, ← e1]
    exact whenb_restored
  have em : m' = m := by rw [hmode, ← e3, ← bootMode_eq]
  have e4 : s4 = b := by
    rw [hb, ← e3, ← em]
    exact whenb_eq_ite (by simp only [Bool.or_eq_true, beq_iff_eq])
  have e5 : s5 = c := by
    rw [hc, ← e4, ← em]
    exact whenb_eq_ite beq_iff_eq
  have e6 : s6 = e := by rw [he, hd, ← e5]
  have e7 : s7 = f := by
    rw [hf, ← e6, ← em]
    exact whenb_eq_ite beq_iff_eq
  have e8 : s8 = g := by rw [hg, ← e7]
  have e9 : s9 = h := by
    rw [hh, ← e8]
    exact whenb_eq_ite Iff.rfl
  have e10 : s10 = k := by
    rw [hk, ← e9]
    exact whenb_eq_ite Iff.rfl
  rw [if_neg (e1 ▸ hsafe), ← e10]

theorem bootBanks : Claims.bootBanks := fun _ => rfl

/-- Settles O52: each reset is the one device reset with its cause, RESET is left with every rail, and the boot goes stage by stage. -/
theorem resetsAndBoot : Obligations.ResetsAndBoot :=
  ⟨perstNAssert, resetLeaves, perstNRelease, railsGood, vddAuxApplied, vddAuxLost, railDrop, railLeavesGood, thermalTrip, bootImageCheck,
    bootFails, bootFirmwareHold, bootFirmwareReady, bootBanks⟩

end Sys2Proof.Proofs
end

section
/-! SUPPORT. DROWSE, the core regulator and the supply sag (R328 to R340): the branches of their commands. -/

namespace Sys2Proof.Laws

open Machine

variable {s t : State}

/-! ## Entry to DROWSE (R328 to R330) -/

/-- The wait with a refuser that still holds, once its time is over. -/
theorem drowseWaitEnd_refused {c i : Nat} (hw : s.pwr.drowse = .waiting) (hr : s.firstRefuser = some (c, i)) (hd : s.due .drowseWait 0 = true) :
    s.drowseWaitEnd = s.drowseRefuse c i := by
  simp only [State.drowseWaitEnd, hw, hr, hd, if_true]

/-- The wait with a refuser that still holds goes on while its time runs. -/
theorem drowseWaitEnd_early {c i : Nat} (hw : s.pwr.drowse = .waiting) (hr : s.firstRefuser = some (c, i)) (hd : s.due .drowseWait 0 = false) :
    s.drowseWaitEnd = s := by
  simp only [State.drowseWaitEnd, hw, hr, hd, Bool.false_eq_true, if_false]

/-- With no refuser entry is accepted. -/
theorem drowseWaitEnd_accepted (hw : s.pwr.drowse = .waiting) (hr : s.firstRefuser = none) :
    s.drowseWaitEnd = (((s.disarm .drowseWait 0).onPwr (fun y => { y with drowse := .lowering })).onSvc (fun y => { y with
      lines := y.lines.map (fun (l : TraceLine) => { l with evicted := true }) })).drowseLower := by
  simp only [State.drowseWaitEnd, hw, hr]

/-! ## The wake (R331) -/

/-- One source that fires, other than the two that are no sources of their own and GPIO, is a wake by it. -/
theorem exec_drowseWakeSource_root (id : BitVec 12) : exec (.drowseWakeSource [(1, id)]) s = .next (s.wakeBy 1 id.toNat) := rfl

/-- A source whose enable is clear, and which is none of the two without an enable, wakes nothing. -/
theorem wakeBy_masked {src id : Nat} (h4 : src ≠ 4) (h8 : src ≠ 8) (hen : bits (s.rd R.PWR_WAKE_EN).toNat src 1 = 0) :
    s.wakeBy src id = s := by
  simp [State.wakeBy, h4, h8, hen]

/-- An enabled source wakes an asleep Kalnum. -/
theorem wakeBy_asleep {src id : Nat} (hz : s.pwr.drowse = .asleep) (hen : bits (s.rd R.PWR_WAKE_EN).toNat src 1 = 1)
    (ht : t = (s.wakeRecord src id).disarm .wake 0) :
    s.wakeBy src id = (State.onPwr { t with transition := true } (fun y => { y with
      drowse := .waking, wake := some (src, id, s.now) })).requestVoltage t.pwr.drowseMv .wake true := by
  subst ht
  have hgo : (!(src == 4 || src == 8 || bits (s.rd R.PWR_WAKE_EN).toNat src 1 == 1)) = false := by simp [hen]
  simp only [State.wakeBy, hgo, hz, Bool.false_eq_true, if_false]

/-! ## The core regulator (R333) -/

/-- The core voltage asked for is acknowledged, and a fault of the regulator is over. -/
def acknowledged (s : State) : State :=
  ((s.avsOver.setFld F.PWR_VCORE.ACK_MV 0 (s.fld F.PWR_VCORE.REQ_MV)).setFld F.PWR_STATUS.AVS_FAULT 0 0).raise F.PWR_EVT.VOLT_CHANGE

/-- The acknowledgement of the request of DROWSE. -/
theorem avsAck_drowse {up : Bool} {n : Nat} (h : s.pwr.avs = some (.drowse, up, n)) : s.avsAck 0 = (acknowledged s).drowseIn := by
  simp only [State.avsAck, h, if_true, acknowledged]

/-- The acknowledgement of the request of a wake. -/
theorem avsAck_wake {up : Bool} {n : Nat} (h : s.pwr.avs = some (.wake, up, n)) :
    s.avsAck 0 = (acknowledged s).wakeDone (s.flag F.PWR_STATUS.AVS_FAULT) := by
  simp only [State.avsAck, h, if_true, acknowledged]

/-- The acknowledgement on AVS1. -/
theorem avsAck_sds {n : Nat} (h : s.pwr.sds = some n) (ht : t = (s.onPwr (fun y => { y with sds := none })).disarm .avs 1) :
    s.avsAck 1 = (t.setFld F.PWR_VSDS.ACK_MV 0 (t.fld F.PWR_VSDS.REQ_MV)).setFld F.PWR_VSDS.PENDING 0 0 := by
  subst ht
  simp only [State.avsAck, h, Option.isNone_some, one_ne_zero, Bool.false_eq_true, if_false]

/-- No time to acknowledge is over. -/
theorem avsTimeout_early {bus : Nat} (hd : s.due .avs bus = false) : s.avsTimeout bus = s := by
  simp only [State.avsTimeout, hd, Bool.not_false, if_true]

/-- The time of a policy request is over: up to three more are sent. -/
theorem avsTimeout_policy {up : Bool} {n : Nat} (hd : s.due .avs 0 = true) (h : s.pwr.avs = some (.policy, up, n)) :
    s.avsTimeout 0 = if n < 3 then s.avsAgain (n + 1) (us (s.fld F.PWR_VPOL_TIME.AVS_ACK_US))
      else ((s.avsOver.setFld F.PWR_STATUS.AVS_FAULT 0 1).raise F.PWR_EVT.AVS_FAULT).drowseLower := by
  simp only [State.avsTimeout, hd, h, Bool.not_true, Bool.false_eq_true, if_false, if_true]

/-- The time of the request of DROWSE is over: entry is refused. -/
theorem avsTimeout_drowse {up : Bool} {n : Nat} (hd : s.due .avs 0 = true) (h : s.pwr.avs = some (.drowse, up, n)) :
    s.avsTimeout 0 = s.avsOver.drowseRefuse 11 0 := by
  simp only [State.avsTimeout, hd, h, Bool.not_true, Bool.false_eq_true, if_false, if_true]

/-! ## Telemetry and the sag (R337, R339, R340) -/

/-- The poll of the one regulator of the board record. -/
theorem pmbusPoll_one {r : Regulator} {v i u : Nat} (hr : s.mode ≠ .reset) (hb : s.mode ≠ .boot) (h : s.pwr.regulators = [r]) :
    s.pmbusPoll [(r.rail, v, i, u)] = (((s.emit (.pmbus r.addr 0x8B)).emit (.pmbus r.addr 0x8C)).emit (.pmbus r.addr 0x8D)).onPwr
      (fun y => { y with regulators := [{ r with vout := v % 65536, iout := i % 65536, temp := u % 65536 }] }) := by
  simp [State.pmbusPoll, State.each, State.onPwr, State.emit, hr, hb, h]

/-- A sag that was not in force is. -/
theorem sagStart_runs (hr : s.mode ≠ .reset) (hb : s.mode ≠ .boot) (ht : t = s.onPins (fun y => { y with sag := true }))
    (hs : t.flag F.PWR_STATUS.SAG = false) : s.sagStart = ((((t.setFld F.PWR_STATUS.SAG 0 1).setFld F.PWR_STATUS.NV_FENCED 0 1).bump
      R.PWR_SAG_CNT).raise F.PWR_EVT.SAG_START).fenceImage := by
  have hm : (decide (t.mode = .reset) || decide (t.mode = .boot)) = false := by simp [ht, State.onPins, hr, hb]
  rw [State.sagStart, ← ht, hm, if_neg Bool.false_ne_true, State.sagOn, hs, if_neg Bool.false_ne_true]

/-- The end of a sag in force. -/
theorem sagEnd_opens (ht : t = s.onPins (fun y => { y with sag := false })) (hs : t.flag F.PWR_STATUS.SAG = true) :
    s.sagEnd = State.each ((((((t.setFld F.PWR_STATUS.SAG 0 0).setFld F.PWR_STATUS.NV_FENCED 0 0).raise
      F.PWR_EVT.SAG_END).onErr (fun y => { y with flashHeld := [] })).setFld F.ERR_STATUS.FLASH_PENDING 0 0)) t.err.flashHeld
      (fun s e => s.flashFatal e) := by
  rw [State.sagEnd, ← ht, hs]
  rfl

end Sys2Proof.Laws
end

section
/-! The statement about DROWSE, the core voltage and the supply sag. -/

namespace Sys2Proof.Proofs

open Machine Laws

/-! ## DROWSE -/

theorem drowseAutoIdle : Claims.drowseAutoIdle := by
  intro s ht
  refine ⟨fun hd hr => congrArg Host.Outcome.next (if_pos ?_), fun hd => congrArg Host.Outcome.next (if_neg ?_)⟩
  · rw [hd, hr, ht]
    rfl
  · simp [hd]

theorem drowseWaitRefused : Claims.drowseWaitRefused := fun _ _ _ hw hr =>
  ⟨fun hd => congrArg Host.Outcome.next (drowseWaitEnd_refused hw hr hd), fun hd => congrArg Host.Outcome.next (drowseWaitEnd_early hw hr hd)⟩

theorem drowseAccepted : Claims.drowseAccepted := fun _ hw hr => congrArg Host.Outcome.next (drowseWaitEnd_accepted hw hr)

theorem drowseWakeSource : Claims.drowseWakeSource := fun _ _ id hz hen ht =>
  (exec_drowseWakeSource_root id).trans (congrArg Host.Outcome.next (wakeBy_asleep hz hen ht))

theorem drowseWakeMasked : Claims.drowseWakeMasked := fun _ id hen =>
  (exec_drowseWakeSource_root id).trans (congrArg Host.Outcome.next (wakeBy_masked (by decide) (by decide) hen))

theorem drowseWakeTimer : Claims.drowseWakeTimer := fun _ =>
  ⟨fun hd => congrArg Host.Outcome.next (if_pos hd), fun hd => congrArg Host.Outcome.next (if_neg (Bool.eq_false_iff.mp hd))⟩

/-! ## The core voltage -/

theorem avsAckDrowse : Claims.avsAckDrowse := fun _ _ _ h => congrArg Host.Outcome.next (avsAck_drowse h)

theorem avsAckWake : Claims.avsAckWake := fun _ _ _ h => congrArg Host.Outcome.next (avsAck_wake h)

theorem avsAckSds : Claims.avsAckSds := fun _ _ _ h ht => congrArg Host.Outcome.next (avsAck_sds h ht)

theorem avsTimeoutPolicy : Claims.avsTimeoutPolicy := fun _ _ _ hd h =>
  ⟨fun hn => congrArg Host.Outcome.next ((avsTimeout_policy hd h).trans (if_pos hn)),
    fun hn => congrArg Host.Outcome.next ((avsTimeout_policy hd h).trans (if_neg (Nat.not_lt.mpr hn)))⟩

theorem avsTimeoutDrowse : Claims.avsTimeoutDrowse := fun _ _ _ h =>
  ⟨fun hd => congrArg Host.Outcome.next (avsTimeout_drowse hd h), fun hd => congrArg Host.Outcome.next (avsTimeout_early hd)⟩

theorem vpolInterval : Claims.vpolInterval := fun _ => rfl

/-! ## Telemetry and the sag -/

theorem pmbusPoll : Claims.pmbusPoll := fun _ _ _ _ _ hr hb h => congrArg Host.Outcome.next (pmbusPoll_one hr hb h)

theorem sagStart : Claims.sagStart := fun _ _ hr hb ht hs => congrArg Host.Outcome.next (sagStart_runs hr hb ht hs)

theorem sagClear : Claims.sagClear := fun _ _ ht hs => congrArg Host.Outcome.next (sagEnd_opens ht hs)

/-- Settles O54: each command by what DROWSE and the core regulator wait for when it arrives. -/
theorem drowseAndVoltage : Obligations.DrowseAndVoltage :=
  ⟨drowseAutoIdle, drowseWaitRefused, drowseAccepted, drowseWakeSource, drowseWakeMasked, drowseWakeTimer, avsAckDrowse, avsAckWake, avsAckSds,
    avsTimeoutPolicy, avsTimeoutDrowse, vpolInterval, pmbusPoll, sagStart, sagClear⟩

end Sys2Proof.Proofs
end

section
/-! SUPPORT. The 1PPS input, the core delay and the crossings (R31, R342 to R348): the branches of their commands. -/

namespace Sys2Proof.Laws

open Machine

variable {s t : State}

/-! ## The 1PPS input (R348) -/

/-- The first edge, one offset alone, sets no lock: what SRC says decides whether the clock is corrected. -/
theorem ppsEdge_first (hr : s.mode ≠ .reset) (hl : s.pwr.ppsOffsets = [])
    (ht : t = (((s.onPwr (fun y => { y with ppsOffsets := [ppsOffset s.tb.toNat] })).arm .pps 0 (ms 2000)).wr R.PWR_TB_OFFSET 0
      (BitVec.ofInt 32 (ppsOffset s.tb.toNat)))) :
    s.ppsEdge = if t.fld F.PWR_TB_CFG.SRC = 1 || (t.fld F.PWR_TB_CFG.SRC = 3 && t.flag F.PWR_TB_STATUS.PPS_LOCK) then
      (t.tbCorrect (-(ppsOffset s.tb.toNat))).wr R.PWR_TB_OFFSET 0 (BitVec.ofInt 32 (ppsOffset s.tb.toNat)) else t := by
  have hone : (List.take 3 [ppsOffset s.tb.toNat]) = [ppsOffset s.tb.toNat] := rfl
  have hshort : ([ppsOffset s.tb.toNat].length == 3) = false := rfl
  simp only [State.ppsEdge, if_neg hr, hl, hone, ← ht, hshort, Bool.false_and, State.whenb_false]

/-- The time without an edge is over while the lock stands. -/
theorem ppsLost_unlocks (hd : s.due .pps 0 = true) (ht : t = (s.disarm .pps 0).onPwr (fun y => { y with ppsOffsets := [] }))
    (hl : t.flag F.PWR_TB_STATUS.PPS_LOCK = true) :
    s.ppsLost = ((t.setFld F.PWR_TB_STATUS.PPS_LOCK 0 0).raise F.PWR_EVT.PPS_LOST).timeUpdate := by
  rw [State.ppsLost, hd, ← ht]
  exact if_pos hl

/-! ## The core delay (R31) -/

/-- Eight readings outside RESET and DROWSE. -/
theorem delayUpdate_eight {l : List Nat} (hr : s.mode ≠ .reset) (hd : s.mode ≠ .drowse) (hl : l.length = 8)
    (ht : t = (s.onPwr (fun y => { y with replicas := l })).setFld F.PWR_CORE_DELAY.CORE_DELAY_FACTOR 0 (largest l).1) :
    s.delayUpdate l = ((t.setFld F.PWR_CORE_DELAY.SOURCE 0 (largest l).2).setFld F.PWR_CORE_DELAY.VALID 0 1).demandStep := by
  subst ht
  simp only [State.delayUpdate, hr, hd, hl, ne_eq, not_true_eq_false, decide_false, Bool.or_self, Bool.false_eq_true, if_false]

/-- The largest of a list that is not empty is the larger of its head and the largest of its tail. -/
theorem largest_cons (x : Nat) (l : List Nat) : (largest (x :: l)).1 = max x (largest l).1 := by
  cases l with
  | nil => exact (Nat.max_zero x).symm
  | cons y l =>
    by_cases h : (largest (y :: l)).1 ≤ x
    · rw [largest, max_eq_left h]
      simp [h]
    · rw [largest, max_eq_right (Nat.le_of_not_le h)]
      simp [h]

/-- The largest of a list bounds it. -/
theorem le_largest {l : List Nat} {x : Nat} (h : x ∈ l) : x ≤ (largest l).1 := by
  induction l with
  | nil => cases h
  | cons y l ih =>
    rw [largest_cons]
    rcases List.mem_cons.mp h with rfl | h
    · exact Nat.le_max_left ..
    · exact (ih h).trans (Nat.le_max_right ..)

/-! ## Crossings (R342 to R345) -/

/-- HOLD has crossed, and NEXT is in HOLD. -/
def transferred (v : ValueChan) : ValueChan := { hold := v.next, next := none, dest := v.hold <|> v.dest }

/-- A transfer on a channel other than the timebase's, with no value written meanwhile. -/
theorem valueTransfer_other {d k : Nat} (h : k % 64 ≠ 0) :
    s.valueTransfer d k [] = s.onPwr (fun y => { y with values := alter k transferred y.values }) := by
  have hno : (k % 64 == 0 && keepsTime d && !s.flag F.PWR_XD_STATUS.IN_RESET d) = false := by simp [h]
  exact congrArg (fun u : State => u.onPwr (fun y => { y with values := alter k transferred y.values })) (whenb_of_false hno)

/-- The timebase's transfer to a domain that keeps a copy and is out of reset makes the copy valid. -/
theorem valueTransfer_timebase {d k : Nat} (h : k % 64 = 0) (hd : d ≠ 37) (hr : s.flag F.PWR_XD_STATUS.IN_RESET d = false) :
    s.valueTransfer d k [] = (s.setFld F.PWR_XD_STATUS.TB_VALID d 1).onPwr (fun y => { y with
      values := alter k transferred y.values }) := by
  have hyes : (k % 64 == 0 && keepsTime d && !s.flag F.PWR_XD_STATUS.IN_RESET d) = true := by simp [h, keepsTime, hd, hr]
  exact congrArg (fun u : State => u.onPwr (fun y => { y with values := alter k transferred y.values })) (whenb_of_true hyes)

/-- A value written where two wait replaces the second, and is counted. -/
theorem valueWrite_full {d k : Nat} {v : ValueChan} {w h n : Word} (hv : look k s.pwr.values = some v) (hh : v.hold = some h)
    (hn : v.next = some n) :
    s.valueWrite d k w = (s.bump16 F.PWR_XD_SUPERSEDED.COUNT d 1).onPwr (fun y => { y with
      values := put k { v with next := some w } y.values }) := by
  simp only [State.valueWrite, hv, Option.getD_some, hh, hn]

/-- No pulse leaves a count below its limit as it is. -/
theorem eventAdd_zero {e : EventChan} (hp : e.pend < 65535) (ho : e.ovf = false) : e.add 0 = e := by
  cases e
  simp only [EventChan.add, EventChan.mk.injEq, and_true] at *
  exact ⟨Nat.min_eq_right hp.le, by simp [ho, hp]⟩

/-- The pending count crosses whole where it never stopped. -/
theorem eventTransfer_whole {d k n : Nat} {e : EventChan} (he : look k s.pwr.events = some e) (hp : e.pend < 65535) (ho : e.ovf = false) :
    s.eventTransfer d k 0 n = State.showPend (s.onPwr (fun y => { y with
      events := put k (({ pend := 0, ovf := false, counted := e.counted + e.pend } : EventChan).add n) y.events })) d := by
  simp only [State.eventTransfer, he, Option.getD_some, eventAdd_zero hp ho, ho, State.whenb_false]

/-- Pulses past the limit stop the count there. -/
theorem eventAdd_overflow {e : EventChan} {n : Nat} (h : 65535 ≤ e.pend + n) : (e.add n).pend = 65535 ∧ (e.add n).ovf = true :=
  ⟨Nat.min_eq_left h, by simp [EventChan.add, h]⟩

/-- The head of a queue crosses, and what arrived joins the rest. -/
theorem queueTransfer_head {k : Nat} {q : QueueChan} {w : Word} {l a : List Word} (hq : look k s.pwr.queues = some q)
    (he : q.entries = w :: l) :
    s.queueTransfer k a = s.onPwr (fun y => { y with queues := put k { entries := l ++ a, crossed := some w } y.queues }) := by
  simp only [State.queueTransfer, hq, Option.getD_some, he, List.cons_append]

variable {d : Nat}

/-- The destination leaves reset: what had not crossed of a queue is dropped, and every value is sent again. -/
theorem resync_dest (ht : t = s.onPwr (fun y => { y with
      queues := y.queues.map (fun e => if e.1 / 64 == d then (e.1, { e.2 with entries := [] }) else e)
      values := y.values.map (fun e =>
        if e.1 / 64 == d then (e.1, { hold := none, next := none, dest := e.2.next <|> e.2.hold <|> e.2.dest }) else e) })) :
    s.resync d false = (((t.showPend d).bump R.PWR_XD_RESYNC_CNT d).setFld F.PWR_XD_STATUS.IN_RESET d 0).setFld F.PWR_XD_STATUS.TB_VALID d 0 := by
  subst ht
  simp only [State.resync, State.whenb_false, Bool.false_eq_true, if_false]

/-- The source was reset: its values and its pending counts are lost too, and OVF is set. -/
theorem resync_source (ht : t = s.onPwr (fun y => { y with
      queues := y.queues.map (fun e => if e.1 / 64 == d then (e.1, { e.2 with entries := [] }) else e)
      values := y.values.map (fun e => if e.1 / 64 == d then (e.1, { e.2 with hold := none, next := none }) else e)
      events := y.events.map (fun e => if e.1 / 64 == d then (e.1, { e.2 with pend := 0, ovf := false }) else e) })) :
    s.resync d true = ((((t.xdOvf d).showPend d).bump R.PWR_XD_RESYNC_CNT d).setFld F.PWR_XD_STATUS.IN_RESET d 0).setFld
      F.PWR_XD_STATUS.TB_VALID d 0 := by
  subst ht
  simp only [State.resync, whenb_of_true rfl, if_true]

end Sys2Proof.Laws
end

section
/-! The statement about the 1PPS input, the core delay monitors and the clock crossings. -/

namespace Sys2Proof.Proofs

open Machine Laws

/-! ## Time -/

theorem ppsEdgeFree : Claims.ppsEdgeFree := fun _ _ hr hl ht hsrc =>
  congrArg Host.Outcome.next ((ppsEdge_first hr hl ht).trans (if_neg (by simp [hsrc])))

theorem ppsEdgeCorrects : Claims.ppsEdgeCorrects := fun _ _ hr hl ht hsrc =>
  congrArg Host.Outcome.next ((ppsEdge_first hr hl ht).trans (if_pos (by simp [hsrc])))

theorem ppsLost : Claims.ppsLost := fun _ _ hd ht hl => congrArg Host.Outcome.next (ppsLost_unlocks hd ht hl)

theorem coreDelay : Claims.coreDelay := by
  rintro s t q0 q1 q2 q3 n e u w _ hr hd rfl ht
  exact congrArg Host.Outcome.next (delayUpdate_eight hr hd rfl ht)

theorem largestBounds : Claims.largestBounds := fun _ _ h => le_largest h

/-! ## Crossings -/

theorem valueTransfer : Claims.valueTransfer := fun _ _ c hc => congrArg Host.Outcome.next (valueTransfer_other (by omega))

theorem timebaseTransfer : Claims.timebaseTransfer := fun _ _ hd hr => congrArg Host.Outcome.next (valueTransfer_timebase (Nat.mul_mod_right ..) hd hr)

theorem valueSuperseded : Claims.valueSuperseded := fun _ _ _ _ _ _ _ hv hh hn => valueWrite_full hv hh hn

theorem eventTransfer : Claims.eventTransfer := fun _ _ _ _ _ he hp ho => congrArg Host.Outcome.next (eventTransfer_whole he hp ho)

theorem eventOverflow : Claims.eventOverflow := fun _ _ h => eventAdd_overflow h

theorem queueTransfer : Claims.queueTransfer := fun _ _ _ _ _ _ _ hq he => congrArg Host.Outcome.next (queueTransfer_head hq he)

theorem xdResyncDest : Claims.xdResyncDest := fun _ _ _ ht => congrArg Host.Outcome.next (resync_dest ht)

theorem xdResyncSource : Claims.xdResyncSource := fun _ _ _ ht => congrArg Host.Outcome.next (resync_source ht)

/-- Settles O55: an edge of 1PPS by SRC, the largest replica by induction on the list, and each crossing by what its channel holds. -/
theorem timeAndCrossings : Obligations.TimeAndCrossings :=
  ⟨ppsEdgeFree, ppsEdgeCorrects, ppsLost, coreDelay, largestBounds, valueTransfer, valueSuperseded, eventTransfer, eventOverflow, queueTransfer,
    xdResyncDest, xdResyncSource, timebaseTransfer⟩

end Sys2Proof.Proofs
end

section
/-! SUPPORT. A slot's presence, debounce, fault input and current sense (R353, R359 to R362, R366): the branches of their commands. -/

namespace Sys2Proof.Laws

open Machine

variable {s t u : State} {g : Nat}

/-! ## Presence and debounce (R353, R362) -/

/-- Both pins of a slot that was not seated assert. -/
theorem presence_seats (hs : s.seated g = false) (ht : t = (s.setFld F.SPG_SLOT_STATE.PRSNT_L g 1).setFld F.SPG_SLOT_STATE.PRSNT_S g 1) :
    s.presence g true true = (t.gSeated g).wakeBy 3 g := by
  subst ht
  rw [State.presence, hs]
  rfl

/-- The second pin of a seated slot deasserts. -/
theorem presence_unseats {l : Bool} (hs : s.seated g = true)
    (ht : t = (s.setFld F.SPG_SLOT_STATE.PRSNT_L g (b2n l)).setFld F.SPG_SLOT_STATE.PRSNT_S g 0) :
    s.presence g l false = (t.gUnseated g).wakeBy 3 g := by
  subst ht
  rw [State.presence, hs, Bool.and_false]
  rfl

/-- An EMPTY slot that is seated stands by presence, its debounce started. -/
theorem gSeated_empty (he : t.gState g = gEmpty)
    (hu : u = (t.onGuard g (fun y => { y with seatedAt := some t.now })).arm .debounce g (ms (t.fld F.SPG_SLOT_TIME.DEBOUNCE_MS g))) :
    t.gSeated g = u.gByPresence g := by
  have hne : gEmpty ≠ gDisabled := by decide
  simp only [State.gSeated, he, ← hu, if_neg hne, if_true]

/-- A powered slot that is unseated is a removal. -/
theorem gUnseated_powered
    (hu : u = ((t.onGuard g (fun y => { y with seatedAt := none })).setFld F.SPG_SLOT_STATE.CONFIRMED g 0).disarm .debounce g)
    (hp : u.powered g = true) :
    t.gUnseated g = (((u.bump R.SPG_SLOT_REMOVE_CNT g).raise F.SPG_SLOT_EVT.REMOVED g).gFault g 0x0709).gPresence g false := by
  rw [State.gUnseated, ← hu]
  exact if_pos hp

/-- A guard in DEBOUNCE whose slot stayed seated becomes READY_OFF. -/
theorem gConfirm_debounce (hd : s.due .debounce g = true) (hs : s.seated g = true)
    (ht : t = ((s.disarm .debounce g).setFld F.SPG_SLOT_STATE.CONFIRMED g 1).raise F.SPG_SLOT_EVT.CONFIRMED g) (hst : t.gState g = gDebounce) :
    s.gConfirm g = t.gReady g := by
  simp only [State.gConfirm, hd, hs, ← ht, hst, Bool.not_true, Bool.or_self, Bool.false_eq_true, if_false, if_true]

/-- A debounce that is not over confirms nothing. -/
theorem gConfirm_early (hd : s.due .debounce g = false) : s.gConfirm g = s := by
  rw [State.gConfirm, hd]
  rfl

/-! ## The fault input (R359) -/

/-- FAULT_IN_N outside RESET: a fault with power, or just after the removal; else only a record. -/
theorem gFaultIn_eq (ht : t = s.onGuard g (fun y => { y with faultIn := true })) (hm : t.mode ≠ .reset) :
    s.gFaultIn g = (if t.powered g || t.gJustRemoved g then t.gFault g 0x0701 else t.gRecord g 0x070D).wakeBy 4 g := by
  rw [State.gFaultIn, ← ht]
  exact if_neg hm

/-! ## Sense frames (R366) -/

/-- A disabled guard ignores frames. -/
theorem senseFrame_disabled {f : BitVec 64} (hg : s.gState g = gDisabled) : s.senseFrame g f = s := by
  rw [State.senseFrame, hg, decide_eq_true rfl, Bool.or_true, if_pos rfl]

/-- A bad frame of a guard that is not disabled. -/
theorem senseFrame_bad {f : BitVec 64} (hm : s.mode ≠ .reset) (hg : s.gState g ≠ gDisabled) (hf : s.goodFrame g f = false) :
    s.senseFrame g f = s.badFrame g := by
  simp only [State.senseFrame, hm, hg, hf, decide_false, Bool.or_self, Bool.not_false, Bool.false_eq_true, if_false, if_true]

/-- A good frame that no injection strikes is a sample. -/
theorem senseFrame_good {f : BitVec 64} (hm : s.mode ≠ .reset) (hg : s.gState g ≠ gDisabled) (hf : s.goodFrame g f = true)
    (h1 : s.injected 0x0701 g = false) (h2 : s.injected 0x0702 g = false) : s.senseFrame g f = s.goodSample g f := by
  simp only [State.senseFrame, hm, hg, hf, h1, h2, decide_false, Bool.or_self, Bool.not_true, Bool.false_and, Bool.false_eq_true, if_false]

/-- The fourth bad frame in a row loses the sense; in ON it is a fault. -/
theorem badFrame_fourth (hu : u = ((s.bump R.SPG_SLOT_SSB_ERR_CNT g).onGuard g (fun y => { y with bad := y.bad + 1, good := 0 })).setFld
    F.SPG_SLOT_STATE.SENSE_OK g 0) (ht : t = u.raise F.SPG_SLOT_EVT.SENSE_LOST g) (hon : t.gState g = gOn) (h4 : (u.guard g).bad = 4) :
    s.badFrame g = t.gFault g 0x0708 := by
  rw [State.badFrame, ← hu, if_pos h4, ← ht]
  exact whenb_of_true (by rw [hon]; rfl)

end Sys2Proof.Laws
end

section
/-! The statement about a slot's seating, its fault input and its sense frames. -/

namespace Sys2Proof.Proofs

open Machine Laws

/-! ## Presence and debounce -/

theorem presenceSeats : Claims.presenceSeats := fun _ _ _ g hs ht he hu =>
  congrArg (fun x : State => Host.Outcome.next x.dmRun) ((presence_seats hs ht).trans (congrArg (State.wakeBy · 3 g) (gSeated_empty he hu)))

theorem presenceRemoves : Claims.presenceRemoves := fun _ _ _ g _ hs ht hu hp =>
  congrArg (fun x : State => Host.Outcome.next x.dmRun) ((presence_unseats hs ht).trans (congrArg (State.wakeBy · 3 g) (gUnseated_powered hu hp)))

theorem debounceExpiry : Claims.debounceExpiry := fun _ _ _ hd hs ht hst => congrArg Host.Outcome.next (gConfirm_debounce hd hs ht hst)

theorem debounceEarly : Claims.debounceEarly := fun _ _ hd => congrArg Host.Outcome.next (gConfirm_early hd)

/-! ## The fault input -/

theorem faultInAssert : Claims.faultInAssert := by
  intro s t g ht hm
  have hexec : exec (.faultInAssert g) s =
      .next ((if t.powered g || t.gJustRemoved g then t.gFault g 0x0701 else t.gRecord g 0x070D).wakeBy 4 g).dmRun :=
    congrArg (fun x : State => Host.Outcome.next x.dmRun) (gFaultIn_eq ht hm)
  refine ⟨fun hp => ?_, fun hp hj => ?_, fun hp hj => ?_⟩
  · rw [hexec, hp, Bool.true_or, if_pos rfl]
  · rw [hexec, hp, hj, Bool.or_self, if_neg Bool.false_ne_true]
  · rw [hexec, hj, Bool.or_true, if_pos rfl]

theorem faultInDeassert : Claims.faultInDeassert := fun _ _ => rfl

/-! ## Sense frames -/

theorem senseFrameBad : Claims.senseFrameBad := fun _ _ _ hm =>
  ⟨fun hg hf => congrArg (fun x : State => Host.Outcome.next x.dmRun) (senseFrame_bad hm hg hf),
    fun hg => congrArg (fun x : State => Host.Outcome.next x.dmRun) (senseFrame_disabled hg)⟩

theorem senseLost : Claims.senseLost := fun _ _ _ ht hon h4 => badFrame_fourth rfl ht hon h4

theorem senseFrameGood : Claims.senseFrameGood := fun _ _ _ hm hg hf h1 h2 =>
  congrArg (fun x : State => Host.Outcome.next x.dmRun) (senseFrame_good hm hg hf h1 h2)

/-- Settles O56: presence, the fault input and sense frames, each by the state the guard stands in. -/
theorem slotSeating : Obligations.SlotSeating :=
  ⟨presenceSeats, presenceRemoves, debounceExpiry, debounceEarly, faultInAssert, faultInDeassert, senseFrameBad, senseLost, senseFrameGood⟩

end Sys2Proof.Proofs
end
